-- ==== Sys2Proof/Word.lean ====
section
/-! DEFINITION. The words of the part and their plainest arithmetic: bytes, 32-bit registers (R7), and the sparse tables that hold
indexed state as plain data in one canonical form. -/

namespace Sys2Proof

/-- A byte. -/
abbrev Byte := BitVec 8

/-- A string of bytes, first byte first. -/
abbrev Bytes := List Byte

/-- A register (R7). -/
abbrev W32 := BitVec 32

/-- A table keyed by a number. Its canonical form is: keys strictly rising, and no entry equal to the table's
default, which every key not listed reads as. -/
abbrev Sparse (α : Type) := List (Nat × α)

namespace Sparse

variable {α : Type}

/-- The entry at `k`, or the default `d`. -/
def get (d : α) : Sparse α → Nat → α
  | [], _ => d
  | (k', v) :: m, k => if k' = k then v else get d m k

/-- The table with no entry at `k`. -/
def erase (m : Sparse α) (k : Nat) : Sparse α := m.filter (fun e => e.1 != k)

/-- The table with the entry `v` at `k`, in its place. -/
def insert : Sparse α → Nat → α → Sparse α
  | [], k, v => [(k, v)]
  | (k', v') :: m, k, v =>
    if k < k' then (k, v) :: (k', v') :: m
    else if k = k' then (k, v) :: m
    else (k', v') :: insert m k v

/-- Writes `v` at `k`; writing the default removes the entry, so equal tables are equal lists. -/
def set [DecidableEq α] (d : α) (m : Sparse α) (k : Nat) (v : α) : Sparse α :=
  if v = d then erase m k else insert m k v

/-- The canonical form. -/
def wf [DecidableEq α] (d : α) : Sparse α → Bool
  | [] => true
  | [(_, v)] => decide (v ≠ d)
  | (k, v) :: (k', v') :: m => decide (k < k') && decide (v ≠ d) && wf d ((k', v') :: m)

/-- The smallest key from `n` on, among `fuel` keys, that is not listed. -/
def freeKey (m : Sparse α) (n : Nat) : Nat → Option Nat
  | 0 => none
  | fuel + 1 => if m.any (fun e => e.1 == n) then freeKey m (n + 1) fuel else some n

end Sparse

/-- Least significant byte first. -/
def leNat : Bytes → Nat
  | [] => 0
  | b :: bs => b.toNat + 256 * leNat bs

/-- Most significant byte first. -/
def beNat (bs : Bytes) : Nat := bs.foldl (fun n b => 256 * n + b.toNat) 0

/-- `n` in `k` bytes, least significant first. -/
def toLe (n : Nat) : Nat → Bytes
  | 0 => []
  | k + 1 => BitVec.ofNat 8 n :: toLe (n / 256) k

/-- `n` in `k` bytes, most significant first. -/
def toBe (n k : Nat) : Bytes := (toLe n k).reverse

/-- Byte `i`, or zero past the end. -/
def byteAt (bs : Bytes) (i : Nat) : Nat := (bs.getD i 0).toNat

/-- The `n` bytes from `i`. -/
def slice (bs : Bytes) (i n : Nat) : Bytes := (bs.drop i).take n

/-- The `n`-byte little-endian number at `i`. -/
def le (bs : Bytes) (i n : Nat) : Nat := leNat (slice bs i n)

/-- The `n`-byte big-endian number at `i`. -/
def be (bs : Bytes) (i n : Nat) : Nat := beNat (slice bs i n)

/-- Bits `lo` to `lo + w - 1` of a number. -/
def bits (n lo w : Nat) : Nat := n / 2 ^ lo % 2 ^ w

/-- Bit `i` of a number. -/
def bit (n i : Nat) : Bool := n / 2 ^ i % 2 == 1

/-- A Boolean as a bit. -/
def b2n (b : Bool) : Nat := if b then 1 else 0

/-- The number `n` of `w` bits read as two's complement. -/
def toSigned (w n : Nat) : Int := if n < 2 ^ (w - 1) then (n : Int) else (n : Int) - (2 ^ w : Nat)

/-- The integer `z` in `w` bits, two's complement. -/
def ofSigned (w : Nat) (z : Int) : Nat := (z % ((2 ^ w : Nat) : Int)).toNat

/-- Rounded-up division. -/
def ceilDiv (a b : Nat) : Nat := (a + b - 1) / b

/-- ASCII text as bytes. -/
def ascii (t : String) : Bytes := t.toList.map (fun c => BitVec.ofNat 8 c.toNat)

/-- A string of `n` equal bytes. -/
def fill (n : Nat) (b : Byte) : Bytes := List.replicate n b

end Sys2Proof
end

