-- ==== Sys2Proof/Syntax.lean ====
section
/-! DEFINITION. The commands of the part: one constructor for each row of opcode_table.json, in the table's order. The table gives
no operand bits; the operands are the data that the row's rule names and the outcomes that the spec leaves to the world outside
the part (log entry 3, DESIGN CHOICE). -/

namespace Sys2Proof

/-- What touches a function on PCI Express (R464). -/
inductive Departure where
  | linkDown | hotReset | flr (fn : Nat) | busMasterClear (fn : Nat) | perst
  deriving DecidableEq, Repr

/-- Straps as sampled (R504). -/
structure Straps where
  flashSdr : Bool := false
  pcieEn   : Bool := true
  test     : Bool := false
  deriving DecidableEq, Repr

/-- What a start step learns of the world: whether the step itself ends without error, and the tests it makes (R39).
(log entry 3, DESIGN CHOICE) -/
structure StepIn where
  stepOk     : Bool := true
  pair0Ok    : Bool := true
  pair1Ok    : Bool := true
  stack0Ok   : Bool := true
  stack1Ok   : Bool := true
  flash0Ok   : Bool := true
  flash1Ok   : Bool := true
  /-- Sources 0 to 10 with a detector that failed its stimulus test (R397). -/
  detectorFail : Nat := 0
  /-- Fenced units that fail their memory BIST (R146, R243, R344): engines, slices, and the public-key engine. -/
  enginesBad : List Nat := []
  slicesBad  : List Nat := []
  pkeBad     : Bool := false
  deriving DecidableEq, Repr

/-- How one copy of a vault line or node reads (R356, R357). (log entry 3, DESIGN CHOICE) (log entry 10, DESIGN CHOICE) -/
inductive Copy where
  | clean | corrected | memError | mismatch
  deriving DecidableEq, Repr

/-- Who asks the vault (R346). -/
inductive VaultReq where
  | keyStore | perfMon | recorder | mgmt
  deriving DecidableEq, Repr

/-- What the ECC of a memory of 18 macros found in a run of reads (R144, R175, R190). (log entry 3, DESIGN CHOICE) -/
inductive Ecc where
  | clean
  /-- So many reads were corrected. -/
  | corrected (n : Nat)
  /-- So many were corrected and one could not be; `late` when it was found after the copy was committed (R190). -/
  | uncorrectable (n : Nat) (late : Bool)
  deriving DecidableEq, Repr

/-- A mailbox command entry and the host memory it names (R449), without its opcode and arguments. (log entry 3, DESIGN CHOICE) -/
structure Mb where
  /-- 0 for PF0's mailbox, 1 for PF1's. -/
  fn       : Nat
  seq      : Nat
  intr     : Bool := false
  fence    : Bool := false
  /-- The reserved and unused bytes are zero (R449, R450). -/
  zeroOk   : Bool := true
  inData   : Bytes := []
  outAddr  : Nat := 0
  outLen   : Nat := 0
  /-- The read of the entry or its input fails (R458). -/
  readFail : Bool := false
  /-- The write of its output or reply fails (R458). -/
  writeFail : Bool := false
  deriving DecidableEq, Repr

/-- What a frame is sent with by the management cores (R123, R186). -/
inductive Protection where
  | clear | secure (sc : Nat)
  deriving DecidableEq, Repr

/-- The checks of an engine (R144). -/
inductive EngineCheck where
  | parity | residue | watchdog
  deriving DecidableEq, Repr

/-- The checks of a slice (R243). -/
inductive SliceCheck where
  | aesParity | keyParity | counterParity | ghashResidue
  deriving DecidableEq, Repr

/-- The defects of R102, most basic first. -/
inductive Defect where
  | dMOD | dLOS | dLOL | dLOA | dLOB | dLOD | dAIS | dDEG | dRDI
  deriving DecidableEq, Repr

/-- One detection of a tamper source (R394, R410): the source, its unit, its readings, and which detectors tripped.
(log entry 3, DESIGN CHOICE) -/
structure Detection where
  source   : Nat
  unit     : Nat := 0
  readingA : Nat := 0
  readingB : Nat := 0
  tripA    : Bool := true
  tripB    : Bool := false
  deriving DecidableEq, Repr

/-- A SAK that an MKPDU distributes (R275, R276): IEEE 802.1X-2020. -/
structure Sak where
  an   : Nat
  kn   : Nat
  key  : Bytes
  salt : Bytes := []
  /-- The SSCI that the key server assigns to each SCI. -/
  sscis : List (Bytes × Nat) := []
  deriving DecidableEq, Repr

/-- What an MKPDU says, as far as R275 to R279 use it. -/
structure Mkpdu where
  icvOk    : Bool
  /-- Sender's member identifier and SCI. -/
  mi       : Bytes
  sci      : Bytes
  priority : Nat
  /-- The sender lists this part as live. -/
  liveMe   : Bool
  /-- The sender has no current link secret on the port (R277). -/
  fresh    : Bool := false
  sak      : Option Sak := none
  /-- Every live peer reports the latest key as installed for receive (R250). -/
  allRx    : Bool := false
  /-- The sender retires the key of this AN (R276). -/
  retire   : Option Nat := none
  deriving DecidableEq, Repr

/-- Blocks of one entity in a second (R109). -/
structure Blocks where
  port      : Nat
  blocks    : Nat
  errored   : Nat
  corrected : Nat := 0
  deriving DecidableEq, Repr

/-- What the scrub of the SA store finds (R424). -/
inductive SaScrub where
  | clean | corrected (macro18 addr : Nat) | uncorrectable
  deriving DecidableEq, Repr

/-- One dword of a register write (R443): the value, and whether all its byte enables are set. -/
structure WDword where
  value   : W32
  enabled : Bool := true
  /-- The bus integrity code with which its beat arrives, when it is not the one computed over it (R400). -/
  code    : Option Byte := none
  deriving DecidableEq, Repr

/-- How a public-key job's run ends, as far as the engine's own checks and host memory decide it (R336, R342).
(log entry 3, DESIGN CHOICE) -/
inductive PkeRun where
  | good
  /-- An engine check fires; the bit of PKE_FAULT (R343). -/
  | check (bit : Nat)
  | dmaError
  /-- The completion record cannot be written (R342). -/
  | recordError
  deriving DecidableEq, Repr

/-- How a lookaside request's run ends: an engine check names the engine (R310). (log entry 3, DESIGN CHOICE) -/
inductive LaRun where
  | good | check (engine : Nat)
  deriving DecidableEq, Repr

/-- A shaper's parameters (R203, R207). -/
structure ShaperArgs where
  reset    : Bool
  enable   : Bool
  lenMode  : Bool
  scope    : Nat
  overhead : Int
  rate     : Nat
  burst    : Nat
  deriving DecidableEq, Repr

/-- How the end of an uplink frame stands: whether a defect or an error ends it before its last byte, and whether it has ended at its
decision. (log entry 3, DESIGN CHOICE) -/
structure Ending where
  cut   : Bool
  ended : Bool
  deriving DecidableEq, Repr

/-- What a dispatch meets: whether the frame has ended, and what the fetches of the run find (R144). (log entry 3, DESIGN CHOICE) -/
structure RunIn where
  ended : Bool
  ecc   : Ecc
  deriving DecidableEq, Repr

/-- What a dequeue meets: whether an uplink's MAC has room for the frame (R198), and what the ECC finds in its cells (R175, R190).
(log entry 3, DESIGN CHOICE) -/
structure CopyRead where
  room : Bool
  ecc  : Ecc
  deriving DecidableEq, Repr

/-- An offset sample in ns, and the PTP port of TIME_CONFIG that gives it (R373, R374). -/
structure Sample where
  source : Nat
  ns     : Int
  deriving DecidableEq, Repr

/-- The address of a read, and the bus code of its response where it carries one (R400). (log entry 3, DESIGN CHOICE) -/
structure CodedRead where
  addr : Nat
  code : Option Byte := none
  deriving DecidableEq, Repr

/-- The commands. (log entry 3, DESIGN CHOICE) -/
inductive Instr where
  -- power, starts and the management complex
  | powerOn (straps : Straps) (ref0 ref1 resetHigh railsOk : Bool)
  | resetInput (lowNs : Nat) (straps : Straps)
  | mainPowerLoss
  | backupCellConnect
  | pciePerst
  | hostDeparture (d : Departure)
  | refclkLoss (input : Nat)
  | refclkRecovered (input : Nat)
  | startStep (r : StepIn)
  | startTimeout
  | startRetryTimer
  | ondieScrubError (retained : Bool)
  | pairFault (ecc : Bool)
  | pairWatchdogExpiry
  | pairStateCheckpoint
  | pairSyncComplete (passed : Bool)
  | journalCommit
  | journalCompaction
  | flashDeviceFail (dev : Nat)
  | flashRetry (dev : Nat) (passed : Bool)
  -- line ports
  | signalChange (port : Nat) (on : Bool)
  | cdrLockChange (port : Nat) (on : Bool)
  | alignmentLockChange (port : Nat) (on : Bool)
  | pcsLockChange (port : Nat) (on : Bool)
  | uplinkAutonegComplete (port : Nat)
  | uplinkTrainingComplete (port : Nat)
  | autonegRestart (port : Nat)
  | linkUpHoldExpiry (port : Nat)
  | linkDownHoldExpiry (port : Nat)
  | defectEntry (port : Nat) (d : Defect)
  | defectExit (port : Nat) (d : Defect)
  | denastHeader (port : Nat) (header control : Bytes)
  | denastDataContainer (port : Nat) (payload icv : Bytes)
  | denastControlContainer (port : Nat) (body : Bytes)
  | denastMark (port : Nat) (body : Bytes)
  | denastAisContainer (port : Nat)
  | hello (port : Nat) (body : Bytes)
  | helloSend (port : Nat)
  | partnerTimeout (port : Nat)
  | containerClose (port : Nat)
  | denCloseTimeout (port : Nat)
  | tfcContainerSlot (port : Nat)
  | markSend (port : Nat)
  -- the life of a frame
  | lineFrameReceive (port : Nat) (frame : Bytes) (cut : Bool)
  | uplinkFrameReceive (port : Nat) (frame : Bytes) (e : Ending)
  | icvVerdict (frame : Nat)
  | frameEligibility (port : Nat)
  | sorrelDispatch (port dir : Nat) (r : RunIn)
  | programOverrun (port dir : Nat)
  | sorrelResult (port dir : Nat)
  | engineFault (engine : Nat) (check : EngineCheck)
  | dequeue (port : Nat) (r : CopyRead)
  | commit (port : Nat)
  | holdTimeout (port : Nat)
  | icvRelease (port : Nat)
  | egressStallTimeout (port : Nat)
  | mgmtFrameSend (port cls : Nat) (prot : Protection) (frame : Bytes)
  | mgmtQueueDrain (ecc : Ecc := .clean)
  | egressSliceFault (slice : Nat) (check : SliceCheck)
  | ingressSliceFault (slice : Nat) (check : SliceCheck)
  | spareSelftest (slice : Nat) (passed : Bool)
  | relocationMove (pipe : Nat)
  | syncEventApply (pipe : Nat)
  | syncRescan (pipe : Nat)
  | ageSweep (entry : Nat) (reading : List Nat)
  -- time and the wheel
  | servoSample (x : Sample) (freq : Int)
  | sourceLoss
  | holdoverEstimate
  | rtcSet
  | ppsInEdge
  | captureEdge (input : Nat) (falling : Bool)
  | trigStart (entry : Nat)
  | trigStop (entry : Nat)
  | keyStep (entry : Nat)
  | slotExpiry (entry : Nat)
  | expiryHorizonCheck
  | binBoundary (entry : Nat)
  | binComplete (entry : Nat)
  | recCheckpoint (entry : Nat)
  | secondEnd (blocks : List Blocks)
  -- secure channels
  | rxReady (port : Nat) (msg : Bytes)
  | txSwitched (port : Nat) (msg : Bytes)
  | advanceReq (port : Nat) (msg : Bytes)
  | adopt (port : Nat) (msg : Bytes)
  | rxReadyRepeat (sc : Nat)
  | txSwitchedRepeat (sc : Nat)
  | advanceReqRepeat (sc : Nat)
  | confirmLate (sc : Nat)
  | forcedRetire (sc : Nat)
  | kaIntervalExpiry
  | kaOffer (port : Nat) (body : Bytes)
  | kaAccept (port : Nat) (body : Bytes)
  | kaFinish (port : Nat) (msg : Bytes)
  | kaDone (port : Nat) (msg : Bytes)
  | kaReject (port : Nat) (msg : Bytes)
  | kaTimeout (port : Nat)
  | kaBackoffExpiry (port : Nat)
  | peerHoldExpiry (port : Nat)
  | mkpduReceive (port : Nat) (pdu : Mkpdu)
  | mkaHelloTimer (port : Nat)
  | mkaLifeExpiry (port : Nat)
  -- modules
  | modulePoll (cage : Nat) (ack : Bool)
  | moduleBringupStep (cage : Nat) (applicationFound : Bool)
  | moduleBringupTimeout (cage : Nat)
  | moduleMonitorRead (cage : Nat) (tempC : Int) (tempFlag vccFlag losFlag : Bool)
  | i2cStuck (master : Nat) (cleared : Bool)
  | i2cRetry (master : Nat) (recovered : Bool)
  -- vault
  | vaultRead (addr : Nat) (req : VaultReq) (copy0 copy1 : Copy) (readBackOk : Bool)
  | vaultWrite (addr : Nat) (req : VaultReq) (data : Bytes) (copy0 copy1 : Copy)
  | nodeEviction (level index : Nat)
  | patrolScrub (copy0 copy1 : Copy) (readBackOk : Bool)
  | stackOutOfService (stack cause : Nat)
  | flushLeaf (bad : Bool)
  | nodeCacheEcc (level index : Nat)
  -- tamper, recorder, stores
  | tamperSourceFire (d : Detection)
  | detectorDisagreement (source : Nat) (on : Bool)
  | sourceRearm (source : Nat)
  | cellSampleWindow (detections : List Detection)
  | recorderFlush
  | saStoreScrub (pipe : Nat) (r : SaScrub)
  | keyStoreEccError
  -- registers
  | telemetryRefresh (region : Nat)
  | registerWrite (init addr : Nat) (dwords : List WDword)
  | bar2Write (fn : Nat)
  | counterLowRead (init : Nat) (r : CodedRead)
  | readClear (init addr : Nat) (sameClock : List Nat)
  | writeOneClear (init addr : Nat) (value setNow : W32)
  | tmpLatchedClear (init : Nat) (value : W32)
  | pmBinCopy (init : Nat) (value : W32)
  | pmTcaRead (init : Nat)
  | flwCounterCopy (init : Nat) (value : W32)
  | fwdSearch (init : Nat) (value : W32)
  | mcastGroupCopy (init : Nat) (value : W32)
  | saStateCopy (init : Nat) (value : W32)
  | scStateCopy (init : Nat) (value : W32)
  | slotInfoCopy (init : Nat) (value : W32)
  | tamperLogCopy (init : Nat) (value : W32)
  | captureRead (init input : Nat)
  -- mailbox
  | mailboxProduce (init fn : Nat) (value : W32)
  | mailboxReset (init fn : Nat) (value : W32)
  | longCommandDone (fn seq : Nat)
  | nop (h : Mb)
  | statusRead (h : Mb)
  | recRead (h : Mb) (place count slot run seq : Nat)
  | historyRead (h : Mb) (kind source index count start : Nat)
  | tamperLogRead (h : Mb)
  | tamperLogClear (h : Mb)
  | acuWrite (h : Mb) (unit region sizeLog2 subDisable perm base : Nat)
  | healthReport (h : Mb)
  | coldStart (h : Mb)
  | warmStart (h : Mb)
  | mgmtRestart (h : Mb)
  | imageWrite (h : Mb) (slot offset : Nat)
  | imageVerify (h : Mb) (slot : Nat)
  | imageActivate (h : Mb) (slot : Nat)
  | startFailClear (h : Mb)
  | rollbackAdvance (h : Mb) (counter value : Nat)
  | sorrelTableWrite (h : Mb) (cluster table key mask value : Nat)
  | sorrelTableDelete (h : Mb) (cluster table key mask : Nat)
  | sorrelOverlay (h : Mb) (cluster : Nat)
  | fwdMacWrite (h : Mb) (pipes kind fid dest : Nat) (mac : Bytes)
  | fwdMacDelete (h : Mb) (pipes fid : Nat) (mac : Bytes)
  | fwdFlush (h : Mb) (pipes mtch port fid : Nat)
  | fwdLpmWrite (h : Mb) (pipes : Nat) (ipv6 : Bool) (len nh : Nat) (pfx : Bytes)
  | fwdLpmDelete (h : Mb) (pipes : Nat) (ipv6 : Bool) (len : Nat) (pfx : Bytes)
  | fwdNhWrite (h : Mb) (pipes index : Nat) (entry : Bytes)
  | mcastWrite (h : Mb) (group : Nat) (members : Bytes)
  | mcastDelete (h : Mb) (group : Nat)
  | tmShaperWrite (h : Mb) (shaper : Nat) (a : ShaperArgs)
  | tmPolicerWrite (h : Mb) (entry : Bytes)
  | tmMapWrite (h : Mb) (kind pipe key mode index : Nat)
  | saInstall (h : Mb) (an sc slot w nextPn : Nat)
  | saActivate (h : Mb) (an sc instant : Nat)
  | saRetire (h : Mb) (an sc : Nat)
  | epochAdvance (h : Mb) (sc : Nat)
  | linkRekey (h : Mb) (port : Nat)
  | scStatus (h : Mb) (sc : Nat)
  | keyGenerate (h : Mb) (slot : Nat) (attrs : Bytes)
  | keyImport (h : Mb) (form slot : Nat) (attrs : Bytes)
  | keyExport (h : Mb) (slot wrapping : Nat)
  | keyClear (h : Mb) (slot : Nat)
  | keyInfo (h : Mb) (slot : Nat)
  | certRead (h : Mb) (selector : Nat)
  | attest (h : Mb) (nonceLen : Nat) (nonce : Bytes)
  | ownerProvision (h : Mb)
  | ownerTransfer (h : Mb)
  | shareProvision (h : Mb)
  | pkeSubmit (h : Mb) (descriptor : Bytes)
  | pkeAbort (h : Mb) (job : Nat)
  | vaultRekey (h : Mb)
  | timeSet (h : Mb) (seconds : Nat)
  | wheelAdd (h : Mb) (type output dueUs dueS : Nat)
  | wheelDelete (h : Mb) (entry : Nat)
  -- lookaside and public-key engines
  | laProduce (init ring : Nat) (value : W32)
  | laRingReset (init ring : Nat) (value : W32)
  | laRequestStart (ring : Nat) (entry : Bytes)
  | laRequestComplete (ring : Nat) (input aux : Bytes) (run : LaRun)
  | laDmaFailure (ring : Nat)
  | pkeJobStart (input : Bytes)
  | pkeJobComplete (run : PkeRun)
  -- debug port
  | idcode
  | samplePreload (preload : Bytes)
  | extest
  | bypass
  | dbgStatus
  | dbgChallenge
  | dbgUnlock (token : Bytes)
  | dbgAccess (scan : Nat)
  | dbgLock
  | debugLockoutExpiry
  -- performance counters, health
  | pcRun (init : Nat) (run : Bool)
  | pcClearAll (init : Nat)
  | pcClear (init engine : Nat)
  | ageingMeasure (degradation : List Nat)
  | replicaMeasure (slackPs : List Nat)
  | voltagePlan (mv : Nat)
  | tempExcursion (high : Bool)
  | railStep
  | laneEyeMeasure (lane eyeMv eyeWidth : Nat)
  | healthTableWrite
  | backupCellRemoval
  | rbgHealthTest (passed : Bool)
  | ppsOutPulse
  | triggerPulse (output : Nat)
  | pcieLinkUp (width speed : Nat) (pf0 pf1 : Bool)
  deriving DecidableEq, Repr

end Sys2Proof
end

