-- ==== Sys2Proof/Machine/Flags.lean ====
section
/-! DEFINITION. The check values of the part, computed as the spec gives them: the CRC-16 of a core header (R77), the Ethernet
FCS, the CRC-32C of HASH and of the MAC table (R128, R154), and the IPv4 header checksum (RFC 1071, RFC 1624). -/

namespace Sys2Proof.Machine

/-- `n` shifts of a reflected CRC register. -/
def crcShift (poly : W32) : Nat → W32 → W32
  | 0, r => r
  | n + 1, r => crcShift poly n (if r.getLsbD 0 then (r >>> 1) ^^^ poly else r >>> 1)

/-- A reflected 32-bit CRC register after a string of bytes. -/
def crcRun (poly : W32) : W32 → Bytes → W32
  | r, [] => r
  | r, b :: bs => crcRun poly (crcShift poly 8 (r ^^^ b.setWidth 32)) bs

/-- The CRC-32 of the Ethernet FCS. -/
def crc32 (bs : Bytes) : Nat := (~~~(crcRun 0xEDB88320 0xFFFFFFFF bs)).toNat

/-- CRC-32C with an initial value (R128, R154). -/
def crc32c (init : Nat) (bs : Bytes) : Nat := (~~~(crcRun 0x82F63B78 (BitVec.ofNat 32 init) bs)).toNat

/-- The four FCS bytes of a frame, in transmission order. -/
def fcsOf (bs : Bytes) : Bytes := toLe (crc32 bs) 4

/-- A frame with its FCS made again over everything before it. -/
def withFcs (bs : Bytes) : Bytes := bs ++ fcsOf bs

/-- The frame without its FCS. -/
def body (f : Bytes) : Bytes := f.take (f.length - 4)

/-- The FCS of a frame is good. -/
def fcsGood (f : Bytes) : Bool := 4 ≤ f.length && f.drop (f.length - 4) == fcsOf (body f)

/-- `n` shifts of the CRC-16 register of R77. -/
def crc16Shift : Nat → BitVec 16 → BitVec 16
  | 0, r => r
  | n + 1, r => crc16Shift n (if r.getMsbD 0 then (r <<< 1) ^^^ 0x1021 else r <<< 1)

/-- Eight shifts of an 8-bit register by the polynomial 0x2F, most significant bit first. -/
def crc8Shift : Nat → BitVec 8 → BitVec 8
  | 0, r => r
  | n + 1, r => crc8Shift n (if r.getMsbD 0 then (r <<< 1) ^^^ 0x2F else r <<< 1)

/-- The code of a beat on the management interconnect: CRC-8, initial value 0xFF, over its 32 data bytes, the six address bytes, most
significant first, the initiator and the beat's index in the access (R400). -/
def busCode (data : Bytes) (addr init beat : Nat) : Byte :=
  (data ++ toBe addr 6 ++ toBe init 1 ++ toBe beat 1).foldl (fun r b => crc8Shift 8 (r ^^^ b)) 0xFF

/-- The beat that carries one dword at an address, in its place among 32 bytes (log entry 22, DEDUCED). -/
def dwordBeat (addr : Nat) (w : W32) : Bytes := fill (addr % 32) 0 ++ toLe w.toNat 4 ++ fill (28 - addr % 32) 0

/-- The code with which a dword's beat arrives agrees; none is the code that the sender computes. -/
def codeGood (code : Option Byte) (addr init beat : Nat) (w : W32) : Bool := code.all (· == busCode (dwordBeat addr w) addr init beat)

/-- The CRC-16 of R77: initial value 0, no reflection, no inversion. -/
def crc16Run : BitVec 16 → Bytes → BitVec 16
  | r, [] => r
  | r, b :: bs => crc16Run (crc16Shift 8 (r ^^^ (b.setWidth 16 <<< 8))) bs

/-- The CRC-16 of R77 over a string. -/
def crc16 (bs : Bytes) : Nat := (crc16Run 0 bs).toNat

/-- Sum of the 16-bit words of a string, most significant byte first. -/
def wordSum : Bytes → Nat
  | [] => 0
  | [a] => 256 * a.toNat
  | a :: b :: bs => 256 * a.toNat + b.toNat + wordSum bs

/-- Ones' complement fold to 16 bits. -/
def foldSum (n : Nat) : Nat :=
  let n := n % 65536 + n / 65536
  n % 65536 + n / 65536

/-- The checksum of an IPv4 header verifies. -/
def ipSumGood (hdr : Bytes) : Bool := foldSum (wordSum hdr) == 65535

/-- The incremental update of a checksum (RFC 1624): the sum `hc` when the 16-bit words `old` become `new`. -/
def rfc1624 (hc : Nat) (old new : List Nat) : Nat :=
  let s := (65535 - hc) + (old.map (65535 - ·)).sum + new.sum
  65535 - foldSum (foldSum s)

end Sys2Proof.Machine
end

