-- ==== Sys2Proof/Machine/Regs.lean ====
section
/-! DEFINITION. The register map of R444: where every register lies, what access each of its bits has (R9), its reset value, and
which bits keep their value through a warm start (R9 RWS, R515). The rows are those of the register tables of the chapters. -/

namespace Sys2Proof.Machine

/-- A group of registers of one layout: `base + s1 * i + s2 * j + 4 * w`, with `i < n1`, `j < n2` and `w < wide`. -/
structure RegDesc where
  base  : Nat
  n1    : Nat := 1
  s1    : Nat := 4
  n2    : Nat := 1
  s2    : Nat := 4
  /-- Words of the value; a higher word reads as the initiator's shadow (R12). -/
  wide  : Nat := 1
  rw    : W32 := 0
  rws   : W32 := 0
  w1c   : W32 := 0
  w1s   : W32 := 0
  rc    : W32 := 0
  reset : W32 := 0
  /-- Bits kept through a warm start and a management restart (R9, R515). -/
  keep  : W32 := 0
  deriving DecidableEq, Repr

/-- The word of the group at address `a`: its index in the value, or none. -/
def RegDesc.word (d : RegDesc) (a : Nat) : Option Nat :=
  if a < d.base then none
  else
    let o := a - d.base
    let i := if d.n1 = 1 then 0 else o / d.s1
    let r := if d.n1 = 1 then o else o % d.s1
    let j := if d.n2 = 1 then 0 else r / d.s2
    let q := if d.n2 = 1 then r else r % d.s2
    if i < d.n1 && j < d.n2 && q % 4 == 0 && q / 4 < d.wide then some (q / 4) else none

/-- The registers of the MGT block. -/
def regsMgt : List RegDesc := [
  -- MGT_START_STATUS
  { base := 0x08100, rws := 0xFF0000, reset := 0x1, keep := 0xFF0000 },
  -- MGT_START_CAUSE
  { base := 0x08104 },
  -- MGT_SLOT_STATUS
  { base := 0x08110, n1 := 2, s1 := 0x10 },
  -- MGT_SLOT_FAIL_OFFSET
  { base := 0x08114, n1 := 2, s1 := 0x10 },
  -- MGT_SLOT_SEQ
  { base := 0x08118, n1 := 2, s1 := 0x10 },
  -- MGT_SLOT_FWVER
  { base := 0x0811C, n1 := 2, s1 := 0x10 },
  -- MGT_ROLLBACK_FW
  { base := 0x08130 },
  -- MGT_ROLLBACK_CFG
  { base := 0x08134 },
  -- MGT_ROLLBACK_LEFT
  { base := 0x08138, reset := 0x4040 },
  -- MGT_IMAGE_SKIPPED
  { base := 0x08140 },
  -- MGT_JOURNAL_STALE
  { base := 0x08144 },
  -- MGT_PAIR_STATUS
  { base := 0x08200, rws := 0xFFFF00C0, reset := 0x10, keep := 0xFFFF00C0 },
  -- MGT_HALT
  { base := 0x08204, rws := 0xFFFF03FE, keep := 0xFFFF03FE },
  -- MGT_REFCLK
  { base := 0x08208, rc := 0xFFFF0000, keep := 0xFFFF0000 },
  -- MGT_FLASH_STATUS
  { base := 0x0820C, rc := 0xFFFF0000, keep := 0xFFFF0000 },
  -- MGT_MACRO_CORR
  { base := 0x08210, n1 := 4, s1 := 0x4, rc := 0xFFFF, keep := 0xFFFF },
  -- MGT_REC_STATUS
  { base := 0x08220 },
  -- MGT_REC_RUN
  { base := 0x08224 },
  -- MGT_REC_SEQ
  { base := 0x08228 },
  -- MGT_REC_LOST
  { base := 0x0822C, keep := 0xFFFFFFFF },
  -- MGT_REC_FLUSHES
  { base := 0x08230, keep := 0xFFFFFFFF },
  -- MGT_STRAPS
  { base := 0x08300 } ]

/-- The registers of the SWC block. -/
def regsSwc : List RegDesc := [
  -- SWC_START_DISC
  { base := 0x40300, rws := 0xFFFFFFFF, keep := 0xFFFFFFFF },
  -- SWC_POOL_FREE
  { base := 0x40000 },
  -- SWC_POOL_SIZE
  { base := 0x40004 },
  -- SWC_HEADROOM
  { base := 0x40008, rc := 0xFFFF0000, keep := 0xFFFF0000 },
  -- SWC_MGMT_Q
  { base := 0x4000C, rc := 0xFFFF0000, keep := 0xFFFF0000 },
  -- SWC_RETIRED
  { base := 0x40010, rws := 0xFFFF, keep := 0xFFFF },
  -- SWC_MC_SEL
  { base := 0x40100, rw := 0x3FFF, w1s := 0x4000 },
  -- SWC_MC_DATA
  { base := 0x40104, n1 := 5, s1 := 0x4 },
  -- SWC_HEADROOM_DROP
  { base := 0x40800, n1 := 4, s1 := 0x80, keep := 0xFFFFFFFF },
  -- SWC_DISC_PARTIAL
  { base := 0x40804, n1 := 4, s1 := 0x80, keep := 0xFFFFFFFF },
  -- SWC_DISC_FCS
  { base := 0x40808, n1 := 4, s1 := 0x80, keep := 0xFFFFFFFF },
  -- SWC_DISC_ICV
  { base := 0x4080C, n1 := 4, s1 := 0x80, keep := 0xFFFFFFFF },
  -- SWC_DISC_LEN
  { base := 0x40810, n1 := 4, s1 := 0x80, keep := 0xFFFFFFFF },
  -- SWC_STALL_DISC
  { base := 0x40814, n1 := 4, s1 := 0x80, keep := 0xFFFFFFFF },
  -- SWC_MC_EMPTY
  { base := 0x40818, n1 := 4, s1 := 0x80, keep := 0xFFFFFFFF },
  -- SWC_CELL_CORR
  { base := 0x4081C, n1 := 4, s1 := 0x80, keep := 0xFFFFFFFF },
  -- SWC_CELL_UNCORR
  { base := 0x40820, n1 := 4, s1 := 0x80, keep := 0xFFFFFFFF },
  -- SWC_Q_OCC
  { base := 0x44000, n1 := 1152, s1 := 0x10 },
  -- SWC_Q_DROP
  { base := 0x44004, n1 := 1152, s1 := 0x10, keep := 0xFFFFFFFF },
  -- SWC_Q_DROP_B
  { base := 0x44008, n1 := 1152, s1 := 0x10, wide := 2, keep := 0xFFFFFFFF } ]

/-- The registers of the TMP block. -/
def regsTmp : List RegDesc := [
  -- TMP_START_FAILS
  { base := 0x09080, reset := 0xFFFF0000 },
  -- TMP_STATUS
  { base := 0x09000, w1c := 0x20 },
  -- TMP_ACTIVE
  { base := 0x09004 },
  -- TMP_LATCHED
  { base := 0x09008, w1c := 0x3FFFF },
  -- TMP_DISAGREE
  { base := 0x0900C },
  -- TMP_SRC
  { base := 0x09100, n1 := 18, s1 := 0x4, rc := 0xFFFF0000, reset := 0x10, keep := 0xFFFF0000 },
  -- TMP_READING
  { base := 0x09200, n1 := 15, s1 := 0x4 },
  -- TMP_MESH
  { base := 0x09300, n1 := 4, s1 := 0x4 },
  -- TMP_LOG_SEL
  { base := 0x09400, rw := 0x3F, w1s := 0x40 },
  -- TMP_LOG_DATA
  { base := 0x09404, n1 := 4, s1 := 0x4 } ]

/-- The registers of the PRT block. -/
def regsPrt : List RegDesc := [
  -- PRT_CFG
  { base := 0x19000, n1 := 120, s1 := 0x40 },
  -- PRT_CFG, halves Un/1
  { base := 0x1B000, n1 := 24, s1 := 0x40 },
  -- PRT_STATUS
  { base := 0x19004, n1 := 120, s1 := 0x40, w1c := 0xC00, rc := 0xFFFF0000, keep := 0xFFFF0000 },
  -- PRT_STATUS, halves Un/1
  { base := 0x1B004, n1 := 24, s1 := 0x40, w1c := 0xC00, rc := 0xFFFF0000, keep := 0xFFFF0000 },
  -- PRT_DEN_STATUS
  { base := 0x19008, n1 := 120, s1 := 0x40 },
  -- PRT_DEN_STATUS, halves Un/1
  { base := 0x1B008, n1 := 24, s1 := 0x40 },
  -- PRT_DEFECT
  { base := 0x1900C, n1 := 120, s1 := 0x40, w1c := 0x1FF0000 },
  -- PRT_DEFECT, halves Un/1
  { base := 0x1B00C, n1 := 24, s1 := 0x40, w1c := 0x1FF0000 },
  -- PRT_DEN_CORR
  { base := 0x19010, n1 := 120, s1 := 0x40, keep := 0xFFFFFFFF },
  -- PRT_DEN_CORR, halves Un/1
  { base := 0x1B010, n1 := 24, s1 := 0x40, keep := 0xFFFFFFFF },
  -- PRT_DEN_HUNT
  { base := 0x19014, n1 := 120, s1 := 0x40, keep := 0xFFFFFFFF },
  -- PRT_DEN_HUNT, halves Un/1
  { base := 0x1B014, n1 := 24, s1 := 0x40, keep := 0xFFFFFFFF },
  -- PRT_DEN_CTRL_ERR
  { base := 0x19018, n1 := 120, s1 := 0x40, keep := 0xFFFFFFFF },
  -- PRT_DEN_CTRL_ERR, halves Un/1
  { base := 0x1B018, n1 := 24, s1 := 0x40, keep := 0xFFFFFFFF },
  -- PRT_DEN_NOSEQ
  { base := 0x1901C, n1 := 120, s1 := 0x40, keep := 0xFFFFFFFF },
  -- PRT_DEN_NOSEQ, halves Un/1
  { base := 0x1B01C, n1 := 24, s1 := 0x40, keep := 0xFFFFFFFF },
  -- PRT_DEN_REC_ERR
  { base := 0x19020, n1 := 120, s1 := 0x40, keep := 0xFFFFFFFF },
  -- PRT_DEN_REC_ERR, halves Un/1
  { base := 0x1B020, n1 := 24, s1 := 0x40, keep := 0xFFFFFFFF },
  -- PRT_DEN_OVERSIZE
  { base := 0x19024, n1 := 120, s1 := 0x40, keep := 0xFFFFFFFF },
  -- PRT_DEN_OVERSIZE, halves Un/1
  { base := 0x1B024, n1 := 24, s1 := 0x40, keep := 0xFFFFFFFF },
  -- PRT_FEC_CORR
  { base := 0x19028, n1 := 120, s1 := 0x40, wide := 2, keep := 0xFFFFFFFF },
  -- PRT_FEC_CORR, halves Un/1
  { base := 0x1B028, n1 := 24, s1 := 0x40, wide := 2, keep := 0xFFFFFFFF },
  -- PRT_FEC_UNCORR
  { base := 0x19030, n1 := 120, s1 := 0x40, wide := 2, keep := 0xFFFFFFFF },
  -- PRT_FEC_UNCORR, halves Un/1
  { base := 0x1B030, n1 := 24, s1 := 0x40, wide := 2, keep := 0xFFFFFFFF },
  -- PRT_MOD_STATUS
  { base := 0x19038, n1 := 120, s1 := 0x40, reset := 0x10 },
  -- PRT_MOD_STATUS, halves Un/1
  { base := 0x1B038, n1 := 24, s1 := 0x40, reset := 0x10 },
  -- PRT_PEER
  { base := 0x1903C, n1 := 120, s1 := 0x40, reset := 0xFFFF0000 },
  -- PRT_PEER, halves Un/1
  { base := 0x1B03C, n1 := 24, s1 := 0x40, reset := 0xFFFF0000 },
  -- PRT_I2C_STATUS
  { base := 0x18000, n1 := 8, s1 := 0x4, w1c := 0x2, rc := 0xFFFF0000, keep := 0xFFFF0000 },
  -- PRT_PM_CTRL
  { base := 0x1C000, rw := 0x7FFFFF, w1s := 0x800000 },
  -- PRT_PM_STATUS
  { base := 0x1C004 },
  -- PRT_PM_START
  { base := 0x1C008, wide := 2 },
  -- PRT_PM_DATA
  { base := 0x1C010, n1 := 12, s1 := 0x4 },
  -- PRT_PM_CH_DEFECT
  { base := 0x1C040 },
  -- PRT_PM_TCA
  { base := 0x1C044, rc := 0x801FFFFF },
  -- PRT_PM_TCA_LOST
  { base := 0x1C048, rc := 0xFFFFFFFF, keep := 0xFFFFFFFF } ]

/-- The registers of the FLW block. -/
def regsFlw : List RegDesc := [
  -- FLW_CL_STATUS
  { base := 0x30000, n1 := 16, s1 := 0x100 },
  -- FLW_CL_ECC
  { base := 0x30004, n1 := 16, s1 := 0x100, rc := 0xFFFFFFFF, keep := 0xFFFFFFFF },
  -- FLW_ENG_STATUS
  { base := 0x32000, n1 := 208, s1 := 0x4 },
  -- FLW_PD_FRAMES
  { base := 0x34000, n1 := 192, s1 := 0x40, wide := 2, keep := 0xFFFFFFFF },
  -- FLW_OVERRUN
  { base := 0x34008, n1 := 192, s1 := 0x40, keep := 0xFFFFFFFF },
  -- FLW_BAD_ACTION
  { base := 0x3400C, n1 := 192, s1 := 0x40, keep := 0xFFFFFFFF },
  -- FLW_SC_ERR
  { base := 0x34010, n1 := 192, s1 := 0x40, keep := 0xFFFFFFFF },
  -- FLW_DISPATCH_DROP
  { base := 0x34014, n1 := 192, s1 := 0x40, keep := 0xFFFFFFFF },
  -- FLW_DROP
  { base := 0x34018, n1 := 192, s1 := 0x40, keep := 0xFFFFFFFF },
  -- FLW_PUNT
  { base := 0x3401C, n1 := 192, s1 := 0x40, keep := 0xFFFFFFFF },
  -- FLW_PD_HWM
  { base := 0x34020, n1 := 192, s1 := 0x40, rc := 0xFFF1F, keep := 0xFFF1F },
  -- FLW_CNT_SEL
  { base := 0x38000, rw := 0x3FFFF, w1s := 0x40000 },
  -- FLW_CNT_DATA
  { base := 0x38004, n1 := 4, s1 := 0x4 } ]

/-- The registers of the FWD block. -/
def regsFwd : List RegDesc := [
  -- FWD_MAC_STATUS
  { base := 0x14000, n1 := 4, s1 := 0x400, rc := 0x780000, keep := 0x780000 },
  -- FWD_MAC_STATIC
  { base := 0x14004, n1 := 4, s1 := 0x400 },
  -- FWD_LPM_STATUS
  { base := 0x14008, n1 := 4, s1 := 0x400 },
  -- FWD_LEARN
  { base := 0x14040, n1 := 4, s1 := 0x400, keep := 0xFFFFFFFF },
  -- FWD_MOVES
  { base := 0x14044, n1 := 4, s1 := 0x400, keep := 0xFFFFFFFF },
  -- FWD_WITHDRAW
  { base := 0x14048, n1 := 4, s1 := 0x400, keep := 0xFFFFFFFF },
  -- FWD_LEARN_FULL
  { base := 0x1404C, n1 := 4, s1 := 0x400, keep := 0xFFFFFFFF },
  -- FWD_LEARN_DROP
  { base := 0x14050, n1 := 4, s1 := 0x400, keep := 0xFFFFFFFF },
  -- FWD_AGED
  { base := 0x14054, n1 := 4, s1 := 0x400, keep := 0xFFFFFFFF },
  -- FWD_UNKNOWN
  { base := 0x14058, n1 := 4, s1 := 0x400, keep := 0xFFFFFFFF },
  -- FWD_UNKNOWN_DROP
  { base := 0x1405C, n1 := 4, s1 := 0x400, keep := 0xFFFFFFFF },
  -- FWD_VLAN_DROP
  { base := 0x14060, n1 := 4, s1 := 0x400, keep := 0xFFFFFFFF },
  -- FWD_SRC_BAD
  { base := 0x14064, n1 := 4, s1 := 0x400, keep := 0xFFFFFFFF },
  -- FWD_STATIC_MOVE
  { base := 0x14068, n1 := 4, s1 := 0x400, keep := 0xFFFFFFFF },
  -- FWD_HAIRPIN
  { base := 0x1406C, n1 := 4, s1 := 0x400, keep := 0xFFFFFFFF },
  -- FWD_BAD_DEST
  { base := 0x14070, n1 := 4, s1 := 0x400, keep := 0xFFFFFFFF },
  -- FWD_ROUTED
  { base := 0x14074, n1 := 4, s1 := 0x400, keep := 0xFFFFFFFF },
  -- FWD_LPM_MISS
  { base := 0x14078, n1 := 4, s1 := 0x400, keep := 0xFFFFFFFF },
  -- FWD_TTL_EXP
  { base := 0x1407C, n1 := 4, s1 := 0x400, keep := 0xFFFFFFFF },
  -- FWD_IP_HDR_ERR
  { base := 0x14080, n1 := 4, s1 := 0x400, keep := 0xFFFFFFFF },
  -- FWD_ROUTER_NONIP
  { base := 0x14084, n1 := 4, s1 := 0x400, keep := 0xFFFFFFFF },
  -- FWD_SYNC_LOST
  { base := 0x14088, n1 := 4, s1 := 0x400, keep := 0xFFFFFFFF },
  -- FWD_SRCH_CTRL
  { base := 0x15000, rw := 0xF, w1s := 0x10 },
  -- FWD_SRCH_ARG0
  { base := 0x15004, rw := 0xFFFFFFFF },
  -- FWD_SRCH_ARG1
  { base := 0x15008, rw := 0xFFFFFFF },
  -- FWD_SRCH_RES
  { base := 0x15010, n1 := 6, s1 := 0x4 } ]

/-- The registers of the TMG block. -/
def regsTmg : List RegDesc := [
  -- TMG_SHAPER_RATE
  { base := 0x80000, n1 := 4240, s1 := 0x10 },
  -- TMG_SHAPER_CFG
  { base := 0x80004, n1 := 4240, s1 := 0x10 },
  -- TMG_SHAPER_OVH
  { base := 0x80008, n1 := 4240, s1 := 0x10 },
  -- TMG_SHAPER_TOKENS
  { base := 0x8000C, n1 := 4240, s1 := 0x10 },
  -- TMG_POL_CIR
  { base := 0xA0000, n1 := 8192, s1 := 0x20 },
  -- TMG_POL_PIR
  { base := 0xA0004, n1 := 8192, s1 := 0x20 },
  -- TMG_POL_CBS
  { base := 0xA0008, n1 := 8192, s1 := 0x20 },
  -- TMG_POL_EBS
  { base := 0xA000C, n1 := 8192, s1 := 0x20 },
  -- TMG_POL_MODE
  { base := 0xA0010, n1 := 8192, s1 := 0x20 },
  -- TMG_POL_GREEN
  { base := 0xA0014, n1 := 8192, s1 := 0x20, keep := 0xFFFFFFFF },
  -- TMG_POL_YELLOW
  { base := 0xA0018, n1 := 8192, s1 := 0x20, keep := 0xFFFFFFFF },
  -- TMG_POL_RED
  { base := 0xA001C, n1 := 8192, s1 := 0x20, keep := 0xFFFFFFFF },
  -- TMG_Q_SCHED
  { base := 0xE0000, n1 := 1152, s1 := 0x10 },
  -- TMG_Q_HWM_DEPTH
  { base := 0xE0004, n1 := 1152, s1 := 0x10, rc := 0x7FFFF, keep := 0x7FFFF },
  -- TMG_Q_HWM_SOJ
  { base := 0xE0008, n1 := 1152, s1 := 0x10, rc := 0xFFFFFFFF, keep := 0xFFFFFFFF },
  -- TMG_Q_TX
  { base := 0xE000C, n1 := 1152, s1 := 0x10 } ]

/-- The registers of the CPH block. -/
def regsCph : List RegDesc := [
  -- CPH_SLICE_STATUS
  { base := 0x20000, n1 := 18, s1 := 0x4 },
  -- CPH_CAP_DROP
  { base := 0x20100, n1 := 4, s1 := 0x20 },
  -- CPH_HOLD
  { base := 0x20104, n1 := 4, s1 := 0x20, rc := 0x3FFF0000, keep := 0x3FFF0000 },
  -- CPH_RX_UNTAGGED
  { base := 0x21000, n1 := 96, s1 := 0x40, keep := 0xFFFFFFFF },
  -- CPH_RX_BYPASS
  { base := 0x21004, n1 := 96, s1 := 0x40, keep := 0xFFFFFFFF },
  -- CPH_RX_BAD_TAG
  { base := 0x21008, n1 := 96, s1 := 0x40, keep := 0xFFFFFFFF },
  -- CPH_RX_NO_SC
  { base := 0x2100C, n1 := 96, s1 := 0x40, keep := 0xFFFFFFFF },
  -- CPH_RX_NO_SA
  { base := 0x21010, n1 := 96, s1 := 0x40, keep := 0xFFFFFFFF },
  -- CPH_RX_LONG
  { base := 0x21014, n1 := 96, s1 := 0x40, keep := 0xFFFFFFFF },
  -- CPH_RX_SHORT
  { base := 0x21018, n1 := 96, s1 := 0x40, keep := 0xFFFFFFFF },
  -- CPH_RX_DEN_SHORT
  { base := 0x2101C, n1 := 96, s1 := 0x40, keep := 0xFFFFFFFF },
  -- CPH_RX_RESUMED
  { base := 0x21020, n1 := 96, s1 := 0x40, keep := 0xFFFFFFFF },
  -- CPH_TX_LONG
  { base := 0x21024, n1 := 96, s1 := 0x40, keep := 0xFFFFFFFF },
  -- CPH_TX_PAD
  { base := 0x21028, n1 := 96, s1 := 0x40, keep := 0xFFFFFFFF },
  -- CPH_TX_ABORT
  { base := 0x2102C, n1 := 96, s1 := 0x40, keep := 0xFFFFFFFF },
  -- CPH_TX_REWOUND
  { base := 0x21030, n1 := 96, s1 := 0x40, keep := 0xFFFFFFFF },
  -- CPH_BYP
  { base := 0x26000, n1 := 96, s1 := 0x40, n2 := 8, s2 := 0x8 },
  -- CPH_BYP_HITS
  { base := 0x26004, n1 := 96, s1 := 0x40, n2 := 8, s2 := 0x8, keep := 0xFFFFFFFF },
  -- CPH_SA_SEL
  { base := 0x24000, rw := 0x3FFFF, w1s := 0x40000 },
  -- CPH_SA_STATUS
  { base := 0x24004 },
  -- CPH_SA_DATA
  { base := 0x24010, n1 := 12, s1 := 0x4 } ]

/-- The registers of the SAS block. -/
def regsSas : List RegDesc := [
  -- SAS_SC_SEL
  { base := 0x0E000, rw := 0xFFFF, w1s := 0x10000 },
  -- SAS_SC_STATUS
  { base := 0x0E004 },
  -- SAS_SC_EPOCH
  { base := 0x0E008, wide := 2 },
  -- SAS_SC_SKIP
  { base := 0x0E010, wide := 2 },
  -- SAS_TIME_MODE
  { base := 0x0E200 },
  -- SAS_TX_NOSA
  { base := 0x0E100, n1 := 4, s1 := 0x20, keep := 0xFFFFFFFF },
  -- SAS_HOLD_DROP
  { base := 0x0E104, n1 := 4, s1 := 0x20, keep := 0xFFFFFFFF },
  -- SAS_BLOCK_DROP
  { base := 0x0E108, n1 := 4, s1 := 0x20, keep := 0xFFFFFFFF },
  -- SAS_SOFT
  { base := 0x0E10C, n1 := 4, s1 := 0x20, keep := 0xFFFFFFFF },
  -- SAS_HARD
  { base := 0x0E110, n1 := 4, s1 := 0x20, keep := 0xFFFFFFFF },
  -- SAS_CONFIRMED
  { base := 0x0E114, n1 := 4, s1 := 0x20, keep := 0xFFFFFFFF },
  -- SAS_LATE
  { base := 0x0E118, n1 := 4, s1 := 0x20, keep := 0xFFFFFFFF },
  -- SAS_RETIRE_FORCED
  { base := 0x0E11C, n1 := 4, s1 := 0x20, keep := 0xFFFFFFFF },
  -- SAS_LINK_STATUS
  { base := 0x0F000, n1 := 96, s1 := 0x20 },
  -- SAS_LINK_ADOPT
  { base := 0x0F008, n1 := 96, s1 := 0x20, wide := 2 },
  -- SAS_KA_OK
  { base := 0x0F010, n1 := 96, s1 := 0x20, keep := 0xFFFFFFFF },
  -- SAS_KA_FAIL
  { base := 0x0F014, n1 := 96, s1 := 0x20, keep := 0xFFFFFFFF },
  -- SAS_CTL_AUTH
  { base := 0x0F018, n1 := 96, s1 := 0x20, keep := 0xFFFFFFFF } ]

/-- The registers of the KEY block. -/
def regsKey : List RegDesc := [
  -- KEY_STATUS
  { base := 0x10000, w1c := 0x800 },
  -- KEY_ERASE_COUNT
  { base := 0x10004 },
  -- KEY_SLOT_SEL
  { base := 0x10010, rw := 0x3FF, w1s := 0x400 },
  -- KEY_SLOT_INFO
  { base := 0x10014 },
  -- KEY_SLOT_EXPIRY
  { base := 0x10018, wide := 2 },
  -- KEY_SLOT_USES
  { base := 0x10020, wide := 2 },
  -- KEY_LA_BASE
  { base := 0x11000, n1 := 8, s1 := 0x40, wide := 2, rws := 0xFFFFFFFF, keep := 0xFFFFFFFF },
  -- KEY_LA_CBASE
  { base := 0x11008, n1 := 8, s1 := 0x40, wide := 2, rws := 0xFFFFFFFF, keep := 0xFFFFFFFF },
  -- KEY_LA_CFG
  { base := 0x11010, n1 := 8, s1 := 0x40, rws := 0xFDF, w1s := 0x20, keep := 0xFDF },
  -- KEY_LA_PROD
  { base := 0x11014, n1 := 8, s1 := 0x40, rws := 0xFFFF, keep := 0xFFFF },
  -- KEY_LA_CONS
  { base := 0x11018, n1 := 8, s1 := 0x40, keep := 0xFFFF },
  -- KEY_LA_CPROD
  { base := 0x1101C, n1 := 8, s1 := 0x40, keep := 0xFFFF },
  -- KEY_LA_STATUS
  { base := 0x11020, n1 := 8, s1 := 0x40 },
  -- KEY_LA_DONE
  { base := 0x11024, n1 := 8, s1 := 0x40, keep := 0xFFFFFFFF },
  -- KEY_LA_FAIL
  { base := 0x11028, n1 := 8, s1 := 0x40, keep := 0xFFFFFFFF },
  -- KEY_LA_DMA_ERR
  { base := 0x1102C, n1 := 8, s1 := 0x40, keep := 0xFFFFFFFF },
  -- KEY_LA_OVERRUN
  { base := 0x11030, n1 := 8, s1 := 0x40, keep := 0xFFFFFFFF } ]

/-- The registers of the PKE block. -/
def regsPke : List RegDesc := [
  -- PKE_STATUS
  { base := 0x0C000, reset := 0x4 },
  -- PKE_CUR_JOB
  { base := 0x0C004 },
  -- PKE_HOST_CFG
  { base := 0x0C008 },
  -- PKE_FAULT
  { base := 0x0C00C, w1c := 0x1F },
  -- PKE_JOBS_OK
  { base := 0x0C100, keep := 0xFFFFFFFF },
  -- PKE_JOBS_ERR
  { base := 0x0C104, keep := 0xFFFFFFFF },
  -- PKE_FAULTS
  { base := 0x0C108, keep := 0xFFFFFFFF },
  -- PKE_ABORTS
  { base := 0x0C10C, keep := 0xFFFFFFFF },
  -- PKE_WIPES
  { base := 0x0C110, keep := 0xFFFFFFFF },
  -- PKE_MISMATCH
  { base := 0x0C114, keep := 0xFFFFFFFF },
  -- PKE_DMA_ERR
  { base := 0x0C118, keep := 0xFFFFFFFF },
  -- PKE_BUSY_US
  { base := 0x0C120, wide := 2, keep := 0xFFFFFFFF } ]

/-- The registers of the VLT block. -/
def regsVlt : List RegDesc := [
  -- VLT_STATUS
  { base := 0x0B000 },
  -- VLT_KEYID
  { base := 0x0B004 },
  -- VLT_FLUSH
  { base := 0x0B008 },
  -- VLT_MISMATCH
  { base := 0x0B00C, rc := 0xFFFF0000, keep := 0xFFFF0000 },
  -- VLT_STACK_STATUS
  { base := 0x0B010, n1 := 2, s1 := 0x4, rc := 0xFFFF0000, reset := 0x2, keep := 0xFFFF0000 },
  -- VLT_LAST_FAULT
  { base := 0x0B020 },
  -- VLT_LAST_FAULT_KIND
  { base := 0x0B024 },
  -- VLT_HALT_CAUSE
  { base := 0x0B030, rws := 0xF, keep := 0xF },
  -- VLT_HALT_LINE
  { base := 0x0B034, rws := 0xFFFFFFFF, keep := 0xFFFFFFFF },
  -- VLT_ECC_CORR
  { base := 0x0B100, keep := 0xFFFFFFFF },
  -- VLT_REPAIR_ECC
  { base := 0x0B104, keep := 0xFFFFFFFF },
  -- VLT_REPAIR_TAG
  { base := 0x0B108, keep := 0xFFFFFFFF },
  -- VLT_NODE_REPAIR
  { base := 0x0B10C, keep := 0xFFFFFFFF },
  -- VLT_OVERFLOW
  { base := 0x0B110, keep := 0xFFFFFFFF },
  -- VLT_SCRUB_PASS
  { base := 0x0B114, keep := 0xFFFFFFFF },
  -- VLT_CACHE_MISS
  { base := 0x0B118, keep := 0xFFFFFFFF },
  -- VLT_REKEYS
  { base := 0x0B11C, keep := 0xFFFFFFFF } ]

/-- The registers of the TIM block. -/
def regsTim : List RegDesc := [
  -- TIM_NOW
  { base := 0x0A000, wide := 4 },
  -- TIM_STATE
  { base := 0x0A010, w1c := 0x4000, reset := 0x3FC0 },
  -- TIM_OFFSET
  { base := 0x0A014 },
  -- TIM_FREQ
  { base := 0x0A018 },
  -- TIM_EST
  { base := 0x0A020, wide := 2, reset := 0xFFFFFFFF },
  -- TIM_HOLD_S
  { base := 0x0A028 },
  -- TIM_WHEEL
  { base := 0x0A030, w1c := 0x2000, rc := 0xFFFF0000, keep := 0xFFFF0000 },
  -- TIM_STEPS
  { base := 0x0A040, keep := 0xFFFFFFFF },
  -- TIM_TC_FRAMES
  { base := 0x0A044, keep := 0xFFFFFFFF },
  -- TIM_TC_SAT
  { base := 0x0A048, keep := 0xFFFFFFFF },
  -- TIM_TRIG_MISSED
  { base := 0x0A050, n1 := 4, s1 := 0x4, keep := 0xFFFFFFFF },
  -- TIM_TRIG_STATUS
  { base := 0x0A060, n1 := 4, s1 := 0x4 },
  -- TIM_CAP
  { base := 0x0A100, n1 := 5, s1 := 0x10, wide := 4 },
  -- TIM_CAP_STATUS
  { base := 0x0A180, n1 := 5, s1 := 0x4, rc := 0xFFFF0000, keep := 0xFFFF0000 } ]

/-- The registers of the HST block. -/
def regsHst : List RegDesc := [
  -- HST_MB_CBASE
  { base := 0x00000, n1 := 2, s1 := 0x100, wide := 2, rws := 0xFFFFFFFF, keep := 0xFFFFFFFF },
  -- HST_MB_RBASE
  { base := 0x00008, n1 := 2, s1 := 0x100, wide := 2, rws := 0xFFFFFFFF, keep := 0xFFFFFFFF },
  -- HST_MB_CFG
  { base := 0x00010, n1 := 2, s1 := 0x100, rws := 0xFDF, w1s := 0x20, keep := 0xFDF },
  -- HST_MB_PROD
  { base := 0x00014, n1 := 2, s1 := 0x100, rws := 0xFFFF, keep := 0xFFFF },
  -- HST_MB_CONS
  { base := 0x00018, n1 := 2, s1 := 0x100 },
  -- HST_MB_RPROD
  { base := 0x0001C, n1 := 2, s1 := 0x100 },
  -- HST_MB_STATUS
  { base := 0x00020, n1 := 2, s1 := 0x100, rc := 0xFFFF0000, keep := 0xFFFF0000 },
  -- HST_MB_LAST_SEQ
  { base := 0x00028, n1 := 2, s1 := 0x100, wide := 2 },
  -- HST_ATTN
  { base := 0x00200 },
  -- HST_LINK
  { base := 0x00210, rc := 0xFFFF0000, keep := 0xFFFF0000 },
  -- HST_DEBUG
  { base := 0x00220, rc := 0xFFFF0000, keep := 0xFFFF0000 },
  -- HST_MSIX_TABLE
  { base := 0x02000, n1 := 64, s1 := 0x10, n2 := 3, s2 := 0x4, rw := 0xFFFFFFFF },
  -- HST_MSIX_CTRL
  { base := 0x0200C, n1 := 64, s1 := 0x10, rw := 0x1, reset := 0x1 },
  -- HST_MSIX_PBA
  { base := 0x03000, n1 := 2, s1 := 0x4 } ]

/-- The registers of the ACU block. -/
def regsAcu : List RegDesc := [
  -- ACU_STATUS
  { base := 0x04000, n1 := 3, s1 := 0x400 },
  -- ACU_REGION_BASE
  { base := 0x04010, n1 := 3, s1 := 0x400, n2 := 16, s2 := 0x8 },
  -- ACU_REGION_CFG
  { base := 0x04014, n1 := 3, s1 := 0x400, n2 := 16, s2 := 0x8 },
  -- ACU_ERR
  { base := 0x04100, n1 := 3, s1 := 0x400, rc := 0x807FFFFF },
  -- ACU_DENIED
  { base := 0x04104, n1 := 3, s1 := 0x400, keep := 0xFFFFFFFF } ]

/-- The registers of the HLT block. -/
def regsHlt : List RegDesc := [
  -- HLT_PC_SEL
  { base := 0x50000, n1 := 208, s1 := 0x80, rw := 0x7FFFFFF },
  -- HLT_PC_FILT
  { base := 0x50004, n1 := 208, s1 := 0x80, rw := 0x1F, w1c := 0xFC0, w1s := 0x20 },
  -- HLT_PC_CNT
  { base := 0x50020, n1 := 208, s1 := 0x80, n2 := 6, s2 := 0x8, wide := 2, keep := 0xFFFFFFFF },
  -- HLT_PC_GLOBAL
  { base := 0x58000, rw := 0x1, w1s := 0x2 },
  -- HLT_AGE_MON
  { base := 0x60000, n1 := 128, s1 := 0x4 },
  -- HLT_AGE_REPL
  { base := 0x60200, n1 := 32, s1 := 0x4, rc := 0xFFC00, reset := 0xFFC00, keep := 0xFFC00 },
  -- HLT_AVS_STATUS
  { base := 0x60400, reset := 0x320 },
  -- HLT_AVS_GUARD
  { base := 0x60404, rc := 0xFFFF, keep := 0xFFFFFFFF },
  -- HLT_AVS_LAST
  { base := 0x60408, wide := 2 },
  -- HLT_EOL
  { base := 0x60410, reset := 0xFFFF },
  -- HLT_EOL_BAND
  { base := 0x60414, reset := 0xFFFFFFFF },
  -- HLT_LANE
  { base := 0x61000, n1 := 144, s1 := 0x4, reset := 0xFF0000 },
  -- HLT_CELL
  { base := 0x62000 },
  -- HLT_CELL_USED
  { base := 0x62004 },
  -- HLT_CELL_DAYS
  { base := 0x62008 },
  -- HLT_FLASH
  { base := 0x63000, n1 := 2, s1 := 0x4, reset := 0xFFFF0000 },
  -- HLT_FLASH_SECT
  { base := 0x63010, n1 := 2, s1 := 0x4 } ]

/-- The group that a BAR0 address lies in, by the block of R444. -/
def regGroup (a : Nat) : List RegDesc :=
  if a < 0x4000 then regsHst
  else if a < 0x8000 then regsAcu
  else if a < 0x9000 then regsMgt
  else if a < 0xA000 then regsTmp
  else if a < 0xB000 then regsTim
  else if a < 0xC000 then regsVlt
  else if a < 0xD000 then regsPke
  else if a < 0x10000 then regsSas
  else if a < 0x12000 then regsKey
  else if a < 0x18000 then regsFwd
  else if a < 0x20000 then regsPrt
  else if a < 0x28000 then regsCph
  else if a < 0x40000 then regsFlw
  else if a < 0x50000 then regsSwc
  else if a < 0x70000 then regsHlt
  else if a < 0x100000 then regsTmg
  else []

/-- The register at an address and the index of the word in it, or none for a reserved address (R443). -/
def descOf (a : Nat) : Option (RegDesc × Nat) :=
  (regGroup a).findSome? (fun d => (d.word a).map (fun w => (d, w)))

/-! Addresses, by the manual's names. -/

namespace R

def MGT_START_STATUS : Nat := 0x08100
def MGT_START_CAUSE : Nat := 0x08104
def MGT_SLOT_STATUS (s : Nat) : Nat := 0x08110 + 0x10 * s
def MGT_SLOT_FAIL_OFFSET (s : Nat) : Nat := 0x08114 + 0x10 * s
def MGT_SLOT_SEQ (s : Nat) : Nat := 0x08118 + 0x10 * s
def MGT_SLOT_FWVER (s : Nat) : Nat := 0x0811C + 0x10 * s
def MGT_ROLLBACK_FW : Nat := 0x08130
def MGT_ROLLBACK_CFG : Nat := 0x08134
def MGT_ROLLBACK_LEFT : Nat := 0x08138
def MGT_IMAGE_SKIPPED : Nat := 0x08140
def MGT_JOURNAL_STALE : Nat := 0x08144
def SWC_START_DISC : Nat := 0x40300
def TMP_START_FAILS : Nat := 0x09080
def PRT_CFG (n : Nat) : Nat := 0x19000 + 0x40 * n + 0x200 * (n / 120)
def PRT_STATUS (n : Nat) : Nat := 0x19004 + 0x40 * n + 0x200 * (n / 120)
def PRT_DEN_STATUS (n : Nat) : Nat := 0x19008 + 0x40 * n + 0x200 * (n / 120)
def PRT_DEFECT (n : Nat) : Nat := 0x1900C + 0x40 * n + 0x200 * (n / 120)
def PRT_DEN_CORR (n : Nat) : Nat := 0x19010 + 0x40 * n + 0x200 * (n / 120)
def PRT_DEN_HUNT (n : Nat) : Nat := 0x19014 + 0x40 * n + 0x200 * (n / 120)
def PRT_DEN_CTRL_ERR (n : Nat) : Nat := 0x19018 + 0x40 * n + 0x200 * (n / 120)
def PRT_DEN_NOSEQ (n : Nat) : Nat := 0x1901C + 0x40 * n + 0x200 * (n / 120)
def PRT_DEN_REC_ERR (n : Nat) : Nat := 0x19020 + 0x40 * n + 0x200 * (n / 120)
def PRT_DEN_OVERSIZE (n : Nat) : Nat := 0x19024 + 0x40 * n + 0x200 * (n / 120)
def PRT_FEC_CORR (n : Nat) : Nat := 0x19028 + 0x40 * n + 0x200 * (n / 120)
def PRT_FEC_UNCORR (n : Nat) : Nat := 0x19030 + 0x40 * n + 0x200 * (n / 120)
def PRT_MOD_STATUS (n : Nat) : Nat := 0x19038 + 0x40 * n + 0x200 * (n / 120)
def PRT_PEER (n : Nat) : Nat := 0x1903C + 0x40 * n + 0x200 * (n / 120)
def PRT_I2C_STATUS (m : Nat) : Nat := 0x18000 + 0x4 * m
def PRT_PM_CTRL : Nat := 0x1C000
def PRT_PM_STATUS : Nat := 0x1C004
def PRT_PM_START : Nat := 0x1C008
def PRT_PM_DATA (w : Nat) : Nat := 0x1C010 + 0x4 * w
def PRT_PM_CH_DEFECT : Nat := 0x1C040
def PRT_PM_TCA : Nat := 0x1C044
def PRT_PM_TCA_LOST : Nat := 0x1C048
def FLW_CL_STATUS (c : Nat) : Nat := 0x30000 + 0x100 * c
def FLW_CL_ECC (c : Nat) : Nat := 0x30004 + 0x100 * c
def FLW_ENG_STATUS (s : Nat) : Nat := 0x32000 + 0x4 * s
def FLW_PD_FRAMES (n : Nat) : Nat := 0x34000 + 0x40 * n
def FLW_OVERRUN (n : Nat) : Nat := 0x34008 + 0x40 * n
def FLW_BAD_ACTION (n : Nat) : Nat := 0x3400C + 0x40 * n
def FLW_SC_ERR (n : Nat) : Nat := 0x34010 + 0x40 * n
def FLW_DISPATCH_DROP (n : Nat) : Nat := 0x34014 + 0x40 * n
def FLW_DROP (n : Nat) : Nat := 0x34018 + 0x40 * n
def FLW_PUNT (n : Nat) : Nat := 0x3401C + 0x40 * n
def FLW_PD_HWM (n : Nat) : Nat := 0x34020 + 0x40 * n
def FLW_CNT_SEL : Nat := 0x38000
def FLW_CNT_DATA (w : Nat) : Nat := 0x38004 + 0x4 * w
def FWD_MAC_STATUS (k : Nat) : Nat := 0x14000 + 0x400 * k
def FWD_MAC_STATIC (k : Nat) : Nat := 0x14004 + 0x400 * k
def FWD_LPM_STATUS (k : Nat) : Nat := 0x14008 + 0x400 * k
def FWD_LEARN (k : Nat) : Nat := 0x14040 + 0x400 * k
def FWD_MOVES (k : Nat) : Nat := 0x14044 + 0x400 * k
def FWD_WITHDRAW (k : Nat) : Nat := 0x14048 + 0x400 * k
def FWD_LEARN_FULL (k : Nat) : Nat := 0x1404C + 0x400 * k
def FWD_LEARN_DROP (k : Nat) : Nat := 0x14050 + 0x400 * k
def FWD_AGED (k : Nat) : Nat := 0x14054 + 0x400 * k
def FWD_UNKNOWN (k : Nat) : Nat := 0x14058 + 0x400 * k
def FWD_UNKNOWN_DROP (k : Nat) : Nat := 0x1405C + 0x400 * k
def FWD_VLAN_DROP (k : Nat) : Nat := 0x14060 + 0x400 * k
def FWD_SRC_BAD (k : Nat) : Nat := 0x14064 + 0x400 * k
def FWD_STATIC_MOVE (k : Nat) : Nat := 0x14068 + 0x400 * k
def FWD_HAIRPIN (k : Nat) : Nat := 0x1406C + 0x400 * k
def FWD_BAD_DEST (k : Nat) : Nat := 0x14070 + 0x400 * k
def FWD_ROUTED (k : Nat) : Nat := 0x14074 + 0x400 * k
def FWD_LPM_MISS (k : Nat) : Nat := 0x14078 + 0x400 * k
def FWD_TTL_EXP (k : Nat) : Nat := 0x1407C + 0x400 * k
def FWD_IP_HDR_ERR (k : Nat) : Nat := 0x14080 + 0x400 * k
def FWD_ROUTER_NONIP (k : Nat) : Nat := 0x14084 + 0x400 * k
def FWD_SYNC_LOST (k : Nat) : Nat := 0x14088 + 0x400 * k
def FWD_SRCH_CTRL : Nat := 0x15000
def FWD_SRCH_ARG0 : Nat := 0x15004
def FWD_SRCH_ARG1 : Nat := 0x15008
def FWD_SRCH_RES (w : Nat) : Nat := 0x15010 + 0x4 * w
def SWC_POOL_FREE : Nat := 0x40000
def SWC_POOL_SIZE : Nat := 0x40004
def SWC_HEADROOM : Nat := 0x40008
def SWC_MGMT_Q : Nat := 0x4000C
def SWC_RETIRED : Nat := 0x40010
def SWC_MC_SEL : Nat := 0x40100
def SWC_MC_DATA (w : Nat) : Nat := 0x40104 + 0x4 * w
def SWC_HEADROOM_DROP (k : Nat) : Nat := 0x40800 + 0x80 * k
def SWC_DISC_PARTIAL (k : Nat) : Nat := 0x40804 + 0x80 * k
def SWC_DISC_FCS (k : Nat) : Nat := 0x40808 + 0x80 * k
def SWC_DISC_ICV (k : Nat) : Nat := 0x4080C + 0x80 * k
def SWC_DISC_LEN (k : Nat) : Nat := 0x40810 + 0x80 * k
def SWC_STALL_DISC (k : Nat) : Nat := 0x40814 + 0x80 * k
def SWC_MC_EMPTY (k : Nat) : Nat := 0x40818 + 0x80 * k
def SWC_CELL_CORR (k : Nat) : Nat := 0x4081C + 0x80 * k
def SWC_CELL_UNCORR (k : Nat) : Nat := 0x40820 + 0x80 * k
def SWC_Q_OCC (q : Nat) : Nat := 0x44000 + 0x10 * q
def SWC_Q_DROP (q : Nat) : Nat := 0x44004 + 0x10 * q
def SWC_Q_DROP_B (q : Nat) : Nat := 0x44008 + 0x10 * q
def TMG_SHAPER_RATE (n : Nat) : Nat := 0x80000 + 0x10 * n
def TMG_SHAPER_CFG (n : Nat) : Nat := 0x80004 + 0x10 * n
def TMG_SHAPER_OVH (n : Nat) : Nat := 0x80008 + 0x10 * n
def TMG_SHAPER_TOKENS (n : Nat) : Nat := 0x8000C + 0x10 * n
def TMG_POL_CIR (m : Nat) : Nat := 0xA0000 + 0x20 * m
def TMG_POL_PIR (m : Nat) : Nat := 0xA0004 + 0x20 * m
def TMG_POL_CBS (m : Nat) : Nat := 0xA0008 + 0x20 * m
def TMG_POL_EBS (m : Nat) : Nat := 0xA000C + 0x20 * m
def TMG_POL_MODE (m : Nat) : Nat := 0xA0010 + 0x20 * m
def TMG_POL_GREEN (m : Nat) : Nat := 0xA0014 + 0x20 * m
def TMG_POL_YELLOW (m : Nat) : Nat := 0xA0018 + 0x20 * m
def TMG_POL_RED (m : Nat) : Nat := 0xA001C + 0x20 * m
def TMG_Q_SCHED (q : Nat) : Nat := 0xE0000 + 0x10 * q
def TMG_Q_HWM_DEPTH (q : Nat) : Nat := 0xE0004 + 0x10 * q
def TMG_Q_HWM_SOJ (q : Nat) : Nat := 0xE0008 + 0x10 * q
def TMG_Q_TX (q : Nat) : Nat := 0xE000C + 0x10 * q
def CPH_SLICE_STATUS (s : Nat) : Nat := 0x20000 + 0x4 * s
def CPH_CAP_DROP (k : Nat) : Nat := 0x20100 + 0x20 * k
def CPH_HOLD (k : Nat) : Nat := 0x20104 + 0x20 * k
def CPH_RX_UNTAGGED (n : Nat) : Nat := 0x21000 + 0x40 * n
def CPH_RX_BYPASS (n : Nat) : Nat := 0x21004 + 0x40 * n
def CPH_RX_BAD_TAG (n : Nat) : Nat := 0x21008 + 0x40 * n
def CPH_RX_NO_SC (n : Nat) : Nat := 0x2100C + 0x40 * n
def CPH_RX_NO_SA (n : Nat) : Nat := 0x21010 + 0x40 * n
def CPH_RX_LONG (n : Nat) : Nat := 0x21014 + 0x40 * n
def CPH_RX_SHORT (n : Nat) : Nat := 0x21018 + 0x40 * n
def CPH_RX_DEN_SHORT (n : Nat) : Nat := 0x2101C + 0x40 * n
def CPH_RX_RESUMED (n : Nat) : Nat := 0x21020 + 0x40 * n
def CPH_TX_LONG (n : Nat) : Nat := 0x21024 + 0x40 * n
def CPH_TX_PAD (n : Nat) : Nat := 0x21028 + 0x40 * n
def CPH_TX_ABORT (n : Nat) : Nat := 0x2102C + 0x40 * n
def CPH_TX_REWOUND (n : Nat) : Nat := 0x21030 + 0x40 * n
def CPH_BYP (n r : Nat) : Nat := 0x26000 + 0x40 * n + 0x8 * r
def CPH_BYP_HITS (n r : Nat) : Nat := 0x26004 + 0x40 * n + 0x8 * r
def CPH_SA_SEL : Nat := 0x24000
def CPH_SA_STATUS : Nat := 0x24004
def CPH_SA_DATA (w : Nat) : Nat := 0x24010 + 0x4 * w
def SAS_SC_SEL : Nat := 0x0E000
def SAS_SC_STATUS : Nat := 0x0E004
def SAS_SC_EPOCH : Nat := 0x0E008
def SAS_SC_SKIP : Nat := 0x0E010
def SAS_TIME_MODE : Nat := 0x0E200
def SAS_TX_NOSA (k : Nat) : Nat := 0x0E100 + 0x20 * k
def SAS_HOLD_DROP (k : Nat) : Nat := 0x0E104 + 0x20 * k
def SAS_BLOCK_DROP (k : Nat) : Nat := 0x0E108 + 0x20 * k
def SAS_SOFT (k : Nat) : Nat := 0x0E10C + 0x20 * k
def SAS_HARD (k : Nat) : Nat := 0x0E110 + 0x20 * k
def SAS_CONFIRMED (k : Nat) : Nat := 0x0E114 + 0x20 * k
def SAS_LATE (k : Nat) : Nat := 0x0E118 + 0x20 * k
def SAS_RETIRE_FORCED (k : Nat) : Nat := 0x0E11C + 0x20 * k
def SAS_LINK_STATUS (n : Nat) : Nat := 0x0F000 + 0x20 * n
def SAS_LINK_ADOPT (n : Nat) : Nat := 0x0F008 + 0x20 * n
def SAS_KA_OK (n : Nat) : Nat := 0x0F010 + 0x20 * n
def SAS_KA_FAIL (n : Nat) : Nat := 0x0F014 + 0x20 * n
def SAS_CTL_AUTH (n : Nat) : Nat := 0x0F018 + 0x20 * n
def KEY_STATUS : Nat := 0x10000
def KEY_ERASE_COUNT : Nat := 0x10004
def KEY_SLOT_SEL : Nat := 0x10010
def KEY_SLOT_INFO : Nat := 0x10014
def KEY_SLOT_EXPIRY : Nat := 0x10018
def KEY_SLOT_USES : Nat := 0x10020
def KEY_LA_BASE (r : Nat) : Nat := 0x11000 + 0x40 * r
def KEY_LA_CBASE (r : Nat) : Nat := 0x11008 + 0x40 * r
def KEY_LA_CFG (r : Nat) : Nat := 0x11010 + 0x40 * r
def KEY_LA_PROD (r : Nat) : Nat := 0x11014 + 0x40 * r
def KEY_LA_CONS (r : Nat) : Nat := 0x11018 + 0x40 * r
def KEY_LA_CPROD (r : Nat) : Nat := 0x1101C + 0x40 * r
def KEY_LA_STATUS (r : Nat) : Nat := 0x11020 + 0x40 * r
def KEY_LA_DONE (r : Nat) : Nat := 0x11024 + 0x40 * r
def KEY_LA_FAIL (r : Nat) : Nat := 0x11028 + 0x40 * r
def KEY_LA_DMA_ERR (r : Nat) : Nat := 0x1102C + 0x40 * r
def KEY_LA_OVERRUN (r : Nat) : Nat := 0x11030 + 0x40 * r
def PKE_STATUS : Nat := 0x0C000
def PKE_CUR_JOB : Nat := 0x0C004
def PKE_HOST_CFG : Nat := 0x0C008
def PKE_FAULT : Nat := 0x0C00C
def PKE_JOBS_OK : Nat := 0x0C100
def PKE_JOBS_ERR : Nat := 0x0C104
def PKE_FAULTS : Nat := 0x0C108
def PKE_ABORTS : Nat := 0x0C10C
def PKE_WIPES : Nat := 0x0C110
def PKE_MISMATCH : Nat := 0x0C114
def PKE_DMA_ERR : Nat := 0x0C118
def PKE_BUSY_US : Nat := 0x0C120
def VLT_STATUS : Nat := 0x0B000
def VLT_KEYID : Nat := 0x0B004
def VLT_FLUSH : Nat := 0x0B008
def VLT_MISMATCH : Nat := 0x0B00C
def VLT_STACK_STATUS (s : Nat) : Nat := 0x0B010 + 0x4 * s
def VLT_LAST_FAULT : Nat := 0x0B020
def VLT_LAST_FAULT_KIND : Nat := 0x0B024
def VLT_HALT_CAUSE : Nat := 0x0B030
def VLT_HALT_LINE : Nat := 0x0B034
def VLT_ECC_CORR : Nat := 0x0B100
def VLT_REPAIR_ECC : Nat := 0x0B104
def VLT_REPAIR_TAG : Nat := 0x0B108
def VLT_NODE_REPAIR : Nat := 0x0B10C
def VLT_OVERFLOW : Nat := 0x0B110
def VLT_SCRUB_PASS : Nat := 0x0B114
def VLT_CACHE_MISS : Nat := 0x0B118
def VLT_REKEYS : Nat := 0x0B11C
def TIM_NOW : Nat := 0x0A000
def TIM_STATE : Nat := 0x0A010
def TIM_OFFSET : Nat := 0x0A014
def TIM_FREQ : Nat := 0x0A018
def TIM_EST : Nat := 0x0A020
def TIM_HOLD_S : Nat := 0x0A028
def TIM_WHEEL : Nat := 0x0A030
def TIM_STEPS : Nat := 0x0A040
def TIM_TC_FRAMES : Nat := 0x0A044
def TIM_TC_SAT : Nat := 0x0A048
def TIM_TRIG_MISSED (i : Nat) : Nat := 0x0A050 + 0x4 * i
def TIM_TRIG_STATUS (i : Nat) : Nat := 0x0A060 + 0x4 * i
def TIM_CAP (i : Nat) : Nat := 0x0A100 + 0x10 * i
def TIM_CAP_STATUS (i : Nat) : Nat := 0x0A180 + 0x4 * i
def TMP_STATUS : Nat := 0x09000
def TMP_ACTIVE : Nat := 0x09004
def TMP_LATCHED : Nat := 0x09008
def TMP_DISAGREE : Nat := 0x0900C
def TMP_SRC (n : Nat) : Nat := 0x09100 + 0x4 * n
def TMP_READING (n : Nat) : Nat := 0x09200 + 0x4 * n
def TMP_MESH (m : Nat) : Nat := 0x09300 + 0x4 * m
def TMP_LOG_SEL : Nat := 0x09400
def TMP_LOG_DATA (w : Nat) : Nat := 0x09404 + 0x4 * w
def MGT_PAIR_STATUS : Nat := 0x08200
def MGT_HALT : Nat := 0x08204
def MGT_REFCLK : Nat := 0x08208
def MGT_FLASH_STATUS : Nat := 0x0820C
def MGT_MACRO_CORR (k : Nat) : Nat := 0x08210 + 0x4 * k
def MGT_REC_STATUS : Nat := 0x08220
def MGT_REC_RUN : Nat := 0x08224
def MGT_REC_SEQ : Nat := 0x08228
def MGT_REC_LOST : Nat := 0x0822C
def MGT_REC_FLUSHES : Nat := 0x08230
def HST_MB_CBASE (f : Nat) : Nat := 0x00000 + 0x100 * f
def HST_MB_RBASE (f : Nat) : Nat := 0x00008 + 0x100 * f
def HST_MB_CFG (f : Nat) : Nat := 0x00010 + 0x100 * f
def HST_MB_PROD (f : Nat) : Nat := 0x00014 + 0x100 * f
def HST_MB_CONS (f : Nat) : Nat := 0x00018 + 0x100 * f
def HST_MB_RPROD (f : Nat) : Nat := 0x0001C + 0x100 * f
def HST_MB_STATUS (f : Nat) : Nat := 0x00020 + 0x100 * f
def HST_MB_LAST_SEQ (f : Nat) : Nat := 0x00028 + 0x100 * f
def HST_ATTN : Nat := 0x00200
def HST_LINK : Nat := 0x00210
def HST_DEBUG : Nat := 0x00220
def HST_MSIX_TABLE (v w : Nat) : Nat := 0x02000 + 0x10 * v + 0x4 * w
def HST_MSIX_CTRL (v : Nat) : Nat := 0x0200C + 0x10 * v
def HST_MSIX_PBA (i : Nat) : Nat := 0x03000 + 0x4 * i
def ACU_STATUS (u : Nat) : Nat := 0x04000 + 0x400 * u
def ACU_REGION_BASE (u r : Nat) : Nat := 0x04010 + 0x400 * u + 0x8 * r
def ACU_REGION_CFG (u r : Nat) : Nat := 0x04014 + 0x400 * u + 0x8 * r
def ACU_ERR (u : Nat) : Nat := 0x04100 + 0x400 * u
def ACU_DENIED (u : Nat) : Nat := 0x04104 + 0x400 * u
def HLT_PC_SEL (s : Nat) : Nat := 0x50000 + 0x80 * s
def HLT_PC_FILT (s : Nat) : Nat := 0x50004 + 0x80 * s
def HLT_PC_CNT (s j : Nat) : Nat := 0x50020 + 0x80 * s + 0x8 * j
def HLT_PC_GLOBAL : Nat := 0x58000
def HLT_AGE_MON (i : Nat) : Nat := 0x60000 + 0x4 * i
def HLT_AGE_REPL (r : Nat) : Nat := 0x60200 + 0x4 * r
def HLT_AVS_STATUS : Nat := 0x60400
def HLT_AVS_GUARD : Nat := 0x60404
def HLT_AVS_LAST : Nat := 0x60408
def HLT_EOL : Nat := 0x60410
def HLT_EOL_BAND : Nat := 0x60414
def HLT_LANE (l : Nat) : Nat := 0x61000 + 0x4 * l
def HLT_CELL : Nat := 0x62000
def HLT_CELL_USED : Nat := 0x62004
def HLT_CELL_DAYS : Nat := 0x62008
def HLT_FLASH (d : Nat) : Nat := 0x63000 + 0x4 * d
def HLT_FLASH_SECT (d : Nat) : Nat := 0x63010 + 0x4 * d
def MGT_STRAPS : Nat := 0x08300

end R

end Sys2Proof.Machine
end

