-- ==== Sys2Proof/Machine/Fields.lean ====
section
/-! DEFINITION. The fields of the registers, by the manual's names: register, lowest bit, width. -/

namespace Sys2Proof.Machine

/-- A field of a register (R7). -/
structure Fld where
  reg : Nat
  lo  : Nat
  w   : Nat
  deriving DecidableEq, Repr

namespace F

def MGT_START_STATUS_start_kind : Fld := ⟨R.MGT_START_STATUS, 0, 4⟩
def MGT_START_STATUS_step : Fld := ⟨R.MGT_START_STATUS, 4, 5⟩
def MGT_START_STATUS_configured : Fld := ⟨R.MGT_START_STATUS, 9, 1⟩
def MGT_START_STATUS_quarantined : Fld := ⟨R.MGT_START_STATUS, 10, 1⟩
def MGT_START_STATUS_safe_state : Fld := ⟨R.MGT_START_STATUS, 11, 1⟩
def MGT_START_STATUS_debug_root : Fld := ⟨R.MGT_START_STATUS, 12, 1⟩
def MGT_START_STATUS_slot_running : Fld := ⟨R.MGT_START_STATUS, 13, 1⟩
def MGT_START_STATUS_slot_fallback : Fld := ⟨R.MGT_START_STATUS, 14, 1⟩
def MGT_START_STATUS_device_fallback : Fld := ⟨R.MGT_START_STATUS, 15, 1⟩
def MGT_START_STATUS_last_fail_step : Fld := ⟨R.MGT_START_STATUS, 16, 8⟩
def MGT_START_CAUSE_power_on : Fld := ⟨R.MGT_START_CAUSE, 0, 1⟩
def MGT_START_CAUSE_reset_input : Fld := ⟨R.MGT_START_CAUSE, 1, 1⟩
def MGT_START_CAUSE_host_command : Fld := ⟨R.MGT_START_CAUSE, 2, 1⟩
def MGT_START_CAUSE_escalated : Fld := ⟨R.MGT_START_CAUSE, 3, 1⟩
def MGT_START_CAUSE_retry : Fld := ⟨R.MGT_START_CAUSE, 4, 1⟩
def MGT_START_CAUSE_cold_only_change : Fld := ⟨R.MGT_START_CAUSE, 5, 1⟩
def MGT_START_CAUSE_watchdog : Fld := ⟨R.MGT_START_CAUSE, 6, 1⟩
def MGT_START_CAUSE_scrub_error : Fld := ⟨R.MGT_START_CAUSE, 7, 1⟩
def MGT_START_CAUSE_ignored_causes : Fld := ⟨R.MGT_START_CAUSE, 8, 8⟩
def MGT_SLOT_STATUS_reject_code (s : Nat) : Fld := ⟨(R.MGT_SLOT_STATUS s), 0, 8⟩
def MGT_SLOT_STATUS_valid (s : Nat) : Fld := ⟨(R.MGT_SLOT_STATUS s), 8, 1⟩
def MGT_SLOT_STATUS_preferred (s : Nat) : Fld := ⟨(R.MGT_SLOT_STATUS s), 9, 1⟩
def MGT_SLOT_STATUS_device1_only (s : Nat) : Fld := ⟨(R.MGT_SLOT_STATUS s), 10, 1⟩
def MGT_SLOT_FAIL_OFFSET_value (s : Nat) : Fld := ⟨(R.MGT_SLOT_FAIL_OFFSET s), 0, 32⟩
def MGT_SLOT_SEQ_value (s : Nat) : Fld := ⟨(R.MGT_SLOT_SEQ s), 0, 32⟩
def MGT_SLOT_FWVER_value (s : Nat) : Fld := ⟨(R.MGT_SLOT_FWVER s), 0, 32⟩
def MGT_ROLLBACK_FW_value : Fld := ⟨R.MGT_ROLLBACK_FW, 0, 32⟩
def MGT_ROLLBACK_CFG_value : Fld := ⟨R.MGT_ROLLBACK_CFG, 0, 32⟩
def MGT_ROLLBACK_LEFT_fw : Fld := ⟨R.MGT_ROLLBACK_LEFT, 0, 7⟩
def MGT_ROLLBACK_LEFT_cfg : Fld := ⟨R.MGT_ROLLBACK_LEFT, 8, 7⟩
def MGT_IMAGE_SKIPPED_value : Fld := ⟨R.MGT_IMAGE_SKIPPED, 0, 32⟩
def MGT_JOURNAL_STALE_value : Fld := ⟨R.MGT_JOURNAL_STALE, 0, 32⟩
def SWC_START_DISC_frames : Fld := ⟨R.SWC_START_DISC, 0, 32⟩
def TMP_START_FAILS_count : Fld := ⟨R.TMP_START_FAILS, 0, 2⟩
def TMP_START_FAILS_safe_latched : Fld := ⟨R.TMP_START_FAILS, 2, 1⟩
def TMP_START_FAILS_newest_age : Fld := ⟨R.TMP_START_FAILS, 16, 16⟩
def PRT_CFG_port_mode (n : Nat) : Fld := ⟨(R.PRT_CFG n), 0, 4⟩
def PRT_CFG_fec (n : Nat) : Fld := ⟨(R.PRT_CFG n), 4, 2⟩
def PRT_CFG_encap (n : Nat) : Fld := ⟨(R.PRT_CFG n), 6, 2⟩
def PRT_CFG_lanes (n : Nat) : Fld := ⟨(R.PRT_CFG n), 8, 5⟩
def PRT_CFG_paired (n : Nat) : Fld := ⟨(R.PRT_CFG n), 13, 1⟩
def PRT_CFG_tfc (n : Nat) : Fld := ⟨(R.PRT_CFG n), 14, 1⟩
def PRT_CFG_managed (n : Nat) : Fld := ⟨(R.PRT_CFG n), 15, 1⟩
def PRT_STATUS_signal (n : Nat) : Fld := ⟨(R.PRT_STATUS n), 0, 1⟩
def PRT_STATUS_cdr_lock (n : Nat) : Fld := ⟨(R.PRT_STATUS n), 1, 1⟩
def PRT_STATUS_am_lock (n : Nat) : Fld := ⟨(R.PRT_STATUS n), 2, 1⟩
def PRT_STATUS_pcs_ready (n : Nat) : Fld := ⟨(R.PRT_STATUS n), 3, 1⟩
def PRT_STATUS_link_up (n : Nat) : Fld := ⟨(R.PRT_STATUS n), 4, 1⟩
def PRT_STATUS_local_fault_rx (n : Nat) : Fld := ⟨(R.PRT_STATUS n), 5, 1⟩
def PRT_STATUS_remote_fault_rx (n : Nat) : Fld := ⟨(R.PRT_STATUS n), 6, 1⟩
def PRT_STATUS_ais_rx (n : Nat) : Fld := ⟨(R.PRT_STATUS n), 7, 1⟩
def PRT_STATUS_ais_tx (n : Nat) : Fld := ⟨(R.PRT_STATUS n), 8, 1⟩
def PRT_STATUS_partner_up (n : Nat) : Fld := ⟨(R.PRT_STATUS n), 9, 1⟩
def PRT_STATUS_partner_changed (n : Nat) : Fld := ⟨(R.PRT_STATUS n), 10, 1⟩
def PRT_STATUS_link_changed (n : Nat) : Fld := ⟨(R.PRT_STATUS n), 11, 1⟩
def PRT_STATUS_tfc_mismatch (n : Nat) : Fld := ⟨(R.PRT_STATUS n), 12, 1⟩
def PRT_STATUS_link_downs (n : Nat) : Fld := ⟨(R.PRT_STATUS n), 16, 16⟩
def PRT_DEN_STATUS_state (n : Nat) : Fld := ⟨(R.PRT_DEN_STATUS n), 0, 2⟩
def PRT_DEN_STATUS_presync_count (n : Nat) : Fld := ⟨(R.PRT_DEN_STATUS n), 2, 2⟩
def PRT_DEN_STATUS_bad_run (n : Nat) : Fld := ⟨(R.PRT_DEN_STATUS n), 4, 2⟩
def PRT_DEN_STATUS_seq_known (n : Nat) : Fld := ⟨(R.PRT_DEN_STATUS n), 6, 1⟩
def PRT_DEN_STATUS_rx_an (n : Nat) : Fld := ⟨(R.PRT_DEN_STATUS n), 7, 2⟩
def PRT_DEN_STATUS_rx_rdi (n : Nat) : Fld := ⟨(R.PRT_DEN_STATUS n), 9, 1⟩
def PRT_DEN_STATUS_tx_rdi (n : Nat) : Fld := ⟨(R.PRT_DEN_STATUS n), 10, 1⟩
def PRT_DEN_STATUS_tfc_active (n : Nat) : Fld := ⟨(R.PRT_DEN_STATUS n), 11, 1⟩
def PRT_DEFECT_current (n : Nat) : Fld := ⟨(R.PRT_DEFECT n), 0, 9⟩
def PRT_DEFECT_sf (n : Nat) : Fld := ⟨(R.PRT_DEFECT n), 9, 1⟩
def PRT_DEFECT_rd_tx (n : Nat) : Fld := ⟨(R.PRT_DEFECT n), 10, 1⟩
def PRT_DEFECT_latched (n : Nat) : Fld := ⟨(R.PRT_DEFECT n), 16, 9⟩
def PRT_MOD_STATUS_mod_state (n : Nat) : Fld := ⟨(R.PRT_MOD_STATUS n), 0, 3⟩
def PRT_MOD_STATUS_present (n : Nat) : Fld := ⟨(R.PRT_MOD_STATUS n), 3, 1⟩
def PRT_MOD_STATUS_tx_disabled (n : Nat) : Fld := ⟨(R.PRT_MOD_STATUS n), 4, 1⟩
def PRT_MOD_STATUS_master_failed (n : Nat) : Fld := ⟨(R.PRT_MOD_STATUS n), 5, 1⟩
def PRT_MOD_STATUS_temperature (n : Nat) : Fld := ⟨(R.PRT_MOD_STATUS n), 8, 8⟩
def PRT_MOD_STATUS_temp_flag (n : Nat) : Fld := ⟨(R.PRT_MOD_STATUS n), 16, 1⟩
def PRT_MOD_STATUS_vcc_flag (n : Nat) : Fld := ⟨(R.PRT_MOD_STATUS n), 17, 1⟩
def PRT_MOD_STATUS_rx_los_flag (n : Nat) : Fld := ⟨(R.PRT_MOD_STATUS n), 18, 1⟩
def PRT_PEER_partner_known (n : Nat) : Fld := ⟨(R.PRT_PEER n), 0, 1⟩
def PRT_PEER_two_way (n : Nat) : Fld := ⟨(R.PRT_PEER n), 1, 1⟩
def PRT_PEER_partner_port (n : Nat) : Fld := ⟨(R.PRT_PEER n), 8, 8⟩
def PRT_PEER_peer_entry (n : Nat) : Fld := ⟨(R.PRT_PEER n), 16, 16⟩
def PRT_I2C_STATUS_failed (m : Nat) : Fld := ⟨(R.PRT_I2C_STATUS m), 0, 1⟩
def PRT_I2C_STATUS_recovered (m : Nat) : Fld := ⟨(R.PRT_I2C_STATUS m), 1, 1⟩
def PRT_I2C_STATUS_cages (m : Nat) : Fld := ⟨(R.PRT_I2C_STATUS m), 8, 8⟩
def PRT_I2C_STATUS_stuck_events (m : Nat) : Fld := ⟨(R.PRT_I2C_STATUS m), 16, 16⟩
def PRT_PM_CTRL_kind : Fld := ⟨R.PRT_PM_CTRL, 0, 1⟩
def PRT_PM_CTRL_index : Fld := ⟨R.PRT_PM_CTRL, 1, 16⟩
def PRT_PM_CTRL_bin : Fld := ⟨R.PRT_PM_CTRL, 17, 6⟩
def PRT_PM_CTRL_go : Fld := ⟨R.PRT_PM_CTRL, 23, 1⟩
def PRT_PM_STATUS_busy : Fld := ⟨R.PRT_PM_STATUS, 0, 1⟩
def PRT_PM_STATUS_valid : Fld := ⟨R.PRT_PM_STATUS, 1, 1⟩
def PRT_PM_STATUS_bad_select : Fld := ⟨R.PRT_PM_STATUS, 2, 1⟩
def PRT_PM_DATA_data (w : Nat) : Fld := ⟨(R.PRT_PM_DATA w), 0, 32⟩
def PRT_PM_CH_DEFECT_csf : Fld := ⟨R.PRT_PM_CH_DEFECT, 0, 1⟩
def PRT_PM_CH_DEFECT_cnosa : Fld := ⟨R.PRT_PM_CH_DEFECT, 1, 1⟩
def PRT_PM_CH_DEFECT_rd_tx : Fld := ⟨R.PRT_PM_CH_DEFECT, 2, 1⟩
def PRT_PM_TCA_index : Fld := ⟨R.PRT_PM_TCA, 0, 16⟩
def PRT_PM_TCA_kind : Fld := ⟨R.PRT_PM_TCA, 16, 1⟩
def PRT_PM_TCA_parameter : Fld := ⟨R.PRT_PM_TCA, 17, 3⟩
def PRT_PM_TCA_day : Fld := ⟨R.PRT_PM_TCA, 20, 1⟩
def PRT_PM_TCA_valid : Fld := ⟨R.PRT_PM_TCA, 31, 1⟩
def PRT_PM_TCA_LOST_lost : Fld := ⟨R.PRT_PM_TCA_LOST, 0, 32⟩
def FLW_CL_STATUS_spare_ready (c : Nat) : Fld := ⟨(R.FLW_CL_STATUS c), 0, 1⟩
def FLW_CL_STATUS_spare_active (c : Nat) : Fld := ⟨(R.FLW_CL_STATUS c), 1, 1⟩
def FLW_CL_STATUS_replaced (c : Nat) : Fld := ⟨(R.FLW_CL_STATUS c), 2, 4⟩
def FLW_CL_STATUS_second_fault (c : Nat) : Fld := ⟨(R.FLW_CL_STATUS c), 6, 1⟩
def FLW_CL_STATUS_bundles (c : Nat) : Fld := ⟨(R.FLW_CL_STATUS c), 7, 12⟩
def FLW_CL_STATUS_overlay_active (c : Nat) : Fld := ⟨(R.FLW_CL_STATUS c), 19, 1⟩
def FLW_CL_ECC_corrected (c : Nat) : Fld := ⟨(R.FLW_CL_ECC c), 0, 16⟩
def FLW_CL_ECC_uncorrectable (c : Nat) : Fld := ⟨(R.FLW_CL_ECC c), 16, 16⟩
def FLW_ENG_STATUS_state (s : Nat) : Fld := ⟨(R.FLW_ENG_STATUS s), 0, 2⟩
def FLW_ENG_STATUS_port_dir (s : Nat) : Fld := ⟨(R.FLW_ENG_STATUS s), 2, 4⟩
def FLW_ENG_STATUS_parity (s : Nat) : Fld := ⟨(R.FLW_ENG_STATUS s), 6, 1⟩
def FLW_ENG_STATUS_residue (s : Nat) : Fld := ⟨(R.FLW_ENG_STATUS s), 7, 1⟩
def FLW_ENG_STATUS_watchdog (s : Nat) : Fld := ⟨(R.FLW_ENG_STATUS s), 8, 1⟩
def FLW_PD_HWM_inflight_max (n : Nat) : Fld := ⟨(R.FLW_PD_HWM n), 0, 5⟩
def FLW_PD_HWM_cycles_max (n : Nat) : Fld := ⟨(R.FLW_PD_HWM n), 8, 12⟩
def FLW_CNT_SEL_cluster : Fld := ⟨R.FLW_CNT_SEL, 0, 4⟩
def FLW_CNT_SEL_index : Fld := ⟨R.FLW_CNT_SEL, 4, 13⟩
def FLW_CNT_SEL_clear : Fld := ⟨R.FLW_CNT_SEL, 17, 1⟩
def FLW_CNT_SEL_go : Fld := ⟨R.FLW_CNT_SEL, 18, 1⟩
def FLW_CNT_DATA_value (w : Nat) : Fld := ⟨(R.FLW_CNT_DATA w), 0, 32⟩
def FWD_MAC_STATUS_used (k : Nat) : Fld := ⟨(R.FWD_MAC_STATUS k), 0, 18⟩
def FWD_MAC_STATUS_move_busy (k : Nat) : Fld := ⟨(R.FWD_MAC_STATUS k), 18, 1⟩
def FWD_MAC_STATUS_max_chain (k : Nat) : Fld := ⟨(R.FWD_MAC_STATUS k), 19, 4⟩
def FWD_MAC_STATUS_sweep_active (k : Nat) : Fld := ⟨(R.FWD_MAC_STATUS k), 23, 1⟩
def FWD_MAC_STATIC_static (k : Nat) : Fld := ⟨(R.FWD_MAC_STATIC k), 0, 18⟩
def FWD_LPM_STATUS_v4_used (k : Nat) : Fld := ⟨(R.FWD_LPM_STATUS k), 0, 15⟩
def FWD_LPM_STATUS_v6_used (k : Nat) : Fld := ⟨(R.FWD_LPM_STATUS k), 15, 14⟩
def FWD_LPM_STATUS_op_busy (k : Nat) : Fld := ⟨(R.FWD_LPM_STATUS k), 29, 1⟩
def FWD_SRCH_CTRL_pipeline : Fld := ⟨R.FWD_SRCH_CTRL, 0, 2⟩
def FWD_SRCH_CTRL_op : Fld := ⟨R.FWD_SRCH_CTRL, 2, 2⟩
def FWD_SRCH_CTRL_go : Fld := ⟨R.FWD_SRCH_CTRL, 4, 1⟩
def FWD_SRCH_CTRL_busy : Fld := ⟨R.FWD_SRCH_CTRL, 5, 1⟩
def FWD_SRCH_CTRL_found : Fld := ⟨R.FWD_SRCH_CTRL, 6, 1⟩
def FWD_SRCH_ARG0_arg0 : Fld := ⟨R.FWD_SRCH_ARG0, 0, 32⟩
def FWD_SRCH_ARG1_mac_hi : Fld := ⟨R.FWD_SRCH_ARG1, 0, 16⟩
def FWD_SRCH_ARG1_fid : Fld := ⟨R.FWD_SRCH_ARG1, 16, 12⟩
def FWD_SRCH_RES_value (w : Nat) : Fld := ⟨(R.FWD_SRCH_RES w), 0, 32⟩
def SWC_POOL_FREE_free : Fld := ⟨R.SWC_POOL_FREE, 0, 19⟩
def SWC_POOL_SIZE_shared : Fld := ⟨R.SWC_POOL_SIZE, 0, 19⟩
def SWC_HEADROOM_used : Fld := ⟨R.SWC_HEADROOM, 0, 16⟩
def SWC_HEADROOM_used_max : Fld := ⟨R.SWC_HEADROOM, 16, 16⟩
def SWC_MGMT_Q_occ : Fld := ⟨R.SWC_MGMT_Q, 0, 11⟩
def SWC_MGMT_Q_punt_drop : Fld := ⟨R.SWC_MGMT_Q, 16, 16⟩
def SWC_RETIRED_cells : Fld := ⟨R.SWC_RETIRED, 0, 16⟩
def SWC_MC_SEL_group : Fld := ⟨R.SWC_MC_SEL, 0, 14⟩
def SWC_MC_SEL_go : Fld := ⟨R.SWC_MC_SEL, 14, 1⟩
def SWC_MC_DATA_members (w : Nat) : Fld := ⟨(R.SWC_MC_DATA w), 0, 32⟩
def SWC_Q_OCC_occ (q : Nat) : Fld := ⟨(R.SWC_Q_OCC q), 0, 19⟩
def SWC_Q_OCC_stalled (q : Nat) : Fld := ⟨(R.SWC_Q_OCC q), 19, 1⟩
def SWC_Q_OCC_refusing (q : Nat) : Fld := ⟨(R.SWC_Q_OCC q), 20, 1⟩
def SWC_Q_OCC_profile (q : Nat) : Fld := ⟨(R.SWC_Q_OCC q), 21, 4⟩
def TMG_SHAPER_RATE_rate_kbps (n : Nat) : Fld := ⟨(R.TMG_SHAPER_RATE n), 0, 32⟩
def TMG_SHAPER_CFG_burst (n : Nat) : Fld := ⟨(R.TMG_SHAPER_CFG n), 0, 24⟩
def TMG_SHAPER_CFG_enable (n : Nat) : Fld := ⟨(R.TMG_SHAPER_CFG n), 24, 1⟩
def TMG_SHAPER_CFG_len_mode (n : Nat) : Fld := ⟨(R.TMG_SHAPER_CFG n), 25, 1⟩
def TMG_SHAPER_CFG_scope (n : Nat) : Fld := ⟨(R.TMG_SHAPER_CFG n), 26, 2⟩
def TMG_SHAPER_CFG_holding (n : Nat) : Fld := ⟨(R.TMG_SHAPER_CFG n), 28, 1⟩
def TMG_SHAPER_OVH_overhead (n : Nat) : Fld := ⟨(R.TMG_SHAPER_OVH n), 0, 8⟩
def TMG_SHAPER_TOKENS_tokens (n : Nat) : Fld := ⟨(R.TMG_SHAPER_TOKENS n), 0, 32⟩
def TMG_POL_CIR_cir (m : Nat) : Fld := ⟨(R.TMG_POL_CIR m), 0, 32⟩
def TMG_POL_PIR_pir (m : Nat) : Fld := ⟨(R.TMG_POL_PIR m), 0, 32⟩
def TMG_POL_CBS_cbs (m : Nat) : Fld := ⟨(R.TMG_POL_CBS m), 0, 24⟩
def TMG_POL_EBS_ebs (m : Nat) : Fld := ⟨(R.TMG_POL_EBS m), 0, 24⟩
def TMG_POL_MODE_two_rate (m : Nat) : Fld := ⟨(R.TMG_POL_MODE m), 0, 1⟩
def TMG_POL_MODE_colour_aware (m : Nat) : Fld := ⟨(R.TMG_POL_MODE m), 1, 1⟩
def TMG_POL_MODE_colour_src (m : Nat) : Fld := ⟨(R.TMG_POL_MODE m), 2, 1⟩
def TMG_POL_MODE_len_mode (m : Nat) : Fld := ⟨(R.TMG_POL_MODE m), 3, 1⟩
def TMG_POL_MODE_yellow_action (m : Nat) : Fld := ⟨(R.TMG_POL_MODE m), 4, 2⟩
def TMG_POL_MODE_red_action (m : Nat) : Fld := ⟨(R.TMG_POL_MODE m), 6, 2⟩
def TMG_POL_MODE_overhead (m : Nat) : Fld := ⟨(R.TMG_POL_MODE m), 8, 8⟩
def TMG_POL_MODE_enabled (m : Nat) : Fld := ⟨(R.TMG_POL_MODE m), 16, 1⟩
def TMG_Q_SCHED_level (q : Nat) : Fld := ⟨(R.TMG_Q_SCHED q), 0, 3⟩
def TMG_Q_SCHED_weight (q : Nat) : Fld := ⟨(R.TMG_Q_SCHED q), 3, 8⟩
def TMG_Q_SCHED_backlogged (q : Nat) : Fld := ⟨(R.TMG_Q_SCHED q), 11, 1⟩
def TMG_Q_SCHED_head_held (q : Nat) : Fld := ⟨(R.TMG_Q_SCHED q), 12, 1⟩
def TMG_Q_HWM_DEPTH_depth_max (q : Nat) : Fld := ⟨(R.TMG_Q_HWM_DEPTH q), 0, 19⟩
def TMG_Q_HWM_SOJ_sojourn_max (q : Nat) : Fld := ⟨(R.TMG_Q_HWM_SOJ q), 0, 32⟩
def TMG_Q_TX_frames (q : Nat) : Fld := ⟨(R.TMG_Q_TX q), 0, 32⟩
def CPH_SLICE_STATUS_state (s : Nat) : Fld := ⟨(R.CPH_SLICE_STATUS s), 0, 2⟩
def CPH_SLICE_STATUS_pipeline (s : Nat) : Fld := ⟨(R.CPH_SLICE_STATUS s), 2, 2⟩
def CPH_SLICE_STATUS_spare_ready (s : Nat) : Fld := ⟨(R.CPH_SLICE_STATUS s), 4, 1⟩
def CPH_SLICE_STATUS_aes_parity (s : Nat) : Fld := ⟨(R.CPH_SLICE_STATUS s), 5, 1⟩
def CPH_SLICE_STATUS_key_parity (s : Nat) : Fld := ⟨(R.CPH_SLICE_STATUS s), 6, 1⟩
def CPH_SLICE_STATUS_counter_parity (s : Nat) : Fld := ⟨(R.CPH_SLICE_STATUS s), 7, 1⟩
def CPH_SLICE_STATUS_ghash_residue (s : Nat) : Fld := ⟨(R.CPH_SLICE_STATUS s), 8, 1⟩
def CPH_SLICE_STATUS_selftest_fail (s : Nat) : Fld := ⟨(R.CPH_SLICE_STATUS s), 9, 1⟩
def CPH_CAP_DROP_frames (k : Nat) : Fld := ⟨(R.CPH_CAP_DROP k), 0, 32⟩
def CPH_HOLD_used (k : Nat) : Fld := ⟨(R.CPH_HOLD k), 0, 14⟩
def CPH_HOLD_used_max (k : Nat) : Fld := ⟨(R.CPH_HOLD k), 16, 14⟩
def CPH_BYP_kind (n r : Nat) : Fld := ⟨(R.CPH_BYP n r), 0, 2⟩
def CPH_BYP_mask (n r : Nat) : Fld := ⟨(R.CPH_BYP n r), 8, 8⟩
def CPH_BYP_value (n r : Nat) : Fld := ⟨(R.CPH_BYP n r), 16, 16⟩
def CPH_SA_SEL_sa : Fld := ⟨R.CPH_SA_SEL, 0, 17⟩
def CPH_SA_SEL_clear : Fld := ⟨R.CPH_SA_SEL, 17, 1⟩
def CPH_SA_SEL_go : Fld := ⟨R.CPH_SA_SEL, 18, 1⟩
def CPH_SA_STATUS_busy : Fld := ⟨R.CPH_SA_STATUS, 0, 1⟩
def CPH_SA_STATUS_installed : Fld := ⟨R.CPH_SA_STATUS, 1, 1⟩
def CPH_SA_STATUS_dir : Fld := ⟨R.CPH_SA_STATUS, 2, 1⟩
def CPH_SA_STATUS_suite : Fld := ⟨R.CPH_SA_STATUS, 3, 3⟩
def CPH_SA_STATUS_an : Fld := ⟨R.CPH_SA_STATUS, 6, 2⟩
def CPH_SA_STATUS_sc : Fld := ⟨R.CPH_SA_STATUS, 8, 16⟩
def CPH_SA_STATUS_offset : Fld := ⟨R.CPH_SA_STATUS, 24, 2⟩
def CPH_SA_STATUS_explicit_sci : Fld := ⟨R.CPH_SA_STATUS, 26, 1⟩
def CPH_SA_DATA_frames (w : Nat) : Fld := ⟨(R.CPH_SA_DATA w), 0, 32⟩
def CPH_SA_DATA_octets (w : Nat) : Fld := ⟨(R.CPH_SA_DATA w), 0, 32⟩
def CPH_SA_DATA_fail (w : Nat) : Fld := ⟨(R.CPH_SA_DATA w), 0, 32⟩
def CPH_SA_DATA_replay_or_next (w : Nat) : Fld := ⟨(R.CPH_SA_DATA w), 0, 32⟩
def CPH_SA_DATA_next_pn (w : Nat) : Fld := ⟨(R.CPH_SA_DATA w), 0, 32⟩
def CPH_SA_DATA_window (w : Nat) : Fld := ⟨(R.CPH_SA_DATA w), 0, 32⟩
def SAS_SC_SEL_sc : Fld := ⟨R.SAS_SC_SEL, 0, 16⟩
def SAS_SC_SEL_go : Fld := ⟨R.SAS_SC_SEL, 16, 1⟩
def SAS_SC_STATUS_busy : Fld := ⟨R.SAS_SC_STATUS, 0, 1⟩
def SAS_SC_STATUS_valid : Fld := ⟨R.SAS_SC_STATUS, 1, 1⟩
def SAS_SC_STATUS_dir : Fld := ⟨R.SAS_SC_STATUS, 2, 1⟩
def SAS_SC_STATUS_key_mode : Fld := ⟨R.SAS_SC_STATUS, 3, 2⟩
def SAS_SC_STATUS_state : Fld := ⟨R.SAS_SC_STATUS, 5, 3⟩
def SAS_SC_STATUS_an : Fld := ⟨R.SAS_SC_STATUS, 8, 2⟩
def SAS_SC_STATUS_soft : Fld := ⟨R.SAS_SC_STATUS, 10, 1⟩
def SAS_SC_STATUS_hard : Fld := ⟨R.SAS_SC_STATUS, 11, 1⟩
def SAS_SC_STATUS_confirmed : Fld := ⟨R.SAS_SC_STATUS, 12, 1⟩
def SAS_SC_STATUS_late : Fld := ⟨R.SAS_SC_STATUS, 13, 1⟩
def SAS_SC_STATUS_profile : Fld := ⟨R.SAS_SC_STATUS, 14, 4⟩
def SAS_TIME_MODE_confirmed : Fld := ⟨R.SAS_TIME_MODE, 0, 16⟩
def SAS_LINK_STATUS_secret (n : Nat) : Fld := ⟨(R.SAS_LINK_STATUS n), 0, 2⟩
def SAS_LINK_STATUS_agreeing (n : Nat) : Fld := ⟨(R.SAS_LINK_STATUS n), 2, 1⟩
def SAS_LINK_STATUS_initiator (n : Nat) : Fld := ⟨(R.SAS_LINK_STATUS n), 3, 1⟩
def SAS_LINK_STATUS_holding (n : Nat) : Fld := ⟨(R.SAS_LINK_STATUS n), 4, 1⟩
def SAS_LINK_STATUS_last_reject (n : Nat) : Fld := ⟨(R.SAS_LINK_STATUS n), 8, 8⟩
def KEY_STATUS_root : Fld := ⟨R.KEY_STATUS, 0, 2⟩
def KEY_STATUS_share_present : Fld := ⟨R.KEY_STATUS, 2, 1⟩
def KEY_STATUS_quarantined : Fld := ⟨R.KEY_STATUS, 3, 1⟩
def KEY_STATUS_lifecycle : Fld := ⟨R.KEY_STATUS, 4, 3⟩
def KEY_STATUS_owner_entries : Fld := ⟨R.KEY_STATUS, 7, 3⟩
def KEY_STATUS_rbg_ok : Fld := ⟨R.KEY_STATUS, 10, 1⟩
def KEY_STATUS_rbg_fault : Fld := ⟨R.KEY_STATUS, 11, 1⟩
def KEY_STATUS_la_engine0_fenced : Fld := ⟨R.KEY_STATUS, 12, 1⟩
def KEY_STATUS_la_engine1_fenced : Fld := ⟨R.KEY_STATUS, 13, 1⟩
def KEY_ERASE_COUNT_erases : Fld := ⟨R.KEY_ERASE_COUNT, 0, 32⟩
def KEY_SLOT_SEL_slot : Fld := ⟨R.KEY_SLOT_SEL, 0, 10⟩
def KEY_SLOT_SEL_go : Fld := ⟨R.KEY_SLOT_SEL, 10, 1⟩
def KEY_SLOT_INFO_source : Fld := ⟨R.KEY_SLOT_INFO, 0, 2⟩
def KEY_SLOT_INFO_length : Fld := ⟨R.KEY_SLOT_INFO, 2, 2⟩
def KEY_SLOT_INFO_dest : Fld := ⟨R.KEY_SLOT_INFO, 4, 5⟩
def KEY_SLOT_INFO_ops : Fld := ⟨R.KEY_SLOT_INFO, 9, 11⟩
def KEY_SLOT_INFO_owner : Fld := ⟨R.KEY_SLOT_INFO, 20, 1⟩
def KEY_SLOT_INFO_persistent : Fld := ⟨R.KEY_SLOT_INFO, 21, 1⟩
def KEY_SLOT_INFO_filled : Fld := ⟨R.KEY_SLOT_INFO, 22, 1⟩
def KEY_SLOT_INFO_system : Fld := ⟨R.KEY_SLOT_INFO, 23, 1⟩
def KEY_LA_CFG_log2_entries (r : Nat) : Fld := ⟨(R.KEY_LA_CFG r), 0, 4⟩
def KEY_LA_CFG_enable (r : Nat) : Fld := ⟨(R.KEY_LA_CFG r), 4, 1⟩
def KEY_LA_CFG_reset (r : Nat) : Fld := ⟨(R.KEY_LA_CFG r), 5, 1⟩
def KEY_LA_CFG_vector (r : Nat) : Fld := ⟨(R.KEY_LA_CFG r), 6, 6⟩
def KEY_LA_PROD_prod (r : Nat) : Fld := ⟨(R.KEY_LA_PROD r), 0, 16⟩
def KEY_LA_CONS_cons (r : Nat) : Fld := ⟨(R.KEY_LA_CONS r), 0, 16⟩
def KEY_LA_CPROD_cprod (r : Nat) : Fld := ⟨(R.KEY_LA_CPROD r), 0, 16⟩
def KEY_LA_STATUS_running (r : Nat) : Fld := ⟨(R.KEY_LA_STATUS r), 0, 1⟩
def KEY_LA_STATUS_dma_error (r : Nat) : Fld := ⟨(R.KEY_LA_STATUS r), 1, 1⟩
def KEY_LA_STATUS_in_flight (r : Nat) : Fld := ⟨(R.KEY_LA_STATUS r), 2, 3⟩
def PKE_STATUS_busy : Fld := ⟨R.PKE_STATUS, 0, 1⟩
def PKE_STATUS_context : Fld := ⟨R.PKE_STATUS, 1, 1⟩
def PKE_STATUS_clean : Fld := ⟨R.PKE_STATUS, 2, 1⟩
def PKE_STATUS_wiping : Fld := ⟨R.PKE_STATUS, 3, 1⟩
def PKE_STATUS_fenced : Fld := ⟨R.PKE_STATUS, 4, 1⟩
def PKE_STATUS_opcode : Fld := ⟨R.PKE_STATUS, 8, 8⟩
def PKE_STATUS_host_queued : Fld := ⟨R.PKE_STATUS, 16, 7⟩
def PKE_CUR_JOB_job : Fld := ⟨R.PKE_CUR_JOB, 0, 32⟩
def PKE_HOST_CFG_host_enable : Fld := ⟨R.PKE_HOST_CFG, 0, 1⟩
def PKE_HOST_CFG_host_depth : Fld := ⟨R.PKE_HOST_CFG, 1, 7⟩
def PKE_HOST_CFG_host_weight : Fld := ⟨R.PKE_HOST_CFG, 8, 4⟩
def PKE_HOST_CFG_fw_weight : Fld := ⟨R.PKE_HOST_CFG, 12, 4⟩
def PKE_HOST_CFG_vector : Fld := ⟨R.PKE_HOST_CFG, 16, 6⟩
def PKE_HOST_CFG_host_max_nw : Fld := ⟨R.PKE_HOST_CFG, 22, 8⟩
def PKE_FAULT_mult_residue : Fld := ⟨R.PKE_FAULT, 0, 1⟩
def PKE_FAULT_ntt_residue : Fld := ⟨R.PKE_FAULT, 1, 1⟩
def PKE_FAULT_shake_parity : Fld := ⟨R.PKE_FAULT, 2, 1⟩
def PKE_FAULT_opmem_ecc : Fld := ⟨R.PKE_FAULT, 3, 1⟩
def PKE_FAULT_result_check : Fld := ⟨R.PKE_FAULT, 4, 1⟩
def VLT_STATUS_state : Fld := ⟨R.VLT_STATUS, 0, 2⟩
def VLT_STATUS_mirrored : Fld := ⟨R.VLT_STATUS, 2, 1⟩
def VLT_STATUS_flush_active : Fld := ⟨R.VLT_STATUS, 3, 1⟩
def VLT_STATUS_key_id : Fld := ⟨R.VLT_STATUS, 4, 4⟩
def VLT_STATUS_test_root : Fld := ⟨R.VLT_STATUS, 8, 1⟩
def VLT_STATUS_region_gib : Fld := ⟨R.VLT_STATUS, 9, 4⟩
def VLT_KEYID_taken : Fld := ⟨R.VLT_KEYID, 0, 16⟩
def VLT_KEYID_live : Fld := ⟨R.VLT_KEYID, 16, 16⟩
def VLT_FLUSH_next_leaf : Fld := ⟨R.VLT_FLUSH, 0, 21⟩
def VLT_MISMATCH_count : Fld := ⟨R.VLT_MISMATCH, 0, 8⟩
def VLT_MISMATCH_limit_reached : Fld := ⟨R.VLT_MISMATCH, 8, 1⟩
def VLT_MISMATCH_total : Fld := ⟨R.VLT_MISMATCH, 16, 16⟩
def VLT_STACK_STATUS_state (s : Nat) : Fld := ⟨(R.VLT_STACK_STATUS s), 0, 2⟩
def VLT_STACK_STATUS_training_fail (s : Nat) : Fld := ⟨(R.VLT_STACK_STATUS s), 2, 1⟩
def VLT_STACK_STATUS_interface_error (s : Nat) : Fld := ⟨(R.VLT_STACK_STATUS s), 3, 1⟩
def VLT_STACK_STATUS_repair_limit (s : Nat) : Fld := ⟨(R.VLT_STACK_STATUS s), 4, 1⟩
def VLT_STACK_STATUS_readback_fail (s : Nat) : Fld := ⟨(R.VLT_STACK_STATUS s), 5, 1⟩
def VLT_STACK_STATUS_repairs (s : Nat) : Fld := ⟨(R.VLT_STACK_STATUS s), 16, 16⟩
def VLT_LAST_FAULT_line : Fld := ⟨R.VLT_LAST_FAULT, 0, 32⟩
def VLT_LAST_FAULT_KIND_stack : Fld := ⟨R.VLT_LAST_FAULT_KIND, 0, 1⟩
def VLT_LAST_FAULT_KIND_mismatch : Fld := ⟨R.VLT_LAST_FAULT_KIND, 1, 1⟩
def VLT_LAST_FAULT_KIND_node : Fld := ⟨R.VLT_LAST_FAULT_KIND, 2, 1⟩
def VLT_LAST_FAULT_KIND_repaired : Fld := ⟨R.VLT_LAST_FAULT_KIND, 3, 1⟩
def VLT_HALT_CAUSE_cause : Fld := ⟨R.VLT_HALT_CAUSE, 0, 4⟩
def VLT_HALT_LINE_line : Fld := ⟨R.VLT_HALT_LINE, 0, 32⟩
def TIM_STATE_state : Fld := ⟨R.TIM_STATE, 0, 2⟩
def TIM_STATE_source : Fld := ⟨R.TIM_STATE, 2, 2⟩
def TIM_STATE_acquired : Fld := ⟨R.TIM_STATE, 4, 1⟩
def TIM_STATE_pps_in_present : Fld := ⟨R.TIM_STATE, 5, 1⟩
def TIM_STATE_ptp_port : Fld := ⟨R.TIM_STATE, 6, 8⟩
def TIM_STATE_stepped : Fld := ⟨R.TIM_STATE, 14, 1⟩
def TIM_OFFSET_value : Fld := ⟨R.TIM_OFFSET, 0, 32⟩
def TIM_FREQ_value : Fld := ⟨R.TIM_FREQ, 0, 32⟩
def TIM_HOLD_S_value : Fld := ⟨R.TIM_HOLD_S, 0, 32⟩
def TIM_WHEEL_used : Fld := ⟨R.TIM_WHEEL, 0, 13⟩
def TIM_WHEEL_refused : Fld := ⟨R.TIM_WHEEL, 13, 1⟩
def TIM_WHEEL_late_max_us : Fld := ⟨R.TIM_WHEEL, 16, 16⟩
def TIM_TRIG_STATUS_running (i : Nat) : Fld := ⟨(R.TIM_TRIG_STATUS i), 0, 1⟩
def TIM_TRIG_STATUS_level (i : Nat) : Fld := ⟨(R.TIM_TRIG_STATUS i), 1, 1⟩
def TIM_CAP_STATUS_level (i : Nat) : Fld := ⟨(R.TIM_CAP_STATUS i), 0, 7⟩
def TIM_CAP_STATUS_lost (i : Nat) : Fld := ⟨(R.TIM_CAP_STATUS i), 16, 16⟩
def TMP_STATUS_response : Fld := ⟨R.TMP_STATUS, 0, 2⟩
def TMP_STATUS_tamper_latch : Fld := ⟨R.TMP_STATUS, 2, 1⟩
def TMP_STATUS_cell_low : Fld := ⟨R.TMP_STATUS, 3, 1⟩
def TMP_STATUS_self_test_ok : Fld := ⟨R.TMP_STATUS, 4, 1⟩
def TMP_STATUS_cell_events : Fld := ⟨R.TMP_STATUS, 5, 1⟩
def TMP_STATUS_log_count : Fld := ⟨R.TMP_STATUS, 6, 7⟩
def TMP_STATUS_log_newest : Fld := ⟨R.TMP_STATUS, 13, 6⟩
def TMP_ACTIVE_active : Fld := ⟨R.TMP_ACTIVE, 0, 18⟩
def TMP_LATCHED_latched : Fld := ⟨R.TMP_LATCHED, 0, 18⟩
def TMP_DISAGREE_disagree : Fld := ⟨R.TMP_DISAGREE, 0, 18⟩
def TMP_SRC_class (n : Nat) : Fld := ⟨(R.TMP_SRC n), 0, 2⟩
def TMP_SRC_floor (n : Nat) : Fld := ⟨(R.TMP_SRC n), 2, 2⟩
def TMP_SRC_used (n : Nat) : Fld := ⟨(R.TMP_SRC n), 4, 1⟩
def TMP_SRC_on_cell (n : Nat) : Fld := ⟨(R.TMP_SRC n), 5, 1⟩
def TMP_SRC_fires (n : Nat) : Fld := ⟨(R.TMP_SRC n), 16, 16⟩
def TMP_READING_reading_a (n : Nat) : Fld := ⟨(R.TMP_READING n), 0, 16⟩
def TMP_READING_reading_b (n : Nat) : Fld := ⟨(R.TMP_READING n), 16, 16⟩
def TMP_MESH_seq_fail (m : Nat) : Fld := ⟨(R.TMP_MESH m), 0, 1⟩
def TMP_MESH_res_fail (m : Nat) : Fld := ⟨(R.TMP_MESH m), 1, 1⟩
def TMP_MESH_errors (m : Nat) : Fld := ⟨(R.TMP_MESH m), 8, 8⟩
def TMP_MESH_ohms (m : Nat) : Fld := ⟨(R.TMP_MESH m), 16, 16⟩
def TMP_LOG_SEL_index : Fld := ⟨R.TMP_LOG_SEL, 0, 6⟩
def TMP_LOG_SEL_go : Fld := ⟨R.TMP_LOG_SEL, 6, 1⟩
def TMP_LOG_DATA_data (w : Nat) : Fld := ⟨(R.TMP_LOG_DATA w), 0, 32⟩
def MGT_PAIR_STATUS_active : Fld := ⟨R.MGT_PAIR_STATUS, 0, 1⟩
def MGT_PAIR_STATUS_pair0_state : Fld := ⟨R.MGT_PAIR_STATUS, 1, 2⟩
def MGT_PAIR_STATUS_pair1_state : Fld := ⟨R.MGT_PAIR_STATUS, 3, 2⟩
def MGT_PAIR_STATUS_takeover : Fld := ⟨R.MGT_PAIR_STATUS, 5, 1⟩
def MGT_PAIR_STATUS_last_cause : Fld := ⟨R.MGT_PAIR_STATUS, 6, 2⟩
def MGT_PAIR_STATUS_takeovers : Fld := ⟨R.MGT_PAIR_STATUS, 16, 16⟩
def MGT_HALT_halted : Fld := ⟨R.MGT_HALT, 0, 1⟩
def MGT_HALT_cause : Fld := ⟨R.MGT_HALT, 1, 3⟩
def MGT_HALT_tamper_source : Fld := ⟨R.MGT_HALT, 4, 5⟩
def MGT_HALT_erased : Fld := ⟨R.MGT_HALT, 9, 1⟩
def MGT_HALT_halts : Fld := ⟨R.MGT_HALT, 16, 16⟩
def MGT_REFCLK_selected : Fld := ⟨R.MGT_REFCLK, 0, 1⟩
def MGT_REFCLK_in0_good : Fld := ⟨R.MGT_REFCLK, 1, 1⟩
def MGT_REFCLK_in1_good : Fld := ⟨R.MGT_REFCLK, 2, 1⟩
def MGT_REFCLK_holdover : Fld := ⟨R.MGT_REFCLK, 3, 1⟩
def MGT_REFCLK_switchovers : Fld := ⟨R.MGT_REFCLK, 16, 16⟩
def MGT_FLASH_STATUS_dev0_failed : Fld := ⟨R.MGT_FLASH_STATUS, 0, 1⟩
def MGT_FLASH_STATUS_dev1_failed : Fld := ⟨R.MGT_FLASH_STATUS, 1, 1⟩
def MGT_FLASH_STATUS_persist_blocked : Fld := ⟨R.MGT_FLASH_STATUS, 2, 1⟩
def MGT_FLASH_STATUS_lost_writes : Fld := ⟨R.MGT_FLASH_STATUS, 16, 16⟩
def MGT_MACRO_CORR_corrected (k : Nat) : Fld := ⟨(R.MGT_MACRO_CORR k), 0, 16⟩
def MGT_MACRO_CORR_failed_macro (k : Nat) : Fld := ⟨(R.MGT_MACRO_CORR k), 16, 5⟩
def MGT_MACRO_CORR_macro_failed (k : Nat) : Fld := ⟨(R.MGT_MACRO_CORR k), 21, 1⟩
def MGT_REC_STATUS_ring_used : Fld := ⟨R.MGT_REC_STATUS, 0, 13⟩
def MGT_REC_STATUS_vault_open : Fld := ⟨R.MGT_REC_STATUS, 13, 1⟩
def MGT_REC_STATUS_next_slot : Fld := ⟨R.MGT_REC_STATUS, 14, 3⟩
def MGT_REC_STATUS_flush_busy : Fld := ⟨R.MGT_REC_STATUS, 17, 1⟩
def MGT_REC_RUN_value : Fld := ⟨R.MGT_REC_RUN, 0, 32⟩
def MGT_REC_SEQ_value : Fld := ⟨R.MGT_REC_SEQ, 0, 31⟩
def HST_MB_CFG_log2_entries (f : Nat) : Fld := ⟨(R.HST_MB_CFG f), 0, 4⟩
def HST_MB_CFG_enable (f : Nat) : Fld := ⟨(R.HST_MB_CFG f), 4, 1⟩
def HST_MB_CFG_reset (f : Nat) : Fld := ⟨(R.HST_MB_CFG f), 5, 1⟩
def HST_MB_CFG_vector (f : Nat) : Fld := ⟨(R.HST_MB_CFG f), 6, 6⟩
def HST_MB_PROD_prod (f : Nat) : Fld := ⟨(R.HST_MB_PROD f), 0, 16⟩
def HST_MB_CONS_cons (f : Nat) : Fld := ⟨(R.HST_MB_CONS f), 0, 16⟩
def HST_MB_RPROD_rprod (f : Nat) : Fld := ⟨(R.HST_MB_RPROD f), 0, 16⟩
def HST_MB_STATUS_running (f : Nat) : Fld := ⟨(R.HST_MB_STATUS f), 0, 1⟩
def HST_MB_STATUS_dma_error (f : Nat) : Fld := ⟨(R.HST_MB_STATUS f), 1, 1⟩
def HST_MB_STATUS_long_active (f : Nat) : Fld := ⟨(R.HST_MB_STATUS f), 2, 4⟩
def HST_MB_STATUS_overruns (f : Nat) : Fld := ⟨(R.HST_MB_STATUS f), 16, 16⟩
def HST_ATTN_sequence : Fld := ⟨R.HST_ATTN, 0, 16⟩
def HST_ATTN_pending0 : Fld := ⟨R.HST_ATTN, 16, 8⟩
def HST_ATTN_pending1 : Fld := ⟨R.HST_ATTN, 24, 8⟩
def HST_LINK_link_up : Fld := ⟨R.HST_LINK, 0, 1⟩
def HST_LINK_pf0_bme : Fld := ⟨R.HST_LINK, 1, 1⟩
def HST_LINK_pf1_bme : Fld := ⟨R.HST_LINK, 2, 1⟩
def HST_LINK_pf1_present : Fld := ⟨R.HST_LINK, 3, 1⟩
def HST_LINK_width : Fld := ⟨R.HST_LINK, 4, 4⟩
def HST_LINK_speed : Fld := ⟨R.HST_LINK, 8, 3⟩
def HST_LINK_departures : Fld := ⟨R.HST_LINK, 16, 16⟩
def HST_DEBUG_unlocked : Fld := ⟨R.HST_DEBUG, 0, 1⟩
def HST_DEBUG_session : Fld := ⟨R.HST_DEBUG, 1, 1⟩
def HST_DEBUG_last_result : Fld := ⟨R.HST_DEBUG, 2, 2⟩
def HST_DEBUG_lockout : Fld := ⟨R.HST_DEBUG, 4, 1⟩
def HST_DEBUG_failures : Fld := ⟨R.HST_DEBUG, 16, 16⟩
def HST_MSIX_TABLE_value (v w : Nat) : Fld := ⟨(R.HST_MSIX_TABLE v w), 0, 32⟩
def HST_MSIX_CTRL_mask (v : Nat) : Fld := ⟨(R.HST_MSIX_CTRL v), 0, 1⟩
def HST_MSIX_PBA_value (i : Nat) : Fld := ⟨(R.HST_MSIX_PBA i), 0, 32⟩
def ACU_STATUS_updating (u : Nat) : Fld := ⟨(R.ACU_STATUS u), 0, 1⟩
def ACU_STATUS_default_perm (u : Nat) : Fld := ⟨(R.ACU_STATUS u), 1, 3⟩
def ACU_STATUS_narrowed (u : Nat) : Fld := ⟨(R.ACU_STATUS u), 4, 1⟩
def ACU_REGION_BASE_base (u r : Nat) : Fld := ⟨(R.ACU_REGION_BASE u r), 0, 32⟩
def ACU_REGION_CFG_size_log2 (u r : Nat) : Fld := ⟨(R.ACU_REGION_CFG u r), 0, 5⟩
def ACU_REGION_CFG_sub_disable (u r : Nat) : Fld := ⟨(R.ACU_REGION_CFG u r), 5, 8⟩
def ACU_REGION_CFG_perm (u r : Nat) : Fld := ⟨(R.ACU_REGION_CFG u r), 13, 3⟩
def ACU_ERR_dword (u : Nat) : Fld := ⟨(R.ACU_ERR u), 0, 18⟩
def ACU_ERR_write (u : Nat) : Fld := ⟨(R.ACU_ERR u), 18, 1⟩
def ACU_ERR_initiator (u : Nat) : Fld := ⟨(R.ACU_ERR u), 19, 4⟩
def ACU_ERR_valid (u : Nat) : Fld := ⟨(R.ACU_ERR u), 31, 1⟩
def HLT_PC_SEL_event (s : Nat) : Fld := ⟨(R.HLT_PC_SEL s), 0, 24⟩
def HLT_PC_SEL_chain (s : Nat) : Fld := ⟨(R.HLT_PC_SEL s), 24, 3⟩
def HLT_PC_FILT_port_dir (s : Nat) : Fld := ⟨(R.HLT_PC_FILT s), 0, 4⟩
def HLT_PC_FILT_filter_on (s : Nat) : Fld := ⟨(R.HLT_PC_FILT s), 4, 1⟩
def HLT_PC_FILT_clear (s : Nat) : Fld := ⟨(R.HLT_PC_FILT s), 5, 1⟩
def HLT_PC_FILT_overflow (s : Nat) : Fld := ⟨(R.HLT_PC_FILT s), 6, 6⟩
def HLT_PC_GLOBAL_run : Fld := ⟨R.HLT_PC_GLOBAL, 0, 1⟩
def HLT_PC_GLOBAL_clear_all : Fld := ⟨R.HLT_PC_GLOBAL, 1, 1⟩
def HLT_AGE_MON_degradation (i : Nat) : Fld := ⟨(R.HLT_AGE_MON i), 0, 16⟩
def HLT_AGE_REPL_slack_ps (r : Nat) : Fld := ⟨(R.HLT_AGE_REPL r), 0, 10⟩
def HLT_AGE_REPL_min_ps (r : Nat) : Fld := ⟨(R.HLT_AGE_REPL r), 10, 10⟩
def HLT_AVS_STATUS_rail_mv : Fld := ⟨R.HLT_AVS_STATUS, 0, 10⟩
def HLT_AVS_STATUS_plan_mv : Fld := ⟨R.HLT_AVS_STATUS, 10, 10⟩
def HLT_AVS_STATUS_at_cap : Fld := ⟨R.HLT_AVS_STATUS, 20, 1⟩
def HLT_AVS_STATUS_planning : Fld := ⟨R.HLT_AVS_STATUS, 21, 1⟩
def HLT_AVS_STATUS_guard_active : Fld := ⟨R.HLT_AVS_STATUS, 22, 1⟩
def HLT_AVS_GUARD_raises : Fld := ⟨R.HLT_AVS_GUARD, 0, 16⟩
def HLT_AVS_GUARD_plans : Fld := ⟨R.HLT_AVS_GUARD, 16, 16⟩
def HLT_EOL_months : Fld := ⟨R.HLT_EOL, 0, 16⟩
def HLT_EOL_BAND_low : Fld := ⟨R.HLT_EOL_BAND, 0, 16⟩
def HLT_EOL_BAND_high : Fld := ⟨R.HLT_EOL_BAND, 16, 16⟩
def HLT_LANE_eye_mv (l : Nat) : Fld := ⟨(R.HLT_LANE l), 0, 8⟩
def HLT_LANE_eye_width (l : Nat) : Fld := ⟨(R.HLT_LANE l), 8, 6⟩
def HLT_LANE_valid (l : Nat) : Fld := ⟨(R.HLT_LANE l), 14, 1⟩
def HLT_LANE_alert (l : Nat) : Fld := ⟨(R.HLT_LANE l), 15, 1⟩
def HLT_LANE_months (l : Nat) : Fld := ⟨(R.HLT_LANE l), 16, 8⟩
def HLT_LANE_trend (l : Nat) : Fld := ⟨(R.HLT_LANE l), 24, 8⟩
def HLT_CELL_cell_mv : Fld := ⟨R.HLT_CELL, 0, 12⟩
def HLT_CELL_alert : Fld := ⟨R.HLT_CELL, 12, 1⟩
def HLT_CELL_USED_value : Fld := ⟨R.HLT_CELL_USED, 0, 32⟩
def HLT_CELL_DAYS_value : Fld := ⟨R.HLT_CELL_DAYS, 0, 32⟩
def HLT_FLASH_wear (d : Nat) : Fld := ⟨(R.HLT_FLASH d), 0, 16⟩
def HLT_FLASH_months (d : Nat) : Fld := ⟨(R.HLT_FLASH d), 16, 16⟩
def HLT_FLASH_SECT_worst_sector (d : Nat) : Fld := ⟨(R.HLT_FLASH_SECT d), 0, 9⟩
def HLT_FLASH_SECT_counts_restarted (d : Nat) : Fld := ⟨(R.HLT_FLASH_SECT d), 9, 1⟩
def HLT_FLASH_SECT_alert (d : Nat) : Fld := ⟨(R.HLT_FLASH_SECT d), 10, 1⟩
def MGT_STRAPS_flash_sdr : Fld := ⟨R.MGT_STRAPS, 0, 1⟩
def MGT_STRAPS_pcie_en : Fld := ⟨R.MGT_STRAPS, 1, 1⟩
def MGT_STRAPS_test : Fld := ⟨R.MGT_STRAPS, 2, 1⟩

end F

end Sys2Proof.Machine
end

