-- ==== Sys2Proof/Config.lean ====
section
/-! DEFINITION. What an implementation fixes and what the spec leaves open: constants with no body. The
cryptographic functions are those of the standards that R4 lists; the spec cites them and does not define them, so they are
uninterpreted here (log entry 4, DEDUCED). -/

namespace Sys2Proof.Config

/-! ## Free values -/

/-- A free value of `w` bits drawn at a counter of the state (log entry 5, DESIGN CHOICE): random bytes, undefined results. -/
opaque freeValue : Nat → (w : Nat) → Nat

/-- Fresh bytes of the random bit generator (R293), drawn at a counter of the state. (log entry 5, DESIGN CHOICE) -/
opaque randomBytes : Nat → (len : Nat) → Bytes

/-- The seconds of the month in which forecasts are given (R486 to R490), which the spec does not state. (log entry 50, DESIGN CHOICE) -/
opaque monthSeconds : Nat
/-- The fit of R486 over the recorded plans (TAI seconds and mV): months to the cap, and the bounds of the 90 % band.
(log entry 50, DESIGN CHOICE) -/
opaque eolFit : List (Nat × Nat) → Nat × Nat × Nat

/-- The value of a derived slot whose length is not that of a node, 32 bytes: which bits it takes is not stated (R290, R300).
(log entry 52, DESIGN CHOICE) -/
opaque derivedValue : (node : Bytes) → (len : Nat) → Bytes

/-! ## What is fixed at manufacture -/

/-- The 256-bit fuse root (R287). -/
opaque fuseRoot : Bytes
/-- Silicon revision (R315, R471). -/
opaque siliconRev : Nat
/-- The boot ROM contents (R67). -/
opaque bootRom : Bytes
/-- The four vendor key pairs of the boot ROM (R66): ML-DSA-65 then P-384 public keys, 2,048 bytes each. -/
opaque vendorKey : Nat → Bytes

/-- The 257-bit blocks of the alignment markers of the Ethernet mode of a rate in Gb/s (R76): block number in the group.
(log entry 72, PRESUMED) -/
opaque alignMarker : (rate block : Nat) → BitVec 257

/-! ## Functions of the cited standards (R4) -/

/-- SHA-384 (FIPS 180-4). (log entry 4, DEDUCED) -/
opaque sha384 : Bytes → Bytes
/-- KMAC256(K, X, L in bits, S) (SP 800-185). (log entry 4, DEDUCED) -/
opaque kmac256 : (k x : Bytes) → (l : Nat) → (s : Bytes) → Bytes
/-- The 16-byte GCM tag (SP 800-38D): key, nonce, AAD, ciphertext. (log entry 4, DEDUCED) -/
opaque gcmTag : (key nonce aad ct : Bytes) → Bytes
/-- AES-GMAC tag: key, IV, AAD. -/
opaque gmac : (key iv aad : Bytes) → Bytes
/-- AES-CMAC (SP 800-38B). (log entry 4, DEDUCED) -/
opaque cmac : (key data : Bytes) → Bytes
/-- AES-256-CTR keystream: key, initial counter block, length. (log entry 4, DEDUCED) -/
opaque ctr : (key block : Bytes) → (len : Nat) → Bytes
/-- The AES block cipher under a key (FIPS 197): a block is the 128-bit number of its bytes, the first least significant. (log entry 4,
DEDUCED) -/
opaque aesPerm : (key : Bytes) → Equiv.Perm (BitVec 128)
/-- AES key wrap (RFC 3394). (log entry 4, DEDUCED) -/
opaque kwWrap : (key data : Bytes) → Bytes
/-- AES key unwrap (RFC 3394): none when the integrity check fails. -/
opaque kwUnwrap : (key data : Bytes) → Option Bytes
/-- ML-DSA-65 verification (FIPS 204), pure mode: public key, context, message, signature. (log entry 4, DEDUCED) -/
opaque mldsaVerify : (pk ctx msg sig : Bytes) → Bool
/-- ML-DSA-65 signature: secret seed or key, context, message, random bytes. -/
opaque mldsaSign : (sk ctx msg rnd : Bytes) → Bytes
/-- Iterations that an ML-DSA-65 signature takes (R333). -/
opaque mldsaIterations : (sk ctx msg rnd : Bytes) → Nat
/-- ML-DSA-65 signature over an external μ: secret seed or key, μ, random bytes. -/
opaque mldsaSignMu : (sk mu rnd : Bytes) → Bytes
/-- ML-DSA-65 verification over an external μ: public key, μ, signature. -/
opaque mldsaVerifyMu : (pk mu sig : Bytes) → Bool
/-- Iterations that such a signature takes. -/
opaque mldsaIterationsMu : (sk mu rnd : Bytes) → Nat
/-- ML-DSA-65 key generation from a seed: public key then secret key. -/
opaque mldsaKeygen : (seed : Bytes) → Bytes
/-- ML-KEM-1024 key generation from seeds d, z: ek then dk (FIPS 203). -/
opaque mlkemKeygen : (dz : Bytes) → Bytes
/-- ML-KEM-1024 encapsulation: ek, randomness; ciphertext then shared key. (log entry 4, DEDUCED) -/
opaque mlkemEncaps : (ek rnd : Bytes) → Bytes
/-- ML-KEM-1024 decapsulation: dk, ciphertext. -/
opaque mlkemDecaps : (dk ct : Bytes) → Bytes
/-- The checks of FIPS 203 on an encapsulation key. -/
opaque mlkemEkOk : (ek : Bytes) → Bool
/-- The checks of FIPS 203 on a decapsulation key. -/
opaque mlkemDkOk : (dk : Bytes) → Bool
/-- The field prime of a curve (1 P-256, 2 P-384, 3 P-521; FIPS 186-5). -/
opaque ecPrime : Nat → Nat
/-- The group order of a curve. -/
opaque ecOrder : Nat → Nat
/-- The coefficient b of a curve (a is -3). -/
opaque ecB : Nat → Nat
/-- Scalar multiplication on a curve: scalar, point (x, y). -/
opaque ecMul : (curve d : Nat) → (Nat × Nat) → (Nat × Nat)
/-- The base point of a curve. -/
opaque ecBase : Nat → Nat × Nat
/-- ECDSA verification: curve, public point, digest, r, s. (log entry 4, DEDUCED) -/
opaque ecdsaVerify : (curve : Nat) → (Nat × Nat) → (digest : Bytes) → (r s : Nat) → Bool
/-- ECDSA signature with a nonce: curve, d, digest, k; r then s. -/
opaque ecdsaSign : (curve d : Nat) → (digest : Bytes) → (k : Nat) → Nat × Nat
/-- DER of the part of an X.509 v3 certificate that is signed (RFC 5280): signature algorithm (0 ML-DSA-65, 1 ECDSA with SHA-384), subject
public key, serial number, the two dates of its validity and the Nexivos extension. (log entry 4, DEDUCED) -/
opaque x509Tbs : (alg : Nat) → (subjectKey serial notBefore notAfter ext : Bytes) → Bytes
/-- DER of a certificate out of its signed part and its signature. (log entry 4, DEDUCED) -/
opaque x509 : (alg : Nat) → (tbs sig : Bytes) → Bytes

/-- An MKPDU (IEEE 802.1X-2020) from the first byte after the EtherType: CAK, CKN, own member identifier and message number, and the
parameters that the sender conveys. (log entry 4, DEDUCED) -/
opaque mkpdu : (cak ckn mi : Bytes) → (mn : Nat) → (params : Bytes) → Bytes
/-- The salt of a SAK under an XPN suite: the key server's member identifier and key number (IEEE 802.1X-2020). (log entry 4, DEDUCED) -/
opaque mkaSalt : (mi : Bytes) → (kn : Nat) → Bytes

end Sys2Proof.Config
end

