-- ==== Sys2Proof/Machine/State.lean ====
section
/-! DEFINITION. The state of the part: the queue of waiting commands and everything the spec gives the block, as plain data, with
the values of reset. Everything that a register shows lives in the register map (`Chip.regs`); the other fields hold what no
register address reaches. -/

namespace Sys2Proof.Machine

/-- Why a step stops. (log entry 6, DESIGN CHOICE) -/
inductive Fault where
  /-- A command names a unit that the part does not have (R14). Safe: the model stops where nothing could arrive. -/
  | noUnit
  deriving DecidableEq, Repr

/-- Why a command is not run. -/
inductive Refusal where
  /-- Raised only by an arm of `exec` whose command has no meaning in this model. Safe: the model stops. -/
  | notModelled (mnemonic : String)
  deriving DecidableEq, Repr

/-! ## What leaves the part -/

/-- Continuous signals on a transmit wire (R76, R91, R107). -/
inductive Signal where
  | idle | localFault | remoteFault | ais | squelch
  deriving DecidableEq, Repr

/-- What the part sends, in order. The list is the model's own (log entry 8, DESIGN CHOICE). -/
inductive Out where
  /-- A frame on a port of R117; `whole` is false for a frame aborted on the wire (R242). -/
  | frame (port : Nat) (bytes : Bytes) (whole : Bool)
  /-- A Denast container: core header and payload. -/
  | container (port : Nat) (pli : Nat) (bytes : Bytes)
  | signal (port : Nat) (s : Signal)
  /-- A write into host memory of a function (R448, R305, R328). -/
  | hostWrite (fn addr : Nat) (bytes : Bytes)
  | msix (addr : Nat) (data : Nat)
  /-- A register read's answer to an initiator of R445, and whether it carries an error (R467). -/
  | regRead (init : Nat) (data : List W32) (error : Bool)
  /-- The error of an access with a denied dword: a Completer Abort with the request header in the AER registers of the function, or the
  error bit of the debug port (R467). -/
  | regError (init addr : Nat) (write : Bool)
  /-- Unsupported Request completion (R443). -/
  | unsupported (fn : Nat)
  /-- What an instruction of the debug port captures (R471). -/
  | capture (bits : Bytes)
  /-- The answer of the vault to a requester: the line, or none when refused. -/
  | vault (req : VaultReq) (data : Option Bytes)
  /-- A frame handed to firmware, with the port it came in on and its receive timestamp in ns (R185, R378). -/
  | toFirmware (port : Nat) (bytes : Bytes) (stamp : Nat)
  /-- Firmware gets the transmit timestamp in ns of a frame that it has sent on a port (R373, R378). -/
  | sentStamp (port stamp : Nat)
  /-- Firmware is told that a port's queue has refused its frame (R186). -/
  | sendRefused (port cls : Nat)
  /-- Nine clock pulses and a stop condition on the bus of an I2C master (R98). -/
  | i2cClear (master : Nat)
  /-- The completion record of a firmware job of the public-key engine, in management memory, with the management cores' internal
  completion interrupt (R339). -/
  | fwJob (record : Bytes)
  /-- A pulse on an output pin, 0 to 3 TRIG0 to TRIG3, 4 PPS_OUT: how many ns it lasts, and whether it is active low (R388, R389). -/
  | pulse (pin width : Nat) (low : Bool)
  deriving DecidableEq, Repr

/-! ## Always-on domain (R393) -/

/-- The state that the backup cell keeps. (log entry 7, DESIGN CHOICE) -/
structure AlwaysOn where
  /-- The backup cell is connected. -/
  cell      : Bool := false
  /-- BBRAM share (R287). -/
  share     : Bytes := fill 32 0
  /-- ERASED_N driven low (R407). -/
  erasedN   : Bool := false
  /-- Real-time counter, units of 2^-32 ns, and whether it has been set (R372). -/
  rtc       : Nat := 0
  rtcSet    : Bool := false
  /-- What it was set to last. -/
  rtcBase   : Nat := 0
  /-- Always-on timer, units of 2^-32 ns (R46). -/
  timer     : Nat := 0
  /-- Times of the last three failed starts, newest first, by the timer (R46). -/
  fails     : List Nat := []
  /-- A failed-start clear waits for the next start (R48, R49). -/
  failClear : Bool := false
  /-- The states of the four mesh generators (R398). -/
  mesh : List Nat := []
  /-- It has been connected once (R393). -/
  cellEver  : Bool := false
  /-- Tamper log by position 0 to 63, 16 bytes each (R410), and the next seq. -/
  log       : Sparse Bytes := []
  logSeq    : Nat := 0
  /-- Log entries made on the cell and not yet copied at a step 19. -/
  cellLog   : List Bytes := []
  /-- Position of the pinned entry of the log (R410). -/
  pinned    : Option Nat := none
  /-- Classes that the last step 17 applied, by source; none before the first (R409). -/
  classes   : List Nat := []
  /-- Cell-powered record ring: the newest 64 records (R439). -/
  ring      : List Bytes := []
  /-- Run number (R438). -/
  run       : Nat := 0
  /-- Sources that have fired and not re-armed (R404). -/
  armed     : List Nat := []
  /-- Debug lockout in force, and consecutive failed unlocks (R473). -/
  lockout   : Bool := false
  dbgFails  : Nat := 0
  /-- Charge drawn, in 10^-3 µA · s (R489). -/
  charge    : Nat := 0
  deriving DecidableEq, Repr

/-! ## Flash (R51) -/

/-- A descriptor copy (R51, R52). -/
structure Descriptor where
  layout    : Nat := 1
  seq       : Nat
  preferred : Nat
  len0      : Nat := 0
  len1      : Nat := 0
  digest0   : Bytes := []
  digest1   : Bytes := []
  crc       : Nat := 0
  deriving DecidableEq, Repr

/-- The bytes of a descriptor that its CRC-32 covers (R51); widths and order are the model's (log entry 71, DESIGN CHOICE). -/
def Descriptor.body (d : Descriptor) : Bytes :=
  toLe d.layout 4 ++ toLe d.seq 8 ++ toLe d.preferred 4 ++ toLe d.len0 4 ++ toLe d.len1 4 ++ d.digest0 ++ d.digest1

/-- What a journal entry records: a committed command with its data, or a value kept ahead of need (R281, R309). -/
inductive JOp where
  | cmd (i : Instr)
  /-- A filled persistent slot: its attributes, and AES-KW under K1 of the attributes followed by the value (R301). -/
  | slot (n : Nat) (attrs wrapped : Bytes)
  | slotClear (n : Nat)
  /-- Automatic IV ceiling of a slot (R309). -/
  | ivCeiling (n ceiling : Nat)
  /-- PN ceiling of an SA (R281). -/
  | pnCeiling (sa ceiling : Nat)
  deriving DecidableEq, Repr

/-- Type, length and data of a journal entry, whose layout the spec does not give: what is recorded, and the mailbox, seq and result of the
command that it answers. (log entry 9, DESIGN CHOICE) -/
opaque journalBody : (op : JOp) → (fn seq result : Nat) → Bytes

/-- A journal entry (R53). -/
structure JEntry where
  jseq   : Nat
  imgSeq : Nat
  /-- Its AES-CMAC. -/
  tag    : Bytes
  op     : JOp
  /-- The mailbox command that it answers: mailbox, seq, code and result. -/
  fn     : Nat := 2
  seq    : Nat := 0
  result : Nat := 0
  deriving DecidableEq, Repr

/-- A flush slot: its header without the magic, and the records (R439). Cause is that of MGT_HALT, 0 for the management watchdog; time is
in seconds of the time base. (log entry 71, DESIGN CHOICE) -/
structure FlushSlot where
  run      : Nat
  firstSeq : Nat
  lastSeq  : Nat
  cause    : Nat
  time     : Nat
  /-- The GMAC over the header. -/
  tag      : Bytes
  records  : List Bytes
  deriving DecidableEq, Repr

/-- A copy of the health table (R490): its sequence, the plans as TAI seconds and mV, oldest first, and the sector counts by
`512 device + sector`. -/
structure HealthTable where
  seq    : Nat
  plans  : List (Nat × Nat)
  counts : Sparse Nat
  deriving DecidableEq, Repr

/-- One flash device. (log entry 7, DESIGN CHOICE) -/
structure Flash where
  slot0   : Sparse Byte := []
  slot1   : Sparse Byte := []
  desc0   : Option Descriptor := none
  desc1   : Option Descriptor := none
  /-- Journal halves, entries oldest first, and the completion marker of a snapshot (R54). -/
  half0   : List JEntry := []
  half1   : List JEntry := []
  /-- Performance history: the slots of its ring, 0 to 95 (R118). -/
  history : Sparse Bytes := []
  certs   : Bytes := []
  flushRun : Nat := 0
  flush   : Sparse (Option FlushSlot) := []
  /-- Copies 0 to 3 of the health table (R490). -/
  health  : Sparse (Option HealthTable) := []
  deriving DecidableEq, Repr

/-! ## Image and start -/

/-- A record of an image (R59). -/
structure ImgRec where
  type  : Nat
  flags : Nat
  value : Bytes
  /-- Offset of its header in the image. -/
  off   : Nat := 0
  deriving DecidableEq, Repr

/-- A parsed image (R58 to R67). -/
structure Image where
  slot     : Nat
  sequence : Nat
  fwVer    : Nat
  records  : List ImgRec
  /-- Firmware measurement and owner configuration measurement (R67). -/
  fwMeas   : Bytes
  cfgMeas  : Bytes
  skipped  : Nat := 0
  deriving DecidableEq, Repr

/-- The state of a start (R37 to R49). -/
structure Start where
  /-- A start is in progress. -/
  busy     : Bool := false
  /-- Ports are released: from step 22 of a cold start, or step 23 of a warm one, to the next such start (R39, R42). -/
  released : Bool := false
  /-- The host endpoint is enabled in full: from step 21 of a cold start to the next one (R442). -/
  endpoint : Bool := false
  /-- Steps still to do. -/
  todo     : List Nat := []
  /-- A retry of a failed cold start waits for its 2 s (R47). -/
  retry    : Bool := false
  /-- Blank owner fuses: waits for provisioning with ports down (R66). -/
  blank    : Bool := false
  /-- Slots still to try, as `2 slot + device`, and the image that is being loaded. -/
  cand     : List Nat := []
  image    : Option Image := none
  /-- Wheel entries that fell due during a warm start (R44). -/
  deferred : List Nat := []
  /-- A start command whose reply has been given waits to begin: 1 cold, 2 warm, 3 management restart (R461). -/
  ordered  : Nat := 0
  /-- The run wrote a record of a scrub error in a retained memory (R41). -/
  scrubBad : Bool := false
  /-- Pairs whose self-test has failed since the cold start began (R419). -/
  badPairs : List Nat := []
  deriving DecidableEq, Repr

/-! ## Time (R371 to R392) -/

/-- An entry of the Speedwell wheel (R383). -/
structure WheelEntry where
  /-- Due time in µs of the time base. -/
  due    : Nat
  type   : Nat
  arg    : Nat
  period : Nat := 0
  /-- Which step of the key schedule (type KEY_STEP), and its epoch. -/
  step   : Nat := 0
  epoch  : Nat := 0
  /-- A host event of WHEEL_ADD. -/
  host   : Bool := false
  deriving DecidableEq, Repr

/-- A captured edge (R390). -/
structure Edge where
  time    : Nat
  falling : Bool
  deriving DecidableEq, Repr

/-- A trigger train (R389). -/
structure Trigger where
  start     : Nat := 0
  period    : Nat := 0
  width     : Nat := 0
  activeLow : Bool := false
  /-- Instant of the next pulse. -/
  next      : Nat := 0
  deriving DecidableEq, Repr

/-- The time base, servo, wheel, triggers and captures. Times are in units of 2^-32 ns. -/
structure Time where
  now      : Nat := 0
  running  : Bool := false
  /-- Increment per 1.6 GHz cycle, 8.32 fixed point in ns (R371). -/
  incr     : Nat := 0xA0000000
  /-- The last 64 offsets in ns and frequency estimates in 0.01 ppb, newest first. -/
  offsets  : List Int := []
  freqs    : List Int := []
  lowRun   : Nat := 0
  highRun  : Nat := 0
  eLock    : Nat := 20
  eEntry   : Nat := 0
  /-- Time of entry of HOLDOVER, or of FREE_RUN after a first LOCKED. -/
  entered  : Nat := 0
  /-- No offset has been seen since the cold start (R372). -/
  first    : Bool := true
  /-- The second that the next PPS edge marks (R460 TIME_SET). -/
  ppsSet   : Option Nat := none
  /-- The whole second at which PPS_OUT next rises (R388). -/
  ppsNext  : Nat := 0
  /-- The servo has stopped until firmware runs again (R375). -/
  stopped  : Bool := false
  wheel    : Sparse (Option WheelEntry) := []
  /-- Expiries and events beyond the horizon of R386, held by firmware. -/
  held     : List (Nat × WheelEntry) := []
  trig     : Sparse Trigger := []
  /-- Capture FIFOs 0 to 3 and PPS_IN, oldest first, and the last accepted edge. -/
  caps     : Sparse (List Edge) := []
  lastEdge : Sparse Nat := []
  /-- A step of more than 1 ms makes the next switch of these channels confirmed (R387). -/
  stepped  : List Nat := []
  /-- Where the latest step landed, in ns, if it went forward: pulses up to there were passed (R387). -/
  passed   : Nat := 0
  deriving DecidableEq, Repr

/-! ## Mailbox, debug port, telemetry -/

/-- An entry of the completion table (R456): none while the command runs. -/
structure Done where
  seq    : Nat
  code   : Option Nat
  result : Nat := 0
  deriving DecidableEq, Repr

/-- A reply that waits its turn (R452). -/
structure Reply where
  seq       : Nat
  opcode    : Nat
  intr      : Bool
  dup       : Bool
  /-- Code and result; none while an entry is not committed or an original runs. -/
  answer    : Option (Nat × Nat)
  out       : Bytes := []
  outAddr   : Nat := 0
  writeFail : Bool := false
  /-- The function has departed: the reply is discarded (R464). -/
  drop      : Bool := false
  deriving DecidableEq, Repr

/-- What a long command waits for (R452). -/
inductive LongWait where
  | ready | journal | rekey | epoch (sc e : Nat) | linkRekey (port : Nat)
  deriving DecidableEq, Repr

/-- A long command that runs. -/
structure LongCmd where
  reply : Reply
  wait  : LongWait
  deriving DecidableEq, Repr

/-- One mailbox beyond its registers. -/
structure Mailbox where
  table   : List Done := []
  replies : List Reply := []
  longs   : List LongCmd := []
  deriving DecidableEq, Repr

/-- The debug port (R471 to R474). -/
structure Debug where
  challenge : Option Bytes := none
  issued    : Nat := 0
  /-- What the next capture of DBG_ACCESS returns. -/
  data      : Nat := 0
  error     : Bool := false
  preload   : Bytes := []
  deriving DecidableEq, Repr

/-- BAR2 (R446): the dwords of the window, by offset / 4, and what the totals hold beyond the registers. -/
structure Telemetry where
  words  : Sparse W32 := []
  /-- What reads have cleared from an RC field, or wraps have taken from a counter, by register address. -/
  totals : Sparse Nat := []
  deriving DecidableEq, Repr

/-! ## Recorder (R435 to R440) -/

/-- The Cowslip recorder. Records are the 32 bytes stored. -/
structure Recorder where
  ring     : List Bytes := []
  /-- The recorder area of the vault: the newest records, oldest first, and how many were stored there since the region was built. -/
  vault    : List Bytes := []
  stored   : Nat := 0
  /-- Records since the last SEAL, and its tag. -/
  unsealed : List Bytes := []
  prevTag  : Bytes := fill 16 0
  /-- Records that a flush has gathered and not yet written (RECORDER_FLUSH). -/
  flushDue : Bool := false
  deriving DecidableEq, Repr

/-! ## Keys (R287 to R322) -/

/-- A key slot (R300). -/
structure Slot where
  source     : Nat := 0
  length     : Nat := 0
  dest       : Nat := 0
  ops        : Nat := 0
  owner      : Nat := 0
  persistent : Bool := false
  expiry     : Nat := 0
  value      : Bytes := []
  uses       : Nat := 0
  /-- Automatic IV counter (R309). -/
  iv         : Nat := 1
  /-- The ceiling last journaled for it (R309). -/
  ivCeil     : Nat := 0
  /-- A clear or expiry waits for requests in flight (R302). -/
  clearDue   : Bool := false
  deriving DecidableEq, Repr

/-- A lookaside request in flight (R306). -/
structure LaReq where
  entry  : Bytes
  index  : Nat
  /-- The key as read at the start, the IV, and a code found at the start. -/
  key    : Bytes
  iv     : Bytes
  code   : Option Nat
  slot   : Nat
  deriving DecidableEq, Repr

/-- The key store. -/
structure Keys where
  /-- Epkai root E, identity base D and recorder key (R288). -/
  e      : Option Bytes := none
  d      : Bytes := []
  recKey : Bytes := []
  slots  : Sparse Slot := []
  /-- Requests in flight of rings 0 to 7, oldest first. -/
  rings  : Sparse (List LaReq) := []
  /-- The ring of 1 to 7 whose turn it is, the starts that its weight leaves it, and the rings whose next request waits on its fence
  (R305, R311). -/
  turn   : Nat := 7
  credit : Nat := 0
  fenced : List Nat := []
  /-- Owner key digests in fuses, first programmed first, and how many of them were there at the last cold start, when they take effect
  (R318, R320). -/
  owners : List Bytes := []
  inForce : Nat := 0
  /-- Vendor key revocation mask (R66). -/
  revoked : Nat := 0
  /-- Anti-rollback entries programmed (R68). -/
  fwFuses : List Nat := []
  cfgFuses : List Nat := []
  /-- Certificates of the alias keys (R297). -/
  aliasCerts : Bytes := []
  deriving DecidableEq, Repr

/-! ## The public-key engine (R323 to R345) -/

/-- A job of the public-key engine: its number and the 64-byte descriptor (R328). -/
structure PkeJob where
  num  : Nat
  desc : Bytes
  /-- The value of the slot that it read when it started (R331). -/
  key  : Option Bytes := none
  /-- A firmware job, with its input and its random bytes, and the line port whose key agreement asked for it. -/
  fw    : Bool := false
  input : Bytes := []
  rnd   : Bytes := []
  port  : Option Nat := none
  deriving DecidableEq, Repr

/-- The public-key engine beyond its registers. -/
structure Pke where
  /-- Operand memory (R323): the words of 64 bits that are not zero, by place. -/
  opmem   : Sparse Nat := []
  /-- Jobs of the host and of firmware that wait, oldest first (R325); of firmware's the first 256 are in the engine's queue. -/
  queue   : List PkeJob := []
  fwQueue : List PkeJob := []
  /-- The round (R325): the turn is the host's, and the jobs that the context has had in its turn. -/
  hostTurn : Bool := false
  taken   : Nat := 0
  /-- The job that is loading or computing, with the input it has read. -/
  running : Option (PkeJob × Bytes) := none
  /-- The numbers of the next host job and of the next firmware job. -/
  next    : Nat := 1
  fwNext  : Nat := 1
  /-- Nanoseconds spent running jobs and wipes. -/
  busyNs  : Nat := 0
  /-- Instants in ns of the last FAULTs with detail 1, newest first (R344). -/
  faults  : List Nat := []
  deriving DecidableEq, Repr

/-! ## Vault (R346 to R370) -/

/-- A node of the counter tree (R352). -/
structure Node where
  major  : Nat := 0
  /-- The 384-bit number of minors. -/
  minors : Nat := 0
  keyId  : Nat := 0
  /-- The tag with which the stacks hold it, of the last time that it was written (R351, R354). -/
  tag    : BitVec 64 := 0
  deriving DecidableEq, Repr

/-- A data line as both stacks hold it: the ciphertext and its tag (R346, R351). -/
structure VLine where
  ct  : BitVec 512
  tag : BitVec 64
  deriving DecidableEq, Repr

/-- The vault beyond its registers. Both copies of a line are the same; what befell a copy since is an operand of the command that reads
it (log entry 10, DESIGN CHOICE). -/
structure Vault where
  /-- The data lines written since the region was built; the others hold what the areas hold there, zeros at first (R349, R365). -/
  lines    : Sparse (Option VLine) := []
  /-- The 96 bytes of keys of each live key ID (R350). -/
  keys     : Sparse Bytes := []
  /-- Nodes by level (0 leaf to 3) and index: key `2^28 * level + index`. -/
  nodes    : Sparse Node := []
  roots    : Sparse Nat := []
  /-- Cached nodes, most recently used first, and which of them are dirty (R354). -/
  cache    : List Nat := []
  dirty    : List Nat := []
  salt     : Bytes := []
  /-- Key ID under which the region was built: the head of every node that has not been written since (R352, R365, R367). -/
  base     : Nat := 0
  /-- Times in seconds of the mismatches in the window (R360), and of the repairs of each stack in ns (R362). -/
  mismatches : List Nat := []
  repairs0 : List Nat := []
  repairs1 : List Nat := []
  scrubAt  : Nat := 0
  deriving DecidableEq, Repr

/-! ## Line ports (R72 to R94) -/

/-- A record of a container that is being built, or a frame's place in it: the bytes of the record (R83), the octets P, and the time
stamps that the transparent clock needs at close (R381). -/
structure DenRecord where
  bytes  : Bytes
  octets : Nat
  /-- Receive time and ingress port of the frame, for the transparent clock (R381). -/
  ptp    : Option (Nat × Nat) := none
  /-- A cell of the frame turned out uncorrectable after the frame was committed (R190). -/
  bad    : Bool := false
  deriving DecidableEq, Repr

/-- What a port transmits after commit: whose ICV has not been released (R241). -/
structure Release where
  /-- Whole bytes on the wire for Ethernet; the payload for a Denast container. -/
  bytes  : Bytes
  icv    : Bytes := []
  /-- The frame before protection, for a rewind (R246), and the channel that protects it. -/
  plain  : Bytes := []
  sc     : Option Nat := none
  /-- Records of a container. -/
  records : List DenRecord := []
  sa     : Nat := 0
  pn     : Nat := 0
  an     : Nat := 0
  blocks : Nat := 0
  /-- Slice 0 to 8 and lane that hold its blocks; none for a bypassed frame (R28). -/
  lane   : Option (Nat × Nat) := none
  /-- Event messages that the transparent clock has corrected in it (R382). -/
  tc     : Nat := 0
  cls    : Nat := 0
  /-- Receive time and ingress port of the frame, for a rewind (R382). -/
  ptp    : Option (Nat × Nat) := none
  /-- A cell of it turned out uncorrectable after commit: it is aborted on the wire (R190). -/
  bad    : Bool := false
  deriving DecidableEq, Repr

/-- A frame at the commit stage of a port (R25): its bytes as read from the buffer, and the decision. -/
structure CommitItem where
  bytes  : Bytes
  /-- The channel that protects it; none for transmission in clear. -/
  sc     : Option Nat
  /-- Class that the record of a Denast frame carries (R83). -/
  cls    : Nat := 0
  /-- Receive time of the frame, for the residence time (R380). -/
  rx     : Nat := 0
  /-- Ingress port in R117 numbering; 144 for the management cores. -/
  source : Nat := 144
  /-- It waits at its channel's hard limit (R255). -/
  held   : Bool := false
  /-- A cell of the copy turns out uncorrectable after commit (R190). -/
  bad    : Bool := false
  /-- Port rewind has withdrawn it (R246). -/
  again  : Bool := false
  deriving DecidableEq, Repr

/-- A partner (R93): its peer_id and port, or the SCI of a live MKA peer (R94). -/
structure Partner where
  id     : Bytes
  port   : Nat := 0
  twoWay : Bool := false
  deriving DecidableEq, Repr

/-- A live MKA peer (IEEE 802.1X-2020). -/
structure MkaPeer where
  mi       : Bytes
  sci      : Bytes
  priority : Nat
  /-- It has no current link secret on the port (R277). -/
  fresh    : Bool := false
  deriving DecidableEq, Repr

/-- MKA on a port (R275 to R277). -/
structure Mka where
  running : Bool := false
  mi      : Bytes := []
  mn      : Nat := 0
  peers   : List MkaPeer := []
  /-- SAK distributed last: association number, key number, key, salt, SSCI; and whether this part has distributed it. -/
  kn      : Nat := 0
  an      : Nat := 0
  key     : Bytes := []
  mine    : Bool := false
  rx      : Bool := false
  tx      : Bool := false
  /-- A SAK that waits until the SA of its AN is retired (R276). -/
  wait    : Option Sak := none
  /-- The port byte of the partner, from its first link-control message (R271). -/
  byte    : Option Nat := none
  deriving DecidableEq, Repr

/-- Where a key agreement stands (R272). -/
inductive KaStep where
  | idle | offered | accepted | finished | backoff
  deriving DecidableEq, Repr

/-- Key agreement and link secrets of a port (R267 to R274). -/
structure Link where
  step    : KaStep := .idle
  session : Nat := 0
  /-- The last offer sent. -/
  offer   : Bytes := []
  /-- The ephemeral P-384 scalar and the ML-KEM seed of this end. -/
  ecKey   : Nat := 0
  kemSeed : Bytes := []
  /-- The secret agreed and not yet adopted by KA_DONE, with the transcript digest. -/
  fresh   : Bytes := []
  digest  : Bytes := []
  adopt   : Nat := 0
  fails   : Nat := 0
  /-- Current and pending secret, and the grid index at which the pending one is adopted. -/
  current : Bytes := []
  pending : Bytes := []
  adoptAt : Nat := 0
  /-- The peer_id and the port byte of the partner that the secrets are shared with. -/
  peer    : Bytes := []
  peerPort : Nat := 0
  deriving DecidableEq, Repr

/-- A line port or uplink port beyond its registers. -/
structure Port where
  /-- Uplink: auto-negotiation and training complete (R74). -/
  anDone   : Bool := false
  trained  : Bool := false
  /-- An entry of each defect has been reported (R104), bits as PRT_DEFECT.current. -/
  reported : Nat := 0
  degRun   : Nat := 0
  goodRun  : Nat := 0
  /-- Denast receive: expected sequence, ICV failures in a row, AIS containers with no data container between. -/
  rxSeq    : Option Nat := none
  icvRun   : Nat := 0
  aisRun   : Nat := 0
  /-- HELLO: sequence sent, the last HELLO's sender, and the maximum that it advertised. -/
  helloOn  : Bool := false
  helloSeq : Nat := 0
  heard    : Option Partner := none
  maxPay   : Nat := 0
  partner  : Option Partner := none
  /-- The last data container sent: AN and sequence (R81). -/
  lastSent : Option (Nat × Nat) := none
  /-- The records of the open container, and whether its close waits for a sequence (R255). -/
  openRecs : List DenRecord := []
  openHeld : Bool := false
  /-- Containers withdrawn by a rewind that wait for a sequence or a lane, as records and payload length, oldest first (R246). -/
  shut     : List (List DenRecord × Nat) := []
  commits  : List CommitItem := []
  release  : List Release := []
  /-- The stall has lasted egress_stall_us (R187). -/
  stallOut : Bool := false
  link     : Link := {}
  mka      : Mka := {}
  deriving DecidableEq, Repr

/-- Pluggable modules beyond their registers (R95 to R98). -/
structure Cage where
  /-- Consecutive acknowledged and unacknowledged polls. -/
  acks  : Nat := 0
  nacks : Nat := 0
  /-- Step of the bring-up: 0 none, 1 to 5 as R96 lists them. -/
  step  : Nat := 0
  deriving DecidableEq, Repr

/-! ## Performance (R109 to R118) -/

/-- Counts of a bin. -/
structure Bin where
  start    : Nat := 0
  es       : Nat := 0
  ses      : Nat := 0
  uas      : Nat := 0
  bbe      : Nat := 0
  /-- Port: fec_corr, fec_uncorr; channel: blocks in `fecCorr`. -/
  fecCorr  : Nat := 0
  fecBad   : Nat := 0
  downs    : Nat := 0
  los      : Nat := 0
  ais      : Nat := 0
  rdi      : Nat := 0
  icvs     : Nat := 0
  rps      : Nat := 0
  nosa     : Nat := 0
  suspect  : Bool := false
  /-- Present in every second so far. -/
  disabled : Bool := true
  /-- Parameters whose alert has fired: bits 0 to 5. -/
  alerted  : Nat := 0
  deriving DecidableEq, Repr

/-- A second whose classification is not final (R111): its class, and what it adds to a bin whether it proves available or not. -/
structure Second where
  at_   : Nat
  ses   : Bool
  es    : Bool
  /-- A port's errored-block ratio reaches deg_ppm (R109). -/
  deg   : Bool := false
  bbe   : Nat
  add   : Bin := {}
  deriving DecidableEq, Repr

/-- Performance of a port or channel. -/
structure Perf where
  /-- Current bin, and one that is closed and not completed. -/
  cur15  : Bin := {}
  curDay : Bin := {}
  old15  : Option Bin := none
  oldDay : Option Bin := none
  /-- Completed bins, newest first: 32 on die; one day. -/
  done15 : List Bin := []
  doneDay : List Bin := []
  /-- Vault history: 672 fifteen-minute bins and 7 day bins. -/
  vault15 : List Bin := []
  vaultDay : List Bin := []
  /-- Seconds that wait for the start or end of unavailability. -/
  wait   : List Second := []
  unavail : Bool := false
  /-- What this second has seen: defects of R110 and, for a channel, ICV failures, replay drops, blocks. -/
  sfSeen : Bool := false
  losSeen : Bool := false
  aisSeen : Bool := false
  rdiSeen : Bool := false
  nosaSeen : Bool := false
  blocks : Nat := 0
  bad    : Nat := 0
  replays : Nat := 0
  downs  : Nat := 0
  deriving DecidableEq, Repr

/-- The performance monitor: entities 0 to 143 the ports, 144 + SC the channels. -/
structure Pm where
  ents   : Sparse Perf := []
  /-- Bins are open (R39 step 20), with their starts in TAI seconds and their suspect flags. -/
  on     : Bool := false
  start15 : Nat := 0
  startDay : Nat := 0
  suspect15 : Bool := false
  suspectDay : Bool := false
  /-- A step has passed the end of the open bin (R114). -/
  crossed15 : Bool := false
  crossedDay : Bool := false
  /-- The second at which a forward step left the open fifteen-minute bin, and the length in seconds of the closed one (R114, R118). -/
  cut15  : Nat := 0
  dur15  : Nat := 900
  binSeq : Nat := 0
  /-- The alert log, oldest first (R115). -/
  tca    : List W32 := []
  deriving DecidableEq, Repr

/-! ## Frames in the buffer (R21, R174 to R192) -/

/-- A frame that the part stores, from its first cell to its last. -/
structure Frame where
  /-- Ingress port in R117 numbering; 144 for the management cores. -/
  port    : Nat
  /-- The plaintext frame as stored, destination address to FCS. -/
  bytes   : Bytes
  /-- The first check of R21 that it fails, if one is known to fail: 0 partial, 1 FCS, 2 length, 3 ICV or replay. -/
  fail    : Option Nat := none
  /-- Protected: verdict 1; bypassed in clear: 2; clear port: 0. -/
  verdict : Nat := 0
  sc      : Nat := 65535
  sa      : Nat := 0
  an      : Nat := 0
  pn      : Nat := 0
  /-- Its ICV verifies; and the verdict of R224 is still to come. -/
  icvOk   : Bool := true
  waitIcv : Bool := false
  /-- Ingress slice 9 to 17 and lane that hold its blocks, and how many, until the verdict (R223). -/
  lane    : Option (Nat × Nat) := none
  blocks  : Nat := 0
  /-- Time stamp at the MDI (R377), in ns. -/
  rx      : Nat := 0
  cls     : Nat := 0
  tenant  : Nat := 0
  hasTenant : Bool := true
  metadata : Nat := 0
  /-- Decided: admitted to its queues, or punted (R180, R185). -/
  decided : Bool := false
  punt    : Option Nat := none
  /-- The queues that admitted it, as egress ports; multicast copies; next hop for the rewrite; policer mark. -/
  queues  : List Nat := []
  copies  : Bool := false
  nextHop : Option (Nat × Nat) := none
  marked  : Bool := false
  /-- Its cells as charged to its queues at the decision; those written later, from the shared pool and from its ingress port's
  headroom (R180, R181). -/
  early   : Nat := 0
  shared  : Nat := 0
  head    : Nat := 0
  /-- A cell of it has been retired (R190). -/
  retired : Bool := false
  /-- Dropped before its verdict, which the cipher still gives; its cells are free. -/
  gone    : Bool := false
  /-- What it teaches: the pipeline and the operation that waits for its eligibility (R159). -/
  learn   : Option (Nat × Nat) := none
  hit     : Option (Nat × Nat) := none
  /-- Protection that firmware names, for a frame of the management cores (R123). -/
  prot    : Option Protection := none
  deriving DecidableEq, Repr

/-- A frame in a class queue: its number, and the cycle in which it was linked (R214). -/
structure Queued where
  frame  : Nat
  linked : Nat
  deriving DecidableEq, Repr

/-- A class queue of a port (R197, R201). -/
structure Queue where
  frames : List Queued := []
  tag    : Nat := 0
  deriving DecidableEq, Repr

/-- Where the delineation of a Denast port stands, in stream bytes after the alignment marker on which lock was declared (R87). -/
structure Delin where
  /-- The position that the receiver examines next, and that of the candidate of PRESYNC. -/
  pos  : Nat := 0
  cand : Nat := 0
  /-- The PLI of the header that was accepted last, while its container is still to come. -/
  due  : Option Nat := none
  /-- That header was the third bad one in a row: the port leaves SYNC once it has been used (R88). -/
  last : Bool := false
  deriving DecidableEq, Repr

/-- A container in the ingress cipher, until its ICV verdict (R223, R226). -/
structure Box where
  port    : Nat
  sc      : Nat
  sa      : Nat
  an      : Nat
  seq     : Nat
  /-- The plaintext payload, and whether its ICV verifies. -/
  payload : Bytes
  icvOk   : Bool
  /-- Ingress slice 9 to 17 and lane that hold its blocks, and how many. -/
  lane    : Option (Nat × Nat)
  blocks  : Nat
  rx      : Nat
  deriving DecidableEq, Repr

/-! ## Sorrel (R119 to R149) -/

/-- The disposition that a program leaves (R137, R138). -/
inductive Terminal where
  | accept | drop | punt (reason : Nat) | protect (sc : Nat) | bypass
  deriving DecidableEq, Repr

/-- How a program's run ends, with its held actions (R136). -/
structure Run where
  terminal : Option Terminal
  /-- The run ended on a bad action (R138). -/
  bad      : Bool := false
  /-- The limit of R141 was reached, and PROGRAM_OVERRUN has not yet come. -/
  overran  : Bool := false
  /-- The terminal is the default action of the port and direction. -/
  dflt     : Bool := false
  cls      : Nat := 0
  tenant   : Nat := 0
  egress   : Nat := 0
  metadata : Nat := 0
  counts   : List Nat := []
  /-- Cycles used, and of them stalls and taken-branch cycles; lookups issued (R476, R477). -/
  cycles   : Nat := 0
  stalls   : Nat := 0
  branches : Nat := 0
  lookups  : Nat := 0
  deriving DecidableEq, Repr

/-- A frame between the parser and its result, or one that waits ahead of the parser (R121). -/
structure Flight where
  /-- The frame's number on ingress; the copy of an egress frame below. -/
  frame   : Nat := 0
  bytes   : Bytes := []
  cls     : Nat := 0
  tenant  : Nat := 0
  metadata : Nat := 0
  source  : Nat := 0
  copy    : Bool := false
  rx      : Nat := 0
  /-- The engine that it was dispatched to, and the cycle in which its terminal action issues (R120). -/
  engine  : Option Nat := none
  due     : Nat := 0
  /-- The frame had ended when its program started. -/
  ended   : Bool := true
  /-- A cell of the copy turns out uncorrectable after commit (R190). -/
  bad     : Bool := false
  /-- One more than the generation of the cluster's program that runs it (R149), and a bad action of it is counted. -/
  gen     : Nat := 0
  counted : Bool := false
  run     : Option Run := none
  deriving DecidableEq, Repr

/-- A cluster: the overlay in force, replaced programs by generation while frames still run on them, and the generation (R149). -/
structure Cluster where
  overlay : Bytes := []
  prior : List (Nat × Bytes) := []
  gen  : Nat := 0
  deriving DecidableEq, Repr

/-- An entry of a table: key, mask, value (R133). -/
structure TabEntry where
  key   : Nat := 0
  mask  : Nat := 0
  value : Nat := 0
  deriving DecidableEq, Repr

/-! ## Forwarding (R150 to R173) -/

/-- A MAC table entry (R156). -/
structure MacEntry where
  valid   : Bool := false
  pending : Bool := false
  static  : Bool := false
  sync    : Bool := false
  hit     : Bool := false
  stale   : Bool := false
  kind    : Nat := 0
  dest    : Nat := 0
  fid     : Nat := 0
  mac     : Nat := 0
  deriving DecidableEq, Repr

/-- A row of the LPM store (R167). -/
structure LpmRow where
  valid : Bool := false
  len   : Nat := 0
  pfx   : Nat := 0
  nh    : Nat := 0
  deriving DecidableEq, Repr

/-- A relocation chain in progress: the new entry, and the moves still to make as source and destination positions, the next first
(R157). `copied` holds while the destination of the next move is written and its source not yet cleared. -/
structure Chain where
  entry  : MacEntry
  moves  : List (Nat × Nat)
  target : Nat
  copied : Bool := false
  len    : Nat := 0
  deriving DecidableEq, Repr

/-- A pending learn (R159): a new entry, or a port change to a port. -/
structure Learn where
  fid   : Nat
  mac   : Nat
  port  : Nat
  fresh : Bool
  deriving DecidableEq, Repr

/-- An event of the synchronisation queue (R162): removal, or a learn or port change. -/
structure SyncEvent where
  removal : Bool
  fid     : Nat
  mac     : Nat
  port    : Nat
  deriving DecidableEq, Repr

/-- Forwarding of a pipeline. -/
structure Pipe where
  mac     : Sparse MacEntry := []
  lpm     : Sparse LpmRow := []
  /-- First rows of the regions, longest length first: IPv4, and IPv6 in row pairs (R167). -/
  v4      : List Nat := []
  v6      : List Nat := []
  nh      : Sparse Bytes := []
  chain   : Option Chain := none
  /-- The pending buffer: operations by number (R159, R160), the synchronisation events that wait, and a rescan (R162). -/
  learns  : Sparse (Option Learn) := []
  events  : List SyncEvent := []
  rescan  : Bool := false
  deriving DecidableEq, Repr

/-! ## Policers and shapers (R203, R210) -/

/-- Tokens as of a cycle, in units of 1/204,800,000 byte, in which every rate accrues a whole number a cycle: a policer's two buckets,
or a shaper's bucket and what it has been charged in that cycle (R206). -/
structure Tokens where
  a     : Int := 0
  b     : Int := 0
  cycle : Nat := 0
  deriving DecidableEq, Repr

/-! ## Secure channels (R247 to R286) -/

/-- An SA context (R249). -/
structure Sa where
  installed : Bool := false
  tx        : Bool := false
  sc        : Nat := 0
  an        : Nat := 0
  current   : Bool := false
  accepting : Bool := false
  epoch     : Nat := 0
  suite     : Nat := 0
  /-- Key, its GHASH subkey, and salt (R220, R249). -/
  key       : Bytes := []
  subkey    : Bytes := []
  salt      : Bytes := []
  ssci      : Nat := 0
  nextPn    : Nat := 1
  w         : Nat := 0
  soft      : Bool := false
  hard      : Bool := false
  frames    : Nat := 0
  octets    : Nat := 0
  /-- pn_discarded or in_icv_fail; in_replay. -/
  fails     : Nat := 0
  replays   : Nat := 0
  /-- Digest or copy of the link secret that the key was derived from (R271). -/
  secret    : Bytes := []
  /-- HOST: key slot, the journaled PN ceiling, and the ceiling whose entry is not yet committed. -/
  slot      : Nat := 0
  ceiling   : Nat := 0
  ceilNext  : Nat := 0
  /-- A retirement waits for the last frame of the SA (R251, R252). -/
  retireDue : Bool := false
  deriving DecidableEq, Repr

/-- A channel as the image lists it (R282). -/
structure Chan where
  sc      : Nat
  port    : Nat
  tx      : Bool
  flag1   : Bool
  count   : Nat
  offset  : Nat
  suite   : Nat
  mode    : Nat
  profile : Nat
  sci     : Bytes
  ssci    : Nat
  base    : Nat
  w       : Nat
  deriving DecidableEq, Repr

/-- The running state of a channel (R257 to R265). -/
structure ScRun where
  /-- A first epoch has been started. -/
  on        : Bool := false
  epoch     : Nat := 0
  skip      : Int := 0
  confirmed : Bool := false
  late      : Bool := false
  /-- The awaited switch for which SAS_LATE has been counted (R264). -/
  lateFor   : Option Nat := none
  blocked   : Bool := false
  /-- Epoch that an outstanding ADVANCE_REQ asks for. -/
  advance   : Option Nat := none
  /-- Transmit: RX_READY is awaited for the switch at hand. Receive: RX_READY is repeated for this epoch until proof. -/
  await     : Option Nat := none
  /-- TX_SWITCHED messages still to send, and the epoch they name. -/
  switched  : Nat := 0
  /-- Receive: the epoch to retire, the earliest time for it in µs, and whether the peer has proved its switch (R259). -/
  retire    : Option Nat := none
  retireAt  : Nat := 0
  proof     : Bool := false
  /-- Receive: the next frame under the new epoch's AN raises skip by one (R265). -/
  skipDue   : Bool := false
  /-- Timed SA_ACTIVATEs to come: AN and instant in ns. -/
  active    : List (Nat × Nat) := []
  /-- Receive: the first epoch under a new secret, to be loaded once the SA that holds its slot has retired (R252, R273). -/
  loadDue   : Option (Nat × Nat) := none
  deriving DecidableEq, Repr

/-- A peer table entry (R278, R284). -/
structure Peer where
  used   : Bool := false
  id     : Bytes := []
  denast : Bool := false
  epoch  : Bool := false
  drop   : Bool := false
  hold   : Nat := 0
  ports  : Nat := 0
  /-- Recorded for a live MKA peer (R278). -/
  live   : Bool := false
  deriving DecidableEq, Repr

/-- The datapath beyond its registers. -/
structure Data where
  ports   : Sparse Port := []
  cages   : Sparse Cage := []
  frames  : Sparse (Option Frame) := []
  nextId  : Nat := 0
  /-- Containers in the ingress cipher, by number; and the records of each Denast port that wait ahead of the parser, with the number of
  their container (R122). -/
  boxes   : Sparse (Option Box) := []
  inbox   : Sparse (List (Nat × Frame)) := []
  delin   : Sparse Delin := []
  /-- One more than the cycle of the last dequeue of each port (R198). -/
  served  : Sparse Nat := []
  /-- The cycle from which each egress lane is free: key `2 slice + lane` (R221). -/
  lanes   : Sparse Nat := []
  /-- Frames of each ingress port in arrival order (R184). -/
  order   : Sparse (List Nat) := []
  queues  : Sparse Queue := []
  /-- Virtual times by port and level: key `8 p + level` (R201). -/
  vtime   : Sparse Nat := []
  mgmtQ   : List Nat := []
  /-- Frames between the parser and their results: key `2 port + direction`. -/
  flights : Sparse (List Flight) := []
  clusters : Sparse Cluster := []
  /-- Tables T0 to T6 of the clusters: key `8 cluster + table`. -/
  tables  : Sparse (List (Option TabEntry)) := []
  /-- Program counters: key `8192 cluster + index`; frames and bytes (R136). -/
  counts  : Sparse (Nat × Nat) := []
  pipes   : Sparse Pipe := []
  groups  : Sparse Nat := []
  shapers : Sparse Tokens := []
  policers : Sparse Tokens := []
  /-- Policer maps of the ports, 4 bytes each, and tenant maps: key `4096 pipe + tenant` (R209). -/
  polMap  : Sparse Bytes := []
  tenMap  : Sparse (Option Nat) := []
  sas     : Sparse Sa := []
  /-- Addresses at which each macro of the SA stores has yielded corrections (R424): key `18 pipeline + macro`. -/
  saErrs  : Sparse (List Nat) := []
  chans   : List Chan := []
  scs     : Sparse ScRun := []
  peers   : Sparse Peer := []
  /-- Epoch keys in the vault: key `2^64 sc + epoch` (R262). -/
  epochs  : Sparse Bytes := []
  deriving DecidableEq, Repr

/-! ## Health (R481 to R492) -/

/-- Health beyond its registers. (log entry 7, DESIGN CHOICE) -/
structure Health where
  /-- CORE_VID and CORE_VID_LE (R497). -/
  vid     : Nat := 60
  vidLe   : Bool := true
  /-- Plans recorded, as TAI seconds and mV, oldest first; table copy and sequence written last; erase counts (R490). -/
  plans   : List (Nat × Nat) := []
  copy    : Nat := 3
  seq     : Nat := 0
  counts  : Sparse Nat := []
  restarted : Bool := false
  /-- The counts as of each write of the table in the last 30 days, with its TAI second, newest first. -/
  wear    : List (Nat × Sparse Nat) := []
  /-- The guard has raised the rail since the last plan (R484). -/
  raised  : Bool := false
  /-- TAI second of the last excursion plan, and an excursion plan that has been ordered (R483). -/
  excursionAt : Option Nat := none
  ordered : Bool := false
  /-- Daily minima of the lanes, as day and mV, newest first (R488). -/
  lanes   : Sparse (List (Nat × Nat)) := []
  /-- Forecasts that have raised the attention and not re-armed: 0 core, 1 cell, 2 and 3 flash, 4 + l lanes (R487). -/
  alerted : List Nat := []
  deriving DecidableEq, Repr

/-! ## The part -/

/-- Everything but the queue of commands. (log entry 7, DESIGN CHOICE) -/
structure Chip where
  /-- Main power is applied (R393). -/
  power   : Bool := false
  /-- The register map: BAR0 byte address to word (R444). -/
  regs    : Sparse W32 := []
  /-- Shadows of R12: key `2^20 * initiator + address of the higher word`, with initiators 0 and 1 sharing 0 (R445). -/
  shadows : Sparse W32 := []
  /-- The state counter from which free values are drawn (log entry 5, DESIGN CHOICE). -/
  free    : Nat := 0
  out     : List Out := []
  ao      : AlwaysOn := {}
  flash0  : Flash := {}
  flash1  : Flash := {}
  /-- Journal entries not yet committed, oldest first, and the last sequence given (R53). -/
  jpend   : List JEntry := []
  jseq    : Nat := 0
  /-- The active journal half (R54). -/
  jhalf   : Nat := 0
  /-- The image in force. -/
  img     : Option Image := none
  start   : Start := {}
  time    : Time := {}
  mb0     : Mailbox := {}
  mb1     : Mailbox := {}
  /-- One more than the time in ns of the last recorded denial of each unit (R467). -/
  denTime : Sparse Nat := []
  dbg     : Debug := {}
  tele    : Telemetry := {}
  cow     : Recorder := {}
  keys    : Keys := {}
  pke     : Pke := {}
  vault   : Vault := {}
  /-- Cycles of the 1.6 GHz clock since the cold start began. -/
  cycle   : Nat := 0
  data    : Data := {}
  pm      : Pm := {}
  health  : Health := {}
  /-- Sectors of each slot that the image being written has reached (R460 IMAGE_WRITE): key `192 slot + sector`. -/
  reached : List Nat := []
  deriving DecidableEq, Repr

/-- The state of the machine: the commands that wait, first in first out, and the part. (log entry 68, DEDUCED) -/
structure State where
  pending : List Instr := []
  chip    : Chip := {}
  deriving DecidableEq, Repr

/-- The machine right after reset: no command waits, and the part is as it is delivered, without power. (log entry 7, DESIGN CHOICE) -/
def State.reset : State := {}

end Sys2Proof.Machine
end

