-- ==== Sys2Proof/Machine/Ops.lean ====
section
/-! DEFINITION. The named operations that the meanings share: register words and fields, counters, free values, what leaves the
part, attentions, interrupts, and the Cowslip recorder. -/

namespace Sys2Proof.Machine

/-- A table with every entry changed; entries that become the default `d` leave it, so the canonical form is kept. -/
def mapTable {α : Type} [DecidableEq α] (d : α) (f : Nat → α → α) (m : Sparse α) : Sparse α :=
  m.filterMap (fun e => if f e.1 e.2 = d then none else some (e.1, f e.1 e.2))

/-! ## Registers (R7, R13) -/

/-- Floor class of each tamper source, which is also its default class (R394): 1 ALERT, 2 HALT, 3 ERASE. -/
def tamperFloor : List Nat := [2, 2, 2, 2, 1, 2, 3, 2, 3, 2, 3, 1, 1, 1, 1, 2, 2, 1]

/-- Sources sampled on the cell (R394). -/
def tamperOnCell (n : Nat) : Bool := [4, 5, 6, 8, 10, 11, 12, 13, 14, 17].contains n

/-- The value of TMP_SRC[n] at the first connection of the cell: default class, floor, used, on_cell (R394). -/
def tmpSrcReset (n : Nat) : W32 :=
  BitVec.ofNat 32 (tamperFloor.getD n 0 * 5 + 16 + 32 * b2n (tamperOnCell n))

/-- The reset value of the word at an address. (log entry 7, DESIGN CHOICE) (log entry 62, DESIGN CHOICE) -/
def resetWord (a : Nat) : W32 :=
  if R.TMP_SRC 0 ≤ a && a < R.TMP_SRC 18 then tmpSrcReset ((a - R.TMP_SRC 0) / 4)
  else match descOf a with
  | some (d, _) => d.reset
  | none => 0

/-- The word at an address. -/
def Chip.word (c : Chip) (a : Nat) : W32 := Sparse.get (resetWord a) c.regs a

/-- The part with another word at an address. -/
def Chip.setWord (c : Chip) (a : Nat) (w : W32) : Chip :=
  { c with regs := Sparse.set (resetWord a) c.regs a w }

/-- The bits of a field. -/
def Fld.mask (f : Fld) : W32 := BitVec.ofNat 32 ((2 ^ f.w - 1) * 2 ^ f.lo)

/-- A word with another value in a field. -/
def Fld.put (f : Fld) (x : W32) (v : Nat) : W32 :=
  (x &&& ~~~f.mask) ||| BitVec.ofNat 32 (v % 2 ^ f.w * 2 ^ f.lo)

/-- The value of a field of a word. -/
def Fld.get (f : Fld) (x : W32) : Nat := bits x.toNat f.lo f.w

/-- The value of a register field. -/
def Chip.rd (c : Chip) (f : Fld) : Nat := f.get (c.word f.reg)

/-- The part with another value in a register field, reduced to its width. -/
def Chip.wr (c : Chip) (f : Fld) (v : Nat) : Chip := c.setWord f.reg (f.put (c.word f.reg) v)

/-- A one-bit field as a Boolean. -/
def Chip.flag (c : Chip) (f : Fld) : Bool := c.rd f != 0

/-- Sets or clears a one-bit field. -/
def Chip.wrb (c : Chip) (f : Fld) (b : Bool) : Chip := c.wr f (b2n b)

/-- The value of `k` consecutive words, the least significant first (R12). -/
def Chip.num (c : Chip) (a : Nat) : Nat → Nat
  | 0 => 0
  | k + 1 => (c.word a).toNat + 2 ^ 32 * c.num (a + 4) k

/-- Writes a value across `k` consecutive words. -/
def Chip.setNum (c : Chip) (a : Nat) : Nat → Nat → Chip
  | 0, _ => c
  | k + 1, v => (c.setWord a (BitVec.ofNat 32 v)).setNum (a + 4) k (v / 2 ^ 32)

/-- Adds to a 32-bit counter, which wraps (R13). -/
def Chip.add (c : Chip) (a n : Nat) : Chip := c.setWord a (c.word a + BitVec.ofNat 32 n)

/-- Adds to a counter of `k` words and `w` bits, which wraps (R12, R13). -/
def Chip.addWide (c : Chip) (a k w n : Nat) : Chip := c.setNum a k ((c.num a k + n) % 2 ^ w)

/-- Counts one event. -/
def Chip.bump (c : Chip) (a : Nat) : Chip := c.add a 1

/-- Adds to a field that saturates. -/
def Chip.sat (c : Chip) (f : Fld) (n : Nat) : Chip := c.wr f (min (c.rd f + n) (2 ^ f.w - 1))

/-- Raises a high-water mark, which saturates. -/
def Chip.mark (c : Chip) (f : Fld) (v : Nat) : Chip := c.wr f (max (c.rd f) (min v (2 ^ f.w - 1)))

/-- Counts one event in a 32-bit counter that saturates. -/
def Chip.sat32 (c : Chip) (a n : Nat) : Chip :=
  c.setWord a (BitVec.ofNat 32 (min ((c.word a).toNat + n) (2 ^ 32 - 1)))

/-! ## Free values, outputs -/

/-- A free value of `w` bits, and the part with its counter advanced. (log entry 5, DESIGN CHOICE) -/
def Chip.freeNat (c : Chip) (w : Nat) : Nat × Chip :=
  (Config.freeValue c.free w % 2 ^ w, { c with free := c.free + 1 })

/-- `n` fresh random bytes (R293), and the part with its counter advanced. (log entry 5, DESIGN CHOICE) -/
def Chip.random (c : Chip) (n : Nat) : Bytes × Chip :=
  ((Config.randomBytes c.free n ++ fill n 0).take n, { c with free := c.free + 1 })

/-- Something leaves the part. (log entry 8, DESIGN CHOICE) -/
def Chip.emit (c : Chip) (o : Out) : Chip := { c with out := c.out ++ [o] }

/-- Runs a step on the part under main power, which it leaves on; nothing happens without main power (R393).
(log entry 2, DESIGN CHOICE) -/
def State.act (s : State) (f : Chip → Chip) : Host.Outcome State Fault Refusal :=
  .next { s with chip := if s.chip.power then { f s.chip with power := true } else s.chip }

/-- Runs a step on the part whether or not it has main power. (log entry 2, DESIGN CHOICE) -/
def State.always (s : State) (f : Chip → Chip) : Host.Outcome State Fault Refusal :=
  .next { s with chip := f s.chip }

/-- Runs a step on a unit that the part has, and stops with `noUnit` for one it does not have (R14) (log entry 6, DESIGN CHOICE).
(log entry 2, DESIGN CHOICE) -/
def State.actOn (s : State) (ok : Bool) (f : Chip → Chip) : Host.Outcome State Fault Refusal :=
  if ok then s.act f else .fault .noUnit

/-! ## Time (R371) -/

/-- One nanosecond in the units of the time base. (log entry 21, DEDUCED) -/
def nsUnit : Nat := 2 ^ 32

/-- The time base in whole nanoseconds. -/
def Chip.ns (c : Chip) : Nat := c.time.now / nsUnit

/-- The time base in whole microseconds, the resolution of the wheel (R383). -/
def Chip.us (c : Chip) : Nat := c.ns / 1000

/-- TAI seconds, 48 bits. -/
def Chip.seconds (c : Chip) : Nat := c.ns / 1000000000 % 2 ^ 48

/-! ## States of the part that many rules read -/

/-- The part is in halt (R430). -/
def Chip.halted (c : Chip) : Bool := c.flag F.MGT_HALT_halted

/-- The part is in the safe state (R48). -/
def Chip.safe (c : Chip) : Bool := c.flag F.MGT_START_STATUS_safe_state

/-- The part is configured: its ports are released (R39 step 22). -/
def Chip.configured (c : Chip) : Bool := c.flag F.MGT_START_STATUS_configured

/-- Quarantined run (R50). -/
def Chip.quarantined (c : Chip) : Bool := c.flag F.MGT_START_STATUS_quarantined

/-- A cold or warm start is in progress. -/
def Chip.restarting (c : Chip) : Bool := c.start.busy && c.rd F.MGT_START_STATUS_start_kind != 3

/-- The datapath carries frames: ports released (R39 step 22), not halted. (log entry 2, DESIGN CHOICE) -/
def Chip.running (c : Chip) : Bool := c.power && c.start.released && !c.halted

/-- Firmware runs: no start is in progress, and the part is not in the safe state (where the boot ROM serves, R442).
(log entry 66, DEDUCED) -/
def Chip.firmware (c : Chip) : Bool := c.power && !c.start.busy && !c.safe && c.configured

/-- The vault serves requesters (R346, R368). -/
def Chip.vaultOpen (c : Chip) : Bool := c.rd F.VLT_STATUS_state == 2

/-- Both flash devices have failed (R423). -/
def Chip.persistBlocked (c : Chip) : Bool := c.flag F.MGT_FLASH_STATUS_persist_blocked

/-! ## Attentions and interrupts (R453, R454) -/

/-- Raises an attention of class 8 to 15 for both mailboxes; classes 8 to 14 raise the attention sequence (R454). -/
def Chip.attn (c : Chip) (cls : Nat) : Chip :=
  let b := 2 ^ (cls - 8)
  let c := c.wr F.HST_ATTN_pending0 (c.rd F.HST_ATTN_pending0 ||| b)
  let c := c.wr F.HST_ATTN_pending1 (c.rd F.HST_ATTN_pending1 ||| b)
  if cls < 15 then c.wr F.HST_ATTN_sequence (c.rd F.HST_ATTN_sequence + 1) else c

/-- Raises a vector of PF0 (R441): the message of the table, or the pending bit of a masked entry (log entry 11, PRESUMED). -/
def Chip.msix (c : Chip) (v : Nat) : Chip :=
  let v := v % 64
  if !c.flag F.HST_LINK_pf0_bme then c
  else if c.flag (F.HST_MSIX_CTRL_mask v) then
    let a := R.HST_MSIX_PBA (v / 32)
    c.setWord a (c.word a ||| BitVec.ofNat 32 (2 ^ (v % 32)))
  else c.emit (.msix (c.num (R.HST_MSIX_TABLE v 0) 2) (c.word (R.HST_MSIX_TABLE v 2)).toNat)

/-! ## The Cowslip recorder (R435 to R439) -/

/-- Exclusive or of two byte strings, as long as the first. -/
def xorBytes : Bytes → Bytes → Bytes
  | [], _ => []
  | a :: as, [] => a :: xorBytes as []
  | a :: as, b :: bs => (a ^^^ b) :: xorBytes as bs

/-- GCM under a 12-byte nonce: counter mode from the second counter block, its own inverse (SP 800-38D). -/
def gcmCrypt (key nonce data : Bytes) : Bytes := xorBytes data (Config.ctr key (nonce ++ [0, 0, 0, 2]) data.length)

/-- The GCM tag, 16 bytes. -/
def gcmTag (key nonce aad ct : Bytes) : Bytes := (Config.gcmTag key nonce aad ct ++ fill 16 0).take 16

/-- KMAC256 of a length in bits. -/
def kmac (k x : Bytes) (l : Nat) (s : String) : Bytes := (Config.kmac256 k x l (ascii s) ++ fill (l / 8) 0).take (l / 8)

/-- One step of a mesh generator, x^31 + x^28 + 1 (R398). -/
def meshStep (x : Nat) : Nat := (2 * x + (bits x 30 1 + bits x 27 1) % 2) % 2 ^ 31

/-- So many steps. -/
def meshSteps : Nat → Nat → Nat
  | 0, x => x
  | n + 1, x => meshSteps n (meshStep x)

/-- The two keys of the recorder (R437). -/
def cowKey (rec : Bytes) (x : String) : Bytes := Config.kmac256 rec (ascii x) 256 (ascii "COWSLIP")

/-- The most records that the recorder area of the vault holds (R348). -/
def Chip.cowArea (c : Chip) : Nat :=
  (c.rd F.VLT_STATUS_region_gib * 2 ^ 30 - 2632 * 2 ^ 20) / 32

/-- Stores 32 bytes in the on-die ring and the cell ring; the record that leaves the on-die ring goes to the vault (R439). -/
def Chip.storeRec (c : Chip) (r : Bytes) : Chip :=
  let ring := c.cow.ring ++ [r]
  let cell := c.ao.ring ++ [r]
  let c := { c with ao := { c.ao with ring := cell.drop (cell.length - 64) } }
  if ring.length ≤ 4096 then
    ({ c with cow := { c.cow with ring := ring } }).wr F.MGT_REC_STATUS_ring_used ring.length
  else if c.vaultOpen then
    let v := c.cow.vault ++ ring.take 1
    { c with cow := { c.cow with ring := ring.drop 1, vault := v.drop (v.length - c.cowArea), stored := c.cow.stored + 1 } }
  else ({ c with cow := { c.cow with ring := ring.drop 1 } }).bump R.MGT_REC_LOST

/-- Writes a SEAL over the records since the last one (R437); nothing when there are none. -/
def Chip.seal (c : Chip) : Chip :=
  match c.cow.unsealed.getLast? with
  | none => c
  | some l =>
    let head := slice l 0 4 ++ toLe (le l 4 4 % 2 ^ 31 + 2 ^ 31) 4
    let iv := toBe (le l 0 4) 4 ++ toBe (le l 4 4 % 2 ^ 31 + 2 ^ 31) 4 ++ fill 4 0
    let tag := Config.gmac (cowKey c.keys.recKey "tag") iv (c.cow.prevTag ++ c.cow.unsealed.flatten)
    let body := (tag ++ fill 16 0).take 16 ++ toLe c.cow.unsealed.length 1 ++ fill 7 0
    let c := c.storeRec (head ++ body)
    { c with cow := { c.cow with unsealed := [], prevTag := (tag ++ fill 16 0).take 16 } }

/-- The GMAC of a flush slot's header (R439). The widths of the header's fields and the IV are not stated.
(log entry 71, DESIGN CHOICE) -/
def FlushSlot.sealed (f : FlushSlot) (rec : Bytes) : Bytes :=
  let head := toLe 0x50534F43 4 ++ toLe f.run 4 ++ toLe f.firstSeq 4 ++ toLe f.lastSeq 4 ++ toLe f.cause 4 ++ toLe f.time 8 ++
    toLe f.records.length 4
  (Config.gmac (cowKey rec "tag") (toBe f.run 4 ++ toBe f.lastSeq 4 ++ fill 4 0) head ++ fill 16 0).take 16

/-- Begins a run: one more than the larger of the run numbers of the always-on domain and of the healthy flash devices (R438, R423). -/
def Chip.newRun (c : Chip) : Chip :=
  let good0 := !c.flag F.MGT_FLASH_STATUS_dev0_failed
  let good1 := !c.flag F.MGT_FLASH_STATUS_dev1_failed
  let r := (max c.ao.run (max (if good0 then c.flash0.flushRun else 0) (if good1 then c.flash1.flushRun else 0)) + 1) % 2 ^ 32
  let c := { c with
    ao := { c.ao with run := r }
    flash0 := { c.flash0 with flushRun := if good0 then r else c.flash0.flushRun }
    flash1 := { c.flash1 with flushRun := if good1 then r else c.flash1.flushRun }
    cow := { c.cow with unsealed := [], prevTag := fill 16 0 } }
  (c.setWord R.MGT_REC_RUN (BitVec.ofNat 32 r)).setWord R.MGT_REC_SEQ 0

/-- The 24-byte body of an ordinary record (R435). -/
def Chip.recBody (c : Chip) (sub ev sev unit detail : Nat) : Bytes :=
  let flags := b2n (c.rd F.TIM_STATE_state != 2) + 2 * b2n c.start.busy + 4 * c.rd F.MGT_PAIR_STATUS_active
  toLe c.seconds 6 ++ toLe (c.ns % 1000000000) 4 ++ toLe (256 * sub + ev) 2 ++ toLe flags 1 ++ toLe sev 1 ++
    toLe unit 2 ++ toLe detail 8

/-- Writes a Cowslip record: subsystem and event (R436), severity (0 information, 1 ALERT, 2 HALT, 3 ERASE), unit, detail. A
SEAL follows every fifteenth record (R437); a record of severity ALERT or above raises class 15 (R454). (log entry 24, DEDUCED) -/
def Chip.record (c : Chip) (sub ev sev unit detail : Nat) : Chip :=
  let run := (c.word R.MGT_REC_RUN).toNat
  let seq := (c.word R.MGT_REC_SEQ).toNat
  let ks := Config.ctr (cowKey c.keys.recKey "enc") (toBe run 4 ++ toBe seq 4 ++ fill 8 0) 24
  let r := toLe run 4 ++ toLe seq 4 ++ xorBytes (c.recBody sub ev sev unit detail) ks
  let c := c.storeRec r
  let c := { c with cow := { c.cow with unsealed := c.cow.unsealed ++ [r] } }
  let c := c.setWord R.MGT_REC_SEQ (BitVec.ofNat 32 (seq + 1))
  let c := if 15 ≤ c.cow.unsealed.length then c.seal else c
  let c := if 2 ^ 31 ≤ seq + 1 then c.seal.newRun else c
  if 1 ≤ sev then c.attn 15 else c

/-- A record of severity ALERT with its ALERT attention (R413, R414). -/
def Chip.alert (c : Chip) (sub ev unit detail : Nat) : Chip := (c.record sub ev 1 unit detail).attn 8

/-- A record of severity ALERT with an attention of class `cls` (R454). -/
def Chip.alertAs (c : Chip) (cls sub ev unit detail : Nat) : Chip := (c.record sub ev 1 unit detail).attn cls

/-- The subsystems of R436, from 1 for the port complex to 12 for the management complex. -/
inductive Sub where
  | port | sorrel | fwd | swc | tm | cipher | key | pke | vault | time | tamper | mgmt
  deriving DecidableEq, Repr

/-- The subsystem byte (R436). -/
def Sub.n : Sub → Nat
  | .port => 1 | .sorrel => 2 | .fwd => 3 | .swc => 4 | .tm => 5 | .cipher => 6
  | .key => 7 | .pke => 8 | .vault => 9 | .time => 10 | .tamper => 11 | .mgmt => 12

end Sys2Proof.Machine
end

