-- ==== Sys2Proof/Machine/Image.lean ====
section
/-! DEFINITION. The image in force as bytes, and the fields that the other chapters read from its records at the offsets their
record tables give. -/

namespace Sys2Proof.Machine

/-- Values of the records of a type in an image, in chain order. -/
def Image.recs (i : Image) (t : Nat) : List Bytes := (i.records.filter (fun r => r.type == t)).map (·.value)

/-- The first record of a type in an image. -/
def Image.rec1 (i : Image) (t : Nat) : Option Bytes := (i.recs t).head?

/-- The records of a type in the image in force. -/
def Chip.recs (c : Chip) (t : Nat) : List Bytes := (c.img.map (·.recs t)).getD []

/-- The first record of a type in the image in force. -/
def Chip.rec1 (c : Chip) (t : Nat) : Option Bytes := (c.recs t).head?

/-- The little-endian number of `n` bytes at offset `i` of the record of a type, or a default without the record. -/
def Chip.cfgNat (c : Chip) (t i n dflt : Nat) : Nat := ((c.rec1 t).map (fun v => le v i n)).getD dflt

/-- The same, signed. -/
def Chip.cfgInt (c : Chip) (t i n : Nat) : Int := toSigned (8 * n) (c.cfgNat t i n 0)

/-- The record of a type whose byte 0 is `k`. -/
def Chip.recFor (c : Chip) (t k : Nat) : Option Bytes := (c.recs t).find? (fun v => byteAt v 0 == k)

/-- Entry `k` of a table of entries of `size` bytes that begins at offset `off`. -/
def entryAt (v : Bytes) (off size k : Nat) : Bytes := slice v (off + size * k) size

/-- The entries of a table that begins with a 4-byte count (R59 values of several chapters). -/
def countedEntries (v : Bytes) (size : Nat) : List Bytes :=
  (List.range (le v 0 4)).map (fun k => entryAt v 4 size k)

/-! Record types (R61). -/

namespace T

def fwManifest : Nat := 0x0001
def fwCode : Nat := 0x0002
def fwData : Nat := 0x0003
def fwSig : Nat := 0x000F
def ownerId : Nat := 0x0010
def portConfig : Nat := 0x0020
def pairConfig : Nat := 0x0021
def moduleConfig : Nat := 0x0022
def pmConfig : Nat := 0x0028
def parserConfig : Nat := 0x0030
def sorrelProgram : Nat := 0x0031
def fwdConfig : Nat := 0x0040
def mcastGroups : Nat := 0x0041
def bufferConfig : Nat := 0x0042
def tmConfig : Nat := 0x0050
def uplinkClass : Nat := 0x0051
def scTable : Nat := 0x0060
def peerTable : Nat := 0x0061
def keySchedule : Nat := 0x0062
def mkaConfig : Nat := 0x0063
def keySlots : Nat := 0x0070
def lookasideRings : Nat := 0x0071
def pkeOwners : Nat := 0x0078
def vaultConfig : Nat := 0x0080
def timeConfig : Nat := 0x0090
def wheelEvents : Nat := 0x0091
def tamperConfig : Nat := 0x00A0
def hostConfig : Nat := 0x00B0
def acuRules : Nat := 0x00B1
def healthConfig : Nat := 0x00C0
def ownerSig : Nat := 0x00FF

end T

end Sys2Proof.Machine
end

