-- ==== Sys2Proof/Machine/Operands.lean ====
section
/-! DEFINITION. How the part reads a frame and a port: the parser and its header window (R20, R124), the frame's fields, port modes,
rates and latencies (R72, R514), port numbering (R14, R117), and where the transparent clock and the rewrite find their fields
(R169, R379). -/

namespace Sys2Proof.Machine

/-! ## Ports (R14, R72, R117) -/

/-- The pipeline of a port in R117 numbering. -/
def pipeOf (p : Nat) : Nat := if p < 96 then p / 24 else if p < 120 then (p - 96) / 6 else (p - 120) / 6

/-- The cluster of a line port (R119). -/
def clusterOf (p : Nat) : Nat := p / 6

def Chip.mode (c : Chip) (p : Nat) : Nat := c.rd (F.PRT_CFG_port_mode p)
def Chip.encap (c : Chip) (p : Nat) : Nat := c.rd (F.PRT_CFG_encap p)
/-- The port is configured: its mode is not DISABLED. -/
def Chip.portOn (c : Chip) (p : Nat) : Bool := p < 144 && c.mode p != 0
def Chip.isMacsec (c : Chip) (p : Nat) : Bool := p < 96 && c.encap p == 1
def Chip.isDenast (c : Chip) (p : Nat) : Bool := p < 96 && c.encap p == 2
def isLine (p : Nat) : Bool := p < 96
def Chip.paired (c : Chip) (p : Nat) : Bool := p < 96 && c.flag (F.PRT_CFG_paired p)
/-- The partner of a paired port (R30, R101). -/
def partnerOf (p : Nat) : Nat := if p < 48 then p + 48 else p - 48

/-- The rate of a port mode in Gb/s (R72). -/
def rateOf (mode : Nat) : Nat :=
  if mode = 1 then 10 else if mode = 2 then 25 else if mode = 3 then 50 else if mode = 4 then 100 else if mode = 5 then 400 else 200

/-- Receive and transmit latency of the port complex in ns (R514). -/
def Chip.latency (c : Chip) (p : Nat) : Nat × Nat :=
  let m := c.mode p
  if c.isDenast p then (if m = 2 then (260, 100) else if m = 3 then (200, 80) else (150, 65))
  else if m = 1 then (45, 35)
  else if m = 2 then (if c.rd (F.PRT_CFG_fec p) = 0 then (40, 30) else (250, 95))
  else if m = 3 then (190, 75) else if m = 4 then (140, 60) else if m = 5 then (115, 55) else (125, 60)

/-- The PORT_CONFIG record of a port; the second half of an uplink takes its uplink's (R100). -/
def Chip.portRec (c : Chip) (p : Nat) : Bytes := (c.recFor T.portConfig (if p < 120 then p else p - 24)).getD []

def Chip.denMax (c : Chip) (p : Nat) : Nat := le (c.portRec p) 10 2
def Chip.denTfc (c : Chip) (p : Nat) : Nat := le (c.portRec p) 12 2
def Chip.icvResync (c : Chip) (p : Nat) : Nat := byteAt (c.portRec p) 18
def Chip.denTxSc (c : Chip) (p : Nat) : Nat := le (c.portRec p) 20 2
def Chip.denRxSc (c : Chip) (p : Nat) : Nat := le (c.portRec p) 22 2

/-! ## State of a port, a frame -/

def Chip.port (c : Chip) (p : Nat) : Port := Sparse.get {} c.data.ports p

def Chip.setPort (c : Chip) (p : Nat) (x : Port) : Chip :=
  { c with data := { c.data with ports := Sparse.set {} c.data.ports p x } }

def Chip.frame (c : Chip) (i : Nat) : Option Frame := Sparse.get none c.data.frames i

def Chip.setFrame (c : Chip) (i : Nat) (f : Option Frame) : Chip :=
  { c with data := { c.data with frames := Sparse.set none c.data.frames i f } }

/-! ## The parser (R124) -/

/-- What the parser reports; an absent offset is 255. -/
structure Parsed where
  tags  : List Nat := []
  etype : Nat := 0
  llc   : Bool := false
  l3    : Nat := 0
  l4    : Nat := 255
  kind  : Nat := 0
  proto : Nat := 0
  frag  : Bool := false
  more  : Bool := false
  sumBad : Bool := false
  ds    : Nat := 0
  ttl   : Nat := 0
  len   : Nat := 0
  dport : Nat := 0
  sport : Nat := 0
  dst   : Nat := 0
  deriving DecidableEq, Repr

/-- The header window (R20): the first 256 bytes of the plaintext frame, zero bytes after its end. -/
def window (f : Bytes) : Bytes := (f ++ fill 256 0).take 256

/-- The first tag protocol identifiers, the tag limit and the extension-header limit of PARSER_CONFIG (R147). -/
def Chip.tpids (c : Chip) : List Nat := (List.range 4).map (fun i => c.cfgNat T.parserConfig (2 * i) 2 0)
def Chip.tpid0 (c : Chip) : Nat := c.cfgNat T.parserConfig 0 2 0
def Chip.maxTags (c : Chip) : Nat := c.cfgNat T.parserConfig 8 1 0
def Chip.maxExt (c : Chip) : Nat := c.cfgNat T.parserConfig 9 1 0

/-- Tags from offset `o`, at most `n`: the tags and where the EtherType that follows them lies. (log entry 27, DEDUCED) -/
def parseTags (tpids : List Nat) (w : Bytes) : Nat → Nat → List Nat × Nat
  | 0, o => ([], o)
  | n + 1, o =>
    let t := be w o 2
    if t != 0 && tpids.contains t then
      let (ts, o') := parseTags tpids w n (o + 4)
      (be w (o + 2) 2 :: ts, o')
    else ([], o)

/-- TCP, UDP and SCTP ports at an offset, each as far as it lies inside the window. The spec does not say which L4 offset an IP packet of
another protocol has: it is the model's choice that it is the offset of what follows the IP header, and not 0xFF (log entry 73, DESIGN
CHOICE). -/
def Parsed.withL4 (p : Parsed) (w : Bytes) (o : Nat) : Parsed :=
  if 256 ≤ o then p
  else
    let p := { p with l4 := o }
    if p.proto == 6 || p.proto == 17 || p.proto == 132 then
      { p with sport := if o + 2 ≤ 256 then be w o 2 else 0, dport := if o + 4 ≤ 256 then be w (o + 2) 2 else 0 }
    else p

/-- An IPv4 header at offset `o`. -/
def Parsed.withIp4 (p : Parsed) (w : Bytes) (o : Nat) : Parsed :=
  let ihl := byteAt w o % 16
  let p := { p with kind := 1, l3 := o, ds := byteAt w (o + 1), len := be w (o + 2) 2, ttl := byteAt w (o + 8), proto := byteAt w (o + 9),
                    frag := be w (o + 6) 2 % 8192 != 0, dst := if o + 20 ≤ 256 then be w (o + 16) 4 else 0 }
  if ihl < 5 then { p with sumBad := true }
  else
    let p := { p with sumBad := o + 4 * ihl ≤ 256 && !ipSumGood (slice w o (4 * ihl)) }
    if p.frag then p else p.withL4 w (o + 4 * ihl)

/-- The extension headers that the parser passes: hop-by-hop, routing, fragment, destination options. -/
def isExt (n : Nat) : Bool := n == 0 || n == 43 || n == 44 || n == 60

/-- Follows IPv6 extension headers from offset `o`, at most `n` of them, to the header that ends the parse. -/
def Parsed.withExt (w : Bytes) : Nat → Nat → Parsed → Parsed
  | n, o, p =>
    if !isExt p.proto then (if p.frag then p else p.withL4 w o)
    else
      match n with
      | 0 => { p with more := true }
      | n + 1 =>
        let len := if p.proto == 44 then 8 else 8 * (byteAt w (o + 1) + 1)
        if 256 < o + 2 || 256 < o + len then { p with more := true }
        else
          let frag := p.frag || (p.proto == 44 && be w (o + 2) 2 / 8 != 0)
          Parsed.withExt w n (o + len) { p with proto := byteAt w o, frag := frag }

/-- An IPv6 header at offset `o`. -/
def Parsed.withIp6 (p : Parsed) (w : Bytes) (o ext : Nat) : Parsed :=
  let p := { p with kind := 2, l3 := o, ds := be w o 2 / 16 % 256, len := be w (o + 4) 2, proto := byteAt w (o + 6), ttl := byteAt w (o + 7),
                    dst := if o + 40 ≤ 256 then be w (o + 36) 4 else 0 }
  Parsed.withExt w ext (o + 40) p

/-- The parser's report on a frame. The spec does not say which L3 offset a frame of L3 kind none has: it is the model's choice that it is
that of the byte after the EtherType (log entry 73, DESIGN CHOICE). -/
def parse (tpids : List Nat) (maxTags maxExt : Nat) (f : Bytes) : Parsed :=
  let w := window f
  let (tags, o) := parseTags tpids w maxTags 12
  let et := be w o 2
  let p : Parsed := { tags := tags, etype := et, llc := et < 0x600, l3 := o + 2 }
  let ver := byteAt w (o + 2) / 16
  if et == 0x0800 && ver == 4 then p.withIp4 w (o + 2)
  else if et == 0x86DD && ver == 6 then p.withIp6 w (o + 2) maxExt
  else if et == 0x0806 then { p with kind := 3 }
  else p

/-- The report under the configuration in force. -/
def Chip.parse (c : Chip) (f : Bytes) : Parsed := Machine.parse c.tpids c.maxTags c.maxExt f

/-- Destination and source address of a frame, as numbers. -/
def dstMac (f : Bytes) : Nat := be f 0 6
def srcMac (f : Bytes) : Nat := be f 6 6
/-- The group bit of an address. -/
def groupMac (m : Nat) : Bool := bit m 40

/-- The outer VLAN ID, or 0 when untagged. -/
def Parsed.vid (p : Parsed) : Nat := (p.tags.headD 0) % 4096

/-! ## PTP event messages (R379) -/

/-- Where the PTP header of an event message lies in a frame, and where its UDP checksum lies, or 0. -/
def ptpAt (p : Parsed) (f : Bytes) : Option (Nat × Nat) :=
  let o := if p.etype = 0x88F7 then some (p.l3, 0)
    else if p.kind != 0 && p.kind != 3 && p.proto == 17 && p.l4 != 255 && p.dport == 319 && p.l4 + 42 ≤ 256 then some (p.l4 + 8, p.l4 + 6)
    else none
  match o with
  | none => none
  | some (h, u) =>
    if h + 34 + 4 ≤ f.length && byteAt f h % 16 ≤ 3 && byteAt f (h + 1) % 16 = 2 then some (h, u) else none

/-- Bytes with others written over them at an offset. -/
def patch (f : Bytes) (o : Nat) (x : Bytes) : Bytes := f.take o ++ x ++ f.drop (o + x.length)

/-- 16-bit words of a string. -/
def words16 : Bytes → List Nat
  | a :: b :: bs => (256 * a.toNat + b.toNat) :: words16 bs
  | _ => []

/-- Writes the correctionField plus a residence in ns; also whether the sum saturated (R380). -/
def addResidence (f : Bytes) (h u : Nat) (ns : Nat) : Bytes × Bool :=
  let old := slice f (h + 8) 8
  let z := toSigned 64 (beNat old) + (ns : Int) * 65536
  let satd := 0x7FFFFFFFFFFFFFFF < z
  let new := toBe (ofSigned 64 (if satd then 0x7FFFFFFFFFFFFFFF else z)) 8
  let g := patch f (h + 8) new
  let g := if u = 0 || be f u 2 = 0 then g else
    let s := rfc1624 (be f u 2) (words16 old) (words16 new)
    patch g u (toBe (if s = 0 then 65535 else s) 2)
  (withFcs (body g), satd)

/-! ## SHA-384 identities (R92) -/

/-- The first 16 bytes of a digest. -/
def id16 (bs : Bytes) : Bytes := (Config.sha384 bs ++ fill 16 0).take 16

end Sys2Proof.Machine
end

