-- ==== Sys2Proof/Machine/Access.lean ====
section
/-! DEFINITION. Who may touch a register: the access check units and the fixed rules (R442, R465 to R468, R474, R480), and the
shadows of wide values (R12). -/

namespace Sys2Proof.Machine

/-- The unit that checks an initiator, if one does (R465). -/
def acuOf (init : Nat) : Option Nat :=
  if init = 2 then some 0 else if init = 3 then some 1 else if init = 4 then some 2 else none

/-- The dword at `a` lies in region `r` of unit `u`, within an enabled sub-region (R466). -/
def Chip.acuIn (c : Chip) (u r a : Nat) : Bool :=
  let s := c.rd (F.ACU_REGION_CFG_size_log2 u r)
  let b := c.rd (F.ACU_REGION_BASE_base u r)
  11 ≤ s && b ≤ a && a < b + 2 ^ s && !bit (c.rd (F.ACU_REGION_CFG_sub_disable u r)) ((a - b) / 2 ^ (s - 3))

/-- The permission that governs a dword: that of the highest-numbered region that contains it, or the default (R466). -/
def Chip.acuPerm (c : Chip) (u a : Nat) : Nat :=
  match (List.range 16).reverse.find? (fun r => c.acuIn u r a) with
  | some r => c.rd (F.ACU_REGION_CFG_perm u r)
  | none => c.rd (F.ACU_STATUS_default_perm u)

/-- The rules that hold whatever the regions say (R468, R474, R480): true when they deny the access. -/
def Chip.fixedDeny (c : Chip) (init a : Nat) (write : Bool) : Bool :=
  let mbWin (f : Nat) : Bool := 0x100 * f ≤ a && a < 0x100 * f + 0x100
  let acuBlock : Bool := 0x4000 ≤ a && a < 0x8000
  let pcBlock : Bool := 0x50000 ≤ a && a < 0x59000
  (write && init == 3 && !mbWin 1) || (write && init == 2 && mbWin 1) || (write && acuBlock) ||
    (init == 3 && pcBlock && !write) || (init == 4 && pcBlock && !write) ||
    (init == 4 && !c.flag F.HST_DEBUG_session)

/-- The access is permitted (R465 to R468). The units of the functions hold no rules before the image's are loaded and the endpoint
is enabled; until then the blocks that R442 serves are served. (log entry 20, DEDUCED) -/
def Chip.allowed (c : Chip) (init a : Nat) (write : Bool) : Bool :=
  !c.fixedDeny init a write &&
    match acuOf init with
    | none => true
    | some u => (u < 2 && !c.start.endpoint) || bit (c.acuPerm u a) (if write then 1 else 0)

/-- BAR0 serves this address now: before step 21 of a cold start only the MGT and TMP blocks and the mailbox 0 registers (R442).
(log entry 20, DEDUCED) -/
def Chip.served (c : Chip) (init a : Nat) : Bool :=
  c.start.endpoint || (init != 2 && init != 3) || (0x8000 ≤ a && a < 0xA000) || a < 0x100

/-- A denied dword is counted, held as the oldest unread denial, and recorded at most once a millisecond for each unit when its
region says so (R467). (log entry 20, DEDUCED) -/
def Chip.deny (c : Chip) (init a : Nat) (write : Bool) : Chip :=
  match acuOf init with
  | none => c
  | some u =>
    let c := c.bump (R.ACU_DENIED u)
    let c := if c.flag (F.ACU_ERR_valid u) then c else
      c.setWord (R.ACU_ERR u) (BitVec.ofNat 32 (a / 4 % 2 ^ 18 + 2 ^ 18 * b2n write + 2 ^ 19 * init + 2 ^ 31))
    let t := Sparse.get 0 c.denTime u
    if bit (c.acuPerm u a) 2 && (t == 0 || t + 999999 ≤ c.ns) then
      ({ c with denTime := Sparse.set 0 c.denTime u (c.ns + 1) }).record Sub.mgmt.n 0x1A 0 u (c.word (R.ACU_ERR u)).toNat
    else c

/-- A write of one dword by an initiator: denied, dropped because the block is not served, or performed as `f` says (R443, R467).
-/
def Chip.hostWrite (c : Chip) (init a : Nat) (f : Chip → Chip) : Chip :=
  if !c.served init a then c
  else if c.allowed init a true then f c
  else (c.deny init a true).emit (.regError init a true)

/-- The key of a shadow word: initiators 0 and 1 share the firmware shadow (R12, R445). -/
def shadowKey (init a : Nat) : Nat := 2 ^ 20 * (if init ≤ 1 then 0 else init) + a

/-- The shadow of a higher word. -/
def Chip.shadow (c : Chip) (init a : Nat) : W32 := Sparse.get 0 c.shadows (shadowKey init a)

/-- Latches `k` words from `a` on into the shadow of an initiator. -/
def Chip.latch (c : Chip) (init a : Nat) : Nat → List W32 → Chip
  | 0, _ => c
  | _ + 1, [] => c
  | k + 1, w :: ws =>
    ({ c with shadows := Sparse.set 0 c.shadows (shadowKey init a) w }).latch init (a + 4) k ws

/-- Zeroes every shadow of an initiator (R12, R464). -/
def Chip.dropShadow (c : Chip) (init : Nat) : Chip :=
  { c with shadows := c.shadows.filter (fun e => e.1 / 2 ^ 20 != (if init ≤ 1 then 0 else init)) }

end Sys2Proof.Machine
end

