-- ==== Sys2Proof/Machine/Mailbox.lean ====
section
/-! DEFINITION. The mailbox: serving a command, duplicates, replies, the journal that commits one (R448 to R462, R53 to R55). The
meanings of the commands themselves stand in the files of their families. -/

namespace Sys2Proof.Machine

/-! ## Completion codes (R459) -/

namespace Code

def ok : Nat := 0
def committed : Nat := 1
def busy : Nat := 2
def denied : Nat := 3
def range : Nat := 4
def length : Nat := 5
def format : Nat := 6
def empty : Nat := 7
def authFailure : Nat := 8
def tableFull : Nat := 9
def fault : Nat := 10
def stale : Nat := 11
def unknown : Nat := 12
def rejected : Nat := 13
def dmaError : Nat := 14

end Code

/-- What R460 and R462 say of a command before its own rule. -/
structure CmdClass where
  opcode : Nat
  /-- A long command (L). -/
  long   : Bool := false
  /-- It completes with COMMITTED (R455). -/
  commit : Bool := false
  /-- PF1 may send it. -/
  pf1    : Bool := false
  /-- Accepted in the safe state, and in halt (R462). -/
  safe   : Bool := false
  halt   : Bool := false
  /-- The lengths of input it takes, and the output bytes it needs. -/
  inOk   : Nat → Bool := fun n => n == 0
  outLen : Nat := 0

/-- What a command's own rule answers. -/
structure Answer where
  code   : Nat := Code.ok
  result : Nat := 0
  out    : Bytes := []
  /-- The journal entry of a command that completes with COMMITTED. -/
  jop    : Option JOp := none
  /-- The journal entry of what stands of a command that does not complete with COMMITTED (R170). -/
  part   : Option JOp := none
  /-- What a long command waits for. -/
  wait   : LongWait := .ready
  deriving DecidableEq, Repr

/-- The mailbox of a function. -/
def Chip.mb (c : Chip) (f : Nat) : Mailbox := if f = 0 then c.mb0 else c.mb1

/-- The part with another mailbox state. -/
def Chip.setMb (c : Chip) (f : Nat) (m : Mailbox) : Chip :=
  if f = 0 then { c with mb0 := m } else { c with mb1 := m }

/-- Enabled, of a legal size, and not halted (R448, R458). -/
def Chip.mbRunning (c : Chip) (f : Nat) : Bool :=
  let m := c.rd (F.HST_MB_CFG_log2_entries f)
  c.flag (F.HST_MB_CFG_enable f) && 4 ≤ m && m ≤ 10 && !c.flag (F.HST_MB_STATUS_dma_error f)

/-- Brings the status of a mailbox up to date. -/
def Chip.syncMb (c : Chip) (f : Nat) : Chip :=
  (c.wrb (F.HST_MB_STATUS_running f) (c.mbRunning f)).wr (F.HST_MB_STATUS_long_active f) (c.mb f).longs.length

/-- A host memory access of a mailbox has failed (R458). -/
def Chip.mbHalt (c : Chip) (f : Nat) : Chip := (c.wr (F.HST_MB_STATUS_dma_error f) 1).syncMb f

/-- The 32 bytes of a reply entry (R451). (log entry 70, DEDUCED) -/
def Chip.replyEntry (c : Chip) (f : Nat) (r : Reply) (code result : Nat) : Bytes :=
  let pend := if f = 0 then c.rd F.HST_ATTN_pending0 else c.rd F.HST_ATTN_pending1
  let status := code + 256 * pend + 65536 * c.rd F.HST_ATTN_sequence
  let m := c.rd (F.HST_MB_CFG_log2_entries f)
  let phase := (c.rd (F.HST_MB_RPROD_rprod f) / 2 ^ m + 1) % 2
  toLe r.seq 8 ++ toLe result 8 ++ toLe status 4 ++ toLe r.out.length 4 ++ toLe (c.word R.MGT_REC_RUN).toNat 4 ++
    toLe r.opcode 2 ++ toLe (b2n r.dup) 1 ++ toLe phase 1

/-- Writes a reply: output data, then the entry; the mailbox's pending classes are cleared (R453). A reply whose mailbox is not
enabled is discarded (R464); a write that fails halts the mailbox (R458). -/
def Chip.sendReply (c : Chip) (f : Nat) (r : Reply) (code result : Nat) : Chip :=
  if r.drop || !c.flag (F.HST_MB_CFG_enable f) then c
  else if r.writeFail then c.mbHalt f
  else
    let c := if r.out = [] then c else c.emit (.hostWrite f r.outAddr r.out)
    let m := c.rd (F.HST_MB_CFG_log2_entries f)
    let at_ := c.num (R.HST_MB_RBASE f) 2 + 32 * (c.rd (F.HST_MB_RPROD_rprod f) % 2 ^ m)
    let c := c.emit (.hostWrite f at_ (c.replyEntry f r code result))
    let c := c.wr (F.HST_MB_RPROD_rprod f) (c.rd (F.HST_MB_RPROD_rprod f) + 1)
    let c := if f = 0 then c.wr F.HST_ATTN_pending0 0 else c.wr F.HST_ATTN_pending1 0
    if r.intr && f == 0 then c.msix (c.rd (F.HST_MB_CFG_vector 0)) else c

/-- The long commands, marked L in R460. -/
def longOpcode (opcode : Nat) : Bool :=
  [0x0103, 0x0104, 0x0107, 0x0201, 0x0303, 0x0304, 0x0406, 0x0410, 0x0411, 0x0412, 0x0600].contains opcode

/-- Writes the replies that are ready: those of short commands in ring order, up to the first that is not ready, and those of the
duplicates of long commands, which neither hold back nor are held back (R452, R456). -/
def Chip.drainReplies (f : Nat) (held : Bool) : List Reply → Chip → Chip × List Reply
  | [], c => (c, [])
  | r :: rs, c =>
    let long := longOpcode r.opcode
    match r.answer with
    | some (code, result) =>
      if long || !held then Chip.drainReplies f held rs (c.sendReply f r code result)
      else
        let (c, kept) := Chip.drainReplies f held rs c
        (c, r :: kept)
    | none =>
      let (c, kept) := Chip.drainReplies f (held || !long) rs c
      (c, r :: kept)

/-- Writes the replies of a mailbox that are ready. -/
def Chip.flushReplies (c : Chip) (f : Nat) : Chip :=
  let (c', rs) := Chip.drainReplies f false (c.mb f).replies c
  c'.setMb f { c'.mb f with replies := rs }

/-- Queues the reply of a short command. -/
def Chip.queueReply (c : Chip) (f : Nat) (r : Reply) : Chip :=
  (c.setMb f { c.mb f with replies := (c.mb f).replies ++ [r] }).flushReplies f

/-- Records a command in the completion table, which holds the last 1,024 commands started (R456). -/
def Chip.tableAdd (c : Chip) (f : Nat) (d : Done) : Chip :=
  let t := (c.mb f).table ++ [d]
  c.setMb f { c.mb f with table := t.drop (t.length - 1024) }

/-- The code and result of a command become final: its table entry, and the replies of its duplicates (R456). -/
def Chip.finish (c : Chip) (f seq code result : Nat) : Chip :=
  let m := c.mb f
  let c := c.setMb f { m with
    table := m.table.map (fun d => if d.seq = seq && d.code.isNone then { d with code := some code, result := result } else d)
    replies := m.replies.map (fun r =>
      if r.seq = seq && r.answer.isNone then { r with answer := some (code, result) } else r) }
  c.flushReplies f

/-- Work of a mailbox is served: firmware serves commands from step 24 on and in halt, or the boot ROM serves mailbox 0 in the safe
state and while blank owner fuses wait for provisioning (R442, R431, R462, R66). -/
def Chip.mbServed (c : Chip) (f : Nat) : Bool :=
  c.power && !c.start.busy && (c.configured || (c.halted && (f == 0 || c.start.endpoint)) || (f == 0 && (c.safe || c.start.blank)))

/-- A command of this mailbox can start now: served, running, one waits in the ring, and a fence is satisfied (R452). -/
def Chip.mbReady (c : Chip) (h : Mb) : Bool :=
  h.fn ≤ 1 && c.mbServed h.fn && c.mbRunning h.fn &&
    c.rd (F.HST_MB_CONS_cons h.fn) != c.rd (F.HST_MB_PROD_prod h.fn) &&
    !(h.fence && (c.mb h.fn).longs != [])

/-- The general codes that refuse a command before its own rule, if one does (R455, R459, R462). (log entry 18, DEDUCED) -/
def Chip.mbRefuse (c : Chip) (h : Mb) (k : CmdClass) : Option Nat :=
  if !h.zeroOk then some Code.format
  else if h.fn = 1 && !k.pf1 then some Code.denied
  else if (c.safe || c.start.blank) && !k.safe then some Code.busy
  else if c.halted && !k.halt then some Code.busy
  else if k.commit && c.persistBlocked then some Code.fault
  else if k.long && 8 ≤ (c.mb h.fn).longs.length then some Code.busy
  else if !k.inOk h.inData.length || h.outLen < k.outLen then some Code.length
  else none

/-- The AES-CMAC of a journal entry under K0, over the sequences and the rest of the entry (R53, R300). (log entry 9, DESIGN CHOICE) -/
def entryTag (key : Bytes) (jseq imgSeq : Nat) (op : JOp) (fn seq result : Nat) : Bytes :=
  (Config.cmac key (toLe jseq 8 ++ toLe imgSeq 4 ++ journalBody op fn seq result) ++ fill 16 0).take 16

/-- Ends the start of a command with its answer: records it, and queues its reply or its wait (R452, R455, R456).
(log entry 18, DEDUCED) -/
def Chip.mbAnswer (c : Chip) (h : Mb) (k : CmdClass) (a : Answer) : Chip :=
  let r : Reply := { seq := h.seq, opcode := k.opcode, intr := h.intr, dup := false, answer := some (a.code, a.result),
                     out := a.out, outAddr := h.outAddr, writeFail := h.writeFail }
  let key := (Sparse.get ({} : Slot) c.keys.slots 0).value
  match a.jop with
  | some op =>
    let n := (c.img.map (·.sequence)).getD 0
    let e : JEntry := { jseq := c.jseq + 1, imgSeq := n, tag := entryTag key (c.jseq + 1) n op h.fn h.seq a.result, op := op, fn := h.fn,
                        seq := h.seq, result := a.result }
    let c := { c with jseq := c.jseq + 1, jpend := c.jpend ++ [e] }
    let c := c.tableAdd h.fn { seq := h.seq, code := none }
    if k.long then
      (c.setMb h.fn { c.mb h.fn with longs := (c.mb h.fn).longs ++ [{ reply := r, wait := .journal }] }).syncMb h.fn
    else c.queueReply h.fn { r with answer := none }
  | none =>
    if k.long && a.code == Code.ok then
      let c := c.tableAdd h.fn { seq := h.seq, code := none }
      (c.setMb h.fn { c.mb h.fn with longs := (c.mb h.fn).longs ++ [{ reply := r, wait := a.wait }] }).syncMb h.fn
    else
      let c := c.tableAdd h.fn { seq := h.seq, code := some a.code, result := a.result }
      if k.long then c.sendReply h.fn r a.code a.result else c.queueReply h.fn r

/-- Starts the next command of a mailbox (R452, R456, R458): `body` is its own rule. Nothing happens while no command can start.
(log entry 18, DEDUCED) -/
def Chip.mbRun (c : Chip) (h : Mb) (k : CmdClass) (body : Chip → Chip × Answer) : Chip :=
  if !c.mbReady h then c
  else
    let c := c.wr (F.HST_MB_CONS_cons h.fn) (c.rd (F.HST_MB_CONS_cons h.fn) + 1)
    let r : Reply := { seq := h.seq, opcode := k.opcode, intr := h.intr, dup := false, answer := none,
                       outAddr := h.outAddr, writeFail := h.writeFail }
    let last := c.num (R.HST_MB_LAST_SEQ h.fn) 2
    if h.readFail then (c.queueReply h.fn { r with answer := some (Code.dmaError, 0) }).mbHalt h.fn
    else if h.seq = 0 then c.queueReply h.fn { r with answer := some (Code.format, 0) }
    else if h.seq ≤ last then
      match (c.mb h.fn).table.find? (fun d => d.seq == h.seq) with
      | none => c.queueReply h.fn { r with answer := some (Code.stale, 0) }
      | some d => c.queueReply h.fn { r with dup := true, answer := d.code.map (fun x => (x, d.result)) }
    else
      let c := c.setNum (R.HST_MB_LAST_SEQ h.fn) 2 h.seq
      match c.mbRefuse h k with
      | some code => c.mbAnswer h k { code := code }
      | none =>
        let (c, a) := body c
        c.mbAnswer h k a

/-- A failing answer: the command has no effect. -/
def refuse (c : Chip) (code : Nat) : Chip × Answer := (c, { code := code })

/-! ## The journal (R53, R54) -/

/-- A flash device. -/
def Chip.flash (c : Chip) (d : Nat) : Flash := if d = 0 then c.flash0 else c.flash1

/-- The device is healthy (R423). -/
def Chip.flashGood (c : Chip) (d : Nat) : Bool :=
  if d = 0 then !c.flag F.MGT_FLASH_STATUS_dev0_failed else !c.flag F.MGT_FLASH_STATUS_dev1_failed

/-- A write to flash: device 0 first, and every healthy device (R51, R423). -/
def Chip.onFlash (c : Chip) (f : Flash → Flash) : Chip :=
  let c := if c.flashGood 0 then { c with flash0 := f c.flash0 } else c
  if c.flashGood 1 then { c with flash1 := f c.flash1 } else c

/-- The healthy device that reads come from: device 0 first (R55). -/
def Chip.readFlash (c : Chip) : Flash := if c.flashGood 0 then c.flash0 else c.flash1

/-- Appends an entry to a journal half. -/
def Flash.journal (f : Flash) (half : Nat) (e : JEntry) : Flash :=
  if half = 0 then { f with half0 := f.half0 ++ [e] } else { f with half1 := f.half1 ++ [e] }

/-- Adds an entry that no command waits for, to be committed in its turn (R281, R309). (log entry 65, DEDUCED) -/
def Chip.journalAhead (c : Chip) (op : JOp) : Chip :=
  let n := (c.img.map (·.sequence)).getD 0
  let key := (Sparse.get ({} : Slot) c.keys.slots 0).value
  let e : JEntry := { jseq := c.jseq + 1, imgSeq := n, tag := entryTag key (c.jseq + 1) n op 2 0 0, op := op }
  { c with jseq := c.jseq + 1, jpend := c.jpend ++ [e] }

/-- A long command has completed: its table entry, and its reply, which waits for no other (R452). -/
def Chip.longDone (c : Chip) (f seq code result : Nat) (out : Bytes) : Chip :=
  match (c.mb f).longs.find? (fun l => l.reply.seq == seq) with
  | none => c
  | some l =>
    let c := c.setMb f { c.mb f with longs := (c.mb f).longs.filter (fun x => x.reply.seq != seq) }
    let c := (c.finish f seq code result).syncMb f
    c.sendReply f { l.reply with out := out } code result

/-- A start leaves behind the long commands that are not in the journal: they have not been performed, and a repetition finds no entry
(R428, R456). (log entry 49, DEDUCED) -/
def Mailbox.dropLongs (m : Mailbox) : Mailbox :=
  let lost : List Nat := (m.longs.filter (fun l => l.wait != .journal)).map (·.reply.seq)
  { table := m.table.filter (fun d => !lost.contains d.seq)
    longs := m.longs.filter (fun l => l.wait == .journal)
    replies := m.replies.map (fun r => if r.answer.isNone && lost.contains r.seq then { r with answer := some (Code.stale, 0) } else r) }

/-- The mailboxes as a warm start or a management restart finds them. (log entry 49, DEDUCED) -/
def Chip.dropLongs (c : Chip) : Chip := (({ c with mb0 := c.mb0.dropLongs, mb1 := c.mb1.dropLongs }).syncMb 0).syncMb 1

/-- What the commitment of a value kept ahead of need sets: the PN ceiling of an SA (R281). (log entry 19, DEDUCED) -/
def Chip.committed (c : Chip) : JOp → Chip
  | .pnCeiling i v =>
    let x := Sparse.get ({} : Sa) c.data.sas i
    if x.installed then { c with data := { c.data with sas := Sparse.set {} c.data.sas i { x with ceiling := v } } } else c
  | _ => c

/-- The oldest waiting entry is committed: programmed and read back on every healthy device (R53). Its command becomes COMMITTED
and its reply may be written (R455, R456). While both devices are failed the entry cannot be written, and the command completes
with FAULT (R423). (log entry 19, DEDUCED) -/
def Chip.commitEntry (c : Chip) : Chip :=
  match c.jpend with
  | [] => c
  | e :: es =>
    let c := { c with jpend := es }
    let code := if c.persistBlocked then Code.fault else Code.committed
    let c := if c.persistBlocked then c else (c.onFlash (fun f => f.journal c.jhalf e)).committed e.op
    if 1 < e.fn then c
    else if (c.mb e.fn).longs.any (fun l => l.reply.seq == e.seq) then c.longDone e.fn e.seq code e.result []
    else c.finish e.fn e.seq code e.result

/-- What a later operation makes an earlier one void, for the snapshot of R54. (log entry 54, DEDUCED) -/
def JOp.supersedes : JOp → JOp → Bool
  | .slot n _ _, .slot m _ _ => n == m
  | .slotClear n, .slot m _ _ => n == m
  | .slotClear n, .slotClear m => n == m
  | .slotClear n, .ivCeiling m _ => n == m
  | .slot n _ _, .slotClear m => n == m
  | .ivCeiling n _, .ivCeiling m _ => n == m
  | .pnCeiling n _, .pnCeiling m _ => n == m
  | .cmd i, .cmd j => i == j
  | _, _ => false

/-- The net committed state (R54). (log entry 54, DEDUCED) -/
def netEntries : List JEntry → List JEntry
  | [] => []
  | e :: es => if es.any (fun x => x.op.supersedes e.op) then netEntries es else e :: netEntries es

/-! ## Ring registers (R448, R458) -/

/-- A write of PROD: a value more than 2^m ahead of RPROD is ignored and counted (R448). -/
def Chip.mbProduce (c : Chip) (fn : Nat) (value : W32) : Chip :=
  let p := bits value.toNat 0 16
  let ahead := (p + 65536 - c.rd (F.HST_MB_RPROD_rprod fn)) % 65536
  if 2 ^ c.rd (F.HST_MB_CFG_log2_entries fn) < ahead then c.sat (F.HST_MB_STATUS_overruns fn) 1
  else c.wr (F.HST_MB_PROD_prod fn) p

/-- MAILBOX_PRODUCE: a write of HST_MB_PROD_f. A function writes its own mailbox's window only (R468). -/
def execMailboxProduce (init fn : Nat) (value : W32) (s : State) : Host.Outcome State Fault Refusal :=
  s.actOn (fn ≤ 1) fun c => c.hostWrite init (R.HST_MB_PROD fn) (fun c => c.mbProduce fn value)

/-- Indices of a mailbox return to zero, and its waiting replies are dropped. -/
def Chip.mbClear (c : Chip) (f : Nat) : Chip :=
  let c := ((c.wr (F.HST_MB_PROD_prod f) 0).wr (F.HST_MB_CONS_cons f) 0).wr (F.HST_MB_RPROD_rprod f) 0
  c.setMb f { c.mb f with replies := [] }

/-- A reset of the mailbox: CONS, PROD and RPROD to zero, dma_error cleared (R458). -/
def Chip.mbReset (c : Chip) (f : Nat) : Chip := ((c.mbClear f).wr (F.HST_MB_STATUS_dma_error f) 0).syncMb f

/-- A write of HST_MB_CFG_f: the fields take the values written, and with reset set the mailbox is reset (R458). -/
def Chip.mbConfig (c : Chip) (fn : Nat) (value : W32) : Chip :=
  let c := c.wr (F.HST_MB_CFG_log2_entries fn) (bits value.toNat 0 4)
  let c := c.wrb (F.HST_MB_CFG_enable fn) (bit value.toNat 4)
  let c := if fn = 0 then c.wr (F.HST_MB_CFG_vector 0) (bits value.toNat 6 6) else c
  if bit value.toNat 5 then c.mbReset fn else c.syncMb fn

/-- MAILBOX_RESET: the write of HST_MB_CFG_f that resets the mailbox. -/
def execMailboxReset (init fn : Nat) (value : W32) (s : State) : Host.Outcome State Fault Refusal :=
  s.actOn (fn ≤ 1) fun c => c.hostWrite init (R.HST_MB_CFG fn) (fun c => c.mbConfig fn value)

end Sys2Proof.Machine
end

