-- ==== Sys2Proof/Machine/TimeBase.lean ====
section
/-! DEFINITION. Network time: the time base, its servo, the Speedwell wheel, PPS, triggers and captures (R371 to R392). -/

namespace Sys2Proof.Machine

/-! ## TIME_CONFIG (R391) -/

def Chip.timeSource (c : Chip) : Nat := c.cfgNat T.timeConfig 1 1 0
def Chip.ppsGate (c : Chip) : Bool := bit (c.cfgNat T.timeConfig 3 1 0) 0
def Chip.maxSlewPpm (c : Chip) : Nat := c.cfgNat T.timeConfig 10 2 100
def Chip.stepThreshold (c : Chip) : Nat := c.cfgNat T.timeConfig 12 4 1000000
def Chip.holdoverPpb (c : Chip) : Nat := c.cfgNat T.timeConfig 16 4 10000
def Chip.driftPpbKs (c : Chip) : Nat := c.cfgNat T.timeConfig 20 4 0
def Chip.freqTrim (c : Chip) : Int := c.cfgInt T.timeConfig 24 4
/-- PTP port `k` of 0 to 3: 255 for none (R373). -/
def Chip.ptpPort (c : Chip) (k : Nat) : Nat := c.cfgNat T.timeConfig (4 + k) 1 255
def Chip.ppsWidthMs (c : Chip) : Nat := c.cfgNat T.timeConfig 28 2 100
def Chip.ppsOutTrim (c : Chip) : Int := c.cfgInt T.timeConfig 32 4
def Chip.ppsInTrim (c : Chip) : Int := c.cfgInt T.timeConfig 36 4
/-- Edges captured on an input: bit 0 rising, bit 1 falling. -/
def Chip.capEdges (c : Chip) (i : Nat) : Nat := bits (c.cfgNat T.timeConfig 9 1 0) (2 * i) 2
/-- The port is set in tc_ports (R379). -/
def Chip.tcPort (c : Chip) (p : Nat) : Bool := bit (c.cfgNat T.timeConfig (40 + p / 8) 1 0) (p % 8)
def Chip.rxTrim (c : Chip) (p : Nat) : Int := c.cfgInt T.timeConfig (62 + 4 * p) 2
def Chip.txTrim (c : Chip) (p : Nat) : Int := c.cfgInt T.timeConfig (64 + 4 * p) 2

/-! ## Increment and steps (R371, R375) -/

/-- The increment of a deviation from nominal in units of 0.01 ppb, within ±500 ppm (R371). (log entry 12, DESIGN CHOICE) -/
def incrementFor (dev : Int) : Nat :=
  let d := max (-50000000) (min 50000000 dev)
  ((0xA0000000 : Int) + 0xA0000000 * d / 100000000000).toNat

/-- Sets the increment, and TIM_FREQ with it. -/
def Chip.setIncrement (c : Chip) (dev : Int) : Chip :=
  let d := max (-50000000) (min 50000000 dev)
  ({ c with time := { c.time with incr := incrementFor d } }).setWord R.TIM_FREQ (BitVec.ofInt 32 d)

/-- Servo states (R374). -/
def servoFree : Nat := 0
def servoAcquiring : Nat := 1
def servoLocked : Nat := 2
def servoHoldover : Nat := 3

/-- The whole second whose PPS_OUT edge comes next after an instant in ns. -/
def Chip.ppsAfter (c : Chip) (ns : Nat) : Nat := (((ns : Int) - c.ppsOutTrim) / 1000000000 + 1).toNat

/-- Pulses of a train in the span of ns from `a` to `b`. -/
def Trigger.pulsesIn (t : Trigger) (a b : Nat) : Nat :=
  if t.next < a * nsUnit || b * nsUnit < t.next then 0
  else if t.period = 0 then 1
  else (b * nsUnit - t.next) / (t.period * nsUnit) + 1

/-- A pulse that a step passes is not emitted; it is counted (R387). -/
def Chip.missTrigger (c : Chip) (i a b : Nat) : Chip :=
  let t := Sparse.get {} c.time.trig i
  if !c.flag (F.TIM_TRIG_STATUS_running i) then c
  else
    let n := t.pulsesIn (a + 1) b
    let c := c.add (R.TIM_TRIG_MISSED i) n
    let t := { t with next := t.next + n * t.period * nsUnit }
    let c := { c with time := { c.time with trig := Sparse.set {} c.time.trig i t } }
    if t.period = 0 && n != 0 then c.wr (F.TIM_TRIG_STATUS_running i) 0 else c

/-- The signed value of 64 bits that a step record carries, saturating (R375). -/
def sat64 (z : Int) : Nat := ofSigned 64 (max (-(2 ^ 63)) (min (2 ^ 63 - 1) z))

/-- Steps the time base by a signed number of ns (R375, R387): the step is flagged, counted and recorded, and pulses it passes are
counted. Entries of the wheel that a forward step passes are due at once. A step of more than 1 ms makes the next switch of every
EPOCH channel confirmed, and one of more than 1 s makes the open bins suspect (R114). (log entry 21, DEDUCED) (log entry 64, DEDUCED) -/
def Chip.stepBase (c : Chip) (d : Int) : Chip :=
  let old := c.ns
  let now := ((c.time.now : Int) + d * nsUnit).toNat
  let c := { c with time := { c.time with now := now % (2 ^ 48 * 1000000000 * nsUnit) } }
  let c := { c with time := { c.time with ppsNext := c.ppsAfter c.ns, passed := if old < c.ns then c.ns else 0 } }
  let c := (c.wr F.TIM_STATE_stepped 1).bump R.TIM_STEPS
  let c := if old < c.ns then (List.range 4).foldl (fun c i => c.missTrigger i old c.ns) c else c
  let epochs := (c.data.chans.filter (fun h => h.mode == 0)).map (·.sc)
  let c := if 1000000 < d.natAbs then { c with time := { c.time with stepped := epochs } } else c
  let c := if 1000000000 < d.natAbs then { c with pm := { c.pm with suspect15 := true, suspectDay := true } } else c
  let passes (start len : Nat) : Bool := old / 1000000000 < start + len && start + len ≤ c.ns / 1000000000
  let c := if passes c.pm.start15 900 then { c with pm := { c.pm with crossed15 := true, cut15 := old / 1000000000 } } else c
  let c := if passes c.pm.startDay 86400 then { c with pm := { c.pm with crossedDay := true } } else c
  c.record Sub.time.n 0x10 0 0 (sat64 d)

/-! ## Servo -/

/-- Integer square root of the mean square, scaled by three (R376: e_lock). -/
def eLockOf (offs : List Int) : Nat :=
  match offs.length with
  | 0 => 20
  | n + 1 => max 20 (Nat.sqrt (9 * (offs.foldl (fun a o => a + o.natAbs * o.natAbs) 0) / (n + 1)))

/-- Enters FREE_RUN: the increment is nominal plus freq_trim (R374). -/
def Chip.servoToFree (c : Chip) : Chip :=
  let e := c.num R.TIM_EST 2
  let c := { c with time := { c.time with entered := c.time.now, eEntry := e } }
  (c.wr F.TIM_STATE_state servoFree).setIncrement c.freqTrim

/-- The mean of the last 64 frequency estimates (R374). -/
def meanFreq (l : List Int) : Int := if l = [] then 0 else l.foldl (· + ·) 0 / l.length

/-- Enters HOLDOVER (R374). -/
def Chip.servoToHoldover (c : Chip) : Chip :=
  let c := { c with time := { c.time with entered := c.time.now, eEntry := c.time.eLock } }
  (c.wr F.TIM_STATE_state servoHoldover).setIncrement (meanFreq c.time.freqs)

/-- Enters ACQUIRING. -/
def Chip.servoToAcquire (c : Chip) : Chip :=
  let c := { c with time := { c.time with lowRun := 0, highRun := 0 } }
  c.wr F.TIM_STATE_state servoAcquiring

/-- The state after a sample (R374): LOCKED after 16 consecutive offsets below 1 µs; ACQUIRING after 4 above it. -/
def Chip.servoMove (c : Chip) (off : Int) : Chip :=
  let low := if off.natAbs < 1000 then c.time.lowRun + 1 else 0
  let high := if 1000 < off.natAbs then c.time.highRun + 1 else 0
  let c := { c with time := { c.time with lowRun := min low 16, highRun := min high 4 } }
  let st := c.rd F.TIM_STATE_state
  if st == servoAcquiring && 16 ≤ low then (c.wr F.TIM_STATE_state servoLocked).wr F.TIM_STATE_acquired 1
  else if st == servoLocked && 4 ≤ high then c.servoToAcquire
  else c

/-- Slews an offset out: the increment follows the frequency estimate, and the rate of the slew, which the spec bounds by
max_slew_ppm and does not fix, is a free value (R375) (log entry 12, DESIGN CHOICE). -/
def Chip.slew (c : Chip) (off freq : Int) : Chip :=
  let (v, c) := c.freeNat 32
  let rate : Int := (v % (c.maxSlewPpm * 100000 + 1) : Nat)
  c.setIncrement (freq - off.sign * rate)

/-- SERVO_SAMPLE: a new offset sample in ns (time base less source) with the frequency estimate in 0.01 ppb (R374, R375). Under PTP it comes
from the PTP port `x.source` of TIME_CONFIG, which the best time transmitter algorithm has selected (R373); a port that is not configured
gives none. (log entry 12, DESIGN CHOICE) -/
def execServoSample (x : Sample) (freq : Int) (s : State) : Host.Outcome State Fault Refusal :=
  s.actOn (x.source < 4) fun c =>
    if !c.firmware || c.time.stopped || c.timeSource == 0 || !c.time.running || (c.timeSource == 1 && c.ptpPort x.source == 255) then c
    else
      let c := if c.timeSource == 1 then c.wr F.TIM_STATE_ptp_port (c.ptpPort x.source) else c
      let st := c.rd F.TIM_STATE_state
      let c := if st == servoFree || st == servoHoldover then c.servoToAcquire else c
      let c := c.setWord R.TIM_OFFSET (BitVec.ofInt 32 (max (-(2 ^ 31)) (min (2 ^ 31 - 1) x.ns)))
      let t := c.time
      let c := { c with time := { t with offsets := (x.ns :: t.offsets).take 64, freqs := (freq :: t.freqs).take 64 } }
      let c := { c with time := { c.time with eLock := eLockOf c.time.offsets } }
      let c := if t.first || c.stepThreshold < x.ns.natAbs then c.stepBase (-x.ns) else c.slew x.ns freq
      let c := { c with time := { c.time with first := false } }
      c.servoMove x.ns

/-- SOURCE_LOSS: the source is lost (R374). -/
def execSourceLoss (s : State) : Host.Outcome State Fault Refusal :=
  s.act fun c =>
    let st := c.rd F.TIM_STATE_state
    let c := if c.timeSource == 2 then c.wr F.TIM_STATE_pps_in_present 0 else c.wr F.TIM_STATE_ptp_port 0xFF
    if st == servoAcquiring && !c.flag F.TIM_STATE_acquired then c.servoToFree
    else if st == servoAcquiring || st == servoLocked then c.servoToHoldover
    else c

/-- The estimate E in ns (R376). -/
def Chip.estimate (c : Chip) : Nat :=
  let t := (c.time.now - c.time.entered) / nsUnit
  let drift := c.time.eEntry + c.holdoverPpb * t / 1000000000 + c.driftPpbKs * t * t / 2000000000000000000000
  let st := c.rd F.TIM_STATE_state
  let e :=
    if st == servoFree then (if c.flag F.TIM_STATE_acquired then drift else 2 ^ 64 - 1)
    else if st == servoLocked then c.time.eLock
    else if st == servoAcquiring then ((c.time.offsets.head?).map Int.natAbs).getD 0 + c.time.eLock
    else drift
  min e (2 ^ 64 - 1)

/-- HOLDOVER_ESTIMATE: E is recomputed (R376). -/
def execHoldoverEstimate (s : State) : Host.Outcome State Fault Refusal :=
  s.act fun c =>
    let c' := c.setNum R.TIM_EST 2 c.estimate
    let held := (c.time.now - c.time.entered) / nsUnit / 1000000000
    c'.setWord R.TIM_HOLD_S (BitVec.ofNat 32 (if c.rd F.TIM_STATE_state == servoHoldover then held else 0))

/-- RTC_SET: the real-time counter is set from the time base while the servo is LOCKED (R372). -/
def execRtcSet (s : State) : Host.Outcome State Fault Refusal :=
  s.act fun c =>
    if c.rd F.TIM_STATE_state == servoLocked then { c with ao := { c.ao with rtc := c.time.now, rtcSet := true, rtcBase := c.time.now } } else c

/-! ## Captures (R390) -/

/-- Takes an edge into a FIFO: 20 ns must have passed since the last accepted edge; an edge on a full FIFO is lost. -/
def Chip.capture (c : Chip) (i : Nat) (time : Nat) (falling : Bool) : Chip :=
  let last := Sparse.get 0 c.time.lastEdge i
  if last != 0 && c.time.now < last + 20 * nsUnit then c
  else
    let c := { c with time := { c.time with lastEdge := Sparse.set 0 c.time.lastEdge i c.time.now } }
    let q := Sparse.get [] c.time.caps i
    if 64 ≤ q.length then c.sat (F.TIM_CAP_STATUS_lost i) 1
    else
      let c := { c with time := { c.time with caps := Sparse.set [] c.time.caps i (q ++ [Edge.mk time falling]) } }
      c.wr (F.TIM_CAP_STATUS_level i) (q.length + 1)

/-- CAPTURE_EDGE: an edge on CAP0 to CAP3. -/
def execCaptureEdge (input : Nat) (falling : Bool) (s : State) : Host.Outcome State Fault Refusal :=
  s.actOn (input < 4) fun c =>
    if bit (c.capEdges input) (if falling then 1 else 0) then c.capture input c.time.now falling else c

/-- A pulse has come in on PPS_IN within the last 1.5 s (R374, TIM_STATE). -/
def Chip.ppsPresent (c : Chip) : Bool :=
  c.flag F.TIM_STATE_pps_in_present && c.time.now < Sparse.get 0 c.time.lastEdge 4 + 1500000000 * nsUnit

/-- PPS_IN_EDGE: a rising edge on PPS_IN, captured less pps_in_trim_ns; under source PPS it marks the second that TIME_SET named
(R373, R390, R460). -/
def execPpsInEdge (s : State) : Host.Outcome State Fault Refusal :=
  s.act fun c =>
    let at_ := ((c.time.now : Int) - c.ppsInTrim * nsUnit).toNat
    let c := (c.capture 4 at_ false).wr F.TIM_STATE_pps_in_present 1
    if c.timeSource != 2 then c
    else
      match c.time.ppsSet with
      | none => c
      | some sec =>
        let c := { c with time := { c.time with ppsSet := some (sec + 1) } }
        let st := c.rd F.TIM_STATE_state
        if st == servoFree || st == servoHoldover then c.servoToAcquire else c

/-- CAPTURE_READ: a read of the lowest word of TIM_CAP[i]: the oldest edge leaves the FIFO, and the rest of its time is latched
for the initiator (R390, R12). -/
def Chip.captureRead (c : Chip) (init i : Nat) : W32 × Chip :=
  match Sparse.get [] c.time.caps i with
  | [] => (0, c.latch init (R.TIM_CAP i + 4) 3 [0, 0, 0])
  | e :: es =>
    let ns := e.time / nsUnit
    let sec := ns / 1000000000
    let w0 := e.time % nsUnit / 65536 + 65536 * b2n e.falling + 2 ^ 31
    let c := { c with time := { c.time with caps := Sparse.set [] c.time.caps i es } }
    let c := c.wr (F.TIM_CAP_STATUS_level i) es.length
    (BitVec.ofNat 32 w0, c.latch init (R.TIM_CAP i + 4) 3
      [BitVec.ofNat 32 (ns % 1000000000), BitVec.ofNat 32 sec, BitVec.ofNat 32 (sec / 2 ^ 32 % 65536)])

/-- A read of one dword by an initiator: not served, denied, or answered by `f` (R442, R443, R467). -/
def Chip.hostRead (c : Chip) (init a : Nat) (f : Chip → W32 × Chip) : Chip :=
  if !c.served init a then c.emit (.regRead init [0] false)
  else if c.allowed init a false then
    let (w, c) := f c
    c.emit (.regRead init [w] false)
  else ((c.deny init a false).emit (.regError init a false)).emit (.regRead init [0] true)

/-- CAPTURE_READ. -/
def execCaptureRead (init input : Nat) (s : State) : Host.Outcome State Fault Refusal :=
  s.actOn (input < 5) fun c => c.hostRead init (R.TIM_CAP input) (fun c => c.captureRead init input)

/-! ## The wheel (R383 to R387) -/

/-- The entries in use, with their numbers. -/
def Chip.wheelList (c : Chip) : List (Nat × WheelEntry) :=
  c.time.wheel.filterMap (fun e => e.2.map (fun w => (e.1, w)))

/-- Brings TIM_WHEEL used up to date. -/
def Chip.wheelSync (c : Chip) : Chip := c.wr F.TIM_WHEEL_used c.wheelList.length

/-- Writes an entry of the wheel. -/
def Chip.wheelPut (c : Chip) (n : Nat) (w : Option WheelEntry) : Chip :=
  ({ c with time := { c.time with wheel := Sparse.set none c.time.wheel n w } }).wheelSync

/-- The entry at a number. -/
def Chip.wheelAt (c : Chip) (n : Nat) : Option WheelEntry := Sparse.get none c.time.wheel n

/-- The lowest free entry of a range. -/
def Chip.wheelFree (c : Chip) (lo hi : Nat) : Option Nat :=
  (List.range (hi - lo)).map (· + lo) |>.find? (fun n => (c.wheelAt n).isNone)

/-- Entry `a` fires before entry `b` (R385). -/
def wheelBefore (a b : Nat × WheelEntry) : Bool :=
  a.2.due < b.2.due || (a.2.due == b.2.due && (a.2.type < b.2.type || (a.2.type == b.2.type && a.1 < b.1)))

/-- Entry `n` is due and no due entry precedes it (R385). -/
def Chip.wheelDue (c : Chip) (n : Nat) : Option WheelEntry :=
  match c.wheelAt n with
  | none => none
  | some w =>
    if c.time.running && w.due ≤ c.us &&
        c.wheelList.all (fun x => c.us < x.2.due || c.start.deferred.contains x.1 || !wheelBefore x (n, w)) then some w else none

/-- An entry has fired: a periodic entry takes its next due time, past the occurrences a step has passed (R385, R387); another
becomes free. Its lateness is marked. -/
def Chip.wheelFired (c : Chip) (n : Nat) (w : WheelEntry) : Chip :=
  let c := c.mark F.TIM_WHEEL_late_max_us (c.us - w.due)
  if w.period = 0 then c.wheelPut n none
  else c.wheelPut n (some { w with due := w.due + w.period * ((c.us - w.due) / w.period + 1) })

/-- Types that R44 holds back during a warm start. (log entry 66, DEDUCED) -/
def wheelHeldBack (t : Nat) : Bool := t == 3 || t == 4 || t == 7 || t == 8

/-- Fires entry `n` of type `t`: nothing when it is not due or not first; held back until step 23 during a warm start when its
kind is (R44, R384). -/
def Chip.fire (c : Chip) (n t : Nat) (f : WheelEntry → Chip → Chip) : Chip :=
  match c.wheelDue n with
  | none => c
  | some w =>
    if w.type != t then c
    else if c.restarting && wheelHeldBack t then
      if c.start.deferred.contains n then c else { c with start := { c.start with deferred := c.start.deferred ++ [n] } }
    else f w (c.wheelFired n w)

/-- Starts a train at an instant in ns (R389). -/
def Chip.trigStart (c : Chip) (i ns : Nat) : Chip :=
  let t := Sparse.get {} c.time.trig i
  let c := { c with time := { c.time with trig := Sparse.set {} c.time.trig i { t with start := ns, next := ns * nsUnit } } }
  c.wr (F.TIM_TRIG_STATUS_running i) 1

/-- TRIG_START: the train restarts at the due instant (R384, R389), without the pulses that a step has passed (R387). -/
def execTrigStart (entry : Nat) (s : State) : Host.Outcome State Fault Refusal :=
  s.actOn (entry < 4096) fun c => c.fire entry 1 fun w c =>
    let c := c.trigStart (w.arg % 4) (w.due * 1000)
    if c.time.passed < w.due * 1000 then c else c.missTrigger (w.arg % 4) (w.due * 1000 - 1) c.time.passed

/-- TRIG_STOP: the train stops (R384, R389). -/
def execTrigStop (entry : Nat) (s : State) : Host.Outcome State Fault Refusal :=
  s.actOn (entry < 4096) fun c => c.fire entry 2 fun w c => c.wr (F.TIM_TRIG_STATUS_running (w.arg % 4)) 0

/-- TRIGGER_PULSE: a train emits its next pulse at its instant; a single pulse ends it (R389). (log entry 21, DEDUCED) -/
def execTriggerPulse (output : Nat) (s : State) : Host.Outcome State Fault Refusal :=
  s.actOn (output < 4) fun c =>
    let t := Sparse.get {} c.time.trig output
    if c.time.running && !c.safe && c.flag (F.TIM_TRIG_STATUS_running output) && t.next ≤ c.time.now then
      let t' := { t with next := t.next + t.period * nsUnit }
      let c := { c with time := { c.time with trig := Sparse.set {} c.time.trig output t' } }
      let c := if t.period = 0 then c.wr (F.TIM_TRIG_STATUS_running output) 0 else c
      c.emit (.pulse output t.width t.activeLow)
    else c

/-- PPS_OUT_PULSE: PPS_OUT rises at a whole second plus pps_out_trim_ns, unless pps_gate holds it low (R388). (log entry 21, DEDUCED) -/
def execPpsOutPulse (s : State) : Host.Outcome State Fault Refusal :=
  s.act fun c =>
    let due : Int := (c.time.ppsNext : Int) * 1000000000 + c.ppsOutTrim
    if c.time.running && !c.safe && due ≤ c.ns then
      let c' := { c with time := { c.time with ppsNext := c.ppsAfter c.ns } }
      let st := c.rd F.TIM_STATE_state
      if c.ppsGate && (st == servoFree || (st == servoHoldover && 1000 < c.num R.TIM_EST 2)) then c' else c'.emit (.pulse 4 (c.ppsWidthMs * 1000000) false)
    else c

/-- The horizon of the wheel in µs (R386). -/
def wheelHorizon : Nat := 2 ^ 40

/-- Places an entry on the wheel, or has firmware hold it beyond the horizon (R386). -/
def Chip.wheelOrHold (c : Chip) (n : Nat) (w : WheelEntry) : Chip :=
  if w.due ≤ c.us + wheelHorizon then c.wheelPut n (some w)
  else { c with time := { c.time with held := c.time.held ++ [(n, w)] } }

/-- EXPIRY_HORIZON_CHECK: firmware places the held expiries and events that now lie within the horizon (R386). -/
def execExpiryHorizonCheck (s : State) : Host.Outcome State Fault Refusal :=
  s.act fun c =>
    if !c.firmware then c
    else
      let near := c.time.held.filter (fun x => x.2.due ≤ c.us + wheelHorizon)
      let far := c.time.held.filter (fun x => !(x.2.due ≤ c.us + wheelHorizon))
      near.foldl (fun c x => c.wheelPut x.1 (some x.2)) { c with time := { c.time with held := far } }

/-- The rule of WHEEL_ADD (R386, R460). -/
def Chip.wheelAdd (c : Chip) (type output dueUs dueS : Nat) : Chip × Except Nat Nat :=
  let due := dueS * 1000000 + dueUs
  if (type != 1 && type != 2) || 3 < output || 1000000 ≤ dueUs || c.us + wheelHorizon < due then (c, .error Code.range)
  else
    match c.wheelFree 1536 4096 with
    | none => (c.wr F.TIM_WHEEL_refused 1, .error Code.busy)
    | some n => (c.wheelPut n (some { due := due, type := type, arg := output, host := true }), .ok n)

/-- WHEEL_ADD. -/
def execWheelAdd (h : Mb) (type output dueUs dueS : Nat) (s : State) : Host.Outcome State Fault Refusal :=
  s.act fun c => c.mbRun h { opcode := 0x0611, commit := true } fun c =>
    match c.wheelAdd type output dueUs dueS with
    | (c, .error code) => refuse c code
    | (c, .ok n) => (c, { code := Code.committed, result := n, jop := some (.cmd (.wheelAdd h type output dueUs dueS)) })

/-- The rule of WHEEL_DELETE (R460). -/
def Chip.wheelDelete (c : Chip) (n : Nat) : Option Chip :=
  match c.wheelAt n with
  | some w => if 1536 ≤ n && n < 4096 && w.host then some (c.wheelPut n none) else none
  | none => none

/-- WHEEL_DELETE. -/
def execWheelDelete (h : Mb) (entry : Nat) (s : State) : Host.Outcome State Fault Refusal :=
  s.act fun c => c.mbRun h { opcode := 0x0612, commit := true } fun c =>
    match c.wheelDelete entry with
    | none => refuse c Code.range
    | some c => (c, { code := Code.committed, jop := some (.cmd (.wheelDelete h entry)) })

/-- TIME_SET (R460): under PPS it names the second of the next edge; under FREE_RUN it steps the time base; under PTP it is
denied. -/
def execTimeSet (h : Mb) (seconds : Nat) (s : State) : Host.Outcome State Fault Refusal :=
  s.act fun c => c.mbRun h { opcode := 0x0610 } fun c =>
    if c.timeSource = 1 then refuse c Code.denied
    else if c.timeSource = 2 then
      let c := { c with time := { c.time with ppsSet := some seconds } }
      let st := c.rd F.TIM_STATE_state
      (if c.ppsPresent && (st == servoFree || st == servoHoldover) then c.servoToAcquire else c, {})
    else
      let c := c.stepBase ((seconds : Int) * 1000000000 - c.ns)
      ({ c with time := { c.time with now := c.time.now / nsUnit * nsUnit } }, {})

end Sys2Proof.Machine
end

