-- ==== Sys2Proof/Machine/Datapath.lean ====
section
/-! DEFINITION. The buffer and the SA store at their lowest level: cells and pools (R174 to R182), class queues, SA contexts (R249,
R252), and what a halt, an erase and a quiesce do to the datapath (R42, R405, R430). -/

namespace Sys2Proof.Machine

/-! ## Cells (R174, R176) -/

/-- Cells of a frame (R174). -/
def cellsOf (f : Bytes) : Nat := ceilDiv f.length 256

/-- The headroom of a port in cells (R176). -/
def headroomOf (p : Nat) : Nat := if p < 96 then 96 else 48

/-- Cells charged to the headroom of a port: those of its frames that are not yet decided (R179). -/
def Chip.headUsed (c : Chip) (p : Nat) : Nat :=
  (c.data.frames.filterMap (·.2)).foldl (fun n f => if f.port = p then n + f.head + (if f.decided then 0 else cellsOf f.bytes) else n) 0

/-- The queue number of a port and class. -/
def qOf (p cls : Nat) : Nat := 8 * p + cls

/-- BUFFER_CONFIG (R195): min_cells, alpha_exp and max_cells of a queue, and the stall limit in µs. -/
def Chip.qProfile (c : Chip) (q : Nat) : Nat :=
  match c.rec1 T.bufferConfig with
  | none => 0
  | some v => bits (byteAt v (136 + q / 2)) (4 * (q % 2)) 4

def Chip.minCells (c : Chip) (q : Nat) : Nat := c.cfgNat T.bufferConfig (8 + 8 * c.qProfile q) 2 16
def Chip.alphaExp (c : Chip) (q : Nat) : Int := toSigned 8 (c.cfgNat T.bufferConfig (10 + 8 * c.qProfile q) 1 0)
def Chip.maxCells (c : Chip) (q : Nat) : Nat := c.cfgNat T.bufferConfig (12 + 8 * c.qProfile q) 4 65536
def Chip.stallUs (c : Chip) : Nat := c.cfgNat T.bufferConfig 2 2 1000

/-- The cage of a port (R95). -/
def cageOf (p : Nat) : Nat := if p < 120 then p else p - 24

/-- The port transmits no frames: it is disabled, its managed cage has no ready module, or it sends a fault signal (R187). -/
def Chip.stalled (c : Chip) (p : Nat) : Bool :=
  !c.portOn p || (c.flag (F.PRT_CFG_managed p) && c.rd (F.PRT_MOD_STATUS_mod_state (cageOf p)) != 2) || c.flag (F.PRT_STATUS_ais_tx p) ||
    (c.flag (F.PRT_DEFECT_sf p) && !c.isDenast p)

/-- Charges headroom in use, with its high-water mark. -/
def Chip.takeHeadroom (c : Chip) (n : Nat) : Chip :=
  let c := c.wr F.SWC_HEADROOM_used (c.rd F.SWC_HEADROOM_used + n)
  c.mark F.SWC_HEADROOM_used_max (c.rd F.SWC_HEADROOM_used)

def Chip.giveHeadroom (c : Chip) (n : Nat) : Chip := c.wr F.SWC_HEADROOM_used (c.rd F.SWC_HEADROOM_used - n)

/-- Cells of a queue's charge above its minimum (R176). -/
def Chip.aboveMin (c : Chip) (q occ : Nat) : Nat := occ - c.minCells q

/-- Cells charged to a queue by the decided frames of a list. -/
def earlyIn (l : List Frame) (q : Nat) : Nat :=
  l.foldl (fun n f => if f.queues.any (fun p => qOf p f.cls == q) then n + f.early else n) 0

/-- Cells of the shared pool that the admitted frames hold, oldest first: of each frame those above the minimum of its queues, taken
once for a multicast frame, and those written after its decision (R176, R181, R182). (log entry 29, DEDUCED) -/
def Chip.sharedUsed (c : Chip) : List Frame → List Frame → Nat
  | _, [] => 0
  | older, f :: fs =>
    f.queues.foldl (fun m p =>
      let q := qOf p f.cls
      max m (c.aboveMin q (earlyIn older q + f.early) - c.aboveMin q (earlyIn older q))) 0 + f.shared + c.sharedUsed (older ++ [f]) fs

/-- Brings the unused cells of the shared pool up to date. (log entry 29, DEDUCED) -/
def Chip.settlePool (c : Chip) : Chip :=
  c.wr F.SWC_POOL_FREE_free (c.rd F.SWC_POOL_SIZE_shared - c.sharedUsed [] (c.data.frames.filterMap (·.2)))

/-- Frees a frame and every cell it holds, whatever pool it is charged to. Its queues' charges are released apart. A frame whose
verdict is still to come stays known to the cipher. -/
def Chip.freeFrame (c : Chip) (i : Nat) : Chip :=
  match c.frame i with
  | none => c
  | some f =>
    let g : Frame := { f with gone := true, decided := true, queues := [], punt := none, early := 0, shared := 0, head := 0, learn := none, hit := none }
    let left : Option Frame := if f.waitIcv then some g else none
    let c := c.setFrame i left
    let c := { c with data := { c.data with order := Sparse.set [] c.data.order f.port ((Sparse.get [] c.data.order f.port).filter (· != i)) } }
    let n := cellsOf f.bytes
    if f.gone then c
    else if !f.decided then c.giveHeadroom n
    else if f.punt.isSome then c.wr F.SWC_MGMT_Q_occ (c.rd F.SWC_MGMT_Q_occ - n)
    else (c.giveHeadroom f.head).settlePool

/-- Releases a queue's charge for a frame of `n` cells (R182). (log entry 29, DEDUCED) -/
def Chip.releaseQ (c : Chip) (q n : Nat) : Chip := c.wr (F.SWC_Q_OCC_occ q) (c.rd (F.SWC_Q_OCC_occ q) - n)

/-- A queue's copy of a frame has been read in full or discarded; the cells are freed with the last copy (R182, R190).
(log entry 29, DEDUCED) -/
def Chip.copyGone (c : Chip) (i p : Nat) : Chip :=
  match c.frame i with
  | none => c
  | some f =>
    let c := c.releaseQ (qOf p f.cls) (cellsOf f.bytes)
    let f := { f with queues := f.queues.filter (· != p) }
    let c := c.setFrame i (some f)
    if f.queues = [] then c.freeFrame i else c.settlePool

/-- Every queue's charge for a frame is released and the frame is freed (R183). -/
def Chip.discard (c : Chip) (i : Nat) : Chip :=
  match c.frame i with
  | none => c
  | some f => (f.queues.foldl (fun c p => c.releaseQ (qOf p f.cls) (cellsOf f.bytes)) c).freeFrame i

/-! ## Class queues (R197) -/

def Chip.queue (c : Chip) (q : Nat) : Queue := Sparse.get {} c.data.queues q

def Chip.setQueue (c : Chip) (q : Nat) (x : Queue) : Chip :=
  { c with data := { c.data with queues := Sparse.set {} c.data.queues q x } }

/-- The priority level of a queue, and the virtual time of a port's level (R200, R201). -/
def Chip.level (c : Chip) (q : Nat) : Nat := c.rd (F.TMG_Q_SCHED_level q)
def Chip.vtime (c : Chip) (p lv : Nat) : Nat := Sparse.get 0 c.data.vtime (8 * p + lv)
def Chip.setVtime (c : Chip) (p lv v : Nat) : Chip := { c with data := { c.data with vtime := Sparse.set 0 c.data.vtime (8 * p + lv) v } }

/-- A frame's place in a queue: at the end, but ahead of frames linked in this cycle from ports of higher numbers (R184). -/
def Chip.linkedAfter (c : Chip) (port : Nat) (y : Queued) : Bool :=
  y.linked == c.cycle && (match c.frame y.frame with | some g => decide (port < g.port) | none => false)

/-- Links an eligible frame of an ingress port into a queue; an empty queue wakes at the virtual time of its level (R183, R184, R201).
-/
def Chip.link (c : Chip) (p cls i port : Nat) : Chip :=
  let q := qOf p cls
  let x := c.queue q
  let tag := if x.frames = [] then c.vtime p (c.level q) else x.tag
  let ahead := x.frames.takeWhile (fun y => !c.linkedAfter port y)
  c.setQueue q { frames := ahead ++ [{ frame := i, linked := c.cycle }] ++ x.frames.drop ahead.length, tag := tag }

/-! ## Admission to queues (R180 to R182, R186) -/

/-- The test of one queue for `n` cells, with `free` cells in the shared pool; `bytes` is F as known. -/
def Chip.admitTest (c : Chip) (p q n bytes free : Nat) : Chip × Bool :=
  let occ := c.rd (F.SWC_Q_OCC_occ q)
  let refused : Chip × Bool := ((c.bump (R.SWC_Q_DROP q)).addWide (R.SWC_Q_DROP_B q) 2 64 bytes, false)
  let a := c.alphaExp q
  let limit := if 0 ≤ a then free * 2 ^ a.toNat else free / 2 ^ (-a).toNat
  if (c.port p).stallOut && c.stalled p then (c.bump (R.SWC_STALL_DISC (pipeOf p)), false)
  else if c.maxCells q < occ + n then refused
  else if occ + n ≤ c.minCells q then (c, true)
  else if n ≤ free && c.aboveMin q occ + n ≤ limit then (c, true)
  else refused

/-- Charges a queue. -/
def Chip.chargeQ (c : Chip) (q n : Nat) : Chip :=
  let c := c.wr (F.SWC_Q_OCC_occ q) (c.rd (F.SWC_Q_OCC_occ q) + n)
  c.mark (F.TMG_Q_HWM_DEPTH_depth_max q) (c.rd (F.SWC_Q_OCC_occ q))

/-- Decides frame `i` for the queues of `dests`, of whose cells `n` are written and `known` bytes known; the rest are charged without a
further test (R180, R181). The second component tells whether a queue admits it. -/
def Chip.admitQueues (c : Chip) (i : Nat) (f : Frame) (dests : List Nat) (n known : Nat) : Chip × Bool :=
  let total := cellsOf f.bytes
  let free := c.rd F.SWC_POOL_FREE_free
  let (c, ok) := dests.foldl (fun (y : Chip × List Nat) p =>
    let (c, b) := y.1.admitTest p (qOf p f.cls) n known free
    (c, if b then y.2 ++ [p] else y.2)) (c, [])
  if ok = [] then (c, false)
  else
    let c := if f.port = 144 then c else c.giveHeadroom total
    let g : Frame := { f with decided := true, queues := ok, early := n, shared := 0, head := 0 }
    let c := ((ok.foldl (fun c p => c.chargeQ (qOf p f.cls) total) c).setFrame i (some g)).settlePool
    let more := min (total - n) (c.rd F.SWC_POOL_FREE_free)
    let late := total - n - more
    (((c.setFrame i (some { g with shared := more, head := late })).takeHeadroom late).settlePool, true)

/-- The management cores send a frame, with an FCS, to a port's queue with the class and protection that firmware names (R123, R186). A
refusal is reported; a frame that 40 cells do not hold cannot be stored (R174). (log entry 35, DEDUCED) -/
def Chip.mgmtSend (c : Chip) (port cls : Nat) (prot : Protection) (frame : Bytes) : Chip :=
  let i := c.data.nextId
  let f : Frame := { port := 144, bytes := withFcs (frame ++ fill (60 - frame.length) 0), cls := cls, hasTenant := false,
                     prot := some prot, decided := true, rx := c.ns }
  if 40 < cellsOf f.bytes then c
  else
    let c := { c with data := { c.data with nextId := i + 1 } }
    match c.admitQueues i f [port] (cellsOf f.bytes) f.bytes.length with
    | (c, true) => c.link port cls i 144
    | (c, false) => c.emit (.sendRefused port cls)

/-! ## What waits ahead of queues -/

/-- Frames between the parser and their results, and behind them (R121): key `2 port + direction`. -/
def Chip.flights (c : Chip) (k : Nat) : List Flight := Sparse.get [] c.data.flights k

def Chip.setFlights (c : Chip) (k : Nat) (l : List Flight) : Chip :=
  { c with data := { c.data with flights := Sparse.set [] c.data.flights k l } }

/-! ## SA contexts (R249, R252) -/

def Chip.sa (c : Chip) (i : Nat) : Sa := Sparse.get {} c.data.sas i

def Chip.setSa (c : Chip) (i : Nat) (x : Sa) : Chip :=
  { c with data := { c.data with sas := Sparse.set {} c.data.sas i x } }

/-! ## Performance entities (R109, R117) -/

def Chip.perf (c : Chip) (e : Nat) : Perf := Sparse.get {} c.pm.ents e

def Chip.setPerf (c : Chip) (e : Nat) (x : Perf) : Chip := { c with pm := { c.pm with ents := Sparse.set {} c.pm.ents e x } }

/-- The entity of a channel. -/
def scEntity (sc : Nat) : Nat := 144 + sc

/-- cNOSA enters on the receive channels of an up port that have no installed SA (R106). -/
def Chip.noteNosa (c : Chip) (p : Nat) : Chip :=
  if !c.flag (F.PRT_STATUS_link_up p) then c
  else
    (c.data.chans.filter (fun h => h.port == p && !h.tx)).foldl (fun c h =>
      if (List.range h.count).any (fun a => (c.sa (h.base + a)).installed) then c
      else c.setPerf (scEntity h.sc) { c.perf (scEntity h.sc) with nosaSeen := true }) c

/-! ## Retiring (R252) -/

/-- Retiring clears the key and the flags; the counters stay (R252). (log entry 28, DEDUCED) -/
def Sa.retired (x : Sa) : Sa :=
  { x with installed := false, current := false, accepting := false, key := [], subkey := [], salt := [], secret := [], retireDue := false }

/-- A transmit channel has lost its current SA: a Denast port that sends on it drops its open container (R256). -/
def Chip.dropOpen (c : Chip) (sc : Nat) : Chip :=
  match c.data.chans.find? (fun h => h.sc == sc) with
  | none => c
  | some h =>
    if !h.tx || !c.isDenast h.port || c.denTxSc h.port != sc || (List.range h.count).any (fun a => (c.sa (h.base + a)).current) then c
    else
      let x := c.port h.port
      let n := (x.openRecs ++ x.shut.flatMap (·.1)).length
      (c.setPort h.port { x with openRecs := [], openHeld := false, shut := [] }).add (R.SAS_TX_NOSA (pipeOf h.port)) n

/-- Retires an SA at once. -/
def Chip.retireSa (c : Chip) (i : Nat) : Chip :=
  let sc := (c.sa i).sc
  let c := (c.setSa i (c.sa i).retired).dropOpen sc
  match c.data.chans.find? (fun h => h.sc == sc) with
  | none => c
  | some h => if h.tx then c else c.noteNosa h.port

/-- Every SA is retired, and every link secret and epoch key is zeroised (R289, R405). -/
def Chip.retireAll (c : Chip) : Chip :=
  let ports := mapTable {} (fun _ (x : Port) => { x with link := { x.link with current := [], pending := [], fresh := [], adoptAt := 0 } })
    c.data.ports
  let c := { c with data := { c.data with sas := mapTable {} (fun _ x => Sa.retired x) c.data.sas, ports := ports, epochs := [] } }
  (List.range 96).foldl (fun c p => (c.wr (F.SAS_LINK_STATUS_secret p) 0).setNum (R.SAS_LINK_ADOPT p) 2 0) c

/-! ## Frames and containers in release (R241, R242) -/

/-- Lane-cycles of a frame without its SecTAG and ICV, or of a payload (R31). -/
def laneCycles (p : Nat) : Nat := ceilDiv p 64

/-- What an aborted Ethernet frame is on the wire, of which `k` bytes were sent: those bytes and the inverse of their CRC-32 (R242).
(log entry 16, DESIGN CHOICE) -/
def abortedFrame (f : Bytes) (k : Nat) : Bytes := f.take k ++ toLe (2 ^ 32 - 1 - crc32 (f.take k)) 4

/-- The core header of a PLI: PLI, cHEC (R77). -/
def coreHeader (pli : Nat) : Bytes := toBe pli 2 ++ toBe (crc16 (toBe pli 2)) 2

/-- The mask of the core header on the wire (R77). -/
def denMask (h : Bytes) : Bytes := h.zipWith (· ^^^ ·) [0x6B, 0xA7, 0x1E, 0xD2]

/-- A container on the wire: masked core header, then the rest. -/
def Chip.sendContainer (c : Chip) (p pli : Nat) (rest : Bytes) : Chip := c.emit (.container p pli (denMask (coreHeader pli) ++ rest))

/-- A MARK body (R80). -/
def markBody (an : Nat) (rdi : Bool) (seq : Nat) : Bytes :=
  let b := toBe (an + 4 * b2n rdi) 1 ++ fill 3 0 ++ toBe seq 8
  b ++ toLe (crc32 b) 4

/-- What precedes a data container: a MARK when its AN or sequence does not follow those of the last (R81). -/
def Chip.markAhead (c : Chip) (p an pn : Nat) : Chip :=
  let follows := match (c.port p).lastSent with
    | some (a, n) => a == an && pn == n + 1
    | none => false
  let c := if follows then c else c.sendContainer p 3 (markBody an (c.flag (F.PRT_DEN_STATUS_tx_rdi p)) pn)
  c.setPort p { c.port p with lastSent := some (an, pn) }

/-- The frame or container in release is aborted on the wire after `k` of its bytes (R242): of a frame no byte of its ICV and FCS leaves,
and a container keeps its length. -/
def Chip.abortAt (c : Chip) (p : Nat) (r : Release) (k : Nat) : Chip :=
  if c.isDenast p then (c.markAhead p r.an r.pn).sendContainer p r.bytes.length (r.bytes.take k ++ fill (r.bytes.length - k) 0 ++ fill 16 0)
  else c.emit (.frame p (abortedFrame r.bytes k) false)

/-- The most bytes of a frame or payload that can have left before its ICV is released (R241): a clear frame has no ICV. -/
def Release.outMax (r : Release) (denast : Bool) : Nat :=
  if denast then r.bytes.length else if r.sc.isNone then r.bytes.length - 4 else r.bytes.length - 20

/-- A check fires for the frame or container in release: how many of its bytes had left is a free value (log entry 16, DESIGN CHOICE).
One of which no byte had left is not aborted; the second component tells (R242). -/
def Chip.abortRelease (c : Chip) (p : Nat) (r : Release) : Chip × Bool :=
  let (v, c) := c.freeNat 16
  let k := v % (r.outMax (c.isDenast p) + 2)
  if k = 0 then (c, false) else ((c.abortAt p r (k - b2n (c.isDenast p))).bump (R.CPH_TX_ABORT p), true)

/-- A frame or container in release of which a cell turns out uncorrectable is aborted on the wire; how many of its bytes had left is a
free value (R190; log entry 16, DESIGN CHOICE). -/
def Chip.abortBad (c : Chip) (p : Nat) (r : Release) : Chip :=
  let (v, c) := c.freeNat 16
  let n := r.outMax (c.isDenast p)
  c.abortAt p r (if c.isDenast p then v % (n + 1) else 1 + v % max 1 n)

/-- PNs taken by a frame that does not complete (R236). (log entry 31, DEDUCED) -/
def Chip.discardPn (c : Chip) (r : Release) : Chip :=
  if r.sc.isNone then c else c.setSa r.sa { c.sa r.sa with fails := (c.sa r.sa).fails + 1 }

/-- Every frame in release is aborted (R242, R430), and nothing withdrawn is committed again (R429). -/
def Chip.abortReleases (c : Chip) : Chip :=
  (List.range 96).foldl (fun c p =>
    match (c.port p).release with
    | [] => c
    | r :: rs =>
      let c := (r :: rs).foldl Chip.discardPn (c.abortRelease p r).1
      c.setPort p { c.port p with release := [] }) c

/-! ## The buffer at a start (R42) -/

/-- Frames that the buffer holds. -/
def Chip.buffered (c : Chip) : Nat := ((c.data.frames.filterMap (·.2)).filter (fun f => !f.gone)).length

/-- Engines at work stop: their frames are gone. -/
def Chip.stopEngines (c : Chip) : Chip :=
  (c.data.flights.flatMap (fun e => e.2.filterMap (·.engine))).foldl (fun c e =>
    if c.rd (F.FLW_ENG_STATUS_state e) = 1 then c.wr (F.FLW_ENG_STATUS_state e) 0 else c) c

/-- Every frame that the buffer holds is discarded and counted, and what waits before and behind the buffer is dropped. -/
def Chip.emptyBuffer (c : Chip) : Chip :=
  let n := c.buffered
  let c := ((c.data.frames.map (·.1)).foldl Chip.discard c).stopEngines
  let c := { c with data := { c.data with frames := [] } }
  let ports := mapTable {} (fun _ (x : Port) => { x with commits := [], openRecs := [], openHeld := false, shut := [] }) c.data.ports
  let c := { c with data := { c.data with queues := [], mgmtQ := [], flights := [], vtime := [], order := [], boxes := [], inbox := [],
                                          served := [], lanes := [], ports := ports } }
  ((List.range 4).foldl (fun c k => c.wr (F.CPH_HOLD_used k) 0) (c.sat32 R.SWC_START_DISC n)).settlePool

end Sys2Proof.Machine
end

