-- ==== Sys2Proof/Machine/Health.lean ====
section
/-! DEFINITION. Health: ageing monitors and replicas, the voltage plan and its guard, the end-of-life forecasts, and the health
table and report (R481 to R492, R497). -/

namespace Sys2Proof.Machine

/-! ## The HEALTH_CONFIG record (R491) -/

def Chip.eyeMin (c : Chip) : Nat := c.cfgNat T.healthConfig 3 1 20
def Chip.eolMonths (c : Chip) : Nat := c.cfgNat T.healthConfig 4 2 24
def Chip.laneMonths (c : Chip) : Nat := c.cfgNat T.healthConfig 6 2 6
def Chip.cellMah (c : Chip) : Nat := c.cfgNat T.healthConfig 8 4 220
def Chip.cellAlertDays (c : Chip) : Nat := c.cfgNat T.healthConfig 12 2 365
def Chip.flashMonths (c : Chip) : Nat := c.cfgNat T.healthConfig 14 2 12
def Chip.flashEndurance (c : Chip) : Nat := c.cfgNat T.healthConfig 16 4 100000

/-! ## The end-of-life attention (R454, R487) -/

/-- Raises the end-of-life attention with its record. (log entry 51, DEDUCED) -/
def Chip.raiseEol (c : Chip) (unit detail : Nat) : Chip := (c.record Sub.mgmt.n 4 0 unit detail).attn 11

/-- A forecast has been recomputed: it raises the attention once when its lower bound falls below the threshold, and again only after
the bound has risen above the threshold by `margin`. -/
def Chip.watchForecast (c : Chip) (ix unit bound threshold margin detail : Nat) : Chip :=
  let h := c.health
  if h.alerted.contains ix then
    if threshold + margin < bound then { c with health := { h with alerted := h.alerted.filter (· != ix) } } else c
  else if bound < threshold then ({ c with health := { h with alerted := h.alerted ++ [ix] } }).raiseEol unit detail
  else c

/-! ## The core rail (R482 to R485, R497) -/

/-- The rail in mV that a CORE_VID code commands. -/
def railMv (code : Nat) : Nat := 500 + 5 * code

/-- The rail takes a code, within 36 to 60. -/
def Chip.setVid (c : Chip) (code : Nat) : Chip :=
  let code := max 36 (min 60 code)
  ({ c with health := { c.health with vid := code } }).wr F.HLT_AVS_STATUS_rail_mv (railMv code)

/-- REPLICA_MEASURE: the slack of each replica in ps; the guard raises the rail by one step while any is below 15 ps (R481, R484). -/
def execReplicaMeasure (slackPs : List Nat) (s : State) : Host.Outcome State Fault Refusal :=
  s.act fun c =>
    let c := (List.range 32).foldl (fun c r =>
      let v := min 1023 (slackPs.getD r 1023)
      (c.wr (F.HLT_AGE_REPL_slack_ps r) v).wr (F.HLT_AGE_REPL_min_ps r) (min v (c.rd (F.HLT_AGE_REPL_min_ps r)))) c
    let short := (slackPs.take 32).any (fun v => decide (v < 15))
    let c := c.wrb F.HLT_AVS_STATUS_guard_active short
    if short && c.health.vid < 60 then
      (({ c with health := { c.health with raised := true } }).setVid (c.health.vid + 1)).sat F.HLT_AVS_GUARD_raises 1
    else c

/-- RAIL_STEP: the rail moves one step towards the plan. A guard raise stands until the next plan (R482, R484). (log entry 51, DEDUCED) -/
def execRailStep (s : State) : Host.Outcome State Fault Refusal :=
  s.act fun c =>
    let plan := c.rd F.HLT_AVS_STATUS_plan_mv
    let rail := railMv c.health.vid
    if plan = 0 || c.health.vidLe || c.health.raised then c
    else if plan < rail then c.setVid (c.health.vid - 1)
    else if rail < plan then c.setVid (c.health.vid + 1)
    else c

/-- The core forecast from the plans recorded (R486). -/
def Chip.forecastCore (c : Chip) : Chip :=
  let ps := c.health.plans
  let v1 := ps.head?.getD (0, 0)
  let last := ps.getLast?.getD (0, 0)
  let known := v1.1 + 28 * 86400 ≤ last.1 && 4 ≤ (ps.filter (fun p => decide (v1.2 < p.2))).length
  let cut (n : Nat) : Nat := if 65534 < n then 0xFFFE else n
  let f := Config.eolFit ps
  let r : Nat × Nat × Nat :=
    if c.flag F.HLT_AVS_STATUS_at_cap then (0, 0, 0) else if known then (cut f.1, cut f.2.1, cut f.2.2) else (0xFFFF, 0xFFFF, 0xFFFF)
  let c := ((c.wr F.HLT_EOL_months r.1).wr F.HLT_EOL_BAND_low r.2.1).wr F.HLT_EOL_BAND_high r.2.2
  if r.2.1 = 0xFFFF then c else c.watchForecast 0 0 r.2.1 c.eolMonths 3 (c.word R.HLT_EOL).toNat

/-- The registers of the plan history. -/
def Chip.showPlans (c : Chip) : Chip :=
  let last := c.health.plans.getLast?.getD (0, 0)
  (c.wr F.HLT_AVS_STATUS_plan_mv last.2).setNum R.HLT_AVS_LAST 2 last.1

/-- A new plan: the lowest voltage that the replicas need, in steps of 5 mV, at most the cap and at least what CORE_VID drives; after a
guard raise never below the rail in force (R482, R484). -/
def Chip.newPlan (c : Chip) (mv : Nat) : Chip :=
  let need := 5 * ceilDiv mv 5
  let p := max 680 (min 800 need)
  let p := if c.health.raised then max p (railMv c.health.vid) else p
  let cap := decide (800 < need)
  let was := c.flag F.HLT_AVS_STATUS_at_cap
  let h := c.health
  let ps := h.plans ++ [(c.seconds, p)]
  let c := { c with health := { h with plans := ps.drop (ps.length - 1024), raised := false, ordered := false,
                                       excursionAt := if h.ordered then some c.seconds else h.excursionAt } }
  let c := ((c.showPlans).sat F.HLT_AVS_GUARD_plans 1).wrb F.HLT_AVS_STATUS_at_cap cap
  let c := if cap && !was then c.raiseEol 0 (c.word R.HLT_AVS_STATUS).toNat else c
  c.forecastCore

/-- VOLTAGE_PLAN: firmware makes a plan; `mv` is the voltage at which every replica keeps 40 ps of slack at 105 °C (R482, R483). -/
def execVoltagePlan (mv : Nat) (s : State) : Host.Outcome State Fault Refusal := s.act fun c => if c.firmware then c.newPlan mv else c

/-- TEMP_EXCURSION: an excursion plan is ordered, at most one in 24 hours; one that falls due during a start waits for firmware (R483). -/
def execTempExcursion (_high : Bool) (s : State) : Host.Outcome State Fault Refusal :=
  s.act fun c =>
    let fresh := match c.health.excursionAt with
      | none => true
      | some t => decide (t + 86400 ≤ c.seconds)
    if fresh then { c with health := { c.health with ordered := true } } else c

/-! ## Cell and flash (R489, R490) -/

/-- Days that the cell lasts at 1.20 µA. -/
def Chip.cellDays (c : Chip) : Nat := (1000 * c.cellMah - (c.word R.HLT_CELL_USED).toNat) * 10 / 288

/-- The registers of the cell, and its forecast. (log entry 51, DEDUCED) -/
def Chip.cellSync (c : Chip) : Chip :=
  let c := (c.wr F.HLT_CELL_cell_mv (c.rd (F.TMP_READING_reading_a 4))).wr F.HLT_CELL_DAYS_value c.cellDays
  let c := c.wrb F.HLT_CELL_alert (decide (c.cellDays < c.cellAlertDays))
  c.watchForecast 1 0 c.cellDays c.cellAlertDays 30 (c.word R.HLT_CELL_DAYS).toNat

/-- Sectors of device `d` that are counted. -/
def sectorCounts (counts : Sparse Nat) (d : Nat) : List (Nat × Nat) :=
  (counts.filter (fun e => e.1 / 512 == d)).map (fun e => (e.1 % 512, e.2))

/-- The most-worn sector of a device and its erases; the lowest among equals. -/
def worstSector (counts : Sparse Nat) (d : Nat) : Nat × Nat :=
  (sectorCounts counts d).foldl (fun b e => if b.2 < e.2 then e else b) (0, 0)

/-- Erases of a sector in the last 30 days: from the newest counts that are as old, and a free value where the counts do not reach so
far back. (log entry 50, DESIGN CHOICE) -/
def Chip.monthErases (c : Chip) (d sector now : Nat) : Nat × Chip :=
  match c.health.wear.find? (fun w => decide (w.1 + 30 * 86400 ≤ c.seconds)) with
  | some w => (now - Sparse.get 0 w.2 (512 * d + sector), c)
  | none => c.freeNat 32

/-- The registers and the forecast of a flash device (R490). (log entry 50, DESIGN CHOICE) -/
def Chip.flashSync (c : Chip) (d : Nat) : Chip :=
  let w := worstSector c.health.counts d
  let c := c.wr (F.HLT_FLASH_wear d) (min 65535 (w.2 * 10000 / c.flashEndurance))
  let c := (c.wr (F.HLT_FLASH_SECT_worst_sector d) w.1).wrb (F.HLT_FLASH_SECT_counts_restarted d) c.health.restarted
  match c.health.plans.head? with
  | none => c
  | some p =>
    if c.seconds < p.1 + 30 * 86400 then (c.wr (F.HLT_FLASH_months d) 0xFFFF).wr (F.HLT_FLASH_SECT_alert d) 0
    else
      let (n, c) := c.monthErases d w.1 w.2
      let m := if n = 0 then 0xFFFE else min 0xFFFE ((c.flashEndurance - w.2) * (30 * 86400) / (n * Config.monthSeconds))
      let c := (c.wr (F.HLT_FLASH_months d) m).wrb (F.HLT_FLASH_SECT_alert d) (decide (m < c.flashMonths))
      c.watchForecast (2 + d) d m c.flashMonths 3 (c.word (R.HLT_FLASH d)).toNat

/-- Counts the erase of `n` sectors from sector `first` on one device. (log entry 51, DEDUCED) -/
def Chip.countErase (c : Chip) (d first n : Nat) : Chip :=
  let h := c.health
  let m := (List.range n).foldl (fun m i =>
    Sparse.set 0 m (512 * d + first + i) (Sparse.get 0 m (512 * d + first + i) + 1)) h.counts
  { c with health := { h with counts := m } }

/-- Counts the erase of sectors on every healthy device. -/
def Chip.countErases (c : Chip) (first n : Nat) : Chip :=
  let c := if c.flashGood 0 then c.countErase 0 first n else c
  if c.flashGood 1 then c.countErase 1 first n else c

/-! ## The health table (R490) -/

/-- Sector of a copy of the table: the last 256 KiB of the performance-history region. -/
def healthSector (copy : Nat) : Nat := 476 + copy

/-- HEALTH_TABLE_WRITE: the next copy on both devices. -/
def Chip.writeHealth (c : Chip) : Chip :=
  if c.persistBlocked then c
  else
    let k := (c.health.copy + 1) % 4
    let c := c.countErases (healthSector k) 1
    let h := c.health
    let t : HealthTable := { seq := h.seq + 1, plans := h.plans, counts := h.counts }
    let c := c.onFlash fun f => { f with health := Sparse.set none f.health k (some t) }
    let old := h.wear.filter (fun w => decide (w.1 + 30 * 86400 ≤ c.seconds))
    let new := h.wear.filter (fun w => decide (c.seconds < w.1 + 30 * 86400))
    let c := { c with health := { h with copy := k, seq := h.seq + 1, wear := (c.seconds, h.counts) :: new ++ old.take 1 } }
    ((c.flashSync 0).flashSync 1).cellSync

/-- HEALTH_TABLE_WRITE (R490): The health table is written daily and after each plan, to the next copy on both devices. -/
def execHealthTableWrite (s : State) : Host.Outcome State Fault Refusal := s.act fun c => if c.firmware then c.writeHealth else c

/-- The valid copy of the table with the highest sequence, of either device, with its place. -/
def Chip.bestHealth (c : Chip) : Option (Nat × HealthTable) :=
  let of_ (d : Nat) : List (Nat × HealthTable) :=
    if c.flashGood d then (c.flash d).health.filterMap (fun e => e.2.map (fun t => (e.1, t))) else []
  (of_ 0 ++ of_ 1).foldl (fun b e =>
    match b with
    | none => some e
    | some x => if x.2.seq < e.2.seq then some e else some x) none

/-- Step 12 of a cold start: the plan history and the sector counts come from the table, the newest plan is applied, and CORE_VID_LE
goes low (R485, R490, R497). -/
def Chip.healthStart (c : Chip) : Chip :=
  let h := c.health
  let h : Health := match c.bestHealth with
    | some (k, t) => { h with plans := t.plans, counts := t.counts, copy := k, seq := t.seq, vidLe := false }
    | none => { h with restarted := true, vidLe := false }
  let c := { c with health := h }
  let c := (c.showPlans).wr F.HLT_AVS_GUARD_plans (min 65535 h.plans.length)
  ((c.forecastCore.flashSync 0).flashSync 1).cellSync

/-! ## Monitors and lanes (R481, R488) -/

/-- AGEING_MEASURE: the degradation of every monitor, hourly. -/
def execAgeingMeasure (degradation : List Nat) (s : State) : Host.Outcome State Fault Refusal :=
  s.act fun c =>
    if !c.firmware then c
    else ((List.range 128).foldl (fun c i => c.wr (F.HLT_AGE_MON_degradation i) (min 65535 (degradation.getD i 0))) c).cellSync

/-- The port of a receive lane: lane n of Ln, lane 96 + 2u + k of Uu or of its half. -/
def Chip.lanePort (c : Chip) (l : Nat) : Nat :=
  if l < 96 then l
  else
    let u := (l - 96) / 2
    if l % 2 = 1 && c.portOn (120 + u) then 120 + u else 96 + u

/-- A lane of a DISABLED port keeps no data (R488). -/
def Chip.dropLanes (c : Chip) : Chip :=
  let off := (List.range 144).filter (fun l => !c.portOn (c.lanePort l))
  let c := { c with health := { c.health with lanes := c.health.lanes.filter (fun e => !off.contains e.1) } }
  off.foldl (fun c l => c.setWord (R.HLT_LANE l) 0x00FF0000) c

/-- The slope of the least-squares line through points (day, mV), as a numerator over a positive denominator, and the line's value on
the newest day times that denominator and the count. (log entry 51, DEDUCED) -/
def lineFit (ps : List (Nat × Nat)) : Int × Int × Int :=
  let n : Int := ps.length
  let x0 : Int := (ps.map (·.1)).foldl max 0
  let qs : List (Int × Int) := ps.map (fun p => ((p.1 : Int) - x0, (p.2 : Int)))
  let sx := (qs.map (·.1)).sum
  let sy := (qs.map (·.2)).sum
  let sxx := (qs.map (fun q => q.1 * q.1)).sum
  let sxy := (qs.map (fun q => q.1 * q.2)).sum
  let den := n * sxx - sx * sx
  let num := n * sxy - sx * sy
  (num, den, sy * den - num * sx)

/-- Months until the line through the minima reaches eye_min_mv; none when it does not fall (R488). (log entry 51, DEDUCED) -/
def Chip.laneForecast (c : Chip) (ps : List (Nat × Nat)) : Option Nat :=
  let (num, den, top) := lineFit ps
  let n : Int := ps.length
  let least : Int := (c.eyeMin : Int) * (n * den)
  if top ≤ least then some 0
  else if 0 ≤ num then none
  else some (((top - least) / (-num * n)).toNat * 86400 / Config.monthSeconds)

/-- The slope in 0.1 mV a month, two's complement, held within its field. (log entry 51, DEDUCED) -/
def laneTrend (ps : List (Nat × Nat)) : Nat :=
  let (num, den, _) := lineFit ps
  ofSigned 8 (max (-128) (min 127 (num * 10 * Config.monthSeconds / (den * 86400))))

/-- LANE_EYE_MEASURE: the hourly eye of a receive lane (R488). -/
def execLaneEyeMeasure (lane eyeMv eyeWidth : Nat) (s : State) : Host.Outcome State Fault Refusal :=
  s.actOn (lane < 144) fun c =>
    if !c.firmware || !c.portOn (c.lanePort lane) then c
    else
      let day := c.seconds / 86400
      let old := Sparse.get [] c.health.lanes lane
      let ps : List (Nat × Nat) := match old with
        | (d, v) :: rest => if d = day then (d, min v eyeMv) :: rest else (day, eyeMv) :: old
        | [] => [(day, eyeMv)]
      let ps := (ps.filter (fun p => decide (day < p.1 + 32))).take 32
      let c := { c with health := { c.health with lanes := Sparse.set [] c.health.lanes lane ps } }
      let c := (c.wr (F.HLT_LANE_eye_mv lane) (min 255 eyeMv)).wr (F.HLT_LANE_eye_width lane) (min 63 eyeWidth)
      if ps.length < 7 then ((c.wr (F.HLT_LANE_valid lane) 0).wr (F.HLT_LANE_months lane) 255).wr (F.HLT_LANE_alert lane) 0
      else
        let m := ((c.laneForecast ps).map (min 255)).getD 255
        let c := ((c.wr (F.HLT_LANE_valid lane) 1).wr (F.HLT_LANE_months lane) m).wr (F.HLT_LANE_trend lane) (laneTrend ps)
        let c := c.wrb (F.HLT_LANE_alert lane) (decide (m < c.laneMonths))
        c.watchForecast (4 + lane) lane m c.laneMonths 3 (c.word (R.HLT_LANE lane)).toNat

/-! ## The health report (R492) -/

/-- The lane with the shortest valid forecast. -/
def Chip.worstLane (c : Chip) : Nat :=
  match (List.range 144).filter (fun l => c.flag (F.HLT_LANE_valid l)) with
  | [] => 0xFFFF
  | l :: ls => ls.foldl (fun b x => if c.rd (F.HLT_LANE_months x) < c.rd (F.HLT_LANE_months b) then x else b) l

/-- The most degraded monitor. -/
def Chip.worstMonitor (c : Chip) : Nat :=
  (List.range 128).foldl (fun b x => if c.rd (F.HLT_AGE_MON_degradation b) < c.rd (F.HLT_AGE_MON_degradation x) then x else b) 0

/-- The 640 bytes of the report. -/
def Chip.healthBytes (c : Chip) : Bytes :=
  let h := c.health
  let flags := c.rd F.HLT_AVS_STATUS_at_cap + 2 * b2n h.raised + 4 * b2n h.restarted
  toLe c.seconds 8 ++ toLe (c.rd F.HLT_AVS_STATUS_rail_mv) 2 ++ toLe (c.rd F.HLT_AVS_STATUS_plan_mv) 2 ++
    toLe (c.rd F.HLT_EOL_months) 2 ++ toLe (c.rd F.HLT_EOL_BAND_low) 2 ++ toLe (c.rd F.HLT_EOL_BAND_high) 2 ++ toLe flags 1 ++
    toLe (min 255 (c.rd F.HLT_AVS_GUARD_plans)) 1 ++ toLe (c.num R.HLT_AVS_LAST 2) 8 ++ toLe c.worstMonitor 2 ++
    toLe (c.rd (F.HLT_AGE_MON_degradation c.worstMonitor)) 2 ++ toLe (c.rd (F.TMP_READING_reading_a 4)) 2 ++ toLe c.cellDays 4 ++
    toLe (max (c.rd (F.HLT_FLASH_wear 0)) (c.rd (F.HLT_FLASH_wear 1))) 2 ++
    toLe (min (c.rd (F.HLT_FLASH_months 0)) (c.rd (F.HLT_FLASH_months 1))) 2 ++ toLe c.worstLane 2 ++ fill 20 0 ++
    ((List.range 144).map (fun l => toLe (c.word (R.HLT_LANE l)).toNat 4)).flatten

/-- HEALTH_REPORT. -/
def execHealthReport (h : Mb) (s : State) : Host.Outcome State Fault Refusal :=
  s.act fun c => c.mbRun h { opcode := 0x0007, pf1 := true, outLen := 640 } fun c => (c, { out := c.healthBytes })

end Sys2Proof.Machine
end

