-- ==== Sys2Proof/Machine/Pke.lean ====
section
/-! DEFINITION. The public-key engine: descriptors, the operations and their run times, operand memory and its wipes, and the jobs that
firmware submits (R323 to R338). -/

namespace Sys2Proof.Machine

/-- A string cut or padded with zeros to `n` bytes. -/
def fit (n : Nat) (b : Bytes) : Bytes := (b ++ fill n 0).take n

/-! ## Descriptors (R328) -/

def djOp (d : Bytes) : Nat := byteAt d 0
def djSlotKey (d : Bytes) : Bool := bit (byteAt d 1) 1
def djSecret (d : Bytes) : Bool := bit (byteAt d 1) 2
def djDet (d : Bytes) : Bool := bit (byteAt d 1) 3
def djMu (d : Bytes) : Bool := bit (byteAt d 1) 4
def djSlot (d : Bytes) : Nat := le d 2 2
def djCurve (d : Bytes) : Nat := byteAt d 8
def djNw (d : Bytes) : Nat := byteAt d 9
def djNe (d : Bytes) : Nat := byteAt d 10
def djCtx (d : Bytes) : Nat := byteAt d 11
def djIn (d : Bytes) : Nat := le d 12 4
def djOut (d : Bytes) : Nat := le d 32 4

namespace PkeOp

def modAdd : Nat := 0x01
def modSub : Nat := 0x02
def modMul : Nat := 0x03
def modInv : Nat := 0x04
def modExp : Nat := 0x05
def rsaPrivate : Nat := 0x06
def ecPubkey : Nat := 0x10
def ecdh : Nat := 0x11
def ecdsaSign : Nat := 0x12
def ecdsaVerify : Nat := 0x13
def mlkemKeygen : Nat := 0x20
def mlkemEncaps : Nat := 0x21
def mlkemDecaps : Nat := 0x22
def mldsaKeygen : Nat := 0x28
def mldsaSign : Nat := 0x29
def mldsaVerify : Nat := 0x2A

end PkeOp

/-! Completion codes (R340). -/

namespace PkeCode

def ok : Nat := 0
def range : Nat := 1
def invalidPoint : Nat := 2
def invalidSignature : Nat := 3
def noInverse : Nat := 4
def mismatch : Nat := 5
def length : Nat := 6
def format : Nat := 7
def denied : Nat := 8
def empty : Nat := 9
def aborted : Nat := 10
def fault : Nat := 11

end PkeCode

def isModOp (o : Nat) : Bool := 1 ≤ o && o ≤ 6
def isEcOp (o : Nat) : Bool := 0x10 ≤ o && o ≤ 0x13
def isMlOp (o : Nat) : Bool := (0x20 ≤ o && o ≤ 0x22) || (0x28 ≤ o && o ≤ 0x2A)

/-- Bytes of a coordinate of a curve. -/
def cbOf (k : Nat) : Nat := if k = 1 then 32 else if k = 2 then 48 else 66

/-- Bits of the order of a curve. -/
def orderBits (k : Nat) : Nat := if k = 1 then 256 else if k = 2 then 384 else 521

/-! ## Checks at the start (R330, R331, R335, R340) -/

/-- The descriptor's reserved fields are zero, and its flags and curve are those its operation takes. -/
def djFormatOk (d : Bytes) : Bool :=
  let o := djOp d
  let fl := byteAt d 1
  (isModOp o || isEcOp o || isMlOp o) && fl < 32 && (!djSlotKey d || [0x10, 0x11, 0x12, 0x20, 0x22, 0x28, 0x29].contains o) &&
    (!djSecret d || o == PkeOp.modExp) && (!djDet d || o == PkeOp.mldsaSign) && (!djMu d || o == PkeOp.mldsaSign || o == PkeOp.mldsaVerify) &&
    (if djSlotKey d then djSlot d < 1024 else djSlot d == 0) && (if isEcOp o then 1 ≤ djCurve d && djCurve d ≤ 3 else djCurve d == 0) &&
    (isModOp o || djNw d == 0) && (o == PkeOp.modExp || o == PkeOp.rsaPrivate || djNe d == 0) &&
    (o == PkeOp.mldsaSign || o == PkeOp.mldsaVerify || djCtx d == 0) && le d 36 4 == 0 && le d 48 16 == 0

/-- Bytes of the fixed part of the input, and how many more may follow: 0, a digest, a message or μ. -/
def djFixed (d : Bytes) : Nat :=
  let o := djOp d
  let n := 8 * djNw d
  let cb := cbOf (djCurve d)
  let key (k : Nat) : Nat := if djSlotKey d then 0 else k
  if o = PkeOp.modAdd || o = PkeOp.modSub || o = PkeOp.modMul then 3 * n
  else if o = PkeOp.modInv then 2 * n
  else if o = PkeOp.modExp then 2 * n + 8 * djNe d + (if djSecret d then n else 0)
  else if o = PkeOp.rsaPrivate then 7 * n + 8 * djNe d
  else if o = PkeOp.ecPubkey then key cb
  else if o = PkeOp.ecdh then key cb + 2 * cb
  else if o = PkeOp.ecdsaSign then key cb
  else if o = PkeOp.ecdsaVerify then 4 * cb
  else if o = PkeOp.mlkemEncaps then 1568
  else if o = PkeOp.mlkemDecaps then key 3168 + 1568
  else if o = PkeOp.mldsaSign then key 4032 + djCtx d
  else if o = PkeOp.mldsaVerify then 1952 + 3309 + djCtx d
  else 0

/-- Output bytes. -/
def djOutLen (d : Bytes) : Nat :=
  let o := djOp d
  let cb := cbOf (djCurve d)
  if o = PkeOp.rsaPrivate then 16 * djNw d
  else if isModOp o then 8 * djNw d
  else if o = PkeOp.ecdh then cb
  else if o = PkeOp.ecPubkey || o = PkeOp.ecdsaSign then 2 * cb
  else if o = PkeOp.mlkemKeygen then (if djSlotKey d then 1568 else 4736)
  else if o = PkeOp.mlkemEncaps then 1600
  else if o = PkeOp.mlkemDecaps then 32
  else if o = PkeOp.mldsaKeygen then (if djSlotKey d then 1952 else 5984)
  else if o = PkeOp.mldsaSign then 3309
  else 0

/-- The sizes are in range and fit the operation, for a limit of words on modular operands. (log entry 44, DEDUCED) -/
def djLengthOk (d : Bytes) (maxNw : Nat) : Bool :=
  let o := djOp d
  let more := djIn d - djFixed d
  let words := !isModOp o || (1 ≤ djNw d && (if o = PkeOp.rsaPrivate then djNw d ≤ 64 && 2 * djNw d ≤ maxNw else djNw d ≤ 128 && djNw d ≤ maxNw))
  let exps := !(o == PkeOp.modExp || o == PkeOp.rsaPrivate) || (1 ≤ djNe d && djNe d ≤ 128 && djNe d ≤ maxNw)
  let tail := if o = PkeOp.ecdsaSign || o = PkeOp.ecdsaVerify then 1 ≤ more && more ≤ 64
    else if o = PkeOp.mldsaSign || o = PkeOp.mldsaVerify then (if djMu d then more == 64 else more ≤ 16384)
    else more == 0
  words && exps && djFixed d ≤ djIn d && tail && djOutLen d ≤ djOut d

/-- The operation needs fresh random bytes (R335). -/
def djRandom (d : Bytes) : Bool :=
  let o := djOp d
  o == PkeOp.rsaPrivate || (o == PkeOp.modExp && djSecret d) || isEcOp o || o == PkeOp.mlkemKeygen || o == PkeOp.mlkemEncaps ||
    (o == PkeOp.mldsaKeygen && !djSlotKey d) || (o == PkeOp.mldsaSign && !djDet d)

/-! ## Keys (R331) -/

/-- A string of `l` bits as a number, its first bit the most significant. -/
def bitsNat (l : Nat) (v : Bytes) : Nat :=
  if l % 8 = 0 then beNat (v.take (l / 8)) else 2 ^ (l % 8) * beNat (v.take (l / 8)) + byteAt v (l / 8) % 2 ^ (l % 8)

/-- A private scalar out of a string of bits (R294). -/
def scalarOf (k l : Nat) (v : Bytes) : Nat := 1 + bitsNat l v % (Config.ecOrder k - 1)

def slotKmac (s : Bytes) (name : String) (l : Nat) : Bytes :=
  (Config.kmac256 s (ascii name) l (ascii "GLEORN-PKE-KEY") ++ fill 80 0).take (ceilDiv l 8)

/-- The scalar of an owner slot on a curve. -/
def slotScalar (s : Bytes) (k : Nat) : Nat :=
  let name := if k = 1 then "P-256" else if k = 2 then "P-384" else "P-521"
  scalarOf k (orderBits k + 64) (slotKmac s name (orderBits k + 64))

/-- A point of a curve (1 P-256, 2 P-384, 3 P-521) lies on it, with both coordinates below the prime. -/
def onCurve (k : Nat) (q : Nat × Nat) : Bool :=
  let p := Config.ecPrime k
  q.1 < p && q.2 < p && (q.2 * q.2) % p == (q.1 * q.1 * q.1 + (p - 3) * q.1 + Config.ecB k) % p

/-- The value of a key for a use out of a slot: an owner slot's, or the system slots' own (R294 to R296, R304): K2 gives the seeds of
ML-KEM and the P-384 key of the import pair, K4 and K5 the ML-DSA seed and the P-384 key of identity and of its certificates. -/
def systemSeed (n : Nat) (s : Bytes) : Bytes × Nat :=
  if n = 2 then
    let v := Config.kmac256 s (ascii "import") 960 (ascii "GLEORN-IMPORT-KEY")
    (v.take 64, scalarOf 2 448 (slice v 64 56))
  else (s.take 32, scalarOf 2 448 (slice s 32 56))

def jobScalar (d s : Bytes) : Nat := if djSlot d < 8 then (systemSeed (djSlot d) s).2 else slotScalar s (djCurve d)
def jobKemSeed (d s : Bytes) : Bytes := if djSlot d < 8 then (systemSeed (djSlot d) s).1 else slotKmac s "ML-KEM-1024" 512
def jobDsaSeed (d s : Bytes) : Bytes := if djSlot d < 8 then (systemSeed (djSlot d) s).1 else slotKmac s "ML-DSA-65" 256

/-! ## The operations (R330, R332, R335 to R338) -/

/-- `a ^ e mod m` over the lowest `n` bits of `e`. -/
def modPow (m : Nat) : Nat → Nat → Nat → Nat
  | 0, _, _ => 1 % m
  | n + 1, a, e =>
    let r := modPow m n (a * a % m) (e / 2)
    if e % 2 = 1 then a * r % m else r

/-- How the arithmetic of a job ends: an output, or a code and whether it is reported at the fixed instant. -/
inductive PkeEnd where
  | out (v : Bytes)
  | early (code : Nat)
  | late (code : Nat)
  /-- A computed point is off the curve: FAULT, detail 1 (R336). -/
  | offCurve
  deriving DecidableEq, Repr

/-- The inverse of `a` modulo `m`. -/
def invMod (a m : Nat) : Nat := (Nat.gcdA a m % (m : Int)).toNat

/-- Modular operations: number `i` of the inputs is `8 nw` bytes. A secret exponent is blinded by a fresh multiple of `ord` (R335); the
results that R338 defines do not rest on it. (log entry 44, DEDUCED) -/
def pkeMod (d input rnd : Bytes) : PkeEnd :=
  let n := 8 * djNw d
  let x (i : Nat) : Nat := be input (n * i) n
  let o := djOp d
  if o = PkeOp.modAdd || o = PkeOp.modSub || o = PkeOp.modMul then
    let (a, b, m) := (x 0, x 1, x 2)
    if m ≤ a || m ≤ b then .early PkeCode.range
    else .out (toBe (if o = PkeOp.modAdd then (a + b) % m else if o = PkeOp.modSub then (a + m - b) % m else a * b % m) n)
  else
    let (a, m) := (x 0, x 1)
    let bad := m % 2 = 0 || m < 3 || m ≤ a
    if o = PkeOp.modInv then
      if bad then .early PkeCode.range
      else if Nat.gcd a m ≠ 1 then .late PkeCode.noInverse
      else .out (toBe (invMod a m) n)
    else
      let e := be input (2 * n) (8 * djNe d)
      let ord := be input (2 * n + 8 * djNe d) n
      if bad || (djSecret d && ord = 0) then .early PkeCode.range
      else if e = 0 then .out (toBe 1 n)
      else if a = 0 then .out (toBe 0 n)
      else if djSecret d then .out (toBe (modPow m (64 * (djNw d + djNe d + 2)) a (e + beNat (rnd.take 8) * ord)) n)
      else .out (toBe (modPow m (64 * djNe d) a e) n)

/-- A fresh unit modulo `m` out of random bytes: the first from the value drawn on, among 64. (log entry 44, DEDUCED) -/
def freshUnit (m : Nat) (r : Bytes) : Nat := ((List.range 64).map (fun i => (beNat r + i) % m)).find? (fun x => Nat.gcd x m == 1) |>.getD 1

/-- RSA by the Chinese remainder theorem, with its exponents and its base blinded (R335), and its check (R336). -/
def pkeRsa (d input rnd : Bytes) : PkeEnd :=
  let h := 8 * djNw d
  let x (i : Nat) : Nat := be input (h * i) h
  let (p, q, dp, dq, qinv) := (x 0, x 1, x 2, x 3, x 4)
  let e := be input (5 * h) (8 * djNe d)
  let v := be input (5 * h + 8 * djNe d) (2 * h)
  if p % 2 = 0 || p < 3 || q % 2 = 0 || q < 3 || p ≤ dp || q ≤ dq || p ≤ qinv || p * q ≤ v || e = 0 then .early PkeCode.range
  else
    let r := freshUnit (p * q) (slice rnd 16 (2 * h))
    let w := v * modPow (p * q) (64 * djNe d) r e % (p * q)
    let m1 := modPow p (8 * h + 64) (w % p) (dp + beNat (rnd.take 8) * (p - 1))
    let m2 := modPow q (8 * h + 64) (w % q) (dq + beNat (slice rnd 8 8) * (q - 1))
    let m := (m2 + q * (qinv * ((m1 + p * (m2 / p + 1) - m2) % p) % p)) * invMod r (p * q) % (p * q)
    if modPow (p * q) (64 * djNe d) m e ≠ v then .late PkeCode.mismatch else .out (toBe m (2 * h))

/-- A point of an input: RANGE for a coordinate at or above the prime, INVALID_POINT for infinity or a point off the curve. -/
def pointBar (k : Nat) (q : Nat × Nat) : Option Nat :=
  if Config.ecPrime k ≤ q.1 || Config.ecPrime k ≤ q.2 then some PkeCode.range
  else if (q.1 = 0 && q.2 = 0) || !onCurve k q then some PkeCode.invalidPoint
  else none

/-- A private scalar is refused. -/
def scalarBad (k x : Nat) : Bool := x = 0 || Config.ecOrder k ≤ x

/-- The nonce of a signature (R335). -/
def ecdsaNonce (k x : Nat) (digest rnd : Bytes) : Nat :=
  let l := orderBits k + 64
  scalarOf k l ((Config.kmac256 (toBe x (cbOf k)) (digest ++ rnd) l (ascii "GLEORN-ECDSA-K") ++ fill 80 0).take (ceilDiv l 8))

/-- A point as it enters the ladder, in Jacobian coordinates with a fresh non-zero λ (R335), and the affine point that it stands for. -/
def enterLadder (k lam : Nat) (q : Nat × Nat) : Nat × Nat × Nat :=
  let p := Config.ecPrime k
  (lam * lam * q.1 % p, lam * lam * lam * q.2 % p, lam % p)

def affineOf (k : Nat) (j : Nat × Nat × Nat) : Nat × Nat :=
  let p := Config.ecPrime k
  let z := invMod j.2.2 p
  (j.1 * z * z % p, j.2.1 * z * z * z % p)

/-- Scalar multiplication with randomised coordinates; `r` gives λ. -/
def ecMulMasked (k x : Nat) (q : Nat × Nat) (r : Bytes) : Nat × Nat :=
  Config.ecMul k x (affineOf k (enterLadder k (1 + beNat r % (Config.ecPrime k - 1)) q))

/-- A signature with the point of its nonce and the number of draws: a new nonce is drawn while r or s is zero. Past the draws that the
random bytes of the job allow, the signature of a later draw is a free value. (log entry 44, DEDUCED) -/
def ecdsaDraw (k x : Nat) (digest : Bytes) (lam : Bytes) : Nat → Nat → Bytes → (Nat × Nat) × (Nat × Nat) × Nat
  | 0, i, rnd => ((1 + beNat (rnd.take 66), 1 + beNat (slice rnd 66 66)), Config.ecBase k, i + 1)
  | n + 1, i, rnd =>
    let e := ecdsaNonce k x digest (rnd.take 48)
    let rs := Config.ecdsaSign k x digest e
    if rs.1 = 0 || rs.2 = 0 then ecdsaDraw k x digest lam n (i + 1) (rnd.drop 48)
    else (rs, ecMulMasked k e (Config.ecBase k) lam, i + 1)

/-- An ECDSA signature of a job: four draws of 48 bytes, then a free value; the last 66 bytes give λ. -/
def ecdsaJob (k x : Nat) (digest rnd : Bytes) : (Nat × Nat) × (Nat × Nat) × Nat := ecdsaDraw k x digest (slice rnd 324 66) 4 0 (rnd.take 324)

/-- Elliptic-curve operations; `key` is the scalar of a slot, or none. -/
def pkeEc (d input rnd : Bytes) (key : Option Nat) : PkeEnd :=
  let k := djCurve d
  let cb := cbOf k
  let own := key.isNone && djOp d != PkeOp.ecdsaVerify
  let x := key.getD (be input 0 cb)
  let v := if own then input.drop cb else input
  let pt : Nat × Nat := (be v 0 cb, be v cb cb)
  if own && scalarBad k x then .early PkeCode.range
  else if djOp d = PkeOp.ecPubkey then
    let q := ecMulMasked k x (Config.ecBase k) (slice rnd 324 66)
    if onCurve k q then .out (toBe q.1 cb ++ toBe q.2 cb) else .offCurve
  else if djOp d = PkeOp.ecdh then
    match pointBar k pt with
    | some b => .early b
    | none =>
      let q := ecMulMasked k x pt (slice rnd 324 66)
      if onCurve k q then .out (toBe q.1 cb) else .offCurve
  else if djOp d = PkeOp.ecdsaSign then
    let (rs, q, _) := ecdsaJob k x v rnd
    if onCurve k q then .out (toBe rs.1 cb ++ toBe rs.2 cb) else .offCurve
  else
    match pointBar k pt with
    | some b => .early b
    | none =>
      let (r, s) := (be v (2 * cb) cb, be v (3 * cb) cb)
      if scalarBad k r || scalarBad k s || !Config.ecdsaVerify k pt (v.drop (4 * cb)) r s then .late PkeCode.invalidSignature else .out []

/-- The message of an ML-DSA job, after its key or key and signature. -/
def mlMessage (d input : Bytes) : Bytes × Bytes :=
  let v := input.drop (djFixed d - djCtx d)
  (v.take (djCtx d), v.drop (djCtx d))

/-- Lattice operations; `slot` is the value of a slot, or none. -/
def pkeMl (d input rnd : Bytes) (slot : Option Bytes) : PkeEnd :=
  let o := djOp d
  let kem (s : Bytes) : Bytes := Config.mlkemKeygen (jobKemSeed d s)
  if o = PkeOp.mlkemKeygen then
    match slot with
    | some s => .out (fit 1568 (kem s))
    | none => .out (fit 4736 (Config.mlkemKeygen (rnd.take 64)))
  else if o = PkeOp.mlkemEncaps then
    if !Config.mlkemEkOk input then .early PkeCode.range else .out (fit 1600 (Config.mlkemEncaps input (rnd.take 32)))
  else if o = PkeOp.mlkemDecaps then
    match slot with
    | some s => .out (fit 32 (Config.mlkemDecaps ((kem s).drop 1568) input))
    | none =>
      if !Config.mlkemDkOk (input.take 3168) then .early PkeCode.range
      else .out (fit 32 (Config.mlkemDecaps (input.take 3168) (input.drop 3168)))
  else if o = PkeOp.mldsaKeygen then
    match slot with
    | some s => .out (fit 1952 (Config.mldsaKeygen (jobDsaSeed d s)))
    | none => .out (fit 5984 (Config.mldsaKeygen (rnd.take 32)))
  else
    let (ctx, m) := mlMessage d input
    if o = PkeOp.mldsaSign then
      let sk := match slot with
        | some s => jobDsaSeed d s
        | none => input.take 4032
      let r := if djDet d then fill 32 0 else rnd.take 32
      .out (fit 3309 (if djMu d then Config.mldsaSignMu sk m r else Config.mldsaSign sk ctx m r))
    else
      let pk := input.take 1952
      let sig := slice input 1952 3309
      if (if djMu d then Config.mldsaVerifyMu pk m sig else Config.mldsaVerify pk ctx m sig) then .out [] else .late PkeCode.invalidSignature

/-- Iterations of an MLDSA_SIGN job (R333). -/
def pkeIterations (d input rnd : Bytes) (slot : Option Bytes) : Nat :=
  if djOp d != PkeOp.mldsaSign then 0
  else
    let (ctx, m) := mlMessage d input
    let sk := match slot with
      | some s => jobDsaSeed d s
      | none => input.take 4032
    let r := if djDet d then fill 32 0 else rnd.take 32
    if djMu d then Config.mldsaIterationsMu sk m r else Config.mldsaIterations sk ctx m r

/-! ## Run times in ns (R333, R337) -/

/-- Tenths of t_mm. -/
def tmm10 (nw : Nat) : Nat := 16 * nw * nw + 200

/-- Bits of a number. -/
def bitLen (n : Nat) : Nat := if n = 0 then 0 else Nat.log2 n + 1

/-- The run time of a job that runs to its end; `n` counts the iterations of MLDSA_SIGN, and the nonces that ECDSA_SIGN draws, each of
which takes the time of the table. (log entry 44, DEDUCED) -/
def pkeFullNs (d input : Bytes) (n : Nat) : Nat :=
  let o := djOp d
  let nw := djNw d
  let byCurve (a b c : Nat) : Nat := if djCurve d = 1 then a else if djCurve d = 2 then b else c
  if o = PkeOp.modAdd || o = PkeOp.modSub then 4 * nw + 100
  else if o = PkeOp.modMul then 3 * tmm10 nw / 10
  else if o = PkeOp.modInv then 256 * nw * nw + 1280 * nw
  else if o = PkeOp.modExp then
    let b := 64 * djNe d + (if djSecret d then 64 else 0)
    (125 * b + 2000) * tmm10 nw / 1000
  else if o = PkeOp.rsaPrivate then
    let e := be input (40 * nw) (8 * djNe d)
    (2 * (125 * (64 * nw + 64) + 2000) * tmm10 nw + 100 * (2 * bitLen e + 4) * tmm10 (2 * nw)) / 1000
  else if o = PkeOp.ecPubkey || o = PkeOp.ecdh then byCurve 200000 380000 880000
  else if o = PkeOp.ecdsaSign then n * byCurve 210000 400000 920000
  else if o = PkeOp.ecdsaVerify then byCurve 400000 760000 1750000
  else if o = PkeOp.mlkemKeygen then 45000
  else if o = PkeOp.mlkemEncaps then 60000
  else if o = PkeOp.mlkemDecaps then 72000
  else if o = PkeOp.mldsaKeygen then 110000
  else if o = PkeOp.mldsaSign then 60000 + 50000 * n
  else 130000 + 2 * (mlMessage d input).2.length

/-- The fixed instant of a rejection. (log entry 45, DESIGN CHOICE) -/
def pkeEarlyNs (d : Bytes) : Nat :=
  500 + 4 * ceilDiv (djIn d) 8 +
    (if isEcOp (djOp d) then (if djCurve d = 1 then 1500 else if djCurve d = 2 then 2000 else 3000) else 0)

/-! ## A job as a whole -/

/-- What the counts of a run are: iterations of MLDSA_SIGN (R333), draws of ECDSA_SIGN. -/
def pkeRounds (j : PkeJob) (input rnd : Bytes) : Nat :=
  let d := j.desc
  if djOp d = PkeOp.ecdsaSign then
    let x := (j.key.map (jobScalar d)).getD (be input 0 (cbOf (djCurve d)))
    (ecdsaJob (djCurve d) x (if j.key.isSome then input else input.drop (cbOf (djCurve d))) rnd).2.2
  else pkeIterations d input rnd j.key

/-- The arithmetic of a job, with random bytes drawn for it. -/
def pkeCompute (j : PkeJob) (input rnd : Bytes) : PkeEnd × Nat :=
  let d := j.desc
  let r := if djOp d = PkeOp.rsaPrivate then pkeRsa d input rnd
    else if isModOp (djOp d) then pkeMod d input rnd
    else if isEcOp (djOp d) then pkeEc d input rnd (j.key.map (jobScalar d))
    else pkeMl d input rnd j.key
  (r, pkeRounds j input rnd)

/-! ## Operand memory (R323, R326, R327) -/

/-- A string of bytes as words of 64 bits, the least significant word first. -/
def wordsOf (v : Bytes) : List Nat := (List.range (ceilDiv v.length 8)).map (fun i => bits (beNat v) (64 * i) 64)

/-- The inputs of a job one after the other, each with whether it is a private key, a seed or another secret (R326, R330). -/
def djSegs (d : Bytes) : List (Nat × Bool) :=
  let o := djOp d
  let n := 8 * djNw d
  let cb := cbOf (djCurve d)
  let own (l : Nat) : List (Nat × Bool) := if djSlotKey d then [] else [(l, true)]
  if o = PkeOp.modAdd || o = PkeOp.modSub || o = PkeOp.modMul then [(n, false), (n, false), (n, false)]
  else if o = PkeOp.modInv then [(n, false), (n, false)]
  else if o = PkeOp.modExp then [(n, false), (n, false), (8 * djNe d, djSecret d), (n, true)]
  else if o = PkeOp.rsaPrivate then [(n, true), (n, true), (n, true), (n, true), (n, true), (8 * djNe d, false), (2 * n, false)]
  else if o = PkeOp.ecPubkey || o = PkeOp.ecdsaSign then own cb
  else if o = PkeOp.ecdh then own cb ++ [(cb, false), (cb, false)]
  else if o = PkeOp.ecdsaVerify then [(cb, false), (cb, false), (cb, false), (cb, false)]
  else if o = PkeOp.mlkemDecaps then own 3168
  else if o = PkeOp.mldsaSign then own 4032
  else if o = PkeOp.mldsaVerify then [(1952, false), (3309, false)]
  else []

/-- The outputs of a job, likewise: shared secrets and private keys are secret. -/
def djOutSegs (d : Bytes) : List (Nat × Bool) :=
  let o := djOp d
  if o = PkeOp.ecdh || o = PkeOp.mlkemDecaps then [(djOutLen d, true)]
  else if o = PkeOp.mlkemEncaps then [(1568, false), (32, true)]
  else if o = PkeOp.mlkemKeygen then [(1568, false), (3168, true)]
  else if o = PkeOp.mldsaKeygen then [(1952, false), (4032, true)]
  else [(djOutLen d, false)]

/-- A string cut into segments; what is left over is one more, in clear. -/
def cutSegs : List (Nat × Bool) → Bytes → List (Bytes × Bool)
  | [], v => if v = [] then [] else [(v, false)]
  | (n, x) :: l, v => (v.take n, x) :: cutSegs l (v.drop n)

/-- Stores segments as words from place `o` on; with `keep` the secret ones are stored as zeros. (log entry 44, DEDUCED) -/
def storeSegs (keep : Bool) : Nat → List (Bytes × Bool) → Sparse Nat → Sparse Nat
  | _, [], m => m
  | o, (v, x) :: l, m =>
    let w := wordsOf v
    let m := (List.range w.length).foldl (fun m i => Sparse.set 0 m (o + i) (if keep && x then 0 else w.getD i 0)) m
    storeSegs keep (o + w.length) l m

/-- What a job has in operand memory: its inputs, and what it has read out of a slot. -/
def PkeJob.loaded (j : PkeJob) (input : Bytes) : List (Bytes × Bool) :=
  cutSegs (djSegs j.desc) input ++ (match j.key with
    | some s => [(s, true)]
    | none => [])

/-- The job's words are loaded. -/
def Chip.pkeLoad (c : Chip) (j : PkeJob) (input : Bytes) : Chip :=
  ({ c with pke := { c.pke with opmem := storeSegs false 0 (j.loaded input) c.pke.opmem } }).wr F.PKE_STATUS_clean 0

/-- The end of a job in operand memory: its output stands there, and every word that held a secret is zero (R326). -/
def Chip.pkeStore (c : Chip) (j : PkeJob) (input out : Bytes) : Chip :=
  let l := j.loaded input ++ (if out = [] then [] else cutSegs (djOutSegs j.desc) out)
  { c with pke := { c.pke with opmem := storeSegs true 0 l c.pke.opmem } }

/-- Time spent running jobs and wipes. -/
def Chip.pkeBusy (c : Chip) (ns : Nat) : Chip :=
  let c := { c with pke := { c.pke with busyNs := c.pke.busyNs + ns } }
  c.setNum R.PKE_BUSY_US 2 (c.pke.busyNs / 1000 % 2 ^ 64)

/-- All operand memory is zeroised; a memory that is clean is not wiped again. -/
def Chip.pkeWipe (c : Chip) : Chip :=
  if c.flag F.PKE_STATUS_clean then c
  else (({ c with pke := { c.pke with opmem := [] } }.bump R.PKE_WIPES).wr F.PKE_STATUS_clean 1).pkeBusy 8000

/-- The host job that is running. -/
def Chip.pkeHostJob (c : Chip) : Option PkeJob := (c.pke.running.map (·.1)).filter (fun j => !j.fw)

/-- Brings PKE_STATUS and PKE_CUR_JOB up to date. -/
def Chip.pkeSync (c : Chip) : Chip :=
  let run := c.pke.running
  let c := (c.wrb F.PKE_STATUS_busy run.isSome).wr F.PKE_STATUS_opcode ((run.map (fun r => byteAt r.1.desc 0)).getD 0)
  let c := c.wr F.PKE_STATUS_host_queued (c.pke.queue.length + b2n c.pkeHostJob.isSome)
  c.setWord R.PKE_CUR_JOB (BitVec.ofNat 32 ((c.pkeHostJob.map (·.num)).getD 0))

/-- Firmware's jobs, queued or running, are discarded when the management cores restart (R329). -/
def Chip.dropFwJobs (c : Chip) : Chip :=
  let run := c.pke.running.filter (fun r => !r.1.fw)
  ({ c with pke := { c.pke with fwQueue := [], running := run } }).pkeSync

/-- The operand memory is wiped (R327). A host job that was running returns to the head of its queue, and runs from its beginning if
the queue goes on (R329); a firmware job is discarded. (log entry 44, DEDUCED) -/
def Chip.wipePke (c : Chip) : Chip :=
  let c := match c.pke.running with
    | none => c
    | some r =>
      let q := if r.1.fw then c.pke.queue else { r.1 with key := none } :: c.pke.queue
      { c with pke := { c.pke with running := none, queue := q } }
  c.pkeWipe.pkeSync

/-! ## Firmware's jobs (R325, R328, R331) -/

/-- A firmware job on an input that lies in management memory, on P-384, with its key out of a system slot or none. Its addresses are not
stated and are zero here. (log entry 44, DEDUCED) -/
def fwJob (op : Nat) (slot : Option Nat) (input rnd : Bytes) : PkeJob :=
  let ec := isEcOp op
  let desc := toLe op 1 ++ toLe (2 * b2n slot.isSome) 1 ++ toLe (slot.getD 0) 2 ++ fill 4 0 ++ toLe (if ec then 2 else 0) 1 ++ fill 3 0 ++
    toLe input.length 4 ++ fill 16 0 ++ toLe 8192 4 ++ fill 28 0
  { num := 0, desc := desc, fw := true, input := input, rnd := rnd }

/-- Firmware submits jobs (R328); for a key agreement with its port. What it does with their results it does at once, and the engine runs
them in their turn. (log entry 44, DEDUCED) -/
def Chip.fwJobs (c : Chip) (port : Option Nat) (l : List PkeJob) : Chip :=
  l.foldl (fun c j =>
    let n := c.pke.fwNext
    { c with pke := { c.pke with fwNext := (n + 1) % 2 ^ 32, fwQueue := c.pke.fwQueue ++ [{ j with num := n, port := port }] } }) c

/-- Random bytes of a pair of signatures: 32 for ML-DSA-65, then those of an ECDSA job. -/
def signRnd : Nat := 422

/-- Both signatures over a message under a 704-bit seed of slot `n`, ML-DSA-65 then ECDSA P-384 (R65, R295, R296), none when MLDSA_SIGN
stops at 200 iterations or a computed point is off the curve (R334, R336); and the jobs that make them. -/
def signPair (n : Nat) (seed msg digest rnd : Bytes) : Option (Bytes × Bytes) × List PkeJob :=
  let ml := { fwJob PkeOp.mldsaSign (some n) msg (rnd.take 32) with key := some seed }
  let ec := { fwJob PkeOp.ecdsaSign (some n) digest (rnd.drop 32) with key := some seed }
  let jobs := [{ ec with key := none }, { ml with key := none }]
  match pkeCompute ml msg (rnd.take 32), pkeCompute ec digest (rnd.drop 32) with
  | (.out a, iter), (.out b, _) => (if 200 < iter then none else some (a, b), jobs)
  | _, _ => (none, jobs)

/-- The jobs that verify a pair of signatures of 3,405 bytes under a pair of public keys. -/
def verifyJobs (keys msg sig : Bytes) : List PkeJob :=
  [fwJob PkeOp.mldsaVerify none (keys.take 1952 ++ sig.take 3309 ++ msg) [],
    fwJob PkeOp.ecdsaVerify none (keys.drop 1952 ++ sig.drop 3309 ++ Config.sha384 msg) []]

end Sys2Proof.Machine
end

