-- ==== Sys2Proof/Machine/Stack.lean ====
section
/-! DEFINITION. What the two stacks of the vault hold: the layout of the areas (R348, R349), the keys and the cipher of a line (R350, R351),
and the nodes of the counter tree (R352 to R354). -/

namespace Sys2Proof.Machine

/-- A node of the tree from its components (R290). -/
def epkaiNode (e : Bytes) (label : List String) : Bytes :=
  label.foldl (fun k comp => Config.kmac256 k (ascii comp) 256 (ascii "EPKAI-NODE")) e

/-- Key and salt of a suite out of 44 bytes (R261). -/
def keyOf (suite : Nat) (v : Bytes) : Bytes := if suite = 0 || suite = 2 then v.take 16 else v.take 32
def saltOf (suite : Nat) (v : Bytes) : Bytes := if suite = 4 then slice v 32 4 else slice v 32 12

/-- The smaller of a count and the largest value of its field. -/
def capTo (bytes n : Nat) : Nat := min n (2 ^ (8 * bytes) - 1)

/-- The 48-byte entry of a bin. (log entry 70, DEDUCED) -/
def Bin.entry (b : Bin) (port opened : Bool) : Bytes :=
  let flags := b2n b.suspect + 2 * b2n opened + 4 * b2n b.disabled
  let f (n v : Nat) : Bytes := toLe (capTo n v) n
  f 4 b.es ++ f 4 b.ses ++ f 4 b.uas ++ f 4 b.bbe ++
    (if port then f 8 b.fecCorr ++ f 8 b.fecBad ++ f 2 b.downs ++ toLe flags 2 ++ f 4 b.los ++ f 4 b.ais ++ f 4 b.rdi
     else f 4 b.icvs ++ f 4 b.rps ++ f 8 b.fecCorr ++ fill 2 0 ++ toLe flags 2 ++ f 4 b.nosa ++ fill 8 0)

/-! ## AES-XTS-256 over one line (R351) -/

/-- Multiplication of a tweak by α in the field of IEEE 1619-2018. -/
def xtsNext (t : BitVec 128) : BitVec 128 := (t <<< 1) ^^^ (if t.msb then 0x87#128 else 0)

/-- One block under its tweak. -/
def xtsBlock (e : Equiv.Perm (BitVec 128)) (t b : BitVec 128) : BitVec 128 := e (b ^^^ t) ^^^ t

/-- Four blocks as one line, the last one first. -/
def join4 (a b c d : BitVec 128) : BitVec 512 := (((a ++ b : BitVec 256) ++ c : BitVec 384) ++ d : BitVec 512)

/-- The four blocks of a line, the first byte of the line least significant; `t` is the encrypted tweak. -/
def xtsLine (e : Equiv.Perm (BitVec 128)) (t : BitVec 128) (d : BitVec 512) : BitVec 512 :=
  let t1 := xtsNext t
  let t2 := xtsNext t1
  let t3 := xtsNext t2
  join4 (xtsBlock e t3 (d.extractLsb' 384 128)) (xtsBlock e t2 (d.extractLsb' 256 128)) (xtsBlock e t1 (d.extractLsb' 128 128))
    (xtsBlock e t (d.extractLsb' 0 128))

/-- The encrypted tweak of a line under a counter: counter, line number and four zero bytes, all big-endian. -/
def xtsTweak (keys : Bytes) (line n : Nat) : BitVec 128 :=
  Config.aesPerm (slice keys 32 32) (BitVec.ofNat 128 (leNat (toBe n 8 ++ toBe line 4 ++ fill 4 0)))

def encryptLine (keys : Bytes) (line n : Nat) (d : BitVec 512) : BitVec 512 :=
  xtsLine (Config.aesPerm (slice keys 0 32)) (xtsTweak keys line n) d

def decryptLine (keys : Bytes) (line n : Nat) (d : BitVec 512) : BitVec 512 :=
  xtsLine (Config.aesPerm (slice keys 0 32)).symm (xtsTweak keys line n) d

/-- The tag of a line or node: the leftmost 64 bits of AES-GMAC under line number and counter (R351). -/
def vaultTag (keys : Bytes) (line n : Nat) (aad : Bytes) : BitVec 64 :=
  BitVec.ofNat 64 (be (Config.gmac (slice keys 64 32) (toBe line 4 ++ toBe n 8) aad) 0 8)

/-- A line as the stacks hold it. -/
def sealLine (keys : Bytes) (line n : Nat) (d : BitVec 512) : VLine :=
  let ct := encryptLine keys line n d
  { ct := ct, tag := vaultTag keys line n (toLe ct.toNat 64) }

/-! ## Nodes (R352) -/

/-- Key of a node in the model's tables. -/
def nodeKey (level i : Nat) : Nat := 2 ^ 28 * level + i

/-- Line number of node `i` of a level, 0 for a leaf to 3 (R351). -/
def nodeLine (level i : Nat) : Nat := 0x80000000 + 0x10000000 * level + i

/-- A node; one that has not been written since the region was built is all zeros under the key ID of that time. -/
def Chip.node (c : Chip) (level i : Nat) : Node := Sparse.get { keyId := c.vault.base } c.vault.nodes (nodeKey level i)

def Chip.setNode (c : Chip) (level i : Nat) (n : Node) : Chip :=
  { c with vault := { c.vault with nodes := Sparse.set { keyId := c.vault.base } c.vault.nodes (nodeKey level i) n } }

/-- Minor counter of child `k` (R352). -/
def Node.minor (n : Node) (k : Nat) : Nat := bits n.minors (6 * k) 6

/-- Counter of child `k`: 64 × major + minor (R352). -/
def Node.counter (n : Node) (k : Nat) : Nat := 64 * n.major + n.minor k

/-- Bytes 0 to 55 of a node (R352). -/
def Node.bytes (n : Node) : Bytes := toLe (n.major % 2 ^ 58 + 2 ^ 60 * n.keyId) 8 ++ toLe n.minors 48

/-- The keys of a key ID (R350). -/
def Chip.vaultKeys (c : Chip) (id : Nat) : Bytes := Sparse.get [] c.vault.keys id

/-- The counter that a node's parent, or the root, holds for it (R351). -/
def Chip.nodeCounter (c : Chip) (level i : Nat) : Nat :=
  if level = 3 then Sparse.get 0 c.vault.roots i else (c.node (level + 1) (i / 64)).counter (i % 64)

/-- The tag that a node has under its present counter (R351). -/
def Chip.nodeTag (c : Chip) (level i : Nat) : BitVec 64 :=
  vaultTag (c.vaultKeys (c.node level i).keyId) (nodeLine level i) (c.nodeCounter level i) (c.node level i).bytes

/-- A node is tagged under its present counter. -/
def Chip.tagNode (c : Chip) (level i : Nat) : Chip := c.setNode level i { c.node level i with tag := c.nodeTag level i }

/-! ## Data lines (R350, R351) -/

/-- The plaintext of a line that a leaf `n` binds. -/
def Chip.openLine (c : Chip) (n : Node) (line : Nat) (v : VLine) : BitVec 512 :=
  decryptLine (c.vaultKeys n.keyId) line (n.counter (line % 64)) v.ct

/-- A line encrypted and tagged as a leaf `n` binds it. -/
def Chip.closeLine (c : Chip) (n : Node) (line : Nat) (d : BitVec 512) : VLine :=
  sealLine (c.vaultKeys n.keyId) line (n.counter (line % 64)) d

/-- The tag of the stored line verifies (R356); a line that the part's own areas hold always does. -/
def Chip.tagGood (c : Chip) (line : Nat) : Bool :=
  match Sparse.get none c.vault.lines line with
  | none => true
  | some v =>
    let n := c.node 0 (line / 64)
    v.tag == vaultTag (c.vaultKeys n.keyId) line (n.counter (line % 64)) (toLe v.ct.toNat 64)

/-- Leaf `leaf` becomes `n`, and its lines are encrypted and tagged anew under it (R353, R364). -/
def Chip.rewriteLeaf (c : Chip) (leaf : Nat) (n : Node) : Chip :=
  let old := c.node 0 leaf
  let lines := c.vault.lines.map (fun e =>
    if e.1 / 64 = leaf then (e.1, e.2.map (fun v => c.closeLine n e.1 (c.openLine old e.1 v))) else e)
  { c with vault := { c.vault with lines := lines } }.setNode 0 leaf n

/-- The written children of an inner node are tagged anew under its counters (R353). -/
def Chip.retagChildren (c : Chip) (level i : Nat) : Chip :=
  ((List.range 64).filter (fun k => c.vault.nodes.any (fun e => e.1 == nodeKey (level - 1) (64 * i + k)) &&
    !c.vault.dirty.contains (nodeKey (level - 1) (64 * i + k)))).foldl (fun c k => c.tagNode (level - 1) (64 * i + k)) c

/-- The minor of a child rises, or overflows into the major, under which every child is encrypted or tagged anew (R353). -/
def Chip.bumpChild (c : Chip) (level i k : Nat) : Chip :=
  let n := c.node level i
  let up : Node := { n with major := n.major + 1, minors := 0 }
  if n.minor k = 63 then
    (if level = 0 then c.rewriteLeaf i up else (c.setNode level i up).retagChildren level i).bump R.VLT_OVERFLOW
  else c.setNode level i { n with minors := n.minors + 2 ^ (6 * k) }

/-- Marks a node dirty. -/
def Chip.markDirty (c : Chip) (level i : Nat) : Chip :=
  let k := nodeKey level i
  if c.vault.dirty.contains k then c else { c with vault := { c.vault with dirty := c.vault.dirty ++ [k] } }

/-- A dirty node is written to the stacks, tagged under the counter that rises in its parent or the root, and is clean (R353, R354). -/
def Chip.settleNode (c : Chip) (level i : Nat) : Chip :=
  let k := nodeKey level i
  if !c.vault.dirty.contains k then c
  else
    let c := { c with vault := { c.vault with dirty := c.vault.dirty.filter (· != k) } }
    (if level = 3 then { c with vault := { c.vault with roots := Sparse.set 0 c.vault.roots i (Sparse.get 0 c.vault.roots i + 1) } }
     else (c.bumpChild (level + 1) (i / 64) (i % 64)).markDirty (level + 1) (i / 64)).tagNode level i

/-- The dirty nodes of a level are written. -/
def Chip.settleLevel (c : Chip) (level : Nat) : Chip :=
  (c.vault.dirty.filter (fun k => k / 2 ^ 28 == level)).foldl (fun c k => c.settleNode level (k % 2 ^ 28)) c

/-! ## What the part's own areas hold (R348, R349) -/

/-- The record of an epoch key: `v` is the key, the salt and the flag of a pending secret. -/
def epochRecord (suite e : Nat) (v : Bytes) : Bytes :=
  toLe e 8 ++ (keyOf suite v ++ fill 32 0).take 32 ++ (slice v 32 12 ++ fill 12 0).take 12 ++ toLe (1 + 2 * byteAt v 44) 1 ++ fill 11 0

/-- The region address of the record of epoch `e`: the ring of the port and direction, and the place in it. -/
def epochAddr (port : Nat) (tx : Bool) (e : Nat) : Nat := (2 * port + b2n tx) * 0x8000 + 64 * (e % 512)

/-- A line of the epoch-key area. -/
def Chip.epochLine (c : Chip) (line : Nat) : Bytes :=
  match c.data.chans.find? (fun h => 2 * h.port + b2n h.tx == line / 512 && h.mode == 0) with
  | none => fill 64 0
  | some h =>
    match c.data.epochs.find? (fun x => x.1 / 2 ^ 64 == h.sc && x.1 % 512 == line % 512) with
    | none => fill 64 0
    | some (k, v) => epochRecord h.suite (k % 2 ^ 64) v

def Chip.pmOffset (c : Chip) : Int := c.cfgInt T.pmConfig 0 4

/-- The place of a bin in a ring of the history area. -/
def binPlace (len slots : Nat) (off : Int) (start : Nat) : Int := (((start : Int) - off) / len) % slots

/-- Entry `j` of an entity's block of the history area: 672 fifteen-minute bins, then 7 day bins. -/
def Chip.historyEntry (c : Chip) (e j : Nat) : Bytes :=
  let at_ (len slots k : Nat) (l : List Bin) : Bytes :=
    ((l.find? (fun b => binPlace len slots c.pmOffset b.start == (k : Int))).map (fun b => b.entry (e < 144) false)).getD (fill 48 0)
  if j < 672 then at_ 900 672 j (c.perf e).vault15 else if j < 679 then at_ 86400 7 (j - 672) (c.perf e).vaultDay else fill 48 0

/-- The 64 bytes at a place of an entity's block. -/
def Chip.historyLine (c : Chip) (e o : Nat) : Bytes :=
  slice (c.historyEntry e (o / 48) ++ c.historyEntry e (o / 48 + 1) ++ c.historyEntry e (o / 48 + 2)) (o % 48) 64

/-- Record `n` of the recorder area: records are written in order, and the oldest is overwritten. -/
def Chip.recorderPlace (c : Chip) (n : Nat) : Bytes :=
  let area := c.cowArea
  let first := (c.cow.stored - c.cow.vault.length) % area
  (c.cow.vault.getD ((n + area - first) % area) (fill 32 0) ++ fill 32 0).take 32

/-- The copy of the running firmware in the firmware data area: its FW_CODE and FW_DATA values one after the other (R45, R349).
(log entry 10, DESIGN CHOICE) -/
def Chip.firmwareLine (c : Chip) (o : Nat) : Bytes :=
  (slice ((c.recs T.fwCode).flatten ++ (c.recs T.fwData).flatten) o 64 ++ fill 64 0).take 64

/-- What the areas hold in a line: epoch keys, the firmware copy, history, records, and zeros elsewhere. -/
def Chip.areaLine (c : Chip) (line : Nat) : Bytes :=
  if line < 192 * 512 then c.epochLine line
  else if line < 0x800000 / 64 then fill 64 0
  else if line < 0x4800000 / 64 then c.firmwareLine (64 * line - 0x800000)
  else if line < 0x20800000 / 64 then fill 64 0
  else if line < 0xA4800000 / 64 then
    let a := 64 * line - 0x20800000
    c.historyLine (a / 0x8000) (a % 0x8000)
  else
    let n := (64 * line - 0xA4800000) / 32
    c.recorderPlace n ++ c.recorderPlace (n + 1)

/-- Plaintext of a data line. -/
def Chip.vaultLine (c : Chip) (line : Nat) : Bytes :=
  match Sparse.get none c.vault.lines line with
  | none => c.areaLine line
  | some v => toLe (c.openLine (c.node 0 (line / 64)) line v).toNat 64

/-- A data line as the stacks hold it: ciphertext and tag (R347). -/
def Chip.stackLine (c : Chip) (line : Nat) : VLine :=
  (Sparse.get none c.vault.lines line).getD (c.closeLine (c.node 0 (line / 64)) line (BitVec.ofNat 512 (leNat (c.areaLine line))))

/-- The stack address of the tag of a data line (R347). -/
def tagAddr (line : Nat) : Nat := 0x200000000 + 8 * line

/-- The stack address of a node (R347). -/
def nodeAddr (level i : Nat) : Nat :=
  64 * i + (if level = 0 then 0x240000000 else if level = 1 then 0x248000000 else if level = 2 then 0x248200000 else 0x248208000)

/-- A node as the stacks hold it while it is clean (R352): one never written is tagged under counter 0 like one that was. -/
def Chip.stackNode (c : Chip) (level i : Nat) : Bytes :=
  let tag := if c.vault.nodes.any (fun e => e.1 == nodeKey level i) then (c.node level i).tag else c.nodeTag level i
  (c.node level i).bytes ++ toBe tag.toNat 8

/-- The 64 bytes at a stack address (R347): a data line, eight tags, or a node; what is not used reads as zeros here. (log entry 10, DESIGN
CHOICE) -/
def Chip.stackAt (c : Chip) (a : Nat) : Bytes :=
  let gib := c.rd F.VLT_STATUS_region_gib
  let at_ (level n : Nat) : Option Bytes :=
    let o := nodeAddr level 0
    if o ≤ a && a < o + 64 * n then some (c.stackNode level ((a - o) / 64)) else none
  if a < gib * 2 ^ 30 then toLe (c.stackLine (a / 64)).ct.toNat 64
  else if tagAddr 0 ≤ a && a < tagAddr (gib * 2 ^ 24) then
    ((List.range 8).map (fun k => toBe (c.stackLine ((a - tagAddr 0) / 8 + k)).tag.toNat 8)).flatten
  else ((at_ 0 (gib * 2 ^ 18)).orElse fun _ => (at_ 1 (gib * 2 ^ 12)).orElse fun _ => (at_ 2 (gib * 64)).orElse fun _ => at_ 3 gib).getD (fill 64 0)

/-- The part writes a record of one of its areas: the line's counter rises, and what a requester left there is gone (R349, R353). The node
cache is left alone. (log entry 10, DESIGN CHOICE) -/
def Chip.areaWrote (c : Chip) (line : Nat) : Chip :=
  if !c.vaultOpen then c
  else
    let c := { c with vault := { c.vault with lines := Sparse.erase c.vault.lines line } }
    (c.bumpChild 0 (line / 64) (line % 64)).markDirty 0 (line / 64)

/-- The record of an epoch key of a channel is written. -/
def Chip.epochWrote (c : Chip) (sc e : Nat) : Chip :=
  match c.data.chans.find? (fun h => h.sc == sc) with
  | none => c
  | some h => c.areaWrote (epochAddr h.port h.tx e / 64)

/-- Only the epoch keys that pass a test stay in the vault; the records of the others are zeroised (R262, R349). -/
def Chip.keepEpochs (c : Chip) (keep : Nat → Bool) : Chip :=
  let gone := c.data.epochs.filter (fun x => !keep x.1)
  gone.foldl (fun c x => c.epochWrote (x.1 / 2 ^ 64) (x.1 % 2 ^ 64))
    { c with data := { c.data with epochs := c.data.epochs.filter (fun x => keep x.1) } }

end Sys2Proof.Machine
end

