-- ==== Sys2Proof/Machine/Response.lean ====
section
/-! DEFINITION. The responses of the part as a whole: halt (R430, R431), the beginning of a start (R37, R38), and what every start
resets (R43, R515). -/

namespace Sys2Proof.Machine

/-! ## Halt -/

/-- Every dirty cached node is written, leaves first, and the stacks go to self-refresh with the keys kept (R431, R366). A major that
reaches its limit here is noticed when it next rises. (log entry 57, DEDUCED) -/
def Chip.vaultSleep (c : Chip) : Chip :=
  if c.vaultOpen then
    let c := (List.range 4).foldl Chip.settleLevel c
    ({ c with vault := { c.vault with dirty := [] } }).wr F.VLT_STATUS_state 3
  else c

/-- Every configured port sends its halt signal: AIS containers on Denast, local fault elsewhere (R431). -/
def Chip.haltSignals (c : Chip) : Chip :=
  (List.range 144).foldl (fun c p =>
    if !c.portOn p then c
    else (c.wr (F.PRT_STATUS_ais_tx p) 1).emit (.signal p (if c.isDenast p then .ais else .localFault))) c

/-- The record of a halt, whether it is entered or found in force (R429, R436); its detail is MGT_HALT. -/
def Chip.haltRecord (c : Chip) (erased : Bool) : Chip := c.record Sub.mgmt.n 0x15 (if erased then 3 else 2) 0 (c.word R.MGT_HALT).toNat

/-- Enters halt (R430, R431): cause of MGT_HALT, tamper source, whether an ERASE accompanies it. A part that is halted keeps the
cause and source of the halt: an ERASE is noted and sealed (R403, R437), and a cause other than tamper, which has its own record, is
recorded (R429). A start in progress is abandoned. (log entry 53, DEDUCED) -/
def Chip.enterHalt (c : Chip) (cause source : Nat) (erased : Bool) : Chip :=
  if c.halted then
    if erased then ({ c.seal with cow := { c.seal.cow with flushDue := true } }).wr F.MGT_HALT_erased 1
    else if cause = 1 then c
    else c.haltRecord false
  else
    let c := ((c.wr F.MGT_HALT_halted 1).wr F.MGT_HALT_cause cause).wr F.MGT_HALT_tamper_source source
    let c := (c.wrb F.MGT_HALT_erased erased).sat F.MGT_HALT_halts 1
    let c := { c with start := { c.start with busy := false, todo := [], retry := false, deferred := [] } }
    let c := c.abortReleases.wipePke.vaultSleep.haltSignals
    let c := (c.haltRecord erased).seal
    { c with cow := { c.cow with flushDue := true } }

/-! ## Beginning a start -/

/-- Kinds of start (MGT_START_STATUS). -/
def coldKind : Nat := 1
def warmKind : Nat := 2
def mgmtKind : Nat := 3

/-- A warm start that has not come to the end of step 23 yet. -/
def Chip.warmHeld (c : Chip) : Bool :=
  c.start.busy && c.rd F.MGT_START_STATUS_start_kind == warmKind && c.start.todo.contains 23

/-- Causes of a start (MGT_START_CAUSE). -/
def causePowerOn : Nat := 0
def causeReset : Nat := 1
def causeHost : Nat := 2
def causeEscalated : Nat := 3
def causeRetry : Nat := 4
def causeColdOnly : Nat := 5
def causeWatchdog : Nat := 6
def causeScrub : Nat := 7

/-- The recorder key of the production root (R288). (log entry 24, DEDUCED) -/
def recorderKey (root : Bytes) : Bytes := Config.kmac256 root [] 256 (ascii "EPKAI-REC")

/-- Words that a cold start leaves as they are: the TMP block, which the always-on domain powers (R393), the erase count, the
charge drawn from the cell (HLT_CELL_USED), and the straps. (log entry 22, DEDUCED) -/
def keptCold (a : Nat) : Bool :=
  (0x9000 ≤ a && a < 0xA000) || a == R.KEY_ERASE_COUNT || a == R.HLT_CELL_USED || a == R.MGT_STRAPS

/-- The default class is in force for every tamper source, until step 17 (R394). -/
def Chip.defaultClasses (c : Chip) : Chip := (List.range 18).foldl (fun c n => c.wr (F.TMP_SRC_class n) (tamperFloor.getD n 0)) c

/-- What a cold start leaves: the always-on domain, the flash devices and the fuses. ERASED_N is released unless the tamper latch is set
(R407). (log entry 22, DEDUCED) -/
def Chip.coldKept (c : Chip) : Chip := {
  power := c.power
  regs := c.regs.filter (fun e => keptCold e.1)
  free := c.free
  out := c.out
  ao := { c.ao with erasedN := c.ao.erasedN && c.flag F.TMP_STATUS_tamper_latch }
  flash0 := c.flash0
  flash1 := c.flash1
  keys := { owners := c.keys.owners, inForce := c.keys.owners.length, revoked := c.keys.revoked, fwFuses := c.keys.fwFuses,
            cfgFuses := c.keys.cfgFuses, recKey := recorderKey Config.fuseRoot } }

/-- The part as a cold start begins it: everything outside the always-on domain, the flash devices and the fuses takes its reset
value (R37, R515); the frames in the buffer are discarded and counted. (log entry 22, DEDUCED) -/
def Chip.coldReset (c : Chip) : Chip :=
  let c' := (c.coldKept.defaultClasses.sat32 R.SWC_START_DISC c.buffered).setWord R.MGT_REFCLK (c.word R.MGT_REFCLK &&& 0x6)
  if !c'.flag F.MGT_REFCLK_in0_good && c'.flag F.MGT_REFCLK_in1_good then c'.wr F.MGT_REFCLK_selected 1 else c'

/-- The part without main power: the always-on domain with its registers, the flash devices and the fuses, and nothing else (R393, R433,
R434). -/
def Chip.unpowered (c : Chip) : Chip := {
  regs := c.regs.filter (fun e => keptCold e.1)
  free := c.free
  out := c.out
  ao := c.ao
  flash0 := c.flash0
  flash1 := c.flash1
  keys := { owners := c.keys.owners, revoked := c.keys.revoked, fwFuses := c.keys.fwFuses, cfgFuses := c.keys.cfgFuses } }

/-- Steps of each kind of start (R39); a warm start adds 9, 10, 11 and 16 when R40 asks for them. -/
def stepsOf (kind : Nat) : List Nat :=
  if kind = 1 then [2, 3, 4, 5, 6, 8, 9, 10, 11, 12, 13, 14, 15, 16, 17, 18, 19, 20, 21, 22, 24]
  else if kind = 2 then [1, 2, 3, 7, 8, 12, 13, 17, 22, 23, 24]
  else [2, 3, 12, 18, 19, 24]

/-- The fuse values that registers show (R68, R318), and the lockout of the debug port, which lasts through any start (R473). -/
def Chip.showFuses (c : Chip) : Chip :=
  let k := c.keys
  let c := (c.wr F.MGT_ROLLBACK_FW_value (k.fwFuses.getLast?.getD 0)).wr F.MGT_ROLLBACK_CFG_value (k.cfgFuses.getLast?.getD 0)
  let c := (c.wr F.MGT_ROLLBACK_LEFT_fw (64 - k.fwFuses.length)).wr F.MGT_ROLLBACK_LEFT_cfg (64 - k.cfgFuses.length)
  (c.wr F.KEY_STATUS_owner_entries k.owners.length).wrb F.HST_DEBUG_lockout c.ao.lockout

/-- The detail of a start's record: the words of MGT_START_STATUS and MGT_START_CAUSE (R436). -/
def Chip.startDetail (c : Chip) : Nat := (c.word R.MGT_START_STATUS).toNat + 2 ^ 32 * (c.word R.MGT_START_CAUSE).toNat

/-- What a warm or a cold start resets at its beginning besides the registers: the response in force (R403), the halt (R432), the
counts that describe the current start (R515); a new run of the recorder begins (R438). -/
def Chip.freshStart (c : Chip) : Chip :=
  let st := if c.halted then { c.start with released := false } else c.start
  let pm := { c.pm with suspect15 := true, suspectDay := true }
  let c := { c with start := st, pm := if c.pm.on then pm else c.pm, shadows := [] }
  let c := ((c.wr F.TMP_STATUS_response 0).wr F.MGT_HALT_halted 0).wr F.MGT_START_STATUS_safe_state 0
  let c := (c.setWord R.MGT_IMAGE_SKIPPED 0).setWord R.MGT_JOURNAL_STALE 0
  c.newRun

/-- Begins a start of a kind for a cause. -/
def Chip.startNow (c : Chip) (kind cause : Nat) : Chip :=
  let c := if kind = coldKind then c.coldReset.showFuses else c.dropLongs.dropFwJobs
  let st := { c.start with busy := true, todo := stepsOf kind, retry := false, blank := false, ordered := 0, cand := [], image := none }
  let c := { c with start := st }
  let c := if kind = mgmtKind then { c with time := { c.time with stopped := true } } else c.freshStart
  let c := (c.wr F.MGT_START_STATUS_start_kind kind).wr F.MGT_START_STATUS_step 0
  let c := c.wr F.MGT_START_STATUS_configured 0
  let c := c.setWord R.MGT_START_CAUSE (BitVec.ofNat 32 (2 ^ cause))
  c.record Sub.mgmt.n 0x16 0 0 c.startDetail

/-- A cause that is ignored is recorded (R38, R429). -/
def Chip.ignoreCause (c : Chip) (cause : Nat) : Chip :=
  let c := c.wr F.MGT_START_CAUSE_ignored_causes (c.rd F.MGT_START_CAUSE_ignored_causes ||| 2 ^ cause)
  c.record Sub.mgmt.n 0x16 0 0 c.startDetail

/-- The kind that a cause begins: a warm start out of a halt whose cause is VAULT, SA_STORE or KEY_STORE, or after an ERASE, is a cold
start (R432). -/
def Chip.exitKind (c : Chip) (kind : Nat) : Nat :=
  if kind = warmKind && c.halted && (2 ≤ c.rd F.MGT_HALT_cause || c.flag F.MGT_HALT_erased) then coldKind else kind

/-- A cause asks for a start (R38): the more thorough kind applies; one equal to or lighter than the start in progress is ignored
and recorded. (log entry 48, DEDUCED) -/
def Chip.beginStart (c : Chip) (kind cause : Nat) : Chip :=
  let kind := c.exitKind kind
  if c.start.busy && c.rd F.MGT_START_STATUS_start_kind ≤ kind then c.ignoreCause cause
  else c.startNow kind cause

/-- A cause of lower rank than the state in force has no effect beyond its record (R429): in halt, only start commands and the
reset input start the part; in the safe state, likewise. -/
def Chip.autoStart (c : Chip) (kind cause : Nat) : Chip :=
  if (c.halted && kind != mgmtKind) || c.safe then c.ignoreCause cause else c.beginStart kind cause

/-- A word as a warm start leaves it: plain RW fields take their reset values, and everything else is kept (R9, R43, R515). The host's
own setting of its interface (block HST), the performance counters, which only a cold start resets (R479), and the always-on domain are
kept. (log entry 22, DEDUCED) -/
def warmWord (a : Nat) (w : W32) : W32 :=
  if a < 0x4000 || keptCold a || (0x50000 ≤ a && a < 0x59000) then w
  else match descOf a with
  | none => w
  | some (d, _) =>
    let m := d.rw &&& ~~~d.keep
    (w &&& ~~~m) ||| (d.reset &&& m)

/-- The register map as a warm start leaves it. (log entry 22, DEDUCED) -/
def Chip.warmRegs (c : Chip) : Chip := c.regs.foldl (fun c e => c.setWord e.1 (warmWord e.1 e.2)) c

end Sys2Proof.Machine
end

