-- ==== Sys2Proof/Machine/Tamper.lean ====
section
/-! DEFINITION. The tamper and environment monitors: firing a source, the hardware erase, the tamper log, the backup cell (R393 to
R412). -/

namespace Sys2Proof.Machine

/-! ## The log (R410) -/

/-- The position after another, passing over the pinned entry. -/
def Chip.logNext (c : Chip) : Nat :=
  let n := c.rd F.TMP_STATUS_log_newest
  let p := if c.rd F.TMP_STATUS_log_count = 0 then 0 else (n + 1) % 64
  if c.ao.pinned == some p then (p + 1) % 64 else p

/-- The 16 bytes of an entry. -/
def Chip.logEntry (c : Chip) (d : Detection) (cls : Nat) (onCell pin : Bool) : Bytes :=
  let ns := c.ao.rtc / nsUnit
  let flags := cls + 4 * b2n onCell + 8 * b2n d.tripA + 16 * b2n d.tripB + 32 * b2n pin
  toLe (ns / 1000000000) 5 ++ toLe (ns / 1000000 % 1000) 2 ++ toLe d.source 1 ++ toLe flags 1 ++
    toLe (if d.source = 10 then d.unit else 0) 1 ++ toLe d.readingA 2 ++ toLe d.readingB 2 ++ toLe c.ao.logSeq 2

/-- Writes an entry: the first ERASE entry since the latch was last cleared is pinned. (log entry 63, DEDUCED) -/
def Chip.logWrite (c : Chip) (d : Detection) (cls : Nat) (onCell : Bool) : Bytes × Chip :=
  let pin := cls == 3 && c.ao.pinned.isNone
  let e := c.logEntry d cls onCell pin
  let p := c.logNext
  let c := { c with ao := { c.ao with log := Sparse.set [] c.ao.log p e, logSeq := (c.ao.logSeq + 1) % 65536,
                                      pinned := if pin then some p else c.ao.pinned } }
  let c := c.wr F.TMP_STATUS_log_count c.ao.log.length
  (e, c.wr F.TMP_STATUS_log_newest p)

/-! ## Erase (R405, R406) -/

/-- Every lookaside request in flight goes with its staging memory, and CONS returns to CPROD (R308, R312, R405). -/
def Chip.dropRequests (c : Chip) : Chip :=
  (List.range 8).foldl (fun c r =>
    (c.wr (F.KEY_LA_CONS_cons r) (c.rd (F.KEY_LA_CPROD_cprod r))).wr (F.KEY_LA_STATUS_in_flight r) 0)
    { c with keys := { c.keys with rings := [] } }

/-- What the always-on domain erases by itself: the share; it sets the latch, counts, and drives ERASED_N (R405, R409).
(log entry 63, DEDUCED) -/
def Chip.domainErase (c : Chip) : Chip :=
  let c := { c with ao := { c.ao with share := fill 32 0, erasedN := true } }
  (c.wr F.TMP_STATUS_tamper_latch 1).sat32 R.KEY_ERASE_COUNT 1

/-- The items of R405 beyond the share: E, the slots K0 to K3 and K8 to K1023, every SA and link secret, the vault's keys, salt, roots and
cache (the stacks keep their ciphertext, R368), the operand memory of the public-key engine, staging memory and slice keys. K4 to K6 stay
(R406). -/
def Chip.eraseKeys (c : Chip) : Chip :=
  let slots := c.keys.slots.filter (fun e => 4 ≤ e.1 && e.1 ≤ 6)
  let c := { c with keys := { c.keys with e := none, slots := slots } }
  let c := c.dropRequests.retireAll.wipePke
  let c := { c with vault := { c.vault with salt := [], keys := [], roots := [], cache := [], dirty := [], nodes := [] } }
  let c := ((c.wr F.VLT_STATUS_state 0).wr F.VLT_KEYID_live 0).wr F.VLT_STATUS_flush_active 0
  (c.wr F.KEY_STATUS_root 0).wr F.KEY_STATUS_share_present 0

/-! ## A source fires (R401 to R404) -/

/-- An EXT input configured as unused is not sampled (R399). -/
def Chip.sourceUsed (c : Chip) (n : Nat) : Bool := c.flag (F.TMP_SRC_used n)

/-- Registers of a source follow a detection. (log entry 63, DEDUCED) -/
def Chip.noteDetection (c : Chip) (d : Detection) : Chip :=
  let n := d.source
  let c := c.wr F.TMP_ACTIVE_active (c.rd F.TMP_ACTIVE_active ||| 2 ^ n)
  let c := c.sat (F.TMP_SRC_fires n) 1
  let c := if n < 15 then (c.wr (F.TMP_READING_reading_a n) d.readingA).wr (F.TMP_READING_reading_b n) d.readingB else c
  let c := if n = 10 && d.unit < 4 then
      (((c.wrb (F.TMP_MESH_seq_fail d.unit) d.tripA).wrb (F.TMP_MESH_res_fail d.unit) d.tripB).wr
        (F.TMP_MESH_errors d.unit) d.readingA).wr (F.TMP_MESH_ohms d.unit) d.readingB
    else c
  if n = 4 then c.wr F.TMP_STATUS_cell_low 1 else c

/-- The response of a class takes effect when it exceeds the one in force (R401, R403). (log entry 63, DEDUCED) -/
def Chip.respond (c : Chip) (cls n : Nat) : Chip :=
  let old := c.rd F.TMP_STATUS_response
  let c := c.wr F.TMP_STATUS_response (max old cls)
  if cls ≤ old then c
  else if cls = 3 then (c.domainErase.eraseKeys).enterHalt 1 n true
  else if cls = 2 then c.enterHalt 1 n false
  else c

/-- A source fires on main power: once until it re-arms, with its latched bit, log entry, Cowslip record, tamper-history attention
and the response of its class, which only escalates (R401, R403, R404). A source that has fired and not re-armed makes no new entry; one
that is still active after a start causes its response again (R432). (log entry 63, DEDUCED) -/
def Chip.fireSource (c : Chip) (d : Detection) : Chip :=
  let n := d.source
  if !c.sourceUsed n then c
  else
    let c := c.noteDetection d
    let cls := c.rd (F.TMP_SRC_class n)
    if c.ao.armed.contains n then c.respond cls n
    else
      let c := { c with ao := { c.ao with armed := c.ao.armed ++ [n] } }
      let c := c.wr F.TMP_LATCHED_latched (c.rd F.TMP_LATCHED_latched ||| 2 ^ n)
      let (e, c) := c.logWrite d cls false
      ((c.record Sub.tamper.n 2 cls n (le e 0 8)).attn 9).respond cls n

/-- TAMPER_SOURCE_FIRE. -/
def execTamperSourceFire (d : Detection) (s : State) : Host.Outcome State Fault Refusal :=
  s.actOn (d.source < 18) (fun c => c.fireSource d)

/-- The detection of a source that has no readings of its own. -/
def plainDetection (n unit : Nat) : Detection := { source := n, unit := unit }

/-- SOURCE_REARM: the condition has been absent for 1 s, or through 10 windows on the cell (R404). (log entry 60, DEDUCED) -/
def execSourceRearm (source : Nat) (s : State) : Host.Outcome State Fault Refusal :=
  if source < 18 then
    s.always fun c =>
      let v := c.rd F.TMP_ACTIVE_active
      let c := if bit v source then c.wr F.TMP_ACTIVE_active (v - 2 ^ source) else c
      let c := if source = 4 then c.wr F.TMP_STATUS_cell_low 0 else c
      let c := if source = 10 then
          (List.range 4).foldl (fun c m => (c.wr (F.TMP_MESH_seq_fail m) 0).wr (F.TMP_MESH_res_fail m) 0) c
        else c
      { c with ao := { c.ao with armed := c.ao.armed.filter (· != source) } }
  else .fault .noUnit

/-- ALARM_N is driven low: a source is latched (R404, R407). -/
def Chip.alarmN (c : Chip) : Bool := c.rd F.TMP_LATCHED_latched != 0

/-- HALT_N is driven low: in halt, until the next start (R401, R407), and while STRAP_TEST is high (R504). -/
def Chip.haltN (c : Chip) : Bool := c.halted || c.flag F.MGT_STRAPS_test

/-- TMP_LATCHED_CLEAR: writing 1 clears a bit only while its source is not active (R404). -/
def Chip.clearLatched (c : Chip) (value : W32) : Chip :=
  let act := c.word R.TMP_ACTIVE
  c.setWord R.TMP_LATCHED (c.word R.TMP_LATCHED &&& ~~~(value &&& 0x3FFFF &&& ~~~act))

/-- TMP_LATCHED_CLEAR (R404): Writing 1 to a TMP_LATCHED bit clears it only while its source is inactive, and ALARM_N is released at
zero. -/
def execTmpLatchedClear (init : Nat) (value : W32) (s : State) : Host.Outcome State Fault Refusal :=
  s.act fun c => c.hostWrite init R.TMP_LATCHED (fun c => c.clearLatched value)

/-- TAMPER_LOG_COPY: a write of TMP_LOG_SEL; with go the entry is copied into TMP_LOG_DATA (R410). -/
def Chip.logCopy (c : Chip) (value : W32) : Chip :=
  let i := bits value.toNat 0 6
  let c := c.wr F.TMP_LOG_SEL_index i
  if !bit value.toNat 6 then c
  else
    let e := Sparse.get [] c.ao.log i
    (List.range 4).foldl (fun c w => c.setWord (R.TMP_LOG_DATA w) (BitVec.ofNat 32 (le e (4 * w) 4))) c

/-- TAMPER_LOG_COPY (R410): The go bit of TMP_LOG_SEL copies one tamper log entry into TMP_LOG_DATA. -/
def execTamperLogCopy (init : Nat) (value : W32) (s : State) : Host.Outcome State Fault Refusal :=
  s.act fun c => c.hostWrite init R.TMP_LOG_SEL (fun c => c.logCopy value)

/-- TAMPER_LOG_READ: log positions 0 to 63, zero where empty (R410, R460). -/
def execTamperLogRead (h : Mb) (s : State) : Host.Outcome State Fault Refusal :=
  s.act fun c => c.mbRun h { opcode := 0x0004, pf1 := true, halt := true, outLen := 1024 } fun c =>
    (c, { out := ((List.range 64).map (fun p => (Sparse.get [] c.ao.log p ++ fill 16 0).take 16)).flatten })

/-- TAMPER_LOG_CLEAR: empties the log; BUSY while the tamper latch is set (R410). -/
def execTamperLogClear (h : Mb) (s : State) : Host.Outcome State Fault Refusal :=
  s.act fun c => c.mbRun h { opcode := 0x0005 } fun c =>
    if c.flag F.TMP_STATUS_tamper_latch then refuse c Code.busy
    else
      let c := { c with ao := { c.ao with log := [], pinned := none } }
      ((c.wr F.TMP_STATUS_log_count 0).wr F.TMP_STATUS_log_newest 0, {})

/-! ## The cell (R393, R408, R409) -/

/-- A detection on the cell: logged; the domain erases for a HALT or ERASE class, by the classes that the last step 17 applied (R409).
(log entry 63, DEDUCED) -/
def Chip.fireOnCell (c : Chip) (d : Detection) : Chip :=
  let n := d.source
  if !tamperOnCell n || 18 ≤ n || !c.sourceUsed n then c
  else
    let c := c.noteDetection d
    if c.ao.armed.contains n then c
    else
      let cls := c.ao.classes.getD n (tamperFloor.getD n 0)
      let c := { c with ao := { c.ao with armed := c.ao.armed ++ [n] } }
      let c := c.wr F.TMP_LATCHED_latched (c.rd F.TMP_LATCHED_latched ||| 2 ^ n)
      let (e, c) := c.logWrite d cls true
      let c := { c with ao := { c.ao with cellLog := c.ao.cellLog ++ [e] } }
      let c := c.wr F.TMP_STATUS_cell_events 1
      if 2 ≤ cls then c.domainErase else c

/-- DETECTOR_DISAGREEMENT: the readings of a pair have disagreed for 1 s, or through 10 windows on the cell (R396): the source's bit is
set and DETECTOR_FAULT fires; the bit clears when they have agreed as long. A source that the cell does not sample has no readings there.
-/
def execDetectorDisagreement (source : Nat) (on : Bool) (s : State) : Host.Outcome State Fault Refusal :=
  if source < 15 then
    s.always fun c =>
      let v := c.rd F.TMP_DISAGREE_disagree
      if !c.power && !(c.ao.cell && tamperOnCell source) then c
      else if on then
        let c := c.wr F.TMP_DISAGREE_disagree (v ||| 2 ^ source)
        if c.power then c.fireSource (plainDetection 17 0) else c.fireOnCell (plainDetection 17 0)
      else if bit v source then c.wr F.TMP_DISAGREE_disagree (v - 2 ^ source)
      else c
  else .fault .noUnit

/-- Span between windows on the cell, 100 ms (R408), in units of the real-time counter. -/
def cellWindow : Nat := 100000000 * nsUnit

/-- Charge drawn between windows at 1.20 µA (R408): 120 units of 10^-3 µA · s, the unit of `charge`. -/
def cellDraw : Nat := 120

/-- CELL_SAMPLE_WINDOW: every 100 ms on the cell the sources of the cell are sampled (R408, R409); the real-time counter, the
mesh generators and the charge drawn advance (R372, R398, R489). -/
def execCellSampleWindow (ds : List Detection) (s : State) : Host.Outcome State Fault Refusal :=
  s.always fun c =>
    if c.power || !c.ao.cell then c
    else
      let ao := { c.ao with rtc := c.ao.rtc + cellWindow, timer := c.ao.timer + cellWindow, charge := c.ao.charge + cellDraw,
                              mesh := c.ao.mesh.map (meshSteps 256) }
      let c := { c with ao := ao }
      let c := c.setWord R.HLT_CELL_USED (BitVec.ofNat 32 (c.ao.charge / 3600000))
      ds.foldl Chip.fireOnCell c

/-- The share is lost when neither main power nor the cell holds it (R393). (log entry 23, DEDUCED) -/
def Chip.loseShare (c : Chip) : Chip := { c with ao := { c.ao with share := fill 32 0 } }

/-- MAIN_POWER_LOSS: everything outside the always-on domain, flash and fuses is lost (R393, R433, R434). -/
def execMainPowerLoss (s : State) : Host.Outcome State Fault Refusal :=
  s.always fun c => if !c.power then c else if c.ao.cell then c.unpowered else c.unpowered.loseShare

/-- BACKUP_CELL_CONNECT: at the first connection the domain takes its first-connection values (R393); a new cell's charge count
starts at zero (R489). (log entry 23, DEDUCED) -/
def execBackupCellConnect (s : State) : Host.Outcome State Fault Refusal :=
  s.always fun c =>
    if c.ao.cell then c
    else if c.ao.cellEver then
      { c with ao := { c.ao with cell := true, charge := 0 }, regs := c.regs.filter (fun e => e.1 != R.HLT_CELL_USED) }
    else
      { c with ao := { cell := true, cellEver := true }, regs := c.regs.filter (fun e => e.1 == R.MGT_STRAPS || !keptCold e.1) }

/-- BACKUP_CELL_REMOVAL: with main power off, the share is lost (R393). (log entry 23, DEDUCED) -/
def execBackupCellRemoval (s : State) : Host.Outcome State Fault Refusal :=
  s.always fun c =>
    let c := { c with ao := { c.ao with cell := false } }
    if c.power then c else c.loseShare

end Sys2Proof.Machine
end

