-- ==== Sys2Proof/Machine/VaultMem.lean ====
section
/-! DEFINITION. The vault: reads, writes, repair, the counter tree, the patrol scrub, stacks, key changes (R346 to R370). How each
stack's copy of a line reads is an operand of the command (log entry 10, DESIGN CHOICE). -/

namespace Sys2Proof.Machine

/-! ## VAULT_CONFIG (R370) -/

def Chip.regionGib (c : Chip) : Nat := c.cfgNat T.vaultConfig 1 1 8
def Chip.mismatchLimit (c : Chip) : Nat := c.cfgNat T.vaultConfig 2 1 4
def Chip.mismatchWindowH (c : Chip) : Nat := c.cfgNat T.vaultConfig 3 1 24
def Chip.repairLimit (c : Chip) : Nat := c.cfgNat T.vaultConfig 4 2 256

/-- Data lines of the region in force. -/
def Chip.vaultLines (c : Chip) : Nat := c.rd F.VLT_STATUS_region_gib * 2 ^ 24

/-- Leaves of the region in force. -/
def Chip.vaultLeaves (c : Chip) : Nat := c.rd F.VLT_STATUS_region_gib * 2 ^ 18

/-- The area that a requester may touch: first region address and size (R346, R348). -/
def Chip.vaultArea (c : Chip) : VaultReq → Nat × Nat
  | .keyStore => (0, 0x800000)
  | .mgmt => (0x800000, 0x20000000)
  | .perfMon => (0x20800000, 2112 * 2 ^ 20)
  | .recorder => (0xA4800000, c.rd F.VLT_STATUS_region_gib * 2 ^ 30 - 2632 * 2 ^ 20)

/-- `n` bytes at a region address lie in the requester's area and in one line. -/
def Chip.vaultMay (c : Chip) (r : VaultReq) (a n : Nat) : Bool :=
  let (b, k) := c.vaultArea r
  b ≤ a && a + n ≤ b + k && a % 64 + n ≤ 64

/-! ## Key IDs and stacks (R350, R351) -/

/-- A key ID is taken into use for new writes: its keys are derived from the node of the tree and the boot salt (R350). -/
def Chip.takeId (c : Chip) (n : Nat) : Chip :=
  let keys := (c.keys.e.map (fun e => kmac (epkaiNode e ["vault", "mem", toString n]) c.vault.salt 768 "GLEORN-VAULT-KEY")).getD []
  let c := { c with vault := { c.vault with keys := Sparse.set [] c.vault.keys n keys } }
  let c := (c.wr F.VLT_KEYID_taken (c.rd F.VLT_KEYID_taken ||| 2 ^ n)).wr F.VLT_KEYID_live (c.rd F.VLT_KEYID_live ||| 2 ^ n)
  c.wr F.VLT_STATUS_key_id n

/-- A stack is in service. -/
def Chip.stackOn (c : Chip) (k : Nat) : Bool := c.rd (F.VLT_STACK_STATUS_state k) == 0

/-! ## Halts and stacks (R362, R369) -/

/-- The vault halts the part (R369); causes 4 to 6 name no line. -/
def Chip.vaultHalt (c : Chip) (cause line : Nat) : Chip :=
  let c := c.wr F.VLT_HALT_CAUSE_cause cause
  let c := c.setWord R.VLT_HALT_LINE (BitVec.ofNat 32 (if cause ≤ 3 then line else 0))
  c.enterHalt 2 0 false

/-- A stack is put out of service (R362): 0 training failed, 1 interface errors, 2 repairs beyond repair_limit, 3 read-back. -/
def Chip.stackOut (c : Chip) (k cause : Nat) : Chip :=
  let c := c.wr (F.VLT_STACK_STATUS_state k) 1
  let c := if cause = 0 then c.wr (F.VLT_STACK_STATUS_training_fail k) 1
    else if cause = 1 then c.wr (F.VLT_STACK_STATUS_interface_error k) 1
    else if cause = 2 then c.wr (F.VLT_STACK_STATUS_repair_limit k) 1
    else c.wr (F.VLT_STACK_STATUS_readback_fail k) 1
  let c := (c.wr F.VLT_STATUS_mirrored 0).alert Sub.vault.n 0 k (c.word (R.VLT_STACK_STATUS k)).toNat
  if c.stackOn (1 - k) then c else c.vaultHalt 4 0

/-- STACK_OUT_OF_SERVICE (R362). -/
def execStackOutOfService (stack cause : Nat) (s : State) : Host.Outcome State Fault Refusal :=
  s.actOn (stack < 2) fun c => if c.stackOn stack then c.stackOut stack cause else c

/-! ## Reading with repair (R356, R357, R359, R360) -/

/-- The mismatches of the last mismatch_window_h hours (R360). -/
def Chip.mismatchesNow (c : Chip) : Nat := (c.vault.mismatches.filter (fun t => c.seconds < t + c.mismatchWindowH * 3600)).length

/-- A mismatch is counted over the window; at mismatch_limit the source vault mismatch is raised (R360). -/
def Chip.noteMismatch (c : Chip) : Chip :=
  let span := c.mismatchWindowH * 3600
  let l := (c.vault.mismatches.filter (fun t => c.seconds < t + span)) ++ [c.seconds]
  let c := { c with vault := { c.vault with mismatches := l } }
  let c := (c.wr F.VLT_MISMATCH_count (min l.length 255)).sat F.VLT_MISMATCH_total 1
  if c.mismatchLimit ≤ l.length then (c.wr F.VLT_MISMATCH_limit_reached 1).fireSource (plainDetection 16 0) else c

/-- A repair is written to a stack; more than repair_limit within a second put the stack out of service (R362). -/
def Chip.noteRepair (c : Chip) (k : Nat) : Chip :=
  let old := if k = 0 then c.vault.repairs0 else c.vault.repairs1
  let l := (old.filter (fun t => c.ns < t + 1000000000)) ++ [c.ns]
  let c := if k = 0 then { c with vault := { c.vault with repairs0 := l } } else { c with vault := { c.vault with repairs1 := l } }
  let c := c.sat (F.VLT_STACK_STATUS_repairs k) 1
  if c.repairLimit < l.length && c.stackOn k then c.stackOut k 2 else c

/-- Notes a failed copy (VLT_LAST_FAULT). -/
def Chip.noteFault (c : Chip) (line k : Nat) (how : Copy) (node repaired : Bool) : Chip :=
  let c := c.setWord R.VLT_LAST_FAULT (BitVec.ofNat 32 line)
  c.setWord R.VLT_LAST_FAULT_KIND
    (BitVec.ofNat 32 (k + 2 * b2n (how == .mismatch) + 4 * b2n node + 8 * b2n repaired))

/-- A copy cannot be used. -/
def copyBad : Copy → Bool
  | .memError => true
  | .mismatch => true
  | _ => false

/-- Repairs the copy of a line on stack `k` from the verified one (R356). (log entry 10, DESIGN CHOICE) -/
def Chip.repairCopy (c : Chip) (line k : Nat) (how : Copy) (node readBackOk : Bool) : Chip :=
  let c := c.noteFault line k how node readBackOk
  let c := if node then c.bump R.VLT_NODE_REPAIR
    else if how = .mismatch then c.bump R.VLT_REPAIR_TAG else c.bump R.VLT_REPAIR_ECC
  let c := c.alertAs 10 Sub.vault.n 1 k line
  let c := c.noteRepair k
  if !readBackOk && c.stackOn k then c.stackOut k 3 else c

/-- Reads a line whose primary stack is `p`, with what each stack's copy shows: whether content was verified, and the part after
repairs, or after a halt (R356, R357, R359, R362). (log entry 10, DESIGN CHOICE) -/
def Chip.readLine (c : Chip) (line p : Nat) (node : Bool) (copy0 copy1 : Copy) (readBackOk : Bool) : Bool × Chip :=
  let copyOf (k : Nat) : Copy := if k = 0 then copy0 else copy1
  let p := if c.stackOn p then p else 1 - p
  let q := 1 - p
  match copyOf p with
  | .clean => (true, c)
  | .corrected => (true, c.bump R.VLT_ECC_CORR)
  | how =>
    let c := c.noteFault line p how node false
    let c := if how = .mismatch then c.noteMismatch else c
    if !c.stackOn q then (false, c.vaultHalt 3 line)
    else if copyBad (copyOf q) then
      let c := c.noteFault line q (copyOf q) node false
      let c := if copyOf q = Copy.mismatch then c.noteMismatch else c
      (false, c.vaultHalt (if node then 2 else 1) line)
    else
      let c := if copyOf q = Copy.corrected then c.bump R.VLT_ECC_CORR else c
      (true, c.repairCopy line p how node readBackOk)

/-! ## Counters and the node cache (R353, R354) -/

/-- A major at 2^56 starts a key change by itself; at 2^58 − 1 with none possible the part halts (R363). -/
def Chip.majorLimit (c : Chip) (major : Nat) : Chip :=
  if major < 2 ^ 56 || c.flag F.VLT_STATUS_flush_active then c
  else
    match (List.range 16).find? (fun n => !bit (c.rd F.VLT_KEYID_taken) n) with
    | some n =>
      ((c.takeId n).wr F.VLT_STATUS_flush_active 1).setWord R.VLT_FLUSH 0
    | none => if 2 ^ 58 - 1 ≤ major then c.vaultHalt 6 0 else c.attn 8

/-- A child of a node is written: its minor rises, or overflows into the major (R353). -/
def Chip.raiseChild (c : Chip) (level i k : Nat) : Chip :=
  let x := c.bumpChild level i k
  if (c.node level i).minor k = 63 then x.majorLimit ((c.node level i).major + 1) else x

/-- Writes a dirty node to the stacks: its counter in its parent, or the root, rises first, and the parent may reach the limit of its
major (R353, R354, R363). -/
def Chip.writeNode (c : Chip) (level i : Nat) : Chip :=
  let x := c.settleNode level i
  let m := (x.node (level + 1) (i / 64)).major
  if level = 3 || m == (c.node (level + 1) (i / 64)).major then x else x.majorLimit m

/-- Evicts a leaf or L1 node. The parent of a dirty leaf is fetched first when it is not cached, into the place that the leaf leaves
(R354). -/
def Chip.evict (c : Chip) (level i : Nat) : Chip :=
  let l := c.vault.cache.filter (· != nodeKey level i)
  let up := nodeKey 1 (i / 64)
  let fetch := level == 0 && c.vault.dirty.contains (nodeKey 0 i) && !l.contains up
  let c := { c with vault := { c.vault with cache := if fetch then up :: l else l } }
  (if fetch then c.bump R.VLT_CACHE_MISS else c).writeNode level i

/-- Evicts the least recently used nodes until one of the 32,248 places that pinned nodes leave is free (R354), in at most so many
evictions. -/
def Chip.makeRoom : Nat → Chip → Chip
  | 0, c => c
  | n + 1, c =>
    if c.vault.cache.length < 32768 - 520 then c
    else
      match c.vault.cache.getLast? with
      | none => c
      | some l => makeRoom n (c.evict (l / 2 ^ 28) (l % 2 ^ 28))

/-- Brings a leaf or L1 node to the front of the cache, with room made for one that is fetched; the L2 and L3 nodes are always cached
(R354). -/
def Chip.touchNode (c : Chip) (level i : Nat) : Chip :=
  let k := nodeKey level i
  if c.vault.cache.contains k then { c with vault := { c.vault with cache := k :: c.vault.cache.filter (· != k) } }
  else
    let c := Chip.makeRoom c.vault.cache.length c
    ({ c with vault := { c.vault with cache := k :: c.vault.cache } }).bump R.VLT_CACHE_MISS

/-- Caches the path of a data line: its L1 node, then its leaf (R354). -/
def Chip.cachePath (c : Chip) (leaf : Nat) : Chip :=
  if c.vault.cache.contains (nodeKey 0 leaf) then c.touchNode 0 leaf
  else
    let c := if c.vault.cache.contains (nodeKey 1 (leaf / 64)) then c else c.touchNode 1 (leaf / 64)
    c.touchNode 0 leaf

/-- How a copy of a data line reads: one whose tag does not verify is a mismatch whatever befell it, unless its ECC fails (R356). -/
def Chip.copyShown (c : Chip) (line : Nat) (how : Copy) : Copy :=
  if how = .memError || c.tagGood line then how else .mismatch

/-- VAULT_READ: a line is read from its primary stack and verified, with the other copy used and the first repaired when it does not
verify (R356). A closed vault refuses every request (R368). (log entry 26, DEDUCED) -/
def execVaultRead (addr : Nat) (req : VaultReq) (copy0 copy1 : Copy) (readBackOk : Bool) (s : State) :
    Host.Outcome State Fault Refusal :=
  s.act fun c =>
    let line := addr / 64
    if !c.vaultOpen || !c.vaultMay req (64 * line) 64 then c.emit (.vault req none)
    else
      let c := c.cachePath (line / 64)
      let (ok, c) := c.readLine line (line / 64 % 2) false (c.copyShown line copy0) (c.copyShown line copy1) readBackOk
      if ok then c.emit (.vault req (some (c.vaultLine line))) else c.emit (.vault req none)

/-- Writes a line to every stack in service, encrypted and tagged under a raised counter (R350, R351, R358). (log entry 10, DESIGN
CHOICE) -/
def Chip.writeLine (c : Chip) (line : Nat) (data : Bytes) : Chip :=
  let leaf := line / 64
  let c := ((c.cachePath leaf).raiseChild 0 leaf (line % 64)).markDirty 0 leaf
  let v := c.closeLine (c.node 0 leaf) line (BitVec.ofNat 512 (leNat data))
  { c with vault := { c.vault with lines := Sparse.set none c.vault.lines line (some v) } }

/-- VAULT_WRITE: fewer than 64 bytes are merged into the verified line; when both copies fail the part halts and writes nothing
(R358). -/
def execVaultWrite (addr : Nat) (req : VaultReq) (data : Bytes) (copy0 copy1 : Copy) (s : State) :
    Host.Outcome State Fault Refusal :=
  s.act fun c =>
    let line := addr / 64
    if !c.vaultOpen || data = [] || !c.vaultMay req addr data.length then c.emit (.vault req none)
    else if data.length = 64 then c.writeLine line data
    else
      let c := c.cachePath (line / 64)
      let (ok, c) := c.readLine line (line / 64 % 2) false (c.copyShown line copy0) (c.copyShown line copy1) true
      if !ok then c.emit (.vault req none)
      else
        let old := c.vaultLine line
        let o := addr % 64
        c.writeLine line (old.take o ++ data ++ old.drop (o + data.length))

/-- NODE_EVICTION: a leaf or L1 node leaves the cache; a dirty one raises its counter in its parent and is written (R354). -/
def execNodeEviction (level index : Nat) (s : State) : Host.Outcome State Fault Refusal :=
  s.actOn (level < 2) fun c =>
    if c.vaultOpen && c.vault.cache.contains (nodeKey level index) then c.evict level index else c

/-- What the patrol scrub reads next: a data line, or a node of a level (R361). -/
def Chip.scrubItem (c : Chip) : Option (Nat × Nat) :=
  let l := c.vaultLines
  let n := c.vaultLeaves
  let k := c.vault.scrubAt
  if k < l then none
  else if k < l + n then some (0, k - l)
  else if k < l + n + n / 64 then some (1, k - l - n)
  else if k < l + n + n / 64 + n / 4096 then some (2, k - l - n - n / 64)
  else some (3, k - l - n - n / 64 - n / 4096)

/-- Items of a scrub pass. -/
def Chip.scrubTotal (c : Chip) : Nat :=
  let n := c.vaultLeaves
  c.vaultLines + n + n / 64 + n / 4096 + n / 262144

/-- PATROL_SCRUB: both copies of the next line or node are read and verified, and repaired like any read (R361).
A warm start resumes the scrub at step 23 (R366). -/
def execPatrolScrub (copy0 copy1 : Copy) (readBackOk : Bool) (s : State) : Host.Outcome State Fault Refusal :=
  s.act fun c =>
    if !c.vaultOpen || c.warmHeld then c
    else
      let (line, p, isNode) := match c.scrubItem with
        | none => (c.vault.scrubAt, c.vault.scrubAt / 64 % 2, false)
        | some (lv, i) => (nodeLine lv i, i % 2, true)
      let copy0 := if isNode then copy0 else c.copyShown line copy0
      let copy1 := if isNode then copy1 else c.copyShown line copy1
      let next := c.vault.scrubAt + 1
      let both := c.stackOn 0 && c.stackOn 1
      let (ok, c) := c.readLine line p isNode copy0 copy1 readBackOk
      let c :=
        if !ok || !both then c
        else
          let q := 1 - p
          let cq := if q = 0 then copy0 else copy1
          if copyBad (if p = 0 then copy0 else copy1) then c
          else if cq = Copy.corrected then c.bump R.VLT_ECC_CORR
          else if copyBad cq then
            let c := if cq = Copy.mismatch then c.noteMismatch else c
            c.repairCopy line q cq isNode readBackOk
          else c
      if next < c.scrubTotal then { c with vault := { c.vault with scrubAt := next } }
      else ({ c with vault := { c.vault with scrubAt := 0 } }).bump R.VLT_SCRUB_PASS

/-- NODE_CACHE_ECC: an uncorrectable error in the node cache: a clean node is fetched and verified again; a dirty node or a root
counter (level 4) halts the part (R366). -/
def execNodeCacheEcc (level index : Nat) (s : State) : Host.Outcome State Fault Refusal :=
  s.actOn (level ≤ 4) fun c =>
    if level = 4 || c.vault.dirty.contains (nodeKey level index) then c.vaultHalt 5 0
    else c.bump R.VLT_CACHE_MISS

/-! ## Changing the key (R363, R364) -/

/-- Takes the lowest key ID not taken since the cold start and starts the flush. (log entry 26, DEDUCED) -/
def Chip.startRekey (c : Chip) : Option Chip :=
  match (List.range 16).find? (fun n => !bit (c.rd F.VLT_KEYID_taken) n) with
  | none => none
  | some n =>
    some (((c.takeId n).wr F.VLT_STATUS_flush_active 1).setWord R.VLT_FLUSH 0)

/-- VAULT_REKEY: BUSY during a change or while the vault is closed, RANGE when no ID remains (R363). It completes when the flush
does. (log entry 26, DEDUCED) -/
def execVaultRekey (h : Mb) (s : State) : Host.Outcome State Fault Refusal :=
  s.act fun c => c.mbRun h { opcode := 0x0600, long := true } fun c =>
    if c.flag F.VLT_STATUS_flush_active || !c.vaultOpen then refuse c Code.busy
    else
      match c.startRekey with
      | none => refuse c Code.range
      | some c => (c, { wait := .rekey })

/-- Rewrites under the new ID the inner nodes whose last child was flushed with a leaf; each is written, under a counter that its
parent raises (R353, R364). -/
def Chip.flushInner (c : Chip) (leaf id : Nat) : Chip :=
  let put (c : Chip) (lv i : Nat) : Chip := ((c.setNode lv i { c.node lv i with keyId := id }).markDirty lv i).writeNode lv i
  let c := if (leaf + 1) % 64 = 0 then put c 1 (leaf / 64) else c
  let c := if (leaf + 1) % 4096 = 0 then put c 2 (leaf / 4096) else c
  if (leaf + 1) % 262144 = 0 then put c 3 (leaf / 262144) else c

/-- FLUSH_LEAF: the next leaf is read and verified, and written under the new ID with its major raised and its minors zero; after
the last one the keys of the old ID are zeroised (R364). `bad` says that a line failed on both stacks. The leaf node is fetched into the
cache like that of any read, and a warm start resumes the flush at step 23. (log entry 57, DEDUCED) -/
def execFlushLeaf (bad : Bool) (s : State) : Host.Outcome State Fault Refusal :=
  s.act fun c =>
    if !c.flag F.VLT_STATUS_flush_active || !c.vaultOpen || c.warmHeld then c
    else
      let leaf := c.rd F.VLT_FLUSH_next_leaf
      if bad then c.vaultHalt 1 (64 * leaf)
      else
        let id := c.rd F.VLT_STATUS_key_id
        let c := c.cachePath leaf
        let n := c.node 0 leaf
        let c := (c.rewriteLeaf leaf { major := n.major + 1, minors := 0, keyId := id }).markDirty 0 leaf
        let c := c.flushInner leaf id
        if leaf + 1 < c.vaultLeaves then c.wr F.VLT_FLUSH_next_leaf (leaf + 1)
        else
          let c := (c.wr F.VLT_FLUSH_next_leaf 0).wr F.VLT_STATUS_flush_active 0
          let c := { c with vault := { c.vault with keys := c.vault.keys.filter (fun e => e.1 == id) } }
          (c.wr F.VLT_KEYID_live (2 ^ id)).bump R.VLT_REKEYS

/-! ## Building the vault (R365 to R367) -/

/-- Step 13 of a cold start: trains the stacks; none when both fail (R365). -/
def Chip.vaultTrain (c : Chip) (ok0 ok1 : Bool) : Option Chip :=
  if !ok0 && !ok1 then none
  else
    let c := if ok0 then c.wr (F.VLT_STACK_STATUS_state 0) 0 else c
    let c := if ok1 then c.wr (F.VLT_STACK_STATUS_state 1) 0 else c
    let c := if ok0 then c else c.stackOut 0 0
    let c := if ok1 then c else c.stackOut 1 0
    some (c.wrb F.VLT_STATUS_mirrored (ok0 && ok1))

/-- Takes a key ID and builds the region: every line zero, every counter zero, a fresh salt (R365, R367). -/
def Chip.vaultBuild (c : Chip) (id : Nat) : Chip :=
  let (salt, c) := c.random 32
  let c := { c with vault := { c.vault with lines := [], nodes := [], roots := [], cache := [], dirty := [], salt := salt, keys := [],
                                            base := id, scrubAt := 0 } }
  (((c.wr F.VLT_STATUS_region_gib c.regionGib).wr F.VLT_KEYID_live 0).takeId id).wr F.VLT_STATUS_flush_active 0

/-- Debug unlock: the keys, salt, roots and cache are zeroised, the contents of every area are discarded, and the region is rebuilt
under the lowest unused ID and the test root; with no ID left the vault stays closed with an ALERT attention (R367). (log entry 57,
DEDUCED) -/
def Chip.vaultDebug (c : Chip) : Chip :=
  let ents := mapTable {} (fun _ (x : Perf) => { x with vault15 := [], vaultDay := [] }) c.pm.ents
  let c := { c with cow := { c.cow with vault := [], stored := 0 }, pm := { c.pm with ents := ents } }
  let c := { c with vault := { c.vault with lines := [], nodes := [], roots := [], cache := [], dirty := [], salt := [], keys := [] } }
  let c := c.wr F.VLT_KEYID_live 0
  match (List.range 16).find? (fun n => !bit (c.rd F.VLT_KEYID_taken) n) with
  | none => (c.wr F.VLT_STATUS_state 0).alert Sub.vault.n 0 0 0
  | some n => ((c.vaultBuild n).wr F.VLT_STATUS_state 2).wr F.VLT_STATUS_test_root 1

end Sys2Proof.Machine
end

