-- ==== Sys2Proof/Machine/KeyStore.lean ====
section
/-! DEFINITION. The key store: roots, the Epkai tree, identity and alias keys, key slots and their commands (R287 to R304). -/

namespace Sys2Proof.Machine

/-! ## Roots and the tree (R288 to R290) -/

/-- The published test root (R289). -/
def testRoot : Bytes := Config.kmac256 (fill 32 0) [] 256 (ascii "EPKAI-TEST-ROOT")

/-- The test root is in force (R289). -/
def Chip.debugRoot (c : Chip) : Bool := c.flag F.MGT_START_STATUS_debug_root

/-- The fuse root, or the test root under debug. -/
def Chip.root (c : Chip) : Bytes := if c.debugRoot then testRoot else Config.fuseRoot

/-- The Epkai root of a root and a share (R288). -/
def epkaiRoot (root share : Bytes) : Bytes := Config.kmac256 (root ++ share) [] 256 (ascii "EPKAI-ROOT")

/-- The identity base of a root (R288). -/
def identityBase (root : Bytes) : Bytes := Config.kmac256 root [] 256 (ascii "EPKAI-DICE")

/-- Step 5 of R39: E, D and the recorder key. A quarantined start computes no E (R288); under debug every derivation uses the test
root and a share of zeros (R289). (log entry 57, DEDUCED) -/
def Chip.deriveRoots (c : Chip) : Chip :=
  let share := if c.debugRoot then fill 32 0 else c.ao.share
  let e := if c.quarantined && !c.debugRoot then none else some (epkaiRoot c.root share)
  let c := { c with keys := { c.keys with e := e, d := identityBase c.root, recKey := recorderKey c.root } }
  c.wr F.KEY_STATUS_root (if e.isNone then 0 else if c.debugRoot then 2 else 1)

/-- A node whose components are byte strings, as labels in a record are. -/
def epkaiNodeBytes (e : Bytes) (label : List Bytes) : Bytes :=
  label.foldl (fun k comp => Config.kmac256 k comp 256 (ascii "EPKAI-NODE")) e

/-- The components of a label (R290). -/
def splitLabel : Bytes → List Bytes
  | [] => [[]]
  | b :: bs =>
    match splitLabel bs with
    | [] => [[b]]
    | x :: xs => if b = 0x2F then [] :: x :: xs else (b :: x) :: xs

/-! ## Identity and alias (R294 to R298) -/

/-- A P-384 private key of 448 bits (R294). -/
def p384Key (v : Bytes) : Nat := 1 + beNat v % (Config.ecOrder 2 - 1)

/-- The 96 bytes of a P-384 public key, x then y. -/
def p384Pub (d : Nat) : Bytes :=
  let q := Config.ecMul 2 d (Config.ecBase 2)
  toBe q.1 48 ++ toBe q.2 48

/-- The boot ROM measurement (R67). -/
def bootMeas : Bytes := Config.sha384 Config.bootRom

def cdi0 (d : Bytes) : Bytes := Config.kmac256 d bootMeas 256 (ascii "DICE-CDI0")

/-- The 704 identity bits (R295). -/
def identitySeed (d : Bytes) : Bytes := Config.kmac256 (cdi0 d) (ascii "identity") 704 (ascii "DICE-ID")

/-- ML-DSA-65 public key then P-384 public key of a 704-bit seed (R295, R298). -/
def seedPublic (v : Bytes) : Bytes := (Config.mldsaKeygen (v.take 32)).take 1952 ++ p384Pub (p384Key (slice v 32 56))

/-- peer_id of the part (R298). -/
def Chip.peerId (c : Chip) : Bytes := (Config.sha384 (seedPublic (identitySeed c.keys.d)) ++ fill 16 0).take 16

/-- The 704 alias bits (R296); in a part without an image, which runs no firmware, the measurements are empty. (log entry 52,
DESIGN CHOICE) -/
def Chip.aliasSeed (c : Chip) : Bytes :=
  let cdi1 := Config.kmac256 (cdi0 c.keys.d) ((c.img.map (·.fwMeas)).getD []) 256 (ascii "DICE-CDI1")
  Config.kmac256 cdi1 ((c.img.map (·.cfgMeas)).getD [] ++ Config.sha384 ((c.img.bind (·.rec1 T.ownerId)).getD [])) 704 (ascii "DICE-ALIAS")

/-- The signed parts of the two alias certificates (R297): for the ML-DSA-65 key, then for the P-384 key. -/
def Chip.aliasTbs (c : Chip) : Bytes × Bytes :=
  let pub := seedPublic c.aliasSeed
  let serial := (Config.sha384 pub).take 16
  let ext := match c.img with
    | none => []
    | some i => i.fwMeas ++ i.cfgMeas ++ toLe i.fwVer 4 ++ toLe i.sequence 4
  let tbs (alg : Nat) (key : Bytes) : Bytes := Config.x509Tbs alg key serial (ascii "19700101000000Z") (ascii "99991231235959Z") ext
  (tbs 0 (pub.take 1952), tbs 1 (pub.drop 1952))

/-! ## Slots (R299 to R302) -/

def Chip.slot (c : Chip) (n : Nat) : Slot := Sparse.get {} c.keys.slots n

def Chip.setSlot (c : Chip) (n : Nat) (x : Slot) : Chip :=
  { c with keys := { c.keys with slots := Sparse.set {} c.keys.slots n x } }

/-- A slot holds a value. -/
def Slot.filled (x : Slot) : Bool := x.source != 0

/-- Value bytes of a length attribute (R300). -/
def slotBytes (length : Nat) : Nat := if length = 0 then 16 else if length = 1 then 32 else if length = 2 then 28 else 44

/-- The attributes of a 16-byte attribute block (R303, R321), with a value. -/
def slotOf (a value : Bytes) : Slot :=
  { source := byteAt a 0, dest := byteAt a 1, ops := le a 2 2, owner := byteAt a 4, length := byteAt a 5 % 4,
    persistent := bit (byteAt a 5) 2, expiry := le a 6 8, value := value }

/-- The attribute block of a slot. -/
def Slot.attrs (x : Slot) : Bytes :=
  toLe x.source 1 ++ toLe x.dest 1 ++ toLe x.ops 2 ++ toLe x.owner 1 ++ toLe (x.length + 4 * b2n x.persistent) 1 ++
    toLe x.expiry 8 ++ fill 2 0

/-- The attributes agree with one another, and reserved bits are zero (R300, R321). -/
def attrsOk (a : Bytes) : Bool :=
  let x := slotOf a []
  let inline_ := x.dest % 4 != 0
  a.length == 16 && x.dest < 32 && x.ops < 2 ^ 11 && x.owner < 2 && byteAt a 5 < 8 && le a 14 2 == 0 && !bit x.dest 3 &&
    (x.ops % 256 == 0 || (bit x.dest 2 && x.length < 2)) &&
    (!bit x.ops 9 || (inline_ && 2 ≤ x.length)) &&
    (!bit x.ops 10 || (bit x.dest 4 && x.length == 1))

/-- System slots (R299): value, dest and ops of K0 to K6. -/
def Chip.fillSystem (c : Chip) : Chip :=
  let sys (v : Bytes) (dest ops : Nat) : Slot := { source := 1, length := 1, dest := dest, ops := ops, value := v }
  let c := match c.keys.e with
    | none => c
    | some e =>
      (((c.setSlot 0 (sys (epkaiNode e ["vault", "journal"]) 4 0xC)).setSlot 1 (sys (epkaiNode e ["vault", "slot-wrap"]) 4 0x30)).setSlot
        2 (sys (epkaiNode e ["att", "import"]) 16 0)).setSlot 3 (sys (epkaiNode e ["link", "eph"]) 0 0)
  ((c.setSlot 4 (sys (identitySeed c.keys.d) 16 0)).setSlot 5 (sys c.aliasSeed 16 0)).setSlot 6 (sys c.keys.recKey 0 0)

/-- The journal entry of a filled persistent slot (R301). -/
def Chip.slotEntry (c : Chip) (n : Nat) (attrs value : Bytes) : JOp := .slot n attrs (Config.kwWrap (c.slot 1).value (attrs ++ value))

/-- The value that a journal entry holds for a slot: none where it does not unwrap to its attributes and a value. -/
def Chip.slotUnwrap (c : Chip) (attrs wrapped : Bytes) : Option Bytes :=
  (Config.kwUnwrap (c.slot 1).value wrapped).bind (fun p => if p.take 16 = attrs then some (p.drop 16) else none)

/-- A slot is named by a lookaside request in flight. -/
def Chip.slotInUse (c : Chip) (n : Nat) : Bool := c.keys.rings.any (fun r => r.2.any (fun q => q.slot == n))

/-- The wheel entry of an owner slot's expiry (R383). -/
def slotWheel (n : Nat) : Nat := 504 + n

/-- Clears a slot, at once or when the requests already started on it have completed (R302). (log entry 14, DEDUCED) -/
def Chip.clearSlot (c : Chip) (n : Nat) : Chip :=
  let c := if (c.wheelAt (slotWheel n)).isSome then c.wheelPut (slotWheel n) none else c
  let c := { c with time := { c.time with held := c.time.held.filter (fun x => x.1 != slotWheel n) } }
  if c.slotInUse n then c.setSlot n { c.slot n with clearDue := true } else c.setSlot n {}

/-- Fills a slot, with its expiry on the wheel and, for a persistent slot, its IV ceiling in the journal (R301, R302, R309).
(log entry 65, DEDUCED) -/
def Chip.fillSlot (c : Chip) (n : Nat) (x : Slot) : Chip :=
  let x := { x with iv := 1, ivCeil := if x.persistent then 1 + 2 ^ 32 else 0, uses := 0, clearDue := false }
  let c := c.setSlot n x
  let c := if x.persistent then c.journalAhead (.ivCeiling n (1 + 2 ^ 32)) else c
  if x.expiry = 0 then c else c.wheelOrHold (slotWheel n) { due := x.expiry * 1000000, type := 4, arg := n }

/-- The value of a derived slot (R290, R301). (log entry 52, DESIGN CHOICE) -/
def derivedOf (node : Bytes) (length : Nat) : Bytes :=
  let n := slotBytes length
  if n = 32 then node else (Config.derivedValue node n ++ fill n 0).take n

/-- The derived slots of KEY_SLOTS (R301, R321): filled while E exists and their expiry lies ahead. (log entry 52, DESIGN CHOICE) -/
def Chip.fillDerived (c : Chip) : Chip :=
  match c.keys.e with
  | none => c
  | some e =>
    (((c.rec1 T.keySlots).map (fun v => countedEntries v 152)).getD []).foldl (fun c q =>
      let x := slotOf (slice q 2 14 ++ fill 2 0) []
      if x.source != 1 || (x.expiry != 0 && x.expiry ≤ c.seconds) then c
      else
        let node := epkaiNodeBytes e (splitLabel (slice q 17 (byteAt q 16)))
        c.fillSlot (le q 0 2) { x with persistent := false, value := derivedOf node x.length }) c

/-- The random bit generator gives fresh bytes (R293). -/
def Chip.rbgOk (c : Chip) : Bool := c.flag F.KEY_STATUS_rbg_ok

/-- The public-key engine can run firmware's jobs that need fresh random bytes (R335, R344). -/
def Chip.pkeOk (c : Chip) : Bool := c.rbgOk && !c.flag F.PKE_STATUS_fenced

/-- The two alias certificates are issued (R297), each preceded by its 4-byte length. Without fresh random bytes they wait until the health
tests pass again (R293, R335). (log entry 52, DESIGN CHOICE) -/
def Chip.makeAliasCerts (c : Chip) : Chip :=
  let put (c : Chip) (v : Bytes) : Chip := { c with keys := { c.keys with aliasCerts := v } }
  if !c.pkeOk then put c []
  else
    let (rnd, c) := c.random signRnd
    let (t0, t1) := c.aliasTbs
    let (sig, jobs) := signPair 4 (identitySeed c.keys.d) t0 (Config.sha384 t1) rnd
    let c := c.fwJobs none jobs
    match sig with
    | none => put c []
    | some (a, b) =>
      let c0 := Config.x509 0 t0 a
      let c1 := Config.x509 1 t1 b
      put c (toLe c0.length 4 ++ c0 ++ toLe c1.length 4 ++ c1)

/-- What stops a fill of slot `n` with attributes of a source (R302, R303). -/
def Chip.fillRefuse (c : Chip) (n source : Nat) (attrs : Bytes) : Option Nat :=
  let x := slotOf attrs []
  if 1024 ≤ n then some Code.range
  else if n < 8 || x.source != source || !attrsOk attrs then some Code.denied
  else if (c.slot n).filled then some Code.busy
  else if x.expiry != 0 && x.expiry ≤ c.seconds then some Code.range
  else if x.persistent && (c.slot 1).value = [] then some Code.empty
  else none

/-- The answer of a fill: COMMITTED with its journal entry for a persistent slot (R303). -/
def Chip.fillAnswer (c : Chip) (n : Nat) (attrs value : Bytes) : Answer :=
  if (slotOf attrs value).persistent then { code := Code.committed, jop := some (c.slotEntry n attrs value) } else {}

/-- KEY_GENERATE (R303). -/
def execKeyGenerate (h : Mb) (slot : Nat) (attrs : Bytes) (s : State) : Host.Outcome State Fault Refusal :=
  s.act fun c => c.mbRun h { opcode := 0x0400, commit := (slotOf attrs []).persistent } fun c =>
    match c.fillRefuse slot 2 attrs with
    | some code => refuse c code
    | none =>
      if !c.rbgOk then refuse c Code.fault
      else
        let (v, c) := c.random (slotBytes (slotOf attrs []).length)
        (c.fillSlot slot (slotOf attrs v), c.fillAnswer slot attrs v)

/-- Bits of the import key pair's seed (R304). -/
def Chip.importSeed (c : Chip) : Bytes :=
  Config.kmac256 (c.slot 2).value (ascii "import") 960 (ascii "GLEORN-IMPORT-KEY")

/-- The output of a firmware job on its own input, none when it ends otherwise. -/
def jobOut (j : PkeJob) : Option Bytes :=
  match (pkeCompute j j.input j.rnd).1 with
  | .out v => some v
  | _ => none

/-- The jobs of an encapsulated import, under K2: ECDH with the ephemeral key, and decapsulation. -/
def importJobs (ct eph rnd : Bytes) : PkeJob × PkeJob := (fwJob PkeOp.ecdh (some 2) eph rnd, fwJob PkeOp.mlkemDecaps (some 2) ct [])

/-- The key-encryption key of an encapsulated import (R304), none when its ephemeral key is rejected. -/
def Chip.importKek (c : Chip) (n : Nat) (ct eph rnd : Bytes) : Option Bytes :=
  let (ec, kem) := importJobs ct eph rnd
  let run (j : PkeJob) : Option Bytes := jobOut { j with key := some (c.slot 2).value }
  (run ec).bind (fun zec => (run kem).map (fun zkem =>
    Config.kmac256 (zec ++ zkem) (Config.sha384 (ct ++ eph) ++ c.peerId ++ toBe n 2) 256 (ascii "GLEORN-IMPORT")))

/-- The plaintext of import material, or the code that refuses it (R304). The material of form 1 begins with the wrapping slot in
two bytes, and an ephemeral key that the engine rejects is AUTH_FAILURE (log entry 13, DEDUCED). -/
def Chip.importOpen (c : Chip) (form n : Nat) (m rnd : Bytes) : Except Nat Bytes :=
  let opened (kek blob : Bytes) : Except Nat Bytes :=
    match Config.kwUnwrap kek blob with
    | none => .error Code.authFailure
    | some p => .ok p
  if form = 0 then
    if c.keys.e.isNone then .error Code.empty
    else if !c.pkeOk then .error Code.fault
    else if m.length < 1688 then .error Code.length
    else match c.importKek n (m.take 1568) (slice m 1568 96) rnd with
      | none => .error Code.authFailure
      | some kek => opened kek (m.drop 1664)
  else if form = 1 then
    let w := le m 0 2
    if m.length < 26 then .error Code.length
    else if 1024 ≤ w then .error Code.range
    else if !(c.slot w).filled then .error Code.empty
    else if !bit (c.slot w).ops 7 then .error Code.denied
    else opened (c.slot w).value (m.drop 2)
  else .error Code.range

/-- An encapsulated import comes to its key agreement. -/
def Chip.importRuns (c : Chip) (form : Nat) (m : Bytes) : Bool := form == 0 && c.keys.e.isSome && c.pkeOk && decide (1688 ≤ m.length)

/-- What that takes: random bytes, and the two jobs. -/
def Chip.importTakes (c : Chip) (form : Nat) (m : Bytes) : Chip :=
  if c.importRuns form m then
    let (ec, kem) := importJobs (m.take 1568) (slice m 1568 96) (c.random 390).1
    (c.random 390).2.fwJobs none [ec, kem]
  else c

/-- KEY_IMPORT (R303, R304). -/
def execKeyImport (h : Mb) (form slot : Nat) (attrs : Bytes) (s : State) : Host.Outcome State Fault Refusal :=
  s.act fun c => c.mbRun h { opcode := 0x0401, commit := (slotOf attrs []).persistent, inOk := fun n => 0 < n } fun c =>
    match c.fillRefuse slot 3 attrs with
    | some code => refuse c code
    | none =>
      let r := c.importOpen form slot h.inData (c.random 390).1
      let c := c.importTakes form h.inData
      match r with
      | .error code => refuse c code
      | .ok p =>
        let v := p.drop 16
        if p.take 16 != attrs || v.length != slotBytes (slotOf attrs []).length then refuse c Code.denied
        else (c.fillSlot slot (slotOf attrs v), c.fillAnswer slot attrs v)

/-- KEY_EXPORT (R303). -/
def execKeyExport (h : Mb) (slot wrapping : Nat) (s : State) : Host.Outcome State Fault Refusal :=
  s.act fun c => c.mbRun h { opcode := 0x0402 } fun c =>
    let x := c.slot slot
    let w := c.slot wrapping
    if 1024 ≤ slot || 1024 ≤ wrapping then refuse c Code.range
    else if slot < 8 then refuse c Code.denied
    else if !x.filled || !w.filled then refuse c Code.empty
    else if !bit x.ops 8 || !bit w.ops 7 then refuse c Code.denied
    else if h.outLen < x.value.length + 24 then refuse c Code.length
    else (c, { out := Config.kwWrap w.value (x.attrs ++ x.value) })

/-- KEY_CLEAR (R302, R303). A clear of an empty slot answers EMPTY (log entry 14, DEDUCED). -/
def execKeyClear (h : Mb) (slot : Nat) (s : State) : Host.Outcome State Fault Refusal :=
  s.act fun c => c.mbRun h { opcode := 0x0403, commit := (c.slot slot).persistent } fun c =>
    let x := c.slot slot
    if 1024 ≤ slot then refuse c Code.range
    else if slot < 8 then refuse c Code.denied
    else if !x.filled then refuse c Code.empty
    else (c.clearSlot slot, if x.persistent then { code := Code.committed, jop := some (.slotClear slot) } else {})

/-- KEY_SLOT_INFO of a slot. -/
def Chip.slotInfo (c : Chip) (n : Nat) : Nat :=
  let x := c.slot n
  (if n < 8 then 1 else x.source) + 4 * x.length + 16 * x.dest + 512 * (x.ops % 2 ^ 11) + 2 ^ 20 * x.owner +
    2 ^ 21 * b2n x.persistent + 2 ^ 22 * b2n x.filled + 2 ^ 23 * b2n (n < 8)

/-- KEY_INFO (R303, R460). -/
def execKeyInfo (h : Mb) (slot : Nat) (s : State) : Host.Outcome State Fault Refusal :=
  s.act fun c => c.mbRun h { opcode := 0x0404, pf1 := true, outLen := 32 } fun c =>
    if 1024 ≤ slot then refuse c Code.range
    else
      let x := c.slot slot
      (c, { out := toLe (c.slotInfo slot) 4 ++ fill 4 0 ++ toLe x.expiry 8 ++ toLe x.uses 8 ++ fill 8 0 })

/-- SLOT_INFO_COPY: a write of KEY_SLOT_SEL; with go the attributes are copied (R300). -/
def Chip.slotCopy (c : Chip) (value : W32) : Chip :=
  let n := bits value.toNat 0 10
  let c := c.wr F.KEY_SLOT_SEL_slot n
  if !bit value.toNat 10 then c
  else
    let x := c.slot n
    ((c.setWord R.KEY_SLOT_INFO (BitVec.ofNat 32 (c.slotInfo n))).setNum R.KEY_SLOT_EXPIRY 2 x.expiry).setNum R.KEY_SLOT_USES 2 x.uses

/-- SLOT_INFO_COPY (R300): The go bit of KEY_SLOT_SEL copies a slot's attributes, expiry and uses. -/
def execSlotInfoCopy (init : Nat) (value : W32) (s : State) : Host.Outcome State Fault Refusal :=
  s.act fun c => c.hostWrite init R.KEY_SLOT_SEL (fun c => c.slotCopy value)

/-- SLOT_EXPIRY: at its instant a slot is cleared as by KEY_CLEAR; a persistent slot's journal entry is removed (R302, R384). -/
def Chip.expireSlot (c : Chip) (n : Nat) : Chip :=
  let c := if (c.slot n).persistent && (c.slot n).filled then c.journalAhead (.slotClear n) else c
  c.clearSlot n

/-- SLOT_EXPIRY (R302): A wheel entry clears an owner key slot at its expiry instant. -/
def execSlotExpiry (entry : Nat) (s : State) : Host.Outcome State Fault Refusal :=
  s.actOn (entry < 4096) fun c => c.fire entry 4 fun w c => c.expireSlot (w.arg % 1024)

/-- RBG_HEALTH_TEST (R293); alias certificates that have waited for it are issued. -/
def execRbgHealthTest (passed : Bool) (s : State) : Host.Outcome State Fault Refusal :=
  s.act fun c =>
    if passed then
      let c := c.wr F.KEY_STATUS_rbg_ok 1
      if c.configured && c.keys.aliasCerts == [] then c.makeAliasCerts else c
    else ((c.wr F.KEY_STATUS_rbg_ok 0).wr F.KEY_STATUS_rbg_fault 1).alert Sub.key.n 0 0 0

/-- KEY_STORE_ECC_ERROR: an uncorrectable error in the key-slot memory halts the part with cause KEY_STORE (R422). -/
def execKeyStoreEccError (s : State) : Host.Outcome State Fault Refusal :=
  s.act fun c => (c.record Sub.key.n 0 2 0 0).enterHalt 4 0 false

end Sys2Proof.Machine
end

