-- ==== Sys2Proof/Machine/Lookaside.lean ====
section
/-! DEFINITION. The lookaside cipher: request rings, checks, operations and completions (R305 to R313). -/

namespace Sys2Proof.Machine

/-! Lookaside completion codes (R310). -/

namespace La

def ok : Nat := 0
def authFailure : Nat := 1
def length : Nat := 2
def denied : Nat := 3
def empty : Nat := 4
def range : Nat := 5
def format : Nat := 6
def fault : Nat := 7

end La

/-- Requests in flight of a ring, oldest first. -/
def Chip.laRing (c : Chip) (r : Nat) : List LaReq := Sparse.get [] c.keys.rings r

/-- The ring is enabled, of a legal size, and not halted. -/
def Chip.laRunning (c : Chip) (r : Nat) : Bool :=
  let m := c.rd (F.KEY_LA_CFG_log2_entries r)
  c.flag (F.KEY_LA_CFG_enable r) && 4 ≤ m && m ≤ 12 && !c.flag (F.KEY_LA_STATUS_dma_error r)

def Chip.laSync (c : Chip) (r : Nat) : Chip :=
  (c.wrb (F.KEY_LA_STATUS_running r) (c.laRunning r)).wr (F.KEY_LA_STATUS_in_flight r) (c.laRing r).length

def Chip.setLaRing (c : Chip) (r : Nat) (l : List LaReq) : Chip :=
  ({ c with keys := { c.keys with rings := Sparse.set [] c.keys.rings r l } }).laSync r

/-- The initiator may write the registers of a ring: PF0 those of rings 6 and 7, firmware those of rings 0 to 5 (R305). -/
def laMay (init r : Nat) : Bool := if 6 ≤ r then init == 2 else init ≤ 1

/-- A write of KEY_LA_PROD: one more than 2^m ahead of CPROD is ignored and counted (R312). -/
def Chip.laProduce (c : Chip) (init ring : Nat) (value : W32) : Chip :=
  let p := bits value.toNat 0 16
  let ahead := (p + 65536 - c.rd (F.KEY_LA_CPROD_cprod ring)) % 65536
  if !laMay init ring then c
  else if 2 ^ c.rd (F.KEY_LA_CFG_log2_entries ring) < ahead then c.bump (R.KEY_LA_OVERRUN ring)
  else c.wr (F.KEY_LA_PROD_prod ring) p

/-- A write of KEY_LA_BASE or KEY_LA_CBASE (R305): for rings 0 to 5 the registers are read only to the host. The low bits that the table
gives as zero are reserved and read as zero (R8, log entry 25, DEDUCED). -/
def Chip.laBase (c : Chip) (init ring a : Nat) (value : W32) : Chip :=
  if !laMay init ring then c
  else
    let low := if a = R.KEY_LA_BASE ring then 6 else if a = R.KEY_LA_CBASE ring then 5 else 0
    c.setWord a (BitVec.ofNat 32 (value.toNat / 2 ^ low * 2 ^ low))

/-- LA_PRODUCE. -/
def execLaProduce (init ring : Nat) (value : W32) (s : State) : Host.Outcome State Fault Refusal :=
  s.actOn (ring < 8) fun c => c.hostWrite init (R.KEY_LA_PROD ring) (fun c => c.laProduce init ring value)

/-- Drops the requests in flight and returns CONS to CPROD (R312, R313). -/
def Chip.laDiscard (c : Chip) (r : Nat) : Chip :=
  let used := (c.laRing r).map (·.slot)
  let c := (c.setLaRing r []).wr (F.KEY_LA_CONS_cons r) (c.rd (F.KEY_LA_CPROD_cprod r))
  used.foldl (fun c n => if (c.slot n).clearDue && !c.slotInUse n then c.setSlot n {} else c) c

/-- A write of KEY_LA_CFG; with reset, started requests are discarded and dma_error is cleared (R312). -/
def Chip.laConfig (c : Chip) (init ring : Nat) (value : W32) : Chip :=
  if !laMay init ring then c
  else
    let c := c.wr (F.KEY_LA_CFG_log2_entries ring) (bits value.toNat 0 4)
    let c := c.wrb (F.KEY_LA_CFG_enable ring) (bit value.toNat 4)
    let c := c.wr (F.KEY_LA_CFG_vector ring) (bits value.toNat 6 6)
    if bit value.toNat 5 then ((c.laDiscard ring).wr (F.KEY_LA_STATUS_dma_error ring) 0).laSync ring else c.laSync ring

/-- LA_RING_RESET. -/
def execLaRingReset (init ring : Nat) (value : W32) (s : State) : Host.Outcome State Fault Refusal :=
  s.actOn (ring < 8) fun c => c.hostWrite init (R.KEY_LA_CFG ring) (fun c => c.laConfig init ring value)

/-- The operation bit of an opcode (R300). -/
def laOp (op : Nat) : Nat := op - 1

/-- Length limits (R307). -/
def laLengthOk (op data aux out : Nat) : Bool :=
  if op ≤ 2 then data ≤ 65536 && aux ≤ 65536 && out == 0
  else if op ≤ 4 then data ≤ 65536 && 4 ≤ aux && aux ≤ 16 && out == 0
  else if op = 5 then 16 ≤ data && data ≤ 4096 && data % 8 == 0 && aux == 0 && out == 0
  else if op = 6 then 24 ≤ data && data ≤ 4104 && data % 8 == 0 && aux == 0 && out == 0
  else data ≤ 65536 && aux ≤ 256 && 16 ≤ out && out ≤ 64

/-- The automatic IV of a slot and its counter (R309). -/
def autoIv (slot counter : Nat) : Bytes := toBe 0x4C41 2 ++ toBe slot 2 ++ toBe counter 8

/-- The code that a request's fields, slot and IV call for at its start, none when it may run (R302, R307, R309). -/
def Chip.laCheck (c : Chip) (ring : Nat) (e : Bytes) : Option Nat :=
  let op := byteAt e 0
  let fl := byteAt e 1
  let n := le e 2 2
  let x := c.slot n
  let auto_ := bit fl 2
  if op = 0 || 7 < op || 8 ≤ fl || le e 56 8 != 0 || (auto_ && op != 1) then some La.format
  else if 1024 ≤ n then some La.range
  else if !laLengthOk op (le e 8 4) (le e 12 4) (le e 52 4) then some La.length
  else if !x.filled || x.clearDue then some La.empty
  else if !bit x.dest 2 || !bit x.ops (laOp op) || x.owner != (if 6 ≤ ring then 1 else 0) then some La.denied
  else if auto_ && 2 ^ 64 - 1 ≤ x.iv then some La.range
  else if op = 1 && !auto_ && (slice e 40 4 == toBe 0x4C41 2 ++ toBe n 2) then some La.range
  else none

/-- A ring holds a request that can start as far as the unit knows: the ring runs, its owner does, a request is submitted, fewer than 4
are in flight, and its next request has not been found to wait on its fence (R305, R311, R313). (log entry 25, DEDUCED) -/
def Chip.laWaiting (c : Chip) (r : Nat) : Bool :=
  c.laRunning r && c.rd (F.KEY_LA_CONS_cons r) != c.rd (F.KEY_LA_PROD_prod r) && (c.laRing r).length < 4 &&
    !(c.keys.fenced.contains r && (c.laRing r) != []) && (6 ≤ r || c.firmware)

/-- The weight of a ring (R322). -/
def Chip.laWeight (c : Chip) (r : Nat) : Nat := max 1 (c.cfgNat T.lookasideRings (8 * r + 2) 1 1)

/-- The ring that is served next (R305): ring 0 first, then the others in turn. A ring keeps its turn for as many starts as its weight
while it holds a request. (log entry 25, DEDUCED) -/
def Chip.laNext (c : Chip) : Option Nat :=
  if c.laWaiting 0 then some 0
  else
    let t := c.keys.turn
    if 0 < c.keys.credit && c.laWaiting t then some t
    else ((List.range 7).map (fun k => 1 + (t + k) % 7)).find? c.laWaiting

/-- A start by a ring counts against its turn. -/
def Chip.laTurn (c : Chip) (r : Nat) : Chip :=
  let left := if c.keys.turn = r && 0 < c.keys.credit then c.keys.credit - 1 else c.laWeight r - 1
  if r = 0 then c else { c with keys := { c.keys with turn := r, credit := left } }

/-- The unit may start a request of a ring now: the datapath serves, fewer than 16 are in flight, and it is the ring's turn. -/
def Chip.laReady (c : Chip) (ring : Nat) : Bool :=
  c.power && !c.halted && (c.start.released || !c.restarting) && (c.keys.rings.map (fun r => r.2.length)).sum < 16 && c.laNext == some ring

/-- LA_REQUEST_START: the entry at CONS is fetched; one with a fence that is not satisfied waits, and the turn passes on. It is checked;
the slot is read and the automatic IV taken (R302, R306, R309). (log entry 25, DEDUCED) (log entry 65, DEDUCED) -/
def execLaRequestStart (ring : Nat) (entry : Bytes) (s : State) : Host.Outcome State Fault Refusal :=
  s.actOn (ring < 8) fun c =>
    if !c.laReady ring then c
    else if bit (byteAt entry 1) 0 && c.laRing ring != [] then { c with keys := { c.keys with fenced := ring :: c.keys.fenced.erase ring } }
    else
      let c := { c with keys := { c.keys with fenced := c.keys.fenced.erase ring } }.laTurn ring
      let idx := c.rd (F.KEY_LA_CONS_cons ring)
      let c := c.wr (F.KEY_LA_CONS_cons ring) (idx + 1)
      let code := c.laCheck ring entry
      let n := le entry 2 2
      let x := c.slot n
      let op := byteAt entry 0
      let auto_ := bit (byteAt entry 1) 2
      let iv := if op = 1 || op = 2 then (if auto_ then autoIv n x.iv else slice entry 40 12) else fill 12 0
      let q : LaReq := { entry := entry, index := idx, key := x.value, iv := iv, code := code, slot := n }
      let c := c.setLaRing ring (c.laRing ring ++ [q])
      if code.isSome then c
      else
        let x := { x with uses := x.uses + 1, iv := if auto_ then x.iv + 1 else x.iv }
        if auto_ && x.persistent && x.ivCeil < x.iv + 2 ^ 31 then
          (c.setSlot n { x with ivCeil := x.iv + 2 ^ 32 }).journalAhead (.ivCeiling n (x.iv + 2 ^ 32))
        else c.setSlot n x

/-- The outcome of an operation on its input and auxiliary data: output, or a code (R307, R308). -/
def laRun (q : LaReq) (input aux : Bytes) : Except Nat Bytes :=
  let op := byteAt q.entry 0
  let n := le q.entry 8 4
  let auxLen := le q.entry 12 4
  let data := input.take n
  if op = 1 then
    let ct := gcmCrypt q.key q.iv data
    .ok (ct ++ gcmTag q.key q.iv aux ct)
  else if op = 2 then
    if gcmTag q.key q.iv aux data = slice input n 16 then .ok (gcmCrypt q.key q.iv data) else .error La.authFailure
  else if op = 3 then .ok ((Config.cmac q.key data).take auxLen)
  else if op = 4 then if (Config.cmac q.key data).take auxLen = aux.take auxLen then .ok [] else .error La.authFailure
  else if op = 5 then .ok (Config.kwWrap q.key data)
  else if op = 6 then
    match Config.kwUnwrap q.key data with
    | some p => .ok p
    | none => .error La.authFailure
  else .ok (Config.kmac256 q.key data (8 * le q.entry 52 4) aux)

/-- The 32 bytes of a completion entry (R310). (log entry 70, DEDUCED) -/
def Chip.laCompletion (c : Chip) (r : Nat) (q : LaReq) (code outLen : Nat) : Bytes :=
  let m := c.rd (F.KEY_LA_CFG_log2_entries r)
  let phase := (c.rd (F.KEY_LA_CPROD_cprod r) / 2 ^ m + 1) % 2
  slice q.entry 4 4 ++ toLe code 1 ++ slice q.entry 0 1 ++ toLe q.index 2 ++ toLe outLen 4 ++ fill 4 0 ++
    (if byteAt q.entry 0 = 1 && code == La.ok then q.iv else fill 12 0) ++ fill 3 0 ++ toLe phase 1

/-- Writes a completion, after its output (R310, R311). (log entry 15, DEDUCED) -/
def Chip.laFinish (c : Chip) (r : Nat) (q : LaReq) (code : Nat) (out : Bytes) : Chip :=
  let fn := if 6 ≤ r then 0 else 2
  let c := if code = La.ok && out != [] then c.emit (.hostWrite fn (le q.entry 24 8) out) else c
  let m := c.rd (F.KEY_LA_CFG_log2_entries r)
  let at_ := c.num (R.KEY_LA_CBASE r) 2 + 32 * (c.rd (F.KEY_LA_CPROD_cprod r) % 2 ^ m)
  let c := c.emit (.hostWrite fn at_ (c.laCompletion r q code (if code = La.ok then out.length else 0)))
  let c := c.wr (F.KEY_LA_CPROD_cprod r) (c.rd (F.KEY_LA_CPROD_cprod r) + 1)
  let c := c.bump (if code = La.ok then R.KEY_LA_DONE r else R.KEY_LA_FAIL r)
  let c := c.setLaRing r ((c.laRing r).drop 1)
  let c := if (c.slot q.slot).clearDue && !c.slotInUse q.slot then c.setSlot q.slot {} else c
  if bit (byteAt q.entry 1) 1 && 6 ≤ r then c.msix (c.rd (F.KEY_LA_CFG_vector r)) else c

/-- LA_REQUEST_COMPLETE: the oldest request of a ring completes (R308, R310, R311). An engine check fences its engine; with both
fenced a request ends in FAULT (log entry 15, DEDUCED). -/
def execLaRequestComplete (ring : Nat) (input aux : Bytes) (run : LaRun) (s : State) : Host.Outcome State Fault Refusal :=
  s.actOn (ring < 8) fun c =>
    match c.laRing ring with
    | [] => c
    | q :: _ =>
      match q.code with
      | some code => c.laFinish ring q code []
      | none =>
        match run with
        | .check e =>
          let c := if e = 0 then c.wr F.KEY_STATUS_la_engine0_fenced 1 else c.wr F.KEY_STATUS_la_engine1_fenced 1
          (c.alert Sub.key.n 0 e 0).laFinish ring q La.fault []
        | .good =>
          if c.flag F.KEY_STATUS_la_engine0_fenced && c.flag F.KEY_STATUS_la_engine1_fenced then c.laFinish ring q La.fault []
          else
            match laRun q input aux with
            | .ok out => c.laFinish ring q La.ok out
            | .error code => c.laFinish ring q code []

/-- LA_DMA_FAILURE: a host memory access of a ring fails: the ring halts (R312). -/
def execLaDmaFailure (ring : Nat) (s : State) : Host.Outcome State Fault Refusal :=
  s.actOn (ring < 8) fun c =>
    if !c.laRunning ring then c
    else (((c.laDiscard ring).wr (F.KEY_LA_STATUS_dma_error ring) 1).bump (R.KEY_LA_DMA_ERR ring)).laSync ring

end Sys2Proof.Machine
end

