-- ==== Sys2Proof/Machine/Attest.lean ====
section
/-! DEFINITION. Certificates, the Coalmina statement, owner and share commands, and unlocking the debug port (R289, R297, R303, R314 to
R320, R471 to R473). -/

namespace Sys2Proof.Machine

/-! ## Signatures (R64, R65) -/

/-- Both signatures of a 3,405-byte record over a message verify under a 2,048-byte pair of public keys (R64, R65). -/
def verifyPair (keys msg sig : Bytes) : Bool :=
  sig.length == 3405 && keys.length == 2048 &&
    Config.mldsaVerify (keys.take 1952) [] msg (sig.take 3309) &&
    Config.ecdsaVerify 2 (be keys 1952 48, be keys 2000 48) (Config.sha384 msg) (be sig 3309 48) (be sig 3357 48)

/-! ## Certificates (R303) -/

/-- The item of a selector: 0 flash region, 1 alias certificates, 2 identity public keys, 3 import public keys (R303). -/
def Chip.certItem (c : Chip) (sel : Nat) : Except Nat Bytes :=
  if sel = 0 then .ok c.readFlash.certs
  else if sel = 1 then .ok c.keys.aliasCerts
  else if sel = 2 then .ok (seedPublic (identitySeed c.keys.d))
  else if sel = 3 then
    if c.keys.e.isNone then .error Code.empty
    else
      let v := c.importSeed
      .ok ((Config.mlkemKeygen (v.take 64)).take 1568 ++ p384Pub (p384Key (slice v 64 56)))
  else .error Code.range

/-- CERT_READ. -/
def execCertRead (h : Mb) (selector : Nat) (s : State) : Host.Outcome State Fault Refusal :=
  s.act fun c => c.mbRun h { opcode := 0x0405, pf1 := true, halt := true } fun c =>
    match c.certItem selector with
    | .error code => refuse c code
    | .ok item => if h.outLen < item.length then refuse c Code.length else (c, { out := item })

/-! ## CBOR (R315, R316) -/

/-- The head of a CBOR item: major type and argument, in the shortest form (RFC 8949). -/
def cborHead (major n : Nat) : Bytes :=
  if n < 24 then toBe (32 * major + n) 1
  else if n < 2 ^ 8 then toBe (32 * major + 24) 1 ++ toBe n 1
  else if n < 2 ^ 16 then toBe (32 * major + 25) 1 ++ toBe n 2
  else if n < 2 ^ 32 then toBe (32 * major + 26) 1 ++ toBe n 4
  else toBe (32 * major + 27) 1 ++ toBe n 8

def cborUint (n : Nat) : Bytes := cborHead 0 n
def cborBstr (b : Bytes) : Bytes := cborHead 2 b.length ++ b
def cborTstr (t : String) : Bytes := cborHead 3 (ascii t).length ++ ascii t
def cborArray (l : List Bytes) : Bytes := cborHead 4 l.length ++ l.flatten
def cborMap (l : List (Bytes × Bytes)) : Bytes := cborHead 5 l.length ++ (l.map (fun e => e.1 ++ e.2)).flatten
def cborBool (b : Bool) : Bytes := toBe (if b then 0xF5 else 0xF4) 1

/-- The owner entries in force: those programmed before the last cold start (R320). -/
def Chip.owners (c : Chip) : List Bytes := c.keys.owners.take c.keys.inForce

/-- The lifecycle state (R319). -/
def Chip.lifecycle (c : Chip) : Nat :=
  if c.safe then 4 else if c.debugRoot then 3 else if c.owners = [] then 0 else if c.quarantined then 2 else 1

/-- Brings the lifecycle field up to date. -/
def Chip.syncLifecycle (c : Chip) : Chip := c.wr F.KEY_STATUS_lifecycle c.lifecycle

/-- The quality of time in the statement (R374). -/
def Chip.timeQuality (c : Chip) : Nat :=
  if c.rd F.TIM_STATE_state = servoLocked then 0 else if c.flag F.TIM_STATE_acquired then 1 else 2

/-- The measurements of R315: boot ROM, firmware, owner configuration, Sorrel programs. `overlay` gives the program in force of a
cluster when an overlay has replaced it (R149). -/
def Chip.measurements (c : Chip) (overlay : Nat → Option Bytes) : List Bytes :=
  let m (kind idx : Nat) (d : Bytes) : Bytes := cborArray [cborUint kind, cborUint idx, cborBstr d]
  let fw := (c.img.map (·.fwMeas)).getD []
  let cfg := (c.img.map (·.cfgMeas)).getD []
  let progs := (List.range 16).filterMap (fun k =>
    match overlay k with
    | some v => some (m 3 k (Config.sha384 v))
    | none => (c.recFor T.sorrelProgram k).map (fun v => m 3 k (Config.sha384 v)))
  [m 0 0 bootMeas, m 1 0 fw, m 2 0 cfg] ++ progs

/-- The payload map of a statement (R315). -/
def Chip.attestPayload (c : Chip) (overlay : Nat → Option Bytes) (nonce : Bytes) : Bytes :=
  let i := c.img
  let fuses := cborMap [
    (cborUint 1, cborUint c.owners.length), (cborUint 2, cborBstr (c.owners.getLast?.getD [])),
    (cborUint 3, cborUint (c.word R.MGT_ROLLBACK_FW).toNat), (cborUint 4, cborUint (c.word R.MGT_ROLLBACK_CFG).toNat),
    (cborUint 5, cborUint c.keys.revoked), (cborUint 6, cborBool true)]
  let items : List (Bytes × Bytes) := [
    (cborUint 1, cborBstr nonce), (cborUint 2, cborBstr c.peerId), (cborUint 3, cborTstr "NXV-9612-FC"),
    (cborUint 4, cborUint Config.siliconRev), (cborUint 5, fuses), (cborUint 6, cborUint (b2n c.debugRoot)),
    (cborUint 7, cborUint c.lifecycle), (cborUint 8, cborArray (c.measurements overlay)),
    (cborUint 9, cborArray [cborUint ((i.map (·.fwVer)).getD 0), cborUint ((i.map (·.sequence)).getD 0)]),
    (cborUint 10, cborArray [cborUint c.seconds, cborUint c.timeQuality]),
    (cborUint 11, cborArray [cborUint (c.word R.KEY_ERASE_COUNT).toNat, cborBool (c.flag F.TMP_STATUS_tamper_latch)])]
  let imp := match c.certItem 3 with
    | .ok pub => if c.keys.e.isSome then [(cborUint 12, cborBstr (Config.sha384 pub))] else []
    | .error _ => []
  cborMap (items ++ imp)

/-- The COSE_Sign statement over a payload (R316), with the random bytes of its signatures, and the jobs that make them; none when a
signature fails (R334, R336). -/
def Chip.attestSign (c : Chip) (payload rnd : Bytes) : Option Bytes × List PkeJob :=
  let v := (c.slot 5).value
  let pub := seedPublic v
  let prot0 : Bytes := toBe 0xA1013830 4
  let prot1 : Bytes := toBe 0xA1013822 4
  let tbs (p : Bytes) : Bytes := cborArray [cborTstr "Signature", cborBstr [], cborBstr p, cborBstr [], cborBstr payload]
  let kid (k : Bytes) : Bytes := cborMap [(cborUint 4, cborBstr ((Config.sha384 k).take 16))]
  let (sig, jobs) := signPair 5 v (tbs prot0) (Config.sha384 (tbs prot1)) rnd
  (sig.map (fun s => toBe 0xD862 2 ++ cborArray [cborBstr [], cborMap [], cborBstr payload, cborArray [
    cborArray [cborBstr prot0, kid (pub.take 1952), cborBstr s.1],
    cborArray [cborBstr prot1, kid (pub.drop 1952), cborBstr s.2]]]), jobs)

/-! ## Owner and share (R318 to R320) -/

/-- The answer of an owner or share command that has taken effect. (log entry 44, DEDUCED) -/
def ownerAnswer (i : Instr) : Answer := { code := Code.committed, jop := some (.cmd i) }

/-- Writes a fresh share and, with a digest, programs the next owner entry (R318), which is in force from the next cold start on (R320). -/
def Chip.newShare (c : Chip) (digest : Option Bytes) : Chip :=
  let (v, c) := c.random 32
  let c := ({ c with ao := { c.ao with share := v } }).wrb F.KEY_STATUS_share_present (v != fill 32 0)
  match digest with
  | none => c
  | some d => { c with keys := { c.keys with owners := c.keys.owners ++ [d] } }

/-- The lifecycle that gates the owner commands: quarantine outranks BLANK for SHARE_PROVISION only through R319's order. -/
def Chip.ownerState (c : Chip) (want : Nat) : Bool := c.lifecycle == want

/-- OWNER_PROVISION (R320). Once entry 0 is programmed the part waits for the cold start that puts it into force, and answers BUSY.
(log entry 44, DEDUCED) -/
def execOwnerProvision (h : Mb) (s : State) : Host.Outcome State Fault Refusal :=
  s.act fun c => c.mbRun h { opcode := 0x0410, long := true, commit := true, safe := c.start.blank, inOk := fun n => n == 5453 }
    fun c =>
      let id := h.inData.take 2048
      let msg := ascii "GLEORN-OWNER" ++ c.peerId ++ Config.sha384 id
      if !c.ownerState 0 || c.keys.owners != [] then refuse c Code.busy
      else if !c.pkeOk then refuse c Code.fault
      else
        let c := c.fwJobs none (verifyJobs id msg (h.inData.drop 2048))
        if !verifyPair id msg (h.inData.drop 2048) then refuse c Code.denied
        else (c.newShare (some (Config.sha384 id)), ownerAnswer (.ownerProvision h))

/-- OWNER_TRANSFER (R320). -/
def execOwnerTransfer (h : Mb) (s : State) : Host.Outcome State Fault Refusal :=
  s.act fun c => c.mbRun h { opcode := 0x0411, long := true, commit := true, inOk := fun n => n == 8858 } fun c =>
    let id := h.inData.take 2048
    let cur := ((c.rec1 T.ownerId).getD [])
    let msg := ascii "GLEORN-OWNER-XFER" ++ c.peerId ++ toLe c.keys.owners.length 1 ++ Config.sha384 id
    if !c.ownerState 1 then refuse c Code.busy
    else if 4 ≤ c.keys.owners.length then refuse c Code.range
    else if !c.pkeOk then refuse c Code.fault
    else
      let c := c.fwJobs none (verifyJobs cur msg (slice h.inData 2048 3405) ++ verifyJobs id msg (h.inData.drop 5453))
      if !verifyPair cur msg (slice h.inData 2048 3405) || !verifyPair id msg (h.inData.drop 5453) then refuse c Code.denied
      else (c.newShare (some (Config.sha384 id)), ownerAnswer (.ownerTransfer h))

/-- SHARE_PROVISION (R320): a fresh share, and the tamper latch is cleared. -/
def execShareProvision (h : Mb) (s : State) : Host.Outcome State Fault Refusal :=
  s.act fun c => c.mbRun h { opcode := 0x0412, long := true, commit := true, inOk := fun n => n == 3405 } fun c =>
    let msg := ascii "GLEORN-SHARE" ++ c.peerId ++ toBe (c.word R.KEY_ERASE_COUNT).toNat 4
    if !c.ownerState 2 then refuse c Code.busy
    else if !c.pkeOk then refuse c Code.fault
    else
      let cur := (c.rec1 T.ownerId).getD []
      let c := c.fwJobs none (verifyJobs cur msg h.inData)
      if !verifyPair cur msg h.inData then refuse c Code.denied
      else
        let c := (c.newShare none).wr F.TMP_STATUS_tamper_latch 0
        ({ c with ao := { c.ao with pinned := none } }, ownerAnswer (.shareProvision h))

/-! ## The debug port (R471 to R473) -/

/-- IDCODE (R471). -/
def idcodeWord : Nat := Config.siliconRev % 16 * 2 ^ 28 + 0x9612 * 2 ^ 12 + 0x2A5 * 2 + 1

/-- IDCODE: the instruction's register is captured. -/
def execIdcode (s : State) : Host.Outcome State Fault Refusal := s.act fun c => c.emit (.capture (toLe idcodeWord 4))

/-- SAMPLE/PRELOAD: the boundary register captures the pins, whose values are a free value, and takes the preload (IEEE 1149.1).
-/
def execSamplePreload (preload : Bytes) (s : State) : Host.Outcome State Fault Refusal :=
  s.act fun c =>
    let (v, c) := c.freeNat (8 * preload.length)
    ({ c with dbg := { c.dbg with preload := preload } }).emit (.capture (toLe v preload.length))

/-- EXTEST: before unlock it acts as BYPASS, whose register captures zero; afterwards the boundary register drives the preload
(R471). -/
def execExtest (s : State) : Host.Outcome State Fault Refusal :=
  s.act fun c =>
    if c.flag F.HST_DEBUG_session then c.emit (.capture c.dbg.preload) else c.emit (.capture [0])

/-- BYPASS: a one-bit register that captures zero (R471). -/
def execBypass (s : State) : Host.Outcome State Fault Refusal := s.act fun c => c.emit (.capture [0])

/-- DBG_STATUS: a copy of HST_DEBUG, which clears nothing (R471). -/
def execDbgStatus (s : State) : Host.Outcome State Fault Refusal :=
  s.act fun c => c.emit (.capture (toLe (c.word R.HST_DEBUG).toNat 4))

/-- DBG_CHALLENGE: each capture makes a new challenge; zeros during the lockout (R472, R473). -/
def execDbgChallenge (s : State) : Host.Outcome State Fault Refusal :=
  s.act fun c =>
    if c.ao.lockout then c.emit (.capture (fill 64 0))
    else
      let (r, c) := c.random 32
      let ch := c.peerId ++ r ++ toBe (c.word R.KEY_ERASE_COUNT).toNat 4 ++ toLe c.lifecycle 1 ++ fill 11 0
      ({ c with dbg := { c.dbg with challenge := some ch, issued := c.ao.timer } }).emit (.capture ch)

/-- debug_enable of HOST_CONFIG (R475). -/
def Chip.debugEnable (c : Chip) : Bool := bit (c.cfgNat T.hostConfig 1 1 7) 1

/-- The token's signature verifies (R472): owner keys that match the digest in force, or in BLANK a vendor pair not revoked. -/
def Chip.tokenOk (c : Chip) (ch token : Bytes) : Bool :=
  let msg := ascii "GLEORN-DEBUG" ++ Config.sha384 ch
  match c.owners.getLast? with
  | some d =>
    token.length == 5453 && Config.sha384 (token.take 2048) == d && verifyPair (token.take 2048) msg (token.drop 2048)
  | none =>
    (List.range 4).any (fun k => !bit c.keys.revoked k && verifyPair (Config.vendorKey k) msg token)

/-- The jobs of that check. -/
def Chip.tokenJobs (c : Chip) (ch token : Bytes) : List PkeJob :=
  let msg := ascii "GLEORN-DEBUG" ++ Config.sha384 ch
  if c.owners != [] then verifyJobs (token.take 2048) msg (token.drop 2048)
  else ((List.range 4).filter (fun k => !bit c.keys.revoked k)).flatMap (fun k => verifyJobs (Config.vendorKey k) msg token)

/-- Every slot is zeroised, and no expiry of an owner slot is left on the wheel (R289). -/
def Chip.emptySlots (c : Chip) : Chip :=
  let c := (c.wheelList.filter (fun x => x.2.type == 4)).foldl (fun c x => c.wheelPut x.1 none) c
  { c with keys := { c.keys with slots := [] }, time := { c.time with held := c.time.held.filter (fun x => x.2.type != 4) } }

/-- What a successful unlock does at once (R289, R327, R367, R473). (log entry 57, DEDUCED) -/
def Chip.unlock (c : Chip) : Chip :=
  let c := ((c.wr F.HST_DEBUG_unlocked 1).wr F.HST_DEBUG_session 1).wr F.HST_DEBUG_last_result 1
  let c := { c with ao := { c.ao with dbgFails := 0 } }
  let c := c.wr F.MGT_START_STATUS_debug_root 1
  let c := c.dropRequests.retireAll.wipePke.emptySlots
  c.deriveRoots.vaultDebug.fillSystem.fillDerived.makeAliasCerts.syncLifecycle

/-- A failed unlock: three in a row lock the port out for 600 s (R473). -/
def Chip.unlockFail (c : Chip) (result : Nat) : Chip :=
  let c := (c.wr F.HST_DEBUG_last_result result).sat F.HST_DEBUG_failures 1
  let n := c.ao.dbgFails + 1
  let c := { c with ao := { c.ao with dbgFails := n, lockout := c.ao.lockout || 3 ≤ n } }
  if 3 ≤ n then c.wr F.HST_DEBUG_lockout 1 else c

/-- DBG_UNLOCK: one token per challenge, within 60 s (R472, R473). Each attempt is recorded, event 0x19; during the lockout there is
no challenge to answer, and the attempt is refused. (log entry 56, DESIGN CHOICE) -/
def execDbgUnlock (token : Bytes) (s : State) : Host.Outcome State Fault Refusal :=
  s.act fun c =>
    let ch := c.dbg.challenge
    let c := { c with dbg := { c.dbg with challenge := none } }
    let c :=
      if c.ao.lockout then (c.wr F.HST_DEBUG_last_result 3).sat F.HST_DEBUG_failures 1
      else match ch with
        | none => c.unlockFail 3
        | some ch =>
          if !c.debugEnable || c.flag F.PKE_STATUS_fenced || c.dbg.issued + 60 * 1000000000 * nsUnit < c.ao.timer then c.unlockFail 3
          else
            let c := c.fwJobs none (c.tokenJobs ch token)
            if c.tokenOk ch token then c.unlock else c.unlockFail 2
    c.record Sub.mgmt.n 0x19 0 0 (c.word R.HST_DEBUG).toNat

/-- DBG_LOCK: ends the session; the test root remains until the next cold start (R473). -/
def execDbgLock (s : State) : Host.Outcome State Fault Refusal := s.act fun c => c.wr F.HST_DEBUG_session 0

/-- DEBUG_LOCKOUT_EXPIRY: 600 s have passed by the real-time counter (R473). -/
def execDebugLockoutExpiry (s : State) : Host.Outcome State Fault Refusal :=
  s.always fun c =>
    if !c.ao.lockout then c
    else
      let c := { c with ao := { c.ao with lockout := false, dbgFails := 0 } }
      if c.power then c.wr F.HST_DEBUG_lockout 0 else c

end Sys2Proof.Machine
end

