-- ==== Sys2Proof/Machine/Channel.lean ====
section
/-! DEFINITION. Secure channels and their SAs (R247 to R266, R281 to R286): the channel list, usage limits, PN allocation, epochs on
network time, and the link-control messages. -/

namespace Sys2Proof.Machine

/-! ## Channels (R247, R282) -/

/-- A channel entry of SC_TABLE (R282). -/
def chanOf (e : Bytes) : Chan :=
  let fl := byteAt e 3
  { sc := le e 0 2, port := byteAt e 2, tx := bit fl 0, flag1 := bit fl 1, count := if bit fl 2 then 4 else 2, offset := bits fl 3 2,
    suite := bits (byteAt e 4) 0 3, mode := bits (byteAt e 4) 3 2, profile := byteAt e 5, sci := slice e 8 8, ssci := le e 16 4,
    base := le e 20 4, w := le e 24 4 }

/-- The channels of one SC_TABLE value. -/
def tableChans (v : Bytes) : List Chan := (List.range (le v 4 4)).map (fun k => chanOf (entryAt v 776 32 k))

/-- The channel of an SC index. -/
def Chip.chan (c : Chip) (sc : Nat) : Option Chan := c.data.chans.find? (fun h => h.sc == sc)

def modeEpoch : Nat := 0
def modeMka : Nat := 1
def modeHost : Nat := 2

/-- The SA of an association number (R247). -/
def Chan.sa (h : Chan) (a : Nat) : Nat := h.base + a % h.count

/-- The SAs of a channel. -/
def Chan.sas (h : Chan) : List Nat := (List.range h.count).map (h.base + ·)

def Chip.scRun (c : Chip) (sc : Nat) : ScRun := Sparse.get {} c.data.scs sc

def Chip.setSc (c : Chip) (sc : Nat) (x : ScRun) : Chip :=
  { c with data := { c.data with scs := Sparse.set {} c.data.scs sc x } }

/-- The current transmit SA of a channel (R235). -/
def Chip.currentSa (c : Chip) (h : Chan) : Option Nat := h.sas.find? (fun i => (c.sa i).installed && (c.sa i).current)

/-- The receive SA of an association number, if it accepts frames (R225, R249). -/
def Chip.rxSa (c : Chip) (h : Chan) (an : Nat) : Option Nat :=
  let i := h.sa an
  if (c.sa i).installed && (c.sa i).accepting && (c.sa i).an == an then some i else none

/-- Channels of a port in a direction. -/
def Chip.portChans (c : Chip) (p : Nat) (tx : Bool) : List Chan := c.data.chans.filter (fun h => h.port == p && h.tx == tx)

/-- The SCI is sent (R228): explicit SCI of a transmit channel. -/
def Chan.explicitSci (h : Chan) : Bool := h.tx && h.flag1

/-- The suite is an XPN suite. -/
def isXpn (s : Nat) : Bool := s == 2 || s == 3

/-- The confidentiality offset in bytes (R231). -/
def Chan.offsetBytes (h : Chan) : Nat := if h.offset = 1 then 30 else if h.offset = 2 then 50 else 0

/-! ## The schedule (R257, R283) -/

def Chip.t0 (c : Chip) : Nat := c.cfgNat T.keySchedule 8 8 0
/-- L in s, O in ms, H of a profile. -/
def Chip.schedL (c : Chip) (p : Nat) : Nat := c.cfgNat T.keySchedule (24 + 32 * p) 4 86400
def Chip.schedO (c : Chip) (p : Nat) : Nat := c.cfgNat T.keySchedule (28 + 32 * p) 2 1
def Chip.schedH (c : Chip) (p : Nat) : Nat := c.cfgNat T.keySchedule (30 + 32 * p) 2 1

/-- The grid index at the time base (R257). -/
def Chip.grid (c : Chip) (p : Nat) : Nat := (c.seconds - c.t0) / max 1 (c.schedL p)

/-- Grid instant `g` in µs. -/
def Chip.gridUs (c : Chip) (p g : Nat) : Nat := (c.t0 + g * c.schedL p) * 1000000

/-- The epoch that begins at grid instant `g` (R257). (log entry 39, DEDUCED) -/
def ScRun.epochAt (x : ScRun) (g : Nat) : Nat := ((g : Int) + x.skip).toNat

/-! ## Usage limits (R253) -/

def softDefault (suite : Nat) : Nat := if 2 ≤ suite then 2 ^ 62 else 2 ^ 31
def hardLimit (suite : Nat) : Nat := if 2 ≤ suite then 2 ^ 64 - 2 ^ 16 else 2 ^ 32 - 2 ^ 16

/-- The profile whose usage limits a channel takes. -/
def Chan.limitProfile (h : Chan) : Nat := if h.mode = modeEpoch then h.profile else 0

def Chip.softPn (c : Chip) (h : Chan) : Nat :=
  let v := c.cfgNat T.keySchedule (32 + 32 * h.limitProfile) 8 0
  if v = 0 then softDefault h.suite else v

def Chip.softOctets (c : Chip) (h : Chan) : Nat := c.cfgNat T.keySchedule (40 + 32 * h.limitProfile) 8 0

/-- The SA can give no PN (R253, R281). -/
def Chip.saHeld (c : Chip) (h : Chan) (i : Nat) : Bool :=
  let x := c.sa i
  hardLimit h.suite ≤ x.nextPn || (h.mode == modeHost && x.ceiling ≤ x.nextPn)

/-! ## Keys of an epoch (R261, R262) -/

/-- The label of a channel: the transmitting part's peer_id and port on Denast, the SCI on MACsec (R261). The other end is the partner with
whom the secret was agreed, also while it is lost (R279). -/
def Chip.epochLabel (c : Chip) (h : Chan) : Bytes :=
  if c.isDenast h.port then
    let l := (c.port h.port).link
    if h.tx then c.peerId ++ toBe h.port 1 else l.peer ++ toBe l.peerPort 1
  else h.sci

/-- The secret from which the keys of grid index `g` are derived (R273). -/
def Chip.secretAt (c : Chip) (p g : Nat) : Bytes :=
  let l := (c.port p).link
  if l.pending != [] && l.adoptAt ≤ g then l.pending else l.current

/-- The 44 bytes of key and salt of an epoch (R261). -/
def Chip.deriveEpoch (c : Chip) (h : Chan) (secret : Bytes) (e : Nat) : Bytes := kmac secret (c.epochLabel h ++ toBe e 8) 352 "GLEORN-EPOCH"

def epochKey (sc e : Nat) : Nat := 2 ^ 64 * sc + e

/-- The vault's epoch-key area is brought to epochs up to e + H, with the key of e - 1 kept while it is there (R262); nothing is
added while the vault is closed. -/
def Chip.fillEpochs (c : Chip) (h : Chan) (e : Nat) : Chip :=
  let c := c.keepEpochs (fun x => x / 2 ^ 64 != h.sc || (e - 1 ≤ x % 2 ^ 64 && x % 2 ^ 64 ≤ e + c.schedH h.profile))
  if !c.vaultOpen then c
  else
    (List.range (c.schedH h.profile + 1)).foldl (fun c j =>
      let k := e + j
      let g := ((k : Int) - (c.scRun h.sc).skip).toNat
      let s := c.secretAt h.port g
      if s = [] || c.data.epochs.any (fun x => x.1 == epochKey h.sc k) then c
      else
        let l := (c.port h.port).link
        let v := c.deriveEpoch h s k ++ toLe (b2n (l.pending != [] && l.adoptAt ≤ g)) 1
        ({ c with data := { c.data with epochs := Sparse.set [] c.data.epochs (epochKey h.sc k) v } }).epochWrote h.sc k) c

/-- The key of epoch `e` that begins at grid index `g`: from the vault, or derived on demand (R258, R262). -/
def Chip.epochSecret (c : Chip) (h : Chan) (e g : Nat) : Bytes :=
  let v := Sparse.get [] c.data.epochs (epochKey h.sc e)
  if v = [] then c.deriveEpoch h (c.secretAt h.port g) e else v

/-! ## Installing and retiring (R249 to R252) -/

/-- Installs an SA: counters restart at zero (R249). -/
def Chip.installSa (c : Chip) (h : Chan) (an : Nat) (kv salt : Bytes) (x : Sa) : Chip :=
  let key := keyOf h.suite kv
  c.setSa (h.sa an) { x with installed := true, tx := h.tx, sc := h.sc, an := an, suite := h.suite, key := key,
                             subkey := Config.ctr key (fill 16 0) 16, salt := salt }

/-- The SA of epoch `e` under the secret of grid index `g` is in its slot. -/
def Chip.epochLoaded (c : Chip) (h : Chan) (e g : Nat) : Bool :=
  let x := c.sa (h.sa (e % 4))
  x.installed && x.epoch == e && x.secret == c.secretAt h.port g && !x.retireDue

/-- Loads the SA of epoch `e`, which begins at grid index `g`, neither current nor accepting (R258). A receive SA still in the slot is
retired by force (R259). -/
def Chip.loadEpoch (c : Chip) (h : Chan) (e g : Nat) : Chip :=
  let i := h.sa (e % 4)
  let x := c.sa i
  if c.epochLoaded h e g then c
  else
    let c := if !x.installed then c
      else (if h.tx || x.epoch == e then c else (c.bump (R.SAS_RETIRE_FORCED (pipeOf h.port))).attn 8).retireSa i
    let v := c.epochSecret h e g
    c.installSa h (e % 4) v (saltOf h.suite v) { epoch := e, w := h.w, ssci := h.ssci, secret := c.secretAt h.port g }

/-- Brings the secret field of a link's status up to date, and zeroises a secret that no SA and no adoption needs (R267): a channel that has
started its epochs still needs the current one for the next. (log entry 39, DEDUCED) -/
def Chip.settleLink (c : Chip) (p : Nat) : Chip :=
  let l := (c.port p).link
  let chans := c.data.chans.filter (fun h => h.port == p && h.mode == modeEpoch)
  let used := chans.any (fun h => h.sas.any (fun i => (c.sa i).installed && (c.sa i).secret == l.current))
  let due := l.pending != [] && chans.all (fun h => l.adoptAt ≤ c.grid h.profile)
  let l' : Link :=
    if due && !used then { l with current := l.pending, pending := [], adoptAt := 0 }
    else if used || chans.any (fun h => (c.scRun h.sc).on) then l
    else if chans = [] then { l with current := [], pending := [], adoptAt := 0 }
    else { l with current := [] }
  let c := if l' = l then c else c.setPort p { c.port p with link := l' }
  let l := (c.port p).link
  let c := c.wr (F.SAS_LINK_STATUS_secret p) (if l.pending != [] then 2 else if l.current != [] then 1 else 0)
  c.setNum (R.SAS_LINK_ADOPT p) 2 l.adoptAt

/-- Frames and containers of an SA that are in release (R251). -/
def Chip.inRelease (c : Chip) (p i : Nat) : Bool := (c.port p).release.any (fun r => r.sc.isSome && r.sa == i)

/-- Frames and containers assigned to a receive SA whose final check is to come (R252). -/
def Chip.inCheck (c : Chip) (i : Nat) : Bool :=
  (c.data.frames.filterMap (·.2)).any (fun f => f.verdict == 1 && f.waitIcv && f.sa == i) ||
    (c.data.boxes.filterMap (·.2)).any (fun b => b.sa == i)

/-- The key of an epoch that is over leaves the vault with its SA (R262). -/
def Chip.dropEpochKey (c : Chip) (sc e : Nat) : Chip :=
  if (c.scRun sc).epoch ≤ e then c
  else c.keepEpochs (· != epochKey sc e)

/-- Retires an SA once its last frame is through (R251, R252). -/
def Chip.retireWhenDone (c : Chip) (p i : Nat) : Chip :=
  let x := c.sa i
  if !x.installed then c
  else if (if x.tx then c.inRelease p i else c.inCheck i) then
    (c.setSa i { x with current := false, accepting := false, retireDue := true }).dropOpen x.sc
  else ((c.retireSa i).dropEpochKey x.sc x.epoch).settleLink p

/-- The first receive epoch under a new secret is loaded and accepted, once its slot is free (R252, R273). -/
def Chip.loadFirst (c : Chip) (h : Chan) : Chip :=
  match (c.scRun h.sc).loadDue with
  | none => c
  | some (e, g) =>
    let i := h.sa (e % 4)
    if (c.sa i).installed && (c.sa i).retireDue then c
    else
      let c := (c.setSc h.sc { c.scRun h.sc with loadDue := none }).loadEpoch h e g
      c.setSa i { c.sa i with accepting := true }

/-- SAs of a port whose retirement was waiting and whose last frame is through. -/
def Chip.retireDue (c : Chip) (p : Nat) : Chip :=
  (c.data.chans.filter (fun h => h.port == p)).foldl (fun c h =>
    (h.sas.foldl (fun c i => if (c.sa i).retireDue then c.retireWhenDone p i else c) c).loadFirst h) c

/-- Makes a transmit SA current between two commit cycles; the previous one retires after its last frame (R251). -/
def Chip.makeCurrent (c : Chip) (h : Chan) (i : Nat) : Chip :=
  let old := (c.currentSa h).filter (· != i)
  let c := c.setSa i { c.sa i with current := true }
  let c := c.setSc h.sc { c.scRun h.sc with blocked := false, late := false }
  match old with
  | none => c
  | some j => c.retireWhenDone h.port j

/-! ## The end of a receive epoch (R259, R262, R265) -/

/-- The old SAs of a receive channel are retired once the peer has proved its switch and the overlap has passed; their keys leave
the vault and the horizon moves on. -/
def Chip.settleRetire (c : Chip) (h : Chan) : Chip :=
  let x := c.scRun h.sc
  match x.retire with
  | none => c
  | some old =>
    if !x.proof || c.us < x.retireAt then c
    else
      let c := c.setSc h.sc { x with retire := none, proof := false }
      let c := h.sas.foldl (fun c i => if (c.sa i).installed && (c.sa i).epoch ≤ old then c.retireWhenDone h.port i else c) c
      let c := c.keepEpochs (fun k => k / 2 ^ 64 != h.sc || old < k % 2 ^ 64)
      c.fillEpochs h x.epoch

/-- The peer has proved that it sends under epoch `e`: RX_READY is repeated no more, and the epoch before it may retire. -/
def Chip.proof (c : Chip) (h : Chan) (e : Nat) : Chip :=
  let x := c.scRun h.sc
  if h.tx then c
  else
    let x := if (x.await.map (fun a => decide (a ≤ e))).getD false then { x with await := none } else x
    match x.retire with
    | none => c.setSc h.sc x
    | some old =>
      if e ≤ old then c.setSc h.sc x
      else
        let x := { x with proof := true, epoch := max x.epoch e, skip := if x.skipDue then x.skip + 1 else x.skip, skipDue := false }
        (c.setSc h.sc x).settleRetire h

/-! ## Link-control messages (R79, R269, R271, R277) -/

/-- A CONTROL container's bytes after the core header (R79). -/
def controlBytes (m : Bytes) : Bytes :=
  let head := toBe m.length 2 ++ toBe (crc16 (toBe m.length 2)) 2
  head ++ m ++ toLe (crc32 (head ++ m)) 4

/-- Sends a message on a Denast port; a halted part sends none (R431). -/
def Chip.sendControl (c : Chip) (p : Nat) (m : Bytes) : Chip := if c.halted then c else c.sendContainer p 2 (controlBytes m)

/-- The first 40 bytes of a 56-byte message (R271). -/
def Chip.messageHead (c : Chip) (p type code session value : Nat) : Bytes :=
  toBe type 1 ++ toBe 1 1 ++ toBe p 1 ++ toBe code 1 ++ c.peerId ++ toBe session 8 ++ toBe value 8 ++ fill 4 0

/-- Link-control frame of a MACsec port, without its FCS (R277): from the port's address to the partner's, EtherType 0x88B5. -/
def Chip.linkFrame (c : Chip) (p : Nat) (m : Bytes) : Bytes :=
  let own := ((c.portChans p true).map (·.sci)).headD (fill 8 0)
  let peer := ((c.port p).partner.map (·.id)).getD (fill 8 0)
  peer.take 6 ++ own.take 6 ++ toBe 0x88B5 2 ++ m

/-- Sends a frame that firmware makes itself, in clear, through the queue of the highest class (R123, R186). The spec names no class for
such a frame: the highest is the model's choice (log entry 73, DESIGN CHOICE). -/
def Chip.sendOwn (c : Chip) (p : Nat) (f : Bytes) : Chip := if c.halted then c else c.mgmtSend p 7 .clear f

/-- Sends a link-control message: a CONTROL container, or a frame that firmware sends in clear (R277). -/
def Chip.sendLink (c : Chip) (p : Nat) (m : Bytes) : Chip :=
  if c.isDenast p then c.sendControl p m else c.sendOwn p (c.linkFrame p m)

/-- A message of types 0x18 to 0x1A under the secret of a channel's SA. (log entry 17, DEDUCED) -/
def Chip.sendCtl (c : Chip) (h : Chan) (type value : Nat) (secret : Bytes) : Chip :=
  let m := c.messageHead h.port type 0 0 value
  c.sendLink h.port (m ++ kmac secret m 128 "GLEORN-CTL")

/-- The epoch that a channel's sender is known to send under: at the receive side the one before the switch whose proof is to come. -/
def Chip.provenEpoch (c : Chip) (h : Chan) : Nat :=
  let x := c.scRun h.sc
  if h.tx then x.epoch else x.retire.getD x.epoch

/-- The secret that a channel's control messages are keyed with (R271): that of its current SA, which at the receive side is the SA of the
epoch that the sender is known to send under; without one, the current secret of the link. (log entry 30, DEDUCED) -/
def Chip.ctlSecret (c : Chip) (h : Chan) : Bytes :=
  let x := c.sa (h.sa (c.provenEpoch h % 4))
  if x.installed && (if h.tx then x.current else x.epoch == c.provenEpoch h) then x.secret else (c.port h.port).link.current

def msgRxReady : Nat := 0x18
def msgTxSwitched : Nat := 0x19
def msgAdvanceReq : Nat := 0x1A
def msgAdopt : Nat := 0x1B

/-! ## Early advance (R265) -/

/-- An advance may start: none outstanding, and the next grid instant is not within 2O + 100 ms. -/
def Chip.advanceOk (c : Chip) (h : Chan) : Bool :=
  let x := c.scRun h.sc
  let next := c.gridUs h.profile (c.grid h.profile + 1)
  h.mode == modeEpoch && h.tx && x.on && x.advance.isNone && c.us + (2 * c.schedO h.profile + 100) * 1000 ≤ next

/-- Starts an early advance: ADVANCE_REQ for the next epoch (R265), which during a restart is sent late, by its repetition (R266). -/
def Chip.startAdvance (c : Chip) (h : Chan) : Chip :=
  if !c.advanceOk h then c
  else
    let x := c.scRun h.sc
    let c := c.setSc h.sc { x with advance := some (x.epoch + 1) }
    if c.firmware then c.sendCtl h msgAdvanceReq (x.epoch + 1) (c.ctlSecret h) else c

/-! ## State of a channel and of an SA as software reads them (R280) -/

/-- SAS_SC_STATUS of a channel. -/
def Chip.scStatusWord (c : Chip) (sc : Nat) : Nat :=
  match c.chan sc with
  | none => 0
  | some h =>
    let x := c.scRun sc
    let cur := if h.tx then c.currentSa h else
      (h.sas.filter (fun i => (c.sa i).installed && (c.sa i).accepting)).foldl
        (fun (b : Option Nat) i => match b with
          | none => some i
          | some j => if (c.sa j).epoch ≤ (c.sa i).epoch then some i else some j) none
    let s := (cur.map c.sa).getD {}
    let held := (c.port h.port).commits.any (fun q => q.held && q.sc == some sc)
    let state := if x.blocked then 4 else if held then 3 else if x.advance.isSome then 5 else if h.tx && x.await.isSome then 2
      else if cur.isSome then 1 else 0
    2 + 4 * b2n h.tx + 8 * h.mode + 32 * state + 256 * s.an + 1024 * b2n s.soft + 2048 * b2n s.hard + 4096 * b2n x.confirmed +
      8192 * b2n x.late + 16384 * h.profile

/-- Two's complement of a skip in 64 bits. -/
def Chip.scSkip (c : Chip) (sc : Nat) : Nat := ofSigned 64 (c.scRun sc).skip

/-- SC_STATE_COPY (SAS_SC_SEL). -/
def Chip.scCopy (c : Chip) (value : W32) : Chip :=
  let sc := bits value.toNat 0 16
  let c := c.wr F.SAS_SC_SEL_sc sc
  if !bit value.toNat 16 then c
  else
    let on := (c.chan sc).isSome
    let c := c.setWord R.SAS_SC_STATUS (BitVec.ofNat 32 (c.scStatusWord sc))
    (c.setNum R.SAS_SC_EPOCH 2 (if on then (c.scRun sc).epoch else 0)).setNum R.SAS_SC_SKIP 2 (if on then c.scSkip sc else 0)

/-- SC_STATE_COPY (R247): The go bit of SAS_SC_SEL copies a channel's state, epoch and skip. -/
def execScStateCopy (init : Nat) (value : W32) (s : State) : Host.Outcome State Fault Refusal :=
  s.act fun c => c.hostWrite init R.SAS_SC_SEL (fun c => c.scCopy value)

/-- CPH_SA_STATUS of an SA. -/
def Chip.saStatusWord (c : Chip) (i : Nat) : Nat :=
  let x := c.sa i
  let h := c.chan x.sc
  let off := (h.map (·.offset)).getD 0
  let ex := (h.map (·.explicitSci)).getD false
  if x.installed then 2 + 4 * b2n x.tx + 8 * x.suite + 64 * x.an + 256 * x.sc + 2 ^ 24 * off + 2 ^ 26 * b2n ex else 0

/-- The six numbers of CPH_SA_DATA, two words each. -/
def Sa.data (x : Sa) : List Nat :=
  [x.frames, x.octets, x.fails, if x.tx then x.nextPn else x.replays, if x.tx then 0 else x.nextPn, if x.tx then 0 else x.w]

/-- SA_STATE_COPY (CPH_SA_SEL): the counters of an SA stay readable until it is next installed (R252). -/
def Chip.saCopy (c : Chip) (value : W32) : Chip :=
  let i := bits value.toNat 0 17
  let c := (c.wr F.CPH_SA_SEL_sa i).wrb F.CPH_SA_SEL_clear (bit value.toNat 17)
  if !bit value.toNat 18 then c
  else
    let x := c.sa i
    let c := c.setWord R.CPH_SA_STATUS (BitVec.ofNat 32 (c.saStatusWord i))
    let c := (List.range 6).foldl (fun c k => c.setNum (R.CPH_SA_DATA (2 * k)) 2 (x.data.getD k 0)) c
    if bit value.toNat 17 then c.setSa i { x with frames := 0, octets := 0, fails := 0, replays := 0 } else c

/-- SA_STATE_COPY (R249): The go bit of CPH_SA_SEL copies an SA's state and counters, clearing the counters when asked. -/
def execSaStateCopy (init : Nat) (value : W32) (s : State) : Host.Outcome State Fault Refusal :=
  s.act fun c => c.hostWrite init R.CPH_SA_SEL (fun c => c.saCopy value)

/-- SC_STATUS (R280): SAS_SC_STATUS, the epoch and the skip. -/
def execScStatus (h : Mb) (sc : Nat) (s : State) : Host.Outcome State Fault Refusal :=
  s.act fun c => c.mbRun h { opcode := 0x0305, pf1 := true, outLen := 32 } fun c =>
    if 65535 < sc then refuse c Code.range
    else
      let on := (c.chan sc).isSome
      (c, { out := toLe (c.scStatusWord sc) 4 ++ fill 4 0 ++ toLe (if on then (c.scRun sc).epoch else 0) 8 ++
                     toLe (if on then c.scSkip sc else 0) 8 ++ fill 8 0 })

end Sys2Proof.Machine
end

