-- ==== Sys2Proof/Machine/Mka.lean ====
section
/-! DEFINITION. MKA on MACsec ports: MKPDUs, and the SAKs that the key server distributes (R275 to R277). -/

namespace Sys2Proof.Machine

/-- The MKA_CONFIG entry of a port (R285). -/
def Chip.mkaEntry (c : Chip) (p : Nat) : Option Bytes :=
  ((c.rec1 T.mkaConfig).map (fun v => countedEntries v 48)).getD [] |>.find? (fun e => byteAt e 0 == p)

/-- The SCI of a port's transmit channel. -/
def Chip.ownSci (c : Chip) (p : Nat) : Bytes := ((c.portChans p true).map (·.sci)).headD (fill 8 0)

/-- This part is the key server: the lowest priority, then the lowest SCI; 0xFF never is. (log entry 41, PRESUMED) -/
def Chip.keyServer (c : Chip) (p : Nat) : Bool :=
  match c.mkaEntry p with
  | none => false
  | some e =>
    let prio := byteAt e 1
    prio != 255 && (c.port p).mka.peers != [] &&
      (c.port p).mka.peers.all (fun q => prio < q.priority || (prio == q.priority && beNat (c.ownSci p) < beNat q.sci))

def Chip.setMka (c : Chip) (p : Nat) (f : Mka → Mka) : Chip := c.setPort p { c.port p with mka := f (c.port p).mka }

/-- The port's MKA_CONFIG entry has epoch set: SAKs yield link secrets (R277). -/
def Chip.mkaEpoch (c : Chip) (p : Nat) : Bool := ((c.mkaEntry p).map (fun e => bit (byteAt e 2) 1)).getD false

/-- The next PN of the port's current transmit SA, 0 without one (R254). -/
def Chip.mkaNextPn (c : Chip) (p : Nat) : Nat :=
  ((c.portChans p true).findSome? c.currentSa).elim 0 (fun i => (c.sa i).nextPn)

/-- What an MKPDU of a port conveys (R254, R275, R277): its key server priority, MACsec capability 3, cipher suite and confidentiality
offset; the latest key and its use; its next PN; whether it has a current link secret; the SAK that it distributes; and its live peers.
(log entry 41, PRESUMED) -/
def Chip.mkaParams (c : Chip) (p : Nat) (e : Bytes) : Bytes :=
  let k := (c.port p).mka
  let h := (c.portChans p true).head?
  toBe (byteAt e 1) 1 ++ toBe 3 1 ++ toBe ((h.map (·.suite)).getD 0) 1 ++ toBe ((h.map (·.offset)).getD 0) 1 ++
    toBe k.kn 4 ++ toBe k.an 1 ++ toBe (b2n k.rx) 1 ++ toBe (b2n k.tx) 1 ++ toBe (c.mkaNextPn p) 8 ++
    toBe (b2n (c.mkaEpoch p && (c.port p).link.current == [])) 1 ++ (if k.mine then k.key else []) ++ (k.peers.map (·.mi)).flatten

/-- Sends an MKPDU: addressed to 01-80-C2-00-00-03 under EtherType 0x888E, in clear. (log entry 17, DEDUCED) -/
def Chip.sendMkpdu (c : Chip) (p : Nat) : Chip :=
  match c.mkaEntry p with
  | none => c
  | some e =>
    let k := (c.port p).mka
    let body := Config.mkpdu (c.slot (le e 4 2)).value (slice e 8 (byteAt e 3)) k.mi (k.mn + 1) (c.mkaParams p e)
    let f := toBe 0x0180C2000003 6 ++ (c.ownSci p).take 6 ++ toBe 0x888E 2 ++ body
    (c.setMka p (fun k => { k with mn := k.mn + 1 })).sendOwn p f

/-- Installs a SAK on the MKA_DIRECT channels of a port, receive at once and accepting; it waits while the SA of its AN is still
installed (R276). (log entry 41, PRESUMED) -/
def Chip.installSak (c : Chip) (p : Nat) (k : Sak) : Chip :=
  let chans := c.data.chans.filter (fun h => h.port == p && h.mode == modeMka)
  if chans.any (fun h => (c.sa (h.sa k.an)).installed) then c.setMka p (fun m => { m with wait := some k, rx := false })
  else
    let c := chans.foldl (fun c h =>
      let ssci := ((k.sscis.find? (fun x => x.1 == h.sci)).map (·.2)).getD 0
      c.installSa h (k.an % 4) k.key k.salt { accepting := !h.tx, ssci := ssci, w := h.w }) c
    c.setMka p (fun m => { m with wait := none, rx := true })

/-- A distributed SAK takes effect: as SA keys, each SC with the SSCI that the key server assigns it, or as the source of a link secret
under the key server's member identifier, to be adopted with ADOPT (R276, R277). -/
def Chip.takeSak (c : Chip) (p : Nat) (k : Sak) (serverMi : Bytes) (mine : Bool) : Chip :=
  let c := c.setMka p (fun m => { m with mine := mine, kn := k.kn, an := k.an % 4, key := k.key, rx := true, tx := false })
  if c.mkaEpoch p then
    let x := c.port p
    c.setPort p { x with link := { x.link with fresh := kmac k.key (fit 12 serverMi ++ toBe k.kn 4) 256 "GLEORN-MKA-LINK", adopt := 0 } }
  else c.installSak p k

/-- The SSCIs of a group: the highest SCI has 1, and so on down. (log entry 41, PRESUMED) -/
def ssciOf (scis : List Bytes) : List (Bytes × Nat) := scis.map (fun s => (s, 1 + (scis.filter (fun r => beNat s < beNat r)).length))

/-- The key server draws and distributes a new SAK; without fresh random bytes it cannot (R293). (log entry 41, PRESUMED) -/
def Chip.newSak (c : Chip) (p : Nat) : Chip :=
  if !c.rbgOk then c
  else
    let m := (c.port p).mka
    let suite := ((c.portChans p true).map (·.suite)).headD 0
    let (v, c) := c.random (if suite = 0 || suite = 2 then 16 else 32)
    let k : Sak := { an := if m.kn = 0 then 0 else (m.an + 1) % 4, kn := m.kn + 1, key := v, salt := fit 12 (Config.mkaSalt m.mi (m.kn + 1)),
                     sscis := ssciOf (c.ownSci p :: m.peers.map (·.sci)) }
    (c.takeSak p k m.mi true).sendMkpdu p

/-- A transmit SA of an MKA_DIRECT channel is at its soft limit: the key server distributes a new SAK, unless one is already on its way into
use (R254). -/
def Chip.mkaSoft (c : Chip) (p : Nat) : Chip :=
  let m := (c.port p).mka
  if c.firmware && m.running && c.keyServer p && m.tx && m.wait.isNone then c.newSak p else c

end Sys2Proof.Machine
end

