-- ==== Sys2Proof/Machine/Limits.lean ====
section
/-! DEFINITION. What the next PN of an SA may reach: usage limits, ceilings and the allocation of PNs (R235, R253 to R255, R281). -/

namespace Sys2Proof.Machine

/-! ## PN allocation (R235, R253 to R255, R281) -/

/-- A HOST SA whose next_pn comes near its ceiling has a new one journaled, in either direction (R281). -/
def Chip.raiseCeiling (c : Chip) (h : Chan) (i : Nat) : Chip :=
  let x := c.sa i
  if h.mode = modeHost && x.ceilNext = x.ceiling && x.ceiling ≤ x.nextPn + 2 ^ 38 then
    (c.setSa i { x with ceilNext := x.ceiling + 2 ^ 40 }).journalAhead (.pnCeiling i (x.ceiling + 2 ^ 40))
  else c

/-- The limits that a transmit SA has reached after an allocation (R253 to R255). -/
def Chip.checkLimits (c : Chip) (h : Chan) (i : Nat) : Chip :=
  let x := c.sa i
  let k := pipeOf h.port
  let soft := c.softPn h ≤ x.nextPn || (c.softOctets h != 0 && c.softOctets h ≤ x.octets)
  let c := if soft && !x.soft then
      let c := ((c.setSa i { x with soft := true }).attn 12).bump (R.SAS_SOFT k)
      if h.mode = modeEpoch then c.startAdvance h else if h.mode = modeMka then c.mkaSoft h.port else c
    else c
  let x := c.sa i
  let c := if hardLimit h.suite ≤ x.nextPn && !x.hard then
      let c := ((c.setSa i { x with hard := true }).attn 12).bump (R.SAS_HARD k)
      if h.mode = modeEpoch then c.startAdvance h else c
    else c
  c.raiseCeiling h i

/-- Gives the SA's next PN to a frame of `octets` bytes (R235). (log entry 31, DEDUCED) -/
def Chip.takePn (c : Chip) (h : Chan) (i octets : Nat) : Nat × Chip :=
  let x := c.sa i
  let c := c.setSa i { x with nextPn := x.nextPn + 1, frames := x.frames + 1, octets := x.octets + octets }
  (x.nextPn, c.checkLimits h i)

end Sys2Proof.Machine
end

