-- ==== Sys2Proof/Machine/Engine.lean ====
section
/-! DEFINITION. A Sorrel engine: bundles, slots and the run of a program on one frame (R124 to R143). -/

namespace Sys2Proof.Machine

/-! ## Programs and tables (R133, R148) -/

/-- The SORREL_PROGRAM value of a cluster in force (R149). -/
def Chip.program (c : Chip) (cl : Nat) : Bytes :=
  let x := Sparse.get {} c.data.clusters cl
  if x.overlay != [] then x.overlay else (c.recFor T.sorrelProgram cl).getD []

/-- Bundle count N, and bundle `i`. -/
def progN (v : Bytes) : Nat := le v 2 2
def progBundle (v : Bytes) (i : Nat) : Nat := le v (160 + 8 * i) 8

/-- Port descriptor of a line port and direction: entry, default action, default class, default SC, default tenant. -/
def progPort (v : Bytes) (p dir : Nat) : Bytes := slice v (4 + 8 * (2 * (p % 6) + dir)) 8

/-- Table descriptor: kind, entries, miss value. -/
def progTable (v : Bytes) (t : Nat) : Nat × Nat × Nat := (byteAt v (104 + 8 * t), le v (106 + 8 * t) 2, le v (108 + 8 * t) 4)

/-- The entries of a table. -/
def Chip.table (c : Chip) (cl t : Nat) : List (Option TabEntry) := Sparse.get [] c.data.tables (8 * cl + t)

/-- A lookup (R133): `a` is rs and `b` is rs + 1. -/
def Chip.lookup (c : Chip) (v : Bytes) (cl t a b : Nat) : Nat :=
  let (kind, _, miss) := progTable v t
  let es := c.table cl t
  let hit : Option TabEntry :=
    if kind = 1 then (es.filterMap id).find? (fun e => e.key == a)
    else if kind = 2 then (es.filterMap id).find? (fun e => e.key == a * 2 ^ 32 + b)
    else if kind = 3 then (es[a]?).getD none
    else if kind = 4 then (es.filterMap id).find? (fun e => (a * 2 ^ 32 + b) &&& e.mask == e.key &&& e.mask)
    else none
  (hit.map (·.value)).getD miss

/-- SCSTAT (R133). -/
def Chip.scStat (c : Chip) (p sc : Nat) : Nat :=
  match c.chan sc with
  | none => 0
  | some h =>
    if !h.tx then 0
    else
      let s := (c.currentSa h).map c.sa
      let x := s.getD {}
      b2n (h.sas.any (fun i => (c.sa i).installed)) + 2 * x.an + 8 * b2n x.soft + 16 * b2n x.hard +
        32 * b2n (c.flag (F.PRT_DEFECT_rd_tx h.port)) + 64 * b2n (h.port == p)

/-! ## ALU and relations (R128, R129) -/

/-- Thirty-two bits. -/
def w32 (n : Nat) : Nat := n % 2 ^ 32

/-- An ALU op on `a` and the operands that the format gives: rs2 or imm32 as `b`, imm5 as `i`. -/
def aluOp (op a b i : Nat) (wide : Bool) : Option Nat :=
  if op = 0x01 then some (w32 (a + b))
  else if op = 0x02 then some (w32 (a + 2 ^ 32 - b))
  else if op = 0x03 then some (a &&& b)
  else if op = 0x04 then some (a ||| b)
  else if op = 0x05 then some (a ^^^ b)
  else if op = 0x0B then some (if wide then b else a)
  else if wide then none
  else if op = 0x06 then some (w32 (a * 2 ^ (b % 32)))
  else if op = 0x07 then some (a / 2 ^ (b % 32))
  else if op = 0x08 then some (w32 (a + i))
  else if op = 0x09 then some (w32 (a * 2 ^ i))
  else if op = 0x0A then some (a / 2 ^ i)
  else if op = 0x0C then some (a &&& i)
  else if op = 0x0D then some (crc32c 0xFFFFFFFF (toBe a 4 ++ toBe b 4))
  else if op = 0x0E then some (min a b)
  else none

/-- A relation of R129. -/
def relOp (rel a b : Nat) : Bool :=
  if rel = 0 then a == b
  else if rel = 1 then a != b
  else if rel = 2 then a < b
  else if rel = 3 then b ≤ a
  else if rel = 4 then toSigned 32 a < toSigned 32 b
  else if rel = 5 then toSigned 32 b ≤ toSigned 32 a
  else if rel = 6 then a &&& b != 0
  else a &&& b == 0

/-- Registers that an ALU slot reads. -/
def aluReads (op rs1 rs2 : Nat) : List Nat :=
  if op = 0 then [] else if op ≤ 0x07 || op = 0x0D || op = 0x0E then [rs1, rs2] else [rs1]

/-! ## The engine (R125 to R131) -/

/-- What a run needs to know of its frame and port. -/
structure RunCtx where
  prog    : Bytes
  cluster : Nat
  port    : Nat
  ingress : Bool
  win     : Bytes
  limit   : Nat
  /-- The port's encapsulation; and it is paired. -/
  encap   : Nat
  paired  : Bool
  /-- The disposition that the frame starts with (R137). -/
  start   : Run

/-- An engine in the course of a run. -/
structure Eng where
  g    : List Nat
  f    : List Bool := [false, false, false, false]
  /-- Lookups outstanding: first cycle in which rd may be used, rd, value. -/
  out  : List (Nat × Nat × Nat) := []
  pc   : Nat := 0
  cyc  : Nat := 1
  run  : Run

/-- A register; g0 reads zero. -/
def Eng.reg (e : Eng) (r : Nat) : Nat := if r = 0 then 0 else e.g.getD r 0

/-- Writes a register; a write to g0 is discarded. -/
def Eng.setReg (e : Eng) (r v : Nat) : Eng := if r = 0 then e else { e with g := e.g.set r (w32 v) }

def Eng.flag (e : Eng) (k : Nat) : Bool := e.f.getD k false

/-- The disposition `r` under the default action of a port and direction (R143, R148). -/
def defaultRun (d : Bytes) (r : Run) : Run :=
  let a := byteAt d 2
  let t := if a = 0 then Terminal.drop else if a = 1 then .accept else if a = 2 then .protect (le d 4 2) else .bypass
  { r with terminal := some t, dflt := true }

/-- A run whose held actions are discarded, with the tallies of the engine (R138, R142). -/
def Eng.lost (e : Eng) (x : RunCtx) (cyc : Nat) : Run :=
  { x.start with cycles := cyc, stalls := e.run.stalls, branches := e.run.branches, lookups := e.run.lookups }

/-- A run that ends on a bad action (R138). -/
def Eng.bad (e : Eng) (x : RunCtx) (cyc : Nat) : Run :=
  { defaultRun (progPort x.prog x.port (if x.ingress then 0 else 1)) (e.lost x cyc) with bad := true }

/-- The TA slot takes effect (R130). -/
def Eng.taOn (e : Eng) (ta : Nat) : Bool := !bit ta 16 || (e.flag (bits ta 13 2) ^^ bit ta 15)

/-- Registers that a bundle reads or writes, with a TA slot counted only when it takes effect (R134). (log entry 33, DEDUCED) -/
def Eng.touches (e : Eng) (v : Bytes) (b : Nat) : List Nat :=
  let fmt := bits b 62 2
  let xc := bits b 22 20
  let ta := bits b 0 22
  let alu := bits b 42 20
  let aluT := if fmt = 1 then
      (if bits b 57 5 = 0 then [] else if bits b 57 5 = 0x0B then [bits b 52 5] else [bits b 52 5, bits b 47 5])
    else if fmt = 0 then (if bits alu 15 5 = 0 then [] else bits alu 10 5 :: aluReads (bits alu 15 5) (bits alu 5 5) (bits alu 0 5))
    else if bits alu 17 3 = 3 then [bits alu 4 5] else []
  if fmt = 1 then aluT
  else
    let x := bits xc 16 4
    let xT := if x = 1 then bits xc 11 5 :: (if bit xc 0 then [31] else []) else if x = 2 then [bits xc 6 5, bits xc 1 5]
      else if x = 3 then [bits xc 6 5] else []
    let op := bits ta 17 5
    let taT := if !e.taOn ta then []
      else if op = 1 then
        let k := (progTable v (bits ta 10 3)).1
        [bits ta 5 5, bits ta 0 5] ++ (if k = 2 || k = 4 then [(bits ta 0 5 + 1) % 32] else [])
      else if op = 2 then [bits ta 5 5, bits ta 0 5]
      else if op = 4 then (if bit ta 12 then [bits ta 0 5] else [])
      else if op = 5 || op = 6 || op = 7 || op = 9 || op = 0x13 then [bits ta 0 5] else []
    aluT ++ xT ++ taT

/-- A lookup slot that takes effect. -/
def Eng.isLookup (e : Eng) (b : Nat) : Bool :=
  bits b 62 2 != 1 && (bits b 17 5 == 1 || bits b 17 5 == 2) && e.taOn (bits b 0 22)

/-- The cycle in which a bundle issues, after its stalls (R134). -/
def Eng.issueCycle (e : Eng) (v : Bytes) (b : Nat) : Nat :=
  let t := e.touches v b
  let need := e.out.foldl (fun n (o : Nat × Nat × Nat) => if n < o.1 && o.2.1 != 0 && t.contains o.2.1 then o.1 else n) e.cyc
  if !e.isLookup b then need
  else
    let pend := (e.out.filter (fun o => need < o.1)).map (·.1)
    if pend.length < 4 then need else max need (pend.foldl min (pend.headD 0))

/-- Lookups that have landed by a cycle write their registers. -/
def Eng.land (e : Eng) (cyc : Nat) : Eng :=
  (e.out.filter (fun o => o.1 ≤ cyc)).foldl (fun e o => e.setReg o.2.1 o.2.2) { e with out := e.out.filter (fun o => cyc < o.1) }

/-- Bytes of the window that EXT reads, zero past the end (R129). -/
def extBytes (w : Bytes) (o n : Nat) : Nat := beNat ((List.range n).map (fun k => w.getD (o + k) 0))

/-- What a TA slot does: a bad action, a terminal action, or the engine with an action held. -/
inductive TaEnd where
  | bad | stop (t : Terminal) | go (e : Eng)

/-- The latency of a table (R133). -/
def tableLatency (t : Nat) : Nat := if t < 4 then 4 else if t < 6 then 2 else 3

/-- The TA slot (R130, R136, R138), which reads `old`, the engine as the bundle issued. That SETEGRESS with the reserved kind 3 is a bad
action on a paired port too, where R137 takes SETEGRESS without effect, is the model's choice (log entry 73, DESIGN CHOICE). -/
def taSlot (c : Chip) (x : RunCtx) (old e : Eng) (ta cyc : Nat) : TaEnd :=
  let op := bits ta 17 5
  let rs := old.reg (bits ta 0 5)
  let r := e.run
  if op = 0 || !old.taOn ta then .go e
  else if op = 1 then
    let t := bits ta 10 3
    if t = 7 || (progTable x.prog t).1 = 0 then .bad
    else
      let v := c.lookup x.prog x.cluster t rs (old.reg ((bits ta 0 5 + 1) % 32))
      .go { e with out := e.out ++ [(cyc + tableLatency t, bits ta 5 5, v)], run := { r with lookups := r.lookups + 1 } }
  else if op = 2 then
    .go { e with out := e.out ++ [(cyc + 8, bits ta 5 5, c.scStat x.port (rs % 65536))], run := { r with lookups := r.lookups + 1 } }
  else if op = 4 then .go { e with run := { r with cls := (if bit ta 12 then rs else bits ta 0 3) % 8 } }
  else if op = 5 then if x.ingress then .go { e with run := { r with tenant := rs % 4096 } } else .bad
  else if op = 6 then
    if !x.ingress || bits rs 16 2 = 3 then .bad
    else .go (if x.paired then e else { e with run := { r with egress := bits rs 0 18 } })
  else if op = 7 then if x.ingress then .go { e with run := { r with metadata := rs } } else .bad
  else if op = 8 || op = 9 then
    if 4 ≤ r.counts.length then .bad
    else .go { e with run := { r with counts := r.counts ++ [(if op = 8 then bits ta 0 13 else rs % 8192)] } }
  else if op = 0x10 then if x.ingress then .stop .accept else .bad
  else if op = 0x11 then .stop .drop
  else if op = 0x12 then if x.ingress then .stop (.punt (bits ta 0 8)) else .bad
  else if op = 0x13 then if x.ingress || x.encap = 0 then .bad else .stop (.protect (rs % 65536))
  else if op = 0x14 then if x.ingress || x.encap = 2 then .bad else .stop .bypass
  else .bad

/-- ALU and XC slots of a bundle, which read `e` and write at its end (R127). -/
def Eng.slots (e : Eng) (win : Bytes) (b : Nat) : Eng :=
  let fmt := bits b 62 2
  let alu := bits b 42 20
  let xc := bits b 22 20
  let a : Option (Nat × Nat) := if fmt = 1 then (aluOp (bits b 57 5) (e.reg (bits b 47 5)) (bits b 15 32) 0 true).map (fun v => (bits b 52 5, v))
    else if fmt = 0 then
      (aluOp (bits alu 15 5) (e.reg (bits alu 5 5)) (e.reg (bits alu 0 5)) (bits alu 0 5) false).map (fun v => (bits alu 10 5, v))
    else none
  let x := if fmt = 1 then 0 else bits xc 16 4
  let v := if x = 1 then some (bits xc 11 5, extBytes win (bits xc 3 8 + (if bit xc 0 then e.reg 31 % 256 else 0)) (bits xc 1 2 + 1)) else none
  let fl := if x = 2 then some (bits xc 14 2, relOp (bits xc 11 3) (e.reg (bits xc 6 5)) (e.reg (bits xc 1 5)))
    else if x = 3 then some (bits xc 14 2, relOp (bits xc 11 3) (e.reg (bits xc 6 5)) (bits xc 0 6))
    else if x = 4 then
      let p := e.flag (bits xc 12 2)
      let q := e.flag (bits xc 10 2)
      let o := bits xc 8 2
      some (bits xc 14 2, if o = 0 then p && q else if o = 1 then p || q else if o = 2 then p && !q else p ^^ q)
    else none
  let e := match a with | some (r, y) => e.setReg r y | none => e
  let e := match v with | some (r, y) => e.setReg r y | none => e
  match fl with | some (k, y) => { e with f := e.f.set k y } | none => e

/-- The branch of a bundle as it issued: where execution passes (R127, R131). -/
def Eng.branch (e : Eng) (b : Nat) : Nat × Bool :=
  let s := bits b 42 20
  let cond := bits s 17 3
  if bits b 62 2 != 2 then (e.pc + 1, false)
  else if cond = 0 then (bits s 4 11, true)
  else if cond = 3 then (e.reg (bits s 4 5) % 2048, true)
  else if e.flag (bits s 15 2) == (cond == 1) then (bits s 4 11, true)
  else (e.pc + 1, false)

/-- Runs a program; `fuel` bounds the cycles (R141). -/
def Eng.go (c : Chip) (x : RunCtx) : Nat → Eng → Run
  | 0, e => { e.lost x x.limit with overran := true }
  | fuel + 1, e =>
    if x.limit < e.cyc then { e.lost x x.limit with overran := true }
    else if progN x.prog ≤ e.pc then e.bad x e.cyc
    else
      let b := progBundle x.prog e.pc
      let cyc := e.issueCycle x.prog b
      if x.limit < cyc then { e.lost x x.limit with overran := true, stalls := e.run.stalls + (x.limit + 1 - e.cyc) }
      else
        let e := { e with run := { e.run with stalls := e.run.stalls + (cyc - e.cyc), cycles := cyc } }
        let e := e.land cyc
        let (next, taken) := e.branch b
        let e' := e.slots x.win b
        match taSlot c x e e' (if bits b 62 2 = 1 then 0 else bits b 0 22) cyc with
        | .bad => e.bad x cyc
        | .stop t => { e'.run with terminal := some t, cycles := cyc }
        | .go e' =>
          let r := if taken then { e'.run with branches := e'.run.branches + 1, cycles := cyc + 1 } else e'.run
          Eng.go c x fuel { e' with pc := next, cyc := if taken then cyc + 2 else cyc + 1, run := r }

/-! ## Preload (R125) -/

/-- The registers that both directions load alike. -/
def preCommon (p : Parsed) (win : Bytes) : List Nat :=
  [p.etype,
   p.tags.headD 0 + 65536 * (p.tags.tail.headD 0),
   p.l3 % 256 + 256 * p.l4 + 2 ^ 16 * p.kind + 2 ^ 20 * p.proto + 2 ^ 28 * b2n p.frag +
     2 ^ 29 * b2n p.more + 2 ^ 30 * b2n p.sumBad,
   p.ds + 256 * p.ttl + 65536 * p.len,
   p.dport + 65536 * p.sport,
   be win 2 4,
   be win 0 2 + 65536 * be win 6 2,
   be win 8 4,
   p.dst]

/-- The limit of R141 for a frame of F bytes. -/
def cycleLimit (rate gap f : Nat) : Nat := min 2048 (64 * (f + gap) / (5 * rate))

/-- Runs the program of a port and direction on a frame. `g1f` is F as g1 gives it; `g2` and `g3` as R125 loads them; `cls` and
`tenant` are the disposition's start (R137). -/
def Chip.runProgram (c : Chip) (prog : Bytes) (p dir : Nat) (frame : Bytes) (g1f g2 g3 cls tenant : Nat) : Run :=
  let d := progPort prog p dir
  let q := c.parse frame
  let win := window frame
  let g1 := g1f % 65536 + 2 ^ 16 * p + 2 ^ 23 * dir + 2 ^ 24 * (byteAt d 3 % 8) + 2 ^ 27 * q.tags.length + 2 ^ 29 * b2n q.llc
  let g := [0, g1, g2, g3] ++ preCommon q win ++ List.replicate 19 0
  let x : RunCtx := { prog := prog, cluster := clusterOf p, port := p, ingress := dir == 0, win := win, encap := c.encap p,
                      paired := c.paired p, start := { terminal := none, cls := cls, tenant := tenant },
                      limit := cycleLimit (rateOf (c.mode p)) (if c.isDenast p then 0 else 20) frame.length }
  Eng.go c x 2049 { g := g, pc := le d 0 2, run := x.start }

end Sys2Proof.Machine
end

