-- ==== Sys2Proof/Machine/Forward.lean ====
section
/-! DEFINITION. Forwarding and learning: the MAC tables and their move engine, learning, ageing, flushes, the LPM store, next hops,
and the host's operations on them (R150 to R173). -/

namespace Sys2Proof.Machine

/-! ## FWD_CONFIG (R171) -/

def Chip.fwdRec (c : Chip) (k : Nat) : Bytes := (c.recFor T.fwdConfig k).getD []
def Chip.ageOnDst (c : Chip) (k : Nat) : Bool := bit (byteAt (c.fwdRec k) 12) 0
def Chip.learnSync (c : Chip) (k : Nat) : Bool := bit (byteAt (c.fwdRec k) 12) 1
def Chip.hashSeed (c : Chip) (k b : Nat) : Nat := le (c.fwdRec k) (4 + 4 * b) 4
def Chip.v6Rows (c : Chip) (k : Nat) : Nat := le (c.fwdRec k) 14 2
def Chip.routerMac (c : Chip) (k i : Nat) : Nat := be (c.fwdRec k) (16 + 6 * i) 6

/-- Where a port's entry stands among the 36 of its pipeline. -/
def fwdPortIx (p : Nat) : Nat := if p < 96 then p % 24 else if p < 120 then 24 + (p - 96) % 6 else 30 + (p - 120) % 6

def Chip.fwdPort (c : Chip) (p : Nat) : Bytes := slice (c.fwdRec (pipeOf p)) (64 + 4 * fwdPortIx p) 4
def Chip.defaultFid (c : Chip) (p : Nat) : Nat := le (c.fwdPort p) 0 2
def Chip.learns (c : Chip) (p : Nat) : Bool := bit (byteAt (c.fwdPort p) 2) 0 && !c.paired p
def Chip.routes (c : Chip) (p : Nat) : Bool := bit (byteAt (c.fwdPort p) 2) 1
def Chip.flushOnDown (c : Chip) (p : Nat) : Bool := bit (byteAt (c.fwdPort p) 2) 2
def Chip.vidMap (c : Chip) (k vid : Nat) : Nat := le (c.fwdRec k) (208 + 2 * vid) 2
def Chip.floodGroup (c : Chip) (k fid : Nat) : Nat := le (c.fwdRec k) (8400 + 2 * fid) 2

/-! ## The MAC table (R154 to R158) -/

def Chip.pipe (c : Chip) (k : Nat) : Pipe := Sparse.get {} c.data.pipes k

def Chip.setPipe (c : Chip) (k : Nat) (x : Pipe) : Chip :=
  { c with data := { c.data with pipes := Sparse.set {} c.data.pipes k x } }

/-- The candidate bucket of a key in a bank (R154). -/
def Chip.bucket (c : Chip) (k b fid mac : Nat) : Nat := crc32c (c.hashSeed k b) (toBe fid 2 ++ toBe mac 6) % 16384

/-- The position of a way. -/
def macPos (bank bucket way : Nat) : Nat := 65536 * bank + 4 * bucket + way

/-- The positions of the two candidate buckets, in the order of R157 step 1. -/
def Chip.candidates (c : Chip) (k fid mac : Nat) : List Nat :=
  (List.range 2).flatMap (fun b => (List.range 4).map (fun w => macPos b (c.bucket k b fid mac) w))

def Chip.macAt (c : Chip) (k pos : Nat) : MacEntry := Sparse.get {} (c.pipe k).mac pos

/-- Writes a way in one write, and brings the counts of entries up to date. -/
def Chip.setMac (c : Chip) (k pos : Nat) (e : MacEntry) : Chip :=
  let old := c.macAt k pos
  let x := c.pipe k
  let c := c.setPipe k { x with mac := Sparse.set {} x.mac pos e }
  let c := c.wr (F.FWD_MAC_STATUS_used k) (c.rd (F.FWD_MAC_STATUS_used k) + b2n e.valid - b2n old.valid)
  c.wr (F.FWD_MAC_STATIC_static k) (c.rd (F.FWD_MAC_STATIC_static k) + b2n (e.valid && e.static) - b2n (old.valid && old.static))

/-- The position of the valid entry of a key, pending or not. -/
def Chip.macFind (c : Chip) (k fid mac : Nat) : Option Nat :=
  (c.candidates k fid mac).find? (fun pos => let e := c.macAt k pos; e.valid && e.fid == fid && e.mac == mac)

/-- The entry that a lookup finds: valid, and not pending (R155). -/
def Chip.macLookup (c : Chip) (k fid mac : Nat) : Option (Nat × MacEntry) :=
  match c.macFind k fid mac with
  | some pos => if (c.macAt k pos).pending then none else some (pos, c.macAt k pos)
  | none => none

/-- One write of the move engine: the destination copy, then the clearing of the source, then at the end the new entry (R157). -/
def Chip.moveOnce (c : Chip) (k : Nat) : Chip :=
  match (c.pipe k).chain with
  | none => c
  | some ch =>
    match ch.moves with
    | [] =>
      let c := c.setMac k ch.target ch.entry
      let c := c.setPipe k { c.pipe k with chain := none }
      (c.wr (F.FWD_MAC_STATUS_move_busy k) 0).mark (F.FWD_MAC_STATUS_max_chain k) ch.len
    | (src, dst) :: rest =>
      if ch.copied then
        let c := c.setMac k src {}
        c.setPipe k { c.pipe k with chain := some { ch with moves := rest, copied := false } }
      else
        let c := c.setMac k dst (c.macAt k src)
        c.setPipe k { c.pipe k with chain := some { ch with copied := true } }

/-- The copy that a hit sets its bit in: the destination copy of an entry whose move is half done (R157). -/
def Chip.liveCopy (c : Chip) (k pos : Nat) : Nat :=
  match ((c.pipe k).chain.bind (fun ch => if ch.copied then ch.moves.head? else none)) with
  | some (src, dst) => if src = pos then dst else pos
  | none => pos

/-- A lookup hit sets the hit bit of an entry. -/
def Chip.setHit (c : Chip) (k pos : Nat) : Chip := c.setMac k (c.liveCopy k pos) { c.macAt k (c.liveCopy k pos) with hit := true }

/-- Runs the chain in progress to its end: a change to an entry that moves waits for it (R158). (log entry 32, DEDUCED) -/
def Chip.finishChain (c : Chip) (k : Nat) : Chip := (List.range 18).foldl (fun c _ => c.moveOnce k) c

/-- The first free way of a list of positions. -/
def Chip.freeWay (c : Chip) (k : Nat) (l : List Nat) : Option Nat := l.find? (fun pos => !(c.macAt k pos).valid)

/-- Breadth-first search for a relocation path (R157): each path is a list of positions, the last taken first; `seen` are the buckets
examined, all full. -/
def Chip.findPath (c : Chip) (k : Nat) : Nat → List (List Nat) → List Nat → Option (Nat × List Nat)
  | 0, _, _ => none
  | _ + 1, [], _ => none
  | fuel + 1, path :: rest, seen =>
    match path with
    | [] => Chip.findPath c k fuel rest seen
    | pos :: _ =>
      let e := c.macAt k pos
      let bank := 1 - pos / 65536
      let bk := 65536 * bank + 4 * c.bucket k bank e.fid e.mac
      let ways := (List.range 4).map (bk + ·)
      if seen.contains bk then Chip.findPath c k fuel rest seen
      else if 512 ≤ seen.length then none
      else
        match c.freeWay k ways with
        | some w => some (w, path)
        | none => Chip.findPath c k fuel (if 8 ≤ path.length then rest else rest ++ ways.map (fun w => w :: path)) (bk :: seen)

/-- The moves of a path, from its free end back: each entry goes to the place before it. -/
def pathMoves : Nat → List Nat → List (Nat × Nat)
  | _, [] => []
  | free, p :: ps => (p, free) :: pathMoves p ps

/-- Places a new entry (R157): a free way at once; else a chain is begun; none when no path of 8 moves exists. -/
def Chip.macPlace (c : Chip) (k : Nat) (e : MacEntry) : Option Chip :=
  let c := c.finishChain k
  let cand := c.candidates k e.fid e.mac
  match c.freeWay k cand with
  | some pos => some (c.setMac k pos e)
  | none =>
    match c.findPath k 2056 (cand.map (fun p => [p])) [cand.headD 0, cand.getD 4 0] with
    | none => none
    | some (free, path) =>
      let moves := pathMoves free path
      let c := c.setPipe k { c.pipe k with chain := some { entry := e, moves := moves, target := path.getLastD 0, len := moves.length } }
      some (c.wr (F.FWD_MAC_STATUS_move_busy k) 1)

/-- RELOCATION_MOVE: the next write of the chain in progress (R157). -/
def execRelocationMove (pipe : Nat) (s : State) : Host.Outcome State Fault Refusal := s.actOn (pipe < 4) (fun c => c.moveOnce pipe)

/-! ## Synchronisation events (R162) -/

/-- A confirmed learn, port change or removal enters the queue of a pipeline with learn_sync. -/
def Chip.syncEvent (c : Chip) (k : Nat) (e : SyncEvent) : Chip :=
  if !c.learnSync k then c
  else
    let x := c.pipe k
    if 4096 ≤ x.events.length then (c.setPipe k { x with rescan := true }).bump (R.FWD_SYNC_LOST k)
    else c.setPipe k { x with events := x.events ++ [e] }

/-- Removes the entry at a position. -/
def Chip.macRemove (c : Chip) (k pos : Nat) : Chip :=
  let e := c.macAt k pos
  let c := c.setMac k pos {}
  if e.valid && !e.static && !e.sync && !e.pending then c.syncEvent k { removal := true, fid := e.fid, mac := e.mac, port := e.dest }
  else c

/-- Firmware writes a sync entry: over a learned or sync entry, never a static one. -/
def Chip.syncWrite (c : Chip) (k fid mac port : Nat) : Chip :=
  let c := c.finishChain k
  let e : MacEntry := { valid := true, sync := true, dest := port, fid := fid, mac := mac }
  match c.macFind k fid mac with
  | some pos => if (c.macAt k pos).static || (c.macAt k pos).pending then c else c.setMac k pos e
  | none => ((c.macPlace k e).map (fun c => c.finishChain k)).getD c

/-- Firmware removes the sync entries of a key that it wrote for a port. -/
def Chip.syncRemove (c : Chip) (k fid mac port : Nat) : Chip :=
  let c := c.finishChain k
  match c.macFind k fid mac with
  | some pos => let e := c.macAt k pos; if e.sync && e.dest == port then c.setMac k pos {} else c
  | none => c

/-- The other pipelines that synchronise with a pipeline. -/
def Chip.syncTargets (c : Chip) (k : Nat) : List Nat := (List.range 4).filter (fun j => j != k && c.learnSync j)

/-- SYNC_EVENT_APPLY: firmware acts on the oldest event of a pipeline's queue. -/
def execSyncEventApply (pipe : Nat) (s : State) : Host.Outcome State Fault Refusal :=
  s.actOn (pipe < 4) fun c =>
    match (c.pipe pipe).events with
    | [] => c
    | e :: es =>
      if !c.firmware then c
      else
        let c := c.setPipe pipe { c.pipe pipe with events := es }
        (c.syncTargets pipe).foldl (fun c j =>
          if e.removal then c.syncRemove j e.fid e.mac e.port else c.syncWrite j e.fid e.mac e.port) c

/-- A confirmed learned entry. -/
def MacEntry.learned (e : MacEntry) : Bool := e.valid && !e.pending && !e.static && !e.sync

/-- SYNC_RESCAN: after a lost event firmware rescans the origin table: its learned entries are written, and sync entries that name
its ports without a learned entry are removed. -/
def execSyncRescan (pipe : Nat) (s : State) : Host.Outcome State Fault Refusal :=
  s.actOn (pipe < 4) fun c =>
    if !c.firmware || !(c.pipe pipe).rescan then c
    else
      let c := c.setPipe pipe { c.pipe pipe with rescan := false }
      let mine := ((c.pipe pipe).mac.map (·.2)).filter MacEntry.learned
      (c.syncTargets pipe).foldl (fun c j =>
        let stale := ((c.pipe j).mac.map (·.2)).filter (fun e => e.sync && pipeOf e.dest == pipe &&
          !mine.any (fun m => m.fid == e.fid && m.mac == e.mac))
        let c := stale.foldl (fun c e => c.syncRemove j e.fid e.mac e.dest) c
        mine.foldl (fun c m => c.syncWrite j m.fid m.mac m.dest) c) c

/-! ## Learning (R159, R160) -/

/-- Pending operations of a pipeline. -/
def Chip.pendingOps (c : Chip) (k : Nat) : List (Nat × Learn) := (c.pipe k).learns.filterMap (fun e => e.2.map (fun l => (e.1, l)))

def Chip.setLearn (c : Chip) (k i : Nat) (l : Option Learn) : Chip :=
  let x := c.pipe k
  c.setPipe k { x with learns := Sparse.set none x.learns i l }

/-- A frame teaches its source: a pending entry, a held port change, a hit to come, or nothing. -/
def Chip.learn (c : Chip) (i : Nat) (f : Frame) (fid mac : Nat) : Chip :=
  let k := pipeOf f.port
  if (c.pendingOps k).any (fun o => o.2.fid == fid && o.2.mac == mac) then c
  else
    let op (fresh : Bool) (c : Chip) : Chip :=
      (c.setLearn k i (some { fid := fid, mac := mac, port := f.port, fresh := fresh })).setFrame i (some { f with learn := some (k, i) })
    let full := 256 ≤ (c.pendingOps k).length
    match c.macFind k fid mac with
    | none =>
      if full then c.bump (R.FWD_LEARN_DROP k)
      else
        match c.macPlace k { valid := true, pending := true, dest := f.port, fid := fid, mac := mac } with
        | none => c.bump (R.FWD_LEARN_FULL k)
        | some c => op true c
    | some pos =>
      let e := c.macAt k pos
      if e.static then c.bump (R.FWD_STATIC_MOVE k)
      else if !e.sync && e.kind == 0 && e.dest == f.port then c.setFrame i (some { f with hit := some (fid, mac) })
      else if full then c.bump (R.FWD_LEARN_DROP k)
      else op false c

/-- The teaching frame becomes eligible: its operation is confirmed, or its hit is set (R160, R163). The spec does not say what a
confirmed entry's age bits are; the model starts it at hit 1 and stale 0 (log entry 73, DESIGN CHOICE). -/
def Chip.learnConfirm (c : Chip) (f : Frame) : Chip :=
  let k := pipeOf f.port
  let c := match f.learn with
    | none => c
    | some (k, i) =>
      match Sparse.get none (c.pipe k).learns i with
      | none => c
      | some l =>
        let c := (c.finishChain k).setLearn k i none
        match c.macFind k l.fid l.mac with
        | none => c
        | some pos =>
          let e := c.macAt k pos
          let c := c.setMac k pos { e with pending := false, sync := false, kind := 0, dest := l.port, hit := true, stale := false }
          let c := c.bump (if l.fresh then R.FWD_LEARN k else R.FWD_MOVES k)
          c.syncEvent k { removal := false, fid := l.fid, mac := l.mac, port := l.port }
  match f.hit with
  | none => c
  | some (fid, mac) =>
    match c.macFind k fid mac with
    | some pos => c.setHit k pos
    | none => c

/-- The teaching frame fails: its operation is withdrawn (R22, R160). -/
def Chip.learnWithdraw (c : Chip) (f : Frame) : Chip :=
  match f.learn with
  | none => c
  | some (k, i) =>
    match Sparse.get none (c.pipe k).learns i with
    | none => c
    | some l =>
      let c := ((c.finishChain k).setLearn k i none).bump (R.FWD_WITHDRAW k)
      if !l.fresh then c
      else
        match c.macFind k l.fid l.mac with
        | some pos => if (c.macAt k pos).pending then c.setMac k pos {} else c
        | none => c

/-- A host write or delete of a key cancels a pending operation on it (R161). -/
def Chip.learnCancel (c : Chip) (k fid mac : Nat) : Chip :=
  let ops := (c.pendingOps k).filter (fun o => o.2.fid == fid && o.2.mac == mac)
  ops.foldl (fun c o =>
    let c := c.setLearn k o.1 none
    match c.macFind k fid mac with
    | some pos => if (c.macAt k pos).pending then c.setMac k pos {} else c
    | none => c) (c.finishChain k)

/-! ## Ageing and flushing (R163 to R165) -/

/-- The sweeper at one entry; `reading` are positions that a lookup reads in the same bank cycle (R164). -/
def Chip.sweepEntry (c : Chip) (k : Nat) (reading : List Nat) (pos : Nat) : Chip :=
  let e := c.macAt k pos
  if !e.valid || e.static || e.sync || e.pending then c
  else if e.hit then c.setMac k pos { e with hit := false, stale := false }
  else if !e.stale then c.setMac k pos { e with stale := true }
  else if reading.contains pos then c
  else (c.macRemove k pos).bump (R.FWD_AGED k)

def Chip.sweep (c : Chip) (k : Nat) (reading : List Nat) : Chip :=
  let c := c.finishChain k
  ((c.pipe k).mac.map (·.1)).foldl (fun c pos => c.sweepEntry k reading pos) c

/-- AGE_SWEEP: the sweep of a pipeline that the wheel starts (R163, R384). -/
def execAgeSweep (entry : Nat) (reading : List Nat) (s : State) : Host.Outcome State Fault Refusal :=
  s.actOn (entry < 4096) fun c => c.fire entry 7 fun w c => c.sweep (w.arg % 4) reading

/-- Removes the entries of a pipeline that match; static ones only when asked (R165). -/
def Chip.flush (c : Chip) (k : Nat) (port fid : Option Nat) (static : Bool) : Chip :=
  let c := c.finishChain k
  ((c.pipe k).mac.map (·.1)).foldl (fun c pos =>
    let e := c.macAt k pos
    let m := e.valid && !e.pending && (static || !e.static) && (port.isNone || (e.kind == 0 && some e.dest == port)) &&
      (fid.isNone || some e.fid == fid)
    if m then c.macRemove k pos else c) c

/-! ## LPM store (R167, R168) -/

/-- Rows by which an entry is counted: the store's rows for IPv4; row pairs for IPv6. -/
def lpmKey (v6 : Bool) (row : Nat) : Nat := if v6 then 2 * row else row

def Chip.lpmAt (c : Chip) (k : Nat) (v6 : Bool) (row : Nat) : LpmRow := Sparse.get {} (c.pipe k).lpm (lpmKey v6 row)

def Chip.setLpm (c : Chip) (k : Nat) (v6 : Bool) (row : Nat) (r : LpmRow) : Chip :=
  let old := c.lpmAt k v6 row
  let x := c.pipe k
  let c := c.setPipe k { x with lpm := Sparse.set {} x.lpm (lpmKey v6 row) r }
  let f := if v6 then F.FWD_LPM_STATUS_v6_used k else F.FWD_LPM_STATUS_v4_used k
  c.wr f (c.rd f + b2n r.valid - b2n old.valid)

/-- The bits of an address family, and its region starts, longest prefix first. -/
def famBits (v6 : Bool) : Nat := if v6 then 128 else 32
def Pipe.starts (x : Pipe) (v6 : Bool) : List Nat := if v6 then x.v6 else x.v4
def Pipe.setStarts (x : Pipe) (v6 : Bool) (l : List Nat) : Pipe := if v6 then { x with v6 := l } else { x with v4 := l }

/-- First row past an area, in the area's own rows. -/
def Chip.lpmEnd (c : Chip) (k : Nat) (v6 : Bool) : Nat := if v6 then c.v6Rows k / 2 else 16384

/-- The rows of region `j` (0 the longest length): from its start to the next region's. -/
def Chip.region (c : Chip) (k : Nat) (v6 : Bool) (j : Nat) : Nat × Nat :=
  let l := (c.pipe k).starts v6
  (l.getD j (c.lpmEnd k v6), l.getD (j + 1) (c.lpmEnd k v6))

def Chip.regionRows (c : Chip) (k : Nat) (v6 : Bool) (j : Nat) : List Nat :=
  let (a, b) := c.region k v6 j
  (List.range (b - a)).map (a + ·)

/-- Valid rows of a region. -/
def Chip.regionUsed (c : Chip) (k : Nat) (v6 : Bool) (j : Nat) : List Nat := (c.regionRows k v6 j).filter (fun r => (c.lpmAt k v6 r).valid)

/-- A free row of a region: the one past its last entry, else the first. -/
def Chip.regionFree (c : Chip) (k : Nat) (v6 : Bool) (j : Nat) : Option Nat :=
  let rows := c.regionRows k v6 j
  let last := (c.regionUsed k v6 j).getLast?
  match rows.find? (fun r => !(c.lpmAt k v6 r).valid && (match last with | some l => decide (l < r) | none => true)) with
  | some r => some r
  | none => rows.find? (fun r => !(c.lpmAt k v6 r).valid)

/-- The address matches a row's prefix. -/
def lpmMatch (v6 : Bool) (a : Nat) (r : LpmRow) : Bool := r.valid && a / 2 ^ (famBits v6 - r.len) == r.pfx / 2 ^ (famBits v6 - r.len)

/-- A lookup: the lowest matching row wins (R167). The store lists only valid rows, in rising order. -/
def Chip.lpmLookup (c : Chip) (k : Nat) (v6 : Bool) (a : Nat) : Option Nat :=
  let lim := c.v6Rows k
  ((c.pipe k).lpm.find? (fun e => decide (e.1 < lim) == v6 && lpmMatch v6 a e.2)).map (·.2.nh)

/-- Copies an entry into the free row, then invalidates its source (R168); a row that is free already needs no copy. -/
def Chip.lpmCopy (c : Chip) (k : Nat) (v6 : Bool) (src free : Nat) : Chip :=
  if (c.lpmAt k v6 src).valid then (c.setLpm k v6 free (c.lpmAt k v6 src)).setLpm k v6 src {} else c

/-- Begins region `j` at another row. -/
def Chip.setStart (c : Chip) (k : Nat) (v6 : Bool) (j row : Nat) : Chip :=
  c.setPipe k ((c.pipe k).setStarts v6 (((c.pipe k).starts v6).set j row))

/-- One row of region `m` is freed at its longer side for the free row that it takes in (R168): the region begins one row later. The
second component is the row freed. -/
def Chip.lpmDown (c : Chip) (k : Nat) (v6 : Bool) (m free : Nat) : Chip × Nat :=
  let first := (c.region k v6 m).1
  ((c.lpmCopy k v6 first free).setStart k v6 m (first + 1), first)

/-- One row of region `m` is freed at its shorter side for the free row that it takes in (R168): the region after it begins there. -/
def Chip.lpmUp (c : Chip) (k : Nat) (v6 : Bool) (m free : Nat) : Chip × Nat :=
  let last := (c.region k v6 m).2 - 1
  ((c.lpmCopy k v6 last free).setStart k v6 (m + 1) last, last)

/-- The regions that give up a row each when region `m` gives a free row to region `j`, `m` first (R168). -/
def lpmWay (j m : Nat) : List Nat :=
  if j < m then (List.range (m - j)).map (fun d => m - d) else (List.range (j - m)).map (fun d => m + d)

/-- The moves that this takes: a region whose row at that side is free already is not copied. -/
def Chip.lpmMoves (c : Chip) (k : Nat) (v6 : Bool) (j m : Nat) : Nat :=
  ((lpmWay j m).filter (fun q =>
    let (first, past) := c.region k v6 q
    first < past && (c.lpmAt k v6 (if j < m then first else past - 1)).valid)).length

/-- The region whose free row is reachable with fewest moves; on a tie, the shorter prefixes, and the nearer region of a side (R168). -/
def Chip.nearestFree (c : Chip) (k : Nat) (v6 : Bool) (j : Nat) : Option Nat :=
  let shorter := (List.range (famBits v6 - j)).map (fun d => j + 1 + d)
  let longer := (List.range j).reverse
  ((shorter ++ longer).filter (fun m => (c.regionFree k v6 m).isSome)).foldl (fun (b : Option Nat) m =>
    match b with
    | none => some m
    | some x => if c.lpmMoves k v6 j m < c.lpmMoves k v6 j x then some m else some x) none

/-- Takes a free row from region `m` to region `j`, one row of each region between moving (R168). -/
def Chip.bringFree (c : Chip) (k : Nat) (v6 : Bool) (j m : Nat) : Chip × Nat :=
  (lpmWay j m).foldl (fun (y : Chip × Nat) q => if j < m then y.1.lpmDown k v6 q y.2 else y.1.lpmUp k v6 q y.2)
    (c, (c.regionFree k v6 m).getD 0)

/-- Inserts or replaces a prefix (R168); none when the area has no free row. -/
def Chip.lpmInsert (c : Chip) (k : Nat) (v6 : Bool) (pfx len nh : Nat) : Option Chip :=
  let j := famBits v6 - len
  let row : LpmRow := { valid := true, len := len, pfx := pfx, nh := nh }
  match (c.regionUsed k v6 j).find? (fun r => (c.lpmAt k v6 r).pfx == pfx) with
  | some r => some (c.setLpm k v6 r row)
  | none =>
    match c.regionFree k v6 j with
    | some r => some (c.setLpm k v6 r row)
    | none =>
      match c.nearestFree k v6 j with
      | none => none
      | some m => let (c, r) := c.bringFree k v6 j m; some (c.setLpm k v6 r row)

/-- Invalidates a prefix's row; none when the prefix is absent. -/
def Chip.lpmDelete (c : Chip) (k : Nat) (v6 : Bool) (pfx len : Nat) : Option Chip :=
  ((c.regionUsed k v6 (famBits v6 - len)).find? (fun r => (c.lpmAt k v6 r).pfx == pfx)).map (fun r => c.setLpm k v6 r {})

/-- First rows of the regions for counts of entries by length, longest first: free rows spread evenly, the remainder to the shortest
lengths (R167). -/
def spreadRegions (first total : Nat) (counts : List Nat) : List Nat :=
  let n := counts.length
  let free := total - counts.sum
  (counts.foldl (fun (y : List Nat × Nat × Nat) cnt =>
    let extra := free / n + b2n (n - free % n ≤ y.2.2)
    (y.1 ++ [y.2.1], y.2.1 + cnt + extra, y.2.2 + 1)) ([], first, 0)).1

/-! ## Host operations (R170) -/

/-- A destination that R170 refuses. -/
def Chip.badDest (c : Chip) (kind dest : Nat) : Bool :=
  3 < kind || (kind == 0 && (143 < dest || c.paired dest)) || (kind == 1 && 16384 ≤ dest)

/-- Carries an operation out in every pipeline of a mask: the failure mask, and the code of the lowest that fails (R170, R460). -/
def Chip.onPipes (c : Chip) (pipes : Nat) (f : Chip → Nat → Except Nat Chip) : Chip × Nat × Option Nat :=
  (List.range 4).foldl (fun (y : Chip × Nat × Option Nat) k =>
    if !bit pipes k then y
    else
      match f y.1 k with
      | .ok c => (c, y.2.1, y.2.2)
      | .error e => (y.1, y.2.1 + 2 ^ k, y.2.2.orElse (fun _ => some e))) (c, 0, none)

/-- A pipeline command in some of its pipelines. -/
def inPipes (i : Instr) (pipes : Nat) : Instr :=
  match i with
  | .fwdMacWrite h _ kind fid dest mac => .fwdMacWrite h pipes kind fid dest mac
  | .fwdMacDelete h _ fid mac => .fwdMacDelete h pipes fid mac
  | .fwdFlush h _ mtch port fid => .fwdFlush h pipes mtch port fid
  | .fwdLpmWrite h _ v6 len nh pfx => .fwdLpmWrite h pipes v6 len nh pfx
  | .fwdLpmDelete h _ v6 len pfx => .fwdLpmDelete h pipes v6 len pfx
  | .fwdNhWrite h _ index entry => .fwdNhWrite h pipes index entry
  | i => i

/-- The answer of a pipeline command. What stands in some pipelines is journaled for those though it fails in the others (R170). -/
def pipesAnswer (y : Chip × Nat × Option Nat) (i : Instr) (pipes : Nat) (commit : Bool) : Chip × Answer :=
  (y.1, { code := y.2.2.getD (if commit then Code.committed else Code.ok), result := y.2.1,
          jop := if commit && y.2.2.isNone then some (.cmd i) else none,
          part := if commit && y.2.2.isSome && y.2.1 != pipes then some (.cmd (inPipes i (pipes - y.2.1))) else none })

/-- Journals what stands of a command that failed in part (R53, R170). -/
def journalPart (y : Chip × Answer) : Chip × Answer := (y.2.part.elim y.1 y.1.journalAhead, y.2)

/-- A write or delete of a key first cancels the operations that wait on it, whatever becomes of the write or delete (R161). -/
def Chip.cancelOn (c : Chip) (pipes fid mac : Nat) : Chip :=
  (List.range 4).foldl (fun c k => if bit pipes k then c.learnCancel k fid mac else c) c

/-- Writes a static entry in a pipeline (R161). -/
def Chip.macWrite (c : Chip) (k kind fid dest mac : Nat) : Except Nat Chip :=
  let c := c.learnCancel k fid mac
  let e : MacEntry := { valid := true, static := true, kind := kind, dest := dest, fid := fid, mac := mac }
  match c.macFind k fid mac with
  | some pos => .ok (c.setMac k pos e)
  | none => match c.macPlace k e with
    | some c => .ok (c.finishChain k)
    | none => .error Code.tableFull

/-- FWD_MAC_WRITE (R170). -/
def Chip.fwdMacWrite (c : Chip) (i : Instr) (pipes kind fid dest mac : Nat) : Chip × Answer :=
  if 15 < pipes || 4095 < fid || c.badDest kind dest then refuse c Code.range
  else pipesAnswer (c.cancelOn pipes fid mac |>.onPipes pipes (fun c k => c.macWrite k kind fid dest mac)) i pipes true

/-- FWD_MAC_WRITE (R170): The command writes a static MAC entry in the named pipelines. -/
def execFwdMacWrite (h : Mb) (pipes kind fid dest : Nat) (mac : Bytes) (s : State) : Host.Outcome State Fault Refusal :=
  s.act fun c => c.mbRun h { opcode := 0x0210, commit := true } fun c =>
    journalPart (c.fwdMacWrite (.fwdMacWrite h pipes kind fid dest mac) pipes kind fid dest (be mac 0 6))

/-- FWD_MAC_DELETE (R170): EMPTY in a pipeline without the key. -/
def Chip.fwdMacDelete (c : Chip) (i : Instr) (pipes fid mac : Nat) : Chip × Answer :=
  if 15 < pipes || 4095 < fid then refuse c Code.range
  else
    pipesAnswer (c.cancelOn pipes fid mac |>.onPipes pipes (fun c k =>
      match c.macFind k fid mac with
      | some pos => .ok (c.macRemove k pos)
      | none => .error Code.empty)) i pipes true

/-- FWD_MAC_DELETE (R170): The command deletes a MAC entry in the named pipelines. -/
def execFwdMacDelete (h : Mb) (pipes fid : Nat) (mac : Bytes) (s : State) : Host.Outcome State Fault Refusal :=
  s.act fun c => c.mbRun h { opcode := 0x0211, commit := true } fun c =>
    journalPart (c.fwdMacDelete (.fwdMacDelete h pipes fid mac) pipes fid (be mac 0 6))

/-- FWD_FLUSH (R165): COMMITTED when static entries are asked for. -/
def Chip.fwdFlush (c : Chip) (i : Instr) (pipes mtch port fid : Nat) : Chip × Answer :=
  if 15 < pipes || 7 < mtch || mtch % 4 = 0 || (bit mtch 0 && 143 < port) || (bit mtch 1 && 4095 < fid) then refuse c Code.range
  else
    pipesAnswer (c.onPipes pipes (fun c k =>
      .ok (c.flush k (if bit mtch 0 then some port else none) (if bit mtch 1 then some fid else none) (bit mtch 2)))) i pipes (bit mtch 2)

/-- FWD_FLUSH (R165): The command removes the entries that match a port, a FID or both. -/
def execFwdFlush (h : Mb) (pipes mtch port fid : Nat) (s : State) : Host.Outcome State Fault Refusal :=
  s.act fun c => c.mbRun h { opcode := 0x0212, commit := bit mtch 2 } fun c => journalPart (c.fwdFlush (.fwdFlush h pipes mtch port fid) pipes mtch port fid)

/-- The prefix of a command, as a number of the family's width, and whether it has bits beyond its length. -/
def prefixOf (v6 : Bool) (len : Nat) (p : Bytes) : Nat × Bool :=
  let n := be p 0 (famBits v6 / 8)
  (n, famBits v6 < len || n % 2 ^ (famBits v6 - len) != 0)

/-- FWD_LPM_WRITE (R168, R170). -/
def Chip.fwdLpmWrite (c : Chip) (i : Instr) (pipes : Nat) (v6 : Bool) (len nh : Nat) (pfx : Bytes) : Chip × Answer :=
  let (n, bad) := prefixOf v6 len pfx
  if 15 < pipes || bad || 4096 ≤ nh then refuse c Code.range
  else
    pipesAnswer (c.onPipes pipes (fun c k =>
      match c.lpmInsert k v6 n len nh with
      | some c => .ok c
      | none => .error Code.tableFull)) i pipes true

/-- FWD_LPM_WRITE (R168): The command inserts a prefix into the LPM store, keeping the order of regions. -/
def execFwdLpmWrite (h : Mb) (pipes : Nat) (ipv6 : Bool) (len nh : Nat) (pfx : Bytes) (s : State) : Host.Outcome State Fault Refusal :=
  s.act fun c => c.mbRun h { opcode := 0x0213, commit := true } fun c =>
    journalPart (c.fwdLpmWrite (.fwdLpmWrite h pipes ipv6 len nh pfx) pipes ipv6 len nh pfx)

/-- FWD_LPM_DELETE (R168, R170). -/
def Chip.fwdLpmDelete (c : Chip) (i : Instr) (pipes : Nat) (v6 : Bool) (len : Nat) (pfx : Bytes) : Chip × Answer :=
  let (n, bad) := prefixOf v6 len pfx
  if 15 < pipes || bad then refuse c Code.range
  else
    pipesAnswer (c.onPipes pipes (fun c k =>
      match c.lpmDelete k v6 n len with
      | some c => .ok c
      | none => .error Code.empty)) i pipes true

/-- FWD_LPM_DELETE (R170): The command invalidates a prefix's row in the LPM store. -/
def execFwdLpmDelete (h : Mb) (pipes : Nat) (ipv6 : Bool) (len : Nat) (pfx : Bytes) (s : State) : Host.Outcome State Fault Refusal :=
  s.act fun c => c.mbRun h { opcode := 0x0214, commit := true } fun c =>
    journalPart (c.fwdLpmDelete (.fwdLpmDelete h pipes ipv6 len pfx) pipes ipv6 len pfx)

/-- A next-hop entry as R171 lays it out: kind, router MAC index, VLAN action, destination, VID, MAC. -/
structure Hop where
  kind : Nat
  rmac : Nat
  vact : Nat
  dest : Nat
  vid  : Nat
  mac  : Bytes

def hopOf (e : Bytes) : Hop := { kind := byteAt e 0, rmac := byteAt e 1, vact := byteAt e 2, dest := le e 4 2, vid := le e 6 2, mac := slice e 8 6 }

/-- The next hop of a pipeline; an index that nothing has written is of kind drop. (log entry 32, DEDUCED) -/
def Chip.hop (c : Chip) (k i : Nat) : Hop :=
  let e := Sparse.get [] (c.pipe k).nh i
  hopOf (if e = [] then 2 :: fill 15 0 else e)

/-- FWD_NH_WRITE (R169, R170). -/
def Chip.fwdNhWrite (c : Chip) (i : Instr) (pipes index : Nat) (entry : Bytes) : Chip × Answer :=
  let e := (entry ++ fill 16 0).take 16
  let x := hopOf e
  if 15 < pipes || 4096 ≤ index || c.badDest x.kind x.dest || 7 < x.rmac || 3 < x.vact || 4095 < x.vid then refuse c Code.range
  else
    pipesAnswer (c.onPipes pipes (fun c k => let q := c.pipe k; .ok (c.setPipe k { q with nh := Sparse.set [] q.nh index e }))) i pipes true

/-- FWD_NH_WRITE (R169): The command writes a next-hop entry. -/
def execFwdNhWrite (h : Mb) (pipes index : Nat) (entry : Bytes) (s : State) : Host.Outcome State Fault Refusal :=
  s.act fun c => c.mbRun h { opcode := 0x0215, commit := true } fun c => journalPart (c.fwdNhWrite (.fwdNhWrite h pipes index entry) pipes index entry)

/-! ## Reading one entry (R173) -/

/-- The six words of a MAC entry at a position. -/
def macWords (e : MacEntry) (pos : Nat) (moving : Bool) : List Nat :=
  [e.mac % 2 ^ 32, e.mac / 2 ^ 32 + 2 ^ 16 * e.fid + 2 ^ 28 * b2n e.valid + 2 ^ 29 * b2n e.pending + 2 ^ 30 * b2n e.static + 2 ^ 31 * b2n e.sync,
   e.dest + 2 ^ 14 * e.kind + 2 ^ 16 * b2n e.hit + 2 ^ 17 * b2n e.stale + 2 ^ 18 * b2n moving + 2 ^ 19 * (pos / 65536),
   pos % 65536 / 4 + 2 ^ 14 * (pos % 4), 0, 0]

/-- FWD_SEARCH: a write of FWD_SRCH_CTRL; with go it reads one entry. -/
def Chip.search (c : Chip) (value : W32) : Chip :=
  let k := bits value.toNat 0 2
  let op := bits value.toNat 2 2
  let c := (c.wr F.FWD_SRCH_CTRL_pipeline k).wr F.FWD_SRCH_CTRL_op op
  if !bit value.toNat 4 then c
  else
    let a0 := (c.word R.FWD_SRCH_ARG0).toNat
    let a1 := (c.word R.FWD_SRCH_ARG1).toNat
    let moving (pos : Nat) : Bool := ((c.pipe k).chain.map (fun ch => ch.moves.any (fun m => m.1 == pos || m.2 == pos))).getD false
    let found : Option (List Nat) :=
      if op = 0 then
        let fid := bits a1 16 12
        let mac := bits a1 0 16 * 2 ^ 32 + a0
        let dst := ((c.pipe k).chain.bind (fun ch => if ch.copied then ch.moves.head? else none)).filter (fun m =>
          (c.macAt k m.2).mac == mac && (c.macAt k m.2).fid == fid)
        (match dst with | some m => some m.2 | none => c.macFind k fid mac).map (fun pos => macWords (c.macAt k pos) pos (moving pos))
      else if op = 1 then
        let pos := macPos (bits a0 0 1) (bits a0 1 14) (bits a0 15 2)
        if (c.macAt k pos).valid then some (macWords (c.macAt k pos) pos (moving pos)) else none
      else if op = 2 then
        let row := bits a0 0 14
        let v6 := row < c.v6Rows k
        let r := Sparse.get {} (c.pipe k).lpm (if v6 then row - row % 2 else row)
        let p := if v6 then r.pfx else r.pfx * 2 ^ 96
        if r.valid then some [p / 2 ^ 96, p / 2 ^ 64 % 2 ^ 32, p / 2 ^ 32 % 2 ^ 32, p % 2 ^ 32, r.len + 256 + 512 * b2n v6 + 2 ^ 16 * r.nh, 0] else none
      else
        let e := Sparse.get [] (c.pipe k).nh (bits a0 0 12)
        if e = [] then none else some ((List.range 4).map (fun w => le e (4 * w) 4) ++ [0, 0])
    let c := c.wrb F.FWD_SRCH_CTRL_found found.isSome
    let ws := found.getD []
    (List.range 6).foldl (fun c w => c.setWord (R.FWD_SRCH_RES w) (BitVec.ofNat 32 (ws.getD w 0))) c

/-- FWD_SEARCH (R173): The go bit of FWD_SRCH_CTRL reads one MAC, LPM or next-hop entry as a snapshot. -/
def execFwdSearch (init : Nat) (value : W32) (s : State) : Host.Outcome State Fault Refusal :=
  s.act fun c => c.hostWrite init R.FWD_SRCH_CTRL (fun c => c.search value)

/-! ## The forwarding decision (R150 to R153, R166) -/

/-- What forwarding decides. -/
inductive Fate where
  | drop | punt (reason : Nat)
  | port (p : Nat)
  | group (g : Nat)
  deriving DecidableEq, Repr

/-- A kind and destination of a MAC entry or next hop (R153). -/
def Chip.fateOf (c : Chip) (k kind dest reason : Nat) : Chip × Fate :=
  if kind = 0 then (c, .port dest) else if kind = 1 then (c, .group dest)
  else if kind = 2 then (c.bump (R.FWD_BAD_DEST k), .drop) else (c, .punt reason)

/-- The last check of R151. -/
def Chip.checkDest (c : Chip) (k inPort : Nat) (table : Bool) (x : Fate) : Chip × Fate :=
  match x with
  | .port p =>
    if table && p == inPort then (c.bump (R.FWD_HAIRPIN k), .drop)
    else if 143 < p || !c.portOn p || c.paired p then (c.bump (R.FWD_BAD_DEST k), .drop)
    else (c, .port p)
  | x => (c, x)

/-- Routes a frame (R166): its fate and next hop. Every frame that is routed counts, also one that is then dropped. -/
def Chip.route (c : Chip) (k : Nat) (f : Bytes) : Chip × Fate × Option Nat :=
  let c := c.bump (R.FWD_ROUTED k)
  let q := c.parse f
  if q.kind != 1 && q.kind != 2 then (c.bump (R.FWD_ROUTER_NONIP k), .drop, none)
  else if q.kind == 1 && q.sumBad then (c.bump (R.FWD_IP_HDR_ERR k), .drop, none)
  else if q.ttl ≤ 1 then (c.bump (R.FWD_TTL_EXP k), .drop, none)
  else
    let v6 := q.kind == 2
    match c.lpmLookup k v6 (if v6 then be (window f) (q.l3 + 24) 16 else q.dst) with
    | none => (c.bump (R.FWD_LPM_MISS k), .drop, none)
    | some n =>
      let h := c.hop k n
      let (c, x) := c.fateOf k h.kind h.dest 0xF1
      (c, x, some n)

/-- The FID of a frame (R150). -/
def Chip.fidOf (c : Chip) (p : Nat) (f : Bytes) : Option Nat :=
  let vid := (c.parse f).vid
  if vid = 0 then some (c.defaultFid p)
  else
    let m := c.vidMap (pipeOf p) vid
    if m = 0xFFFF then none else some (m % 4096)

/-- Floods in a FID (R152). -/
def Chip.flood (c : Chip) (k fid : Nat) (unknown : Bool) : Chip × Fate :=
  let g := c.floodGroup k fid
  let c := if unknown then c.bump (R.FWD_UNKNOWN k) else c
  if g = 0xFFFF then (c.bump (R.FWD_UNKNOWN_DROP k), .drop) else (c, .group g)

/-- The forwarding decision for frame `i` under an egress intent (R151). -/
def Chip.forward (c : Chip) (i : Nat) (f : Frame) (intent : Nat) : Chip × Fate :=
  let k := pipeOf f.port
  let src := srcMac f.bytes
  let dst := dstMac f.bytes
  if groupMac src then (c.bump (R.FWD_SRC_BAD k), .drop)
  else
    match c.fidOf f.port f.bytes with
    | none => (c.bump (R.FWD_VLAN_DROP k), .drop)
    | some fid =>
      let c := if c.learns f.port && src != 0 then c.learn i f fid src else c
      if intent / 65536 = 1 then c.checkDest k f.port false (.port (intent % 65536))
      else if intent / 65536 = 2 then (c, .group (intent % 16384))
      else if c.routes f.port && dst != 0 && (List.range 8).any (fun j => c.routerMac k j == dst) then
        let (c, x, n) := c.route k f.bytes
        let c := match n, c.frame i with
          | some n, some g => c.setFrame i (some { g with nextHop := some (k, n) })
          | _, _ => c
        c.checkDest k f.port false x
      else
        match c.macLookup k fid dst with
        | some (pos, e) =>
          let c := if c.ageOnDst k then c.setHit k pos else c
          let (c, x) := c.fateOf k e.kind e.dest 0xF0
          c.checkDest k f.port true x
        | none => c.flood k fid (!groupMac dst)

/-! ## Loading the tables (R43, R167, R171) -/

/-- The lists of a FWD_CONFIG value: static entries, next hops, IPv4 and IPv6 routes. -/
def fwdLists (v : Bytes) : List Bytes × List Bytes × List Bytes × List Bytes :=
  let s := le v 16592 4
  let h := le v 16596 4
  let a := le v 16600 4
  let b := le v 16604 4
  ((List.range s).map (entryAt v 16608 12), (List.range h).map (entryAt v (16608 + 12 * s) 16),
   (List.range a).map (entryAt v (16608 + 12 * s + 16 * h) 8), (List.range b).map (entryAt v (16608 + 12 * s + 16 * h + 8 * a) 20))

/-- Loads one area of the LPM store: entries by length, longest first, each at the first free row of its region. -/
def Chip.loadLpm (c : Chip) (k : Nat) (v6 : Bool) (es : List (Nat × Nat × Nat)) : Chip :=
  let n := famBits v6
  let counts := (List.range (n + 1)).map (fun j => (es.filter (fun e => e.2.1 == n - j)).length)
  let first := if v6 then 0 else c.v6Rows k
  let c := c.setPipe k ((c.pipe k).setStarts v6 (spreadRegions first (c.lpmEnd k v6 - first) counts))
  es.foldl (fun c e => (c.lpmInsert k v6 e.1 e.2.1 e.2.2).getD c) c

/-- Loads the tables of a pipeline from the image. Learned entries of a warm start stay (R43); none when a static entry cannot be
placed (R172). -/
def Chip.loadForward (c : Chip) (k : Nat) : Option Chip :=
  let v := c.fwdRec k
  let (ss, hs, as, bs) := fwdLists v
  let c := c.finishChain k
  let kept := ((c.pipe k).mac.filter (fun e => e.2.static || e.2.pending)).map (·.1)
  let c := kept.foldl (fun c pos => c.setMac k pos {}) c
  let c := c.setPipe k { c.pipe k with lpm := [], nh := [], learns := [], v4 := [], v6 := [] }
  let c := (c.wr (F.FWD_LPM_STATUS_v4_used k) 0).wr (F.FWD_LPM_STATUS_v6_used k) 0
  let c := c.setPipe k { c.pipe k with nh := ((List.range hs.length).zip hs).foldl (fun m e => Sparse.set [] m e.1 e.2) [] }
  let c := c.loadLpm k false (as.map (fun e => (be e 0 4, byteAt e 4, le e 6 2)))
  let c := c.loadLpm k true (bs.map (fun e => (be e 0 16, byteAt e 16, le e 18 2)))
  ss.foldl (fun (o : Option Chip) e => o.bind (fun c => (c.macWrite k (byteAt e 8) (le e 6 2) (le e 10 2) (be e 0 6)).toOption)) (some c)

end Sys2Proof.Machine
end

