-- ==== Sys2Proof/Machine/Traffic.lean ====
section
/-! DEFINITION. The traffic manager: queues, stalls, scheduling, shapers, policers, and the mailbox commands that change them (R187,
R197 to R217), with the rewrite of a frame as it is read (R169, R212) and the transparent clock's correction (R379, R380). -/

namespace Sys2Proof.Machine

/-! ## Stalled ports (R187) -/

/-- Frames linked in a stalled port's queues are discarded and counted, and new ones refused from now on. -/
def Chip.stallDiscard (c : Chip) (p : Nat) : Chip :=
  let c := c.setPort p { c.port p with stallOut := true }
  (List.range 8).foldl (fun c cls =>
    let q := qOf p cls
    let l := (c.queue q).frames
    let c := c.setQueue q { c.queue q with frames := [] }
    (l.foldl (fun c x => c.copyGone x.frame p) c).add (R.SWC_STALL_DISC (pipeOf p)) l.length) c

/-- What follows at once from a change of the stall of a port: a limit of 0 discards at once, and the end of a stall ends the
refusal. -/
def Chip.settleStall (c : Chip) (p : Nat) : Chip :=
  if !c.stalled p then (if (c.port p).stallOut then c.setPort p { c.port p with stallOut := false } else c)
  else if c.stallUs = 0 && !(c.port p).stallOut then c.stallDiscard p
  else c

/-- EGRESS_STALL_TIMEOUT: a stall has lasted egress_stall_us. -/
def execEgressStallTimeout (port : Nat) (s : State) : Host.Outcome State Fault Refusal :=
  s.actOn (port < 144) fun c => if c.running && c.stalled port then c.stallDiscard port else c

/-! ## Shapers (R203 to R208) -/

/-- Token units in a byte. -/
def tokUnit : Int := 204800000

/-- The shaper of a port. -/
def portShaper (p : Nat) : Nat := 4096 + p

def Chip.shaperOn (c : Chip) (n : Nat) : Bool := c.flag (F.TMG_SHAPER_CFG_enable n)

/-- The bucket and the charges of this cycle, brought up to date; a disabled shaper holds no tokens (R203). (log entry 34, DEDUCED) -/
def Chip.shaper (c : Chip) (n : Nat) : Tokens :=
  if !c.shaperOn n then { cycle := c.cycle }
  else
    let t := Sparse.get {} c.data.shapers n
    let gain : Int := (c.rd (F.TMG_SHAPER_RATE_rate_kbps n) * 16 * (c.cycle - t.cycle) : Nat)
    { a := min ((c.rd (F.TMG_SHAPER_CFG_burst n) : Nat) * tokUnit) (t.a + gain), b := if t.cycle = c.cycle then t.b else 0, cycle := c.cycle }

/-- Tokens at the resolution of R203, 2^-16 byte: the fraction below it is carried on, and permits nothing. (log entry 34, DEDUCED) -/
def someTokens (a : Int) : Bool := 0 < a / (tokUnit / 65536)

def Chip.setShaper (c : Chip) (n : Nat) (t : Tokens) : Chip :=
  { c with data := { c.data with shapers := Sparse.set {} c.data.shapers n t } }

/-- Charges a shaper with bytes at dequeue; a disabled one is never charged (R203, R204). (log entry 34, DEDUCED) -/
def Chip.chargeShaper (c : Chip) (n : Nat) (bytes : Int) : Chip :=
  if !c.shaperOn n then c
  else
    let t := c.shaper n
    c.setShaper n { t with a := t.a - bytes * tokUnit, b := t.b + bytes * tokUnit }

/-- The overhead of a shaper. -/
def Chip.shaperOvh (c : Chip) (n : Nat) : Int := toSigned 8 (c.rd (F.TMG_SHAPER_OVH_overhead n))

/-- The counted length of a frame of F bytes (R205). -/
def Chip.counted (c : Chip) (n f : Nat) : Int := if c.flag (F.TMG_SHAPER_CFG_len_mode n) then (f : Int) + c.shaperOvh n else f

/-- The port lies in the scope of a tenant shaper. -/
def Chip.inScope (c : Chip) (n p : Nat) : Bool :=
  let s := c.rd (F.TMG_SHAPER_CFG_scope n)
  s == 2 || (s == 0 && p < 96) || (s == 1 && 96 ≤ p)

/-- The port shaper permits a dequeue (R198). -/
def Chip.portPermits (c : Chip) (p : Nat) : Bool := !c.shaperOn (portShaper p) || someTokens (c.shaper (portShaper p)).a

/-- A tenant shaper permits a frame on a port: every dequeue of one cycle sees the tokens that the cycle began with (R199, R206). -/
def Chip.tenantPermits (c : Chip) (n p : Nat) : Bool :=
  !c.shaperOn n || !c.inScope n p || someTokens ((c.shaper n).a + (c.shaper n).b)

/-- The tenant shaper of a frame permits it. -/
def Chip.framePermits (c : Chip) (f : Frame) (p : Nat) : Bool := !f.hasTenant || c.tenantPermits f.tenant p

/-- Loads a shaper's parameters. -/
def Chip.putShaper (c : Chip) (n : Nat) (a : ShaperArgs) : Chip :=
  let c := c.wr (F.TMG_SHAPER_RATE_rate_kbps n) a.rate
  let c := (c.wr (F.TMG_SHAPER_CFG_burst n) a.burst).wrb (F.TMG_SHAPER_CFG_enable n) a.enable
  let c := (c.wrb (F.TMG_SHAPER_CFG_len_mode n) a.lenMode).wr (F.TMG_SHAPER_CFG_scope n) (if n < 4096 then a.scope else 0)
  c.wr (F.TMG_SHAPER_OVH_overhead n) (ofSigned 8 a.overhead)

/-- The parameters keep to R203 and R205. -/
def shaperArgsOk (a : ShaperArgs) : Bool :=
  -32 ≤ a.overhead && a.overhead ≤ 96 && a.scope != 3 &&
    (!a.enable || (1024 ≤ a.burst && a.burst ≤ 16777215 && a.rate ≤ 400000000))

/-- TM_SHAPER_WRITE (R207). -/
def Chip.tmShaperWrite (c : Chip) (i : Instr) (n : Nat) (a : ShaperArgs) : Chip × Answer :=
  if 4239 < n || !shaperArgsOk a then refuse c Code.range
  else
    let used := (c.shaper n).b
    let c := c.putShaper n a
    let start : Int := if a.reset then (a.burst : Int) * tokUnit else 0
    let c := c.setShaper n (if a.enable then { a := start - used, b := used, cycle := c.cycle } else {})
    (c, { code := Code.committed, jop := some (.cmd i) })

/-- TM_SHAPER_WRITE (R207): The command sets a shaper's parameters and its tokens in one cycle. -/
def execTmShaperWrite (h : Mb) (shaper : Nat) (a : ShaperArgs) (s : State) : Host.Outcome State Fault Refusal :=
  s.act fun c => c.mbRun h { opcode := 0x0230, commit := true } fun c => c.tmShaperWrite (.tmShaperWrite h shaper a) shaper a

/-! ## Policers (R209 to R213) -/

/-- A policer entry of R215 (24 bytes). -/
structure PolEntry where
  twoRate : Bool
  aware   : Bool
  src     : Bool
  lenMode : Bool
  overhead : Int
  yellow  : Nat
  red     : Nat
  cir     : Nat
  pir     : Nat
  cbs     : Nat
  ebs     : Nat

def polOf (e : Bytes) : PolEntry :=
  let fl := byteAt e 1
  { twoRate := bit fl 0, aware := bit fl 1, src := bit fl 2, lenMode := bit fl 3, overhead := toSigned 8 (byteAt e 2), yellow := bits (byteAt e 3) 0 2,
    red := bits (byteAt e 3) 2 2, cir := le e 8 4, pir := le e 12 4, cbs := le e 16 3, ebs := le e 19 3 }

/-- An entry keeps to R205, R210, R212 and R215. -/
def polOk (e : Bytes) : Bool :=
  let x := polOf e
  let big (n : Nat) : Bool := 10336 ≤ n && n ≤ 16777215
  e.length == 24 && byteAt e 1 < 16 && byteAt e 3 < 16 && le e 6 2 == 0 && le e 22 2 == 0 && -32 ≤ x.overhead && x.overhead ≤ 96 &&
    x.yellow != 3 && x.red != 3 && x.cir ≤ 400000000 && x.pir ≤ 400000000 && big x.cbs &&
    (if x.twoRate then x.cir ≤ x.pir && big x.ebs else x.ebs == 0 || big x.ebs)

/-- Loads a policer, with both buckets full (R210, R217). -/
def Chip.putPolicer (c : Chip) (m : Nat) (e : Bytes) : Chip :=
  let x := polOf e
  let c := c.setWord (R.TMG_POL_CIR m) (BitVec.ofNat 32 x.cir)
  let c := c.setWord (R.TMG_POL_PIR m) (BitVec.ofNat 32 (if x.twoRate then x.pir else 0))
  let c := (c.setWord (R.TMG_POL_CBS m) (BitVec.ofNat 32 x.cbs)).setWord (R.TMG_POL_EBS m) (BitVec.ofNat 32 x.ebs)
  let mode := b2n x.twoRate + 2 * b2n x.aware + 4 * b2n x.src + 8 * b2n x.lenMode + 16 * x.yellow + 64 * x.red +
    256 * ofSigned 8 x.overhead + 65536
  let c := c.setWord (R.TMG_POL_MODE m) (BitVec.ofNat 32 mode)
  let t : Tokens := { a := (x.cbs : Int) * tokUnit, b := (x.ebs : Int) * tokUnit, cycle := c.cycle }
  { c with data := { c.data with policers := Sparse.set {} c.data.policers m t } }

/-- The buckets of a policer, brought up to date: what the committed bucket of a single-rate marker cannot hold flows into the
excess bucket (RFC 2697), and the peak bucket of a two-rate marker fills at PIR (RFC 2698). -/
def Chip.policer (c : Chip) (m : Nat) : Tokens :=
  let t := Sparse.get {} c.data.policers m
  let dt : Int := ((c.cycle - t.cycle) * 16 : Nat)
  let cbs : Int := (c.rd (F.TMG_POL_CBS_cbs m) : Nat) * tokUnit
  let ebs : Int := (c.rd (F.TMG_POL_EBS_ebs m) : Nat) * tokUnit
  let x : Int := t.a + (c.word (R.TMG_POL_CIR m)).toNat * dt
  let spill := x - min cbs x
  let b := if c.flag (F.TMG_POL_MODE_two_rate m) then t.b + (c.word (R.TMG_POL_PIR m)).toNat * dt else t.b + spill
  { a := min cbs x, b := min ebs b, cycle := c.cycle }

/-- The policer map of a port: mode and index within the pipeline. -/
def Chip.polMap (c : Chip) (p : Nat) : Nat × Nat :=
  let e := Sparse.get [] c.data.polMap p
  (byteAt e 0, le e 2 2)

/-- The policer that meters a frame of a port (R209). -/
def Chip.policerOf (c : Chip) (p cls tenant : Nat) : Option Nat :=
  let (mode, ix) := c.polMap p
  let k := pipeOf p
  if mode = 1 then some (2048 * k + ix)
  else if mode = 2 then some (2048 * k + ix + cls)
  else if mode = 3 then (Sparse.get none c.data.tenMap (4096 * k + tenant)).map (2048 * k + ·)
  else none

/-- How many plaintext bytes of a frame have come at its decision: all of one that has ended; of one that still arrives, a free value
from the header window on (R20, R180). (log entry 34, DEDUCED) -/
def Chip.arrived (c : Chip) (f : Bytes) (ended : Bool) : Nat × Chip :=
  if ended then (f.length, c)
  else
    let (v, c) := c.freeNat 16
    (min f.length (256 + v % (f.length + 1)), c)

/-- The length on which a policer decides before the frame has ended, of which `got` bytes have come (R211). -/
def Chip.provisional (c : Chip) (f : Bytes) (ended : Bool) (got : Nat) : Nat :=
  let q := c.parse f
  if ended then f.length
  else if q.kind = 1 then max 64 (q.l3 + q.len + 4)
  else if q.kind = 2 then max 64 (q.l3 + 40 + q.len + 4)
  else got

/-- Colours: 0 green, 1 yellow, 2 red. -/
def colour (twoRate : Bool) (pre : Nat) (t : Tokens) (len : Int) : Nat × Tokens :=
  let inA := len ≤ t.a
  let inB := len ≤ t.b
  if twoRate then
    if pre == 2 || !inB then (2, t)
    else if pre == 1 || !inA then (1, { t with b := t.b - len })
    else (0, { t with a := t.a - len, b := t.b - len })
  else if pre == 0 && inA then (0, { t with a := t.a - len })
  else if pre != 2 && inB then (1, { t with b := t.b - len })
  else (2, t)

/-- The pre-colour of a frame (R210). -/
def Chip.preColour (c : Chip) (m : Nat) (f : Bytes) (metadata : Nat) : Nat :=
  if !c.flag (F.TMG_POL_MODE_colour_aware m) then 0
  else if c.flag (F.TMG_POL_MODE_colour_src m) then (let v := metadata % 4; if v = 3 then 0 else v)
  else b2n (bit ((c.parse f).tags.headD 0) 12)

/-- Corrects a bucket at the frame's end: an increase is taken, never below zero; a decrease is returned, never above the size
(R211). -/
def correctBucket (size tokens delta : Int) : Int := if 0 ≤ delta then max (min 0 tokens) (tokens - delta) else min size (tokens - delta)

/-- Meters a frame on the length `g`: the part, whether the frame is dropped, and whether it is marked (R210 to R213). -/
def Chip.police (c : Chip) (p cls tenant : Nat) (f : Bytes) (metadata g : Nat) : Chip × Bool × Bool :=
  match c.policerOf p cls tenant with
  | none => (c, false, false)
  | some m =>
    if !c.flag (F.TMG_POL_MODE_enabled m) then (c, false, false)
    else
      let ovh : Int := if c.flag (F.TMG_POL_MODE_len_mode m) then toSigned 8 (c.rd (F.TMG_POL_MODE_overhead m)) else 0
      let two := c.flag (F.TMG_POL_MODE_two_rate m)
      let t0 := c.policer m
      let (col, t) := colour two (c.preColour m f metadata) t0 (((g : Int) + ovh) * tokUnit)
      let delta : Int := ((f.length : Int) - g) * tokUnit
      let t := { t with
        a := if t.a = t0.a then t.a else correctBucket ((c.rd (F.TMG_POL_CBS_cbs m) : Nat) * tokUnit) t.a delta
        b := if t.b = t0.b then t.b else correctBucket ((c.rd (F.TMG_POL_EBS_ebs m) : Nat) * tokUnit) t.b delta }
      let c := { c with data := { c.data with policers := Sparse.set {} c.data.policers m t } }
      if col = 0 then (c.bump (R.TMG_POL_GREEN m), false, false)
      else if col = 1 then
        let y := c.rd (F.TMG_POL_MODE_yellow_action m)
        (c.bump (R.TMG_POL_YELLOW m), y == 2, y == 1)
      else
        let r := c.rd (F.TMG_POL_MODE_red_action m)
        (c.bump (R.TMG_POL_RED m), r == 0, r == 2)

/-- TM_POLICER_WRITE (R217): the index field names m. -/
def Chip.tmPolicerWrite (c : Chip) (i : Instr) (entry : Bytes) : Chip × Answer :=
  if !polOk entry || 8191 < le entry 4 2 then refuse c Code.range
  else (c.putPolicer (le entry 4 2) entry, { code := Code.committed, jop := some (.cmd i) })

/-- TM_POLICER_WRITE (R217): The command sets a policer's parameters and fills both its buckets. -/
def execTmPolicerWrite (h : Mb) (entry : Bytes) (s : State) : Host.Outcome State Fault Refusal :=
  s.act fun c => c.mbRun h { opcode := 0x0231, commit := true } fun c => c.tmPolicerWrite (.tmPolicerWrite h entry) entry

/-- The policers that a map entry names are listed. (log entry 34, DEDUCED) -/
def Chip.polListed (c : Chip) (k mode ix : Nat) : Bool :=
  if mode = 1 then ix < 2048 && c.flag (F.TMG_POL_MODE_enabled (2048 * k + ix))
  else if mode = 2 then ix + 7 ≤ 2047 && (List.range 8).all (fun j => c.flag (F.TMG_POL_MODE_enabled (2048 * k + ix + j)))
  else true

/-- TM_MAP_WRITE (R209, R217): kind 0 a port's map, kind 1 a tenant's entry, which mode 0 removes. (log entry 34, DEDUCED) -/
def Chip.tmMapWrite (c : Chip) (i : Instr) (kind k key mode ix : Nat) : Chip × Answer :=
  let done : Answer := { code := Code.committed, jop := some (.cmd i) }
  if kind = 0 then
    if 143 < key || 3 < mode || !c.polListed (pipeOf key) mode ix then refuse c Code.range
    else
      let e := toLe mode 1 ++ fill 1 0 ++ toLe ix 2
      ({ c with data := { c.data with polMap := Sparse.set [] c.data.polMap key (if mode = 0 then [] else e) } }, done)
  else if kind = 1 then
    if 3 < k || 4095 < key || 3 < mode || (mode != 0 && !c.polListed k 1 ix) then refuse c Code.range
    else
      ({ c with data := { c.data with tenMap := Sparse.set none c.data.tenMap (4096 * k + key) (if mode = 0 then none else some ix) } }, done)
  else refuse c Code.range

/-- TM_MAP_WRITE (R217): The command changes a port policer map or a tenant map entry. -/
def execTmMapWrite (h : Mb) (kind pipe key mode index : Nat) (s : State) : Host.Outcome State Fault Refusal :=
  s.act fun c => c.mbRun h { opcode := 0x0232, commit := true } fun c =>
    c.tmMapWrite (.tmMapWrite h kind pipe key mode index) kind pipe key mode index

/-! ## Loading TM_CONFIG (R208, R210, R215) -/

/-- A port or tenant shaper as the record lists it. -/
def shaperOf (rate burst flags ovh : Nat) : ShaperArgs :=
  { reset := true, enable := bit flags 0, lenMode := bit flags 1, scope := bits flags 2 2, overhead := toSigned 8 ovh, rate := rate, burst := burst }

/-- The lists of a TM_CONFIG value: tenant shapers, policers, tenant maps. -/
def tmLists (v : Bytes) : List Bytes × List Bytes × List Bytes :=
  let t := le v 4 4
  let p := le v 8 4
  ((List.range t).map (entryAt v 5200 16), (List.range p).map (entryAt v (5200 + 16 * t) 24),
   (List.range (le v 12 4)).map (entryAt v (5200 + 16 * t + 24 * p) 8))

/-- Every enabled shaper with tokens equal to its burst, and every policer with full buckets, as a start sets them. -/
def Chip.fillTokens (c : Chip) : Chip :=
  let sh := (List.range 4240).foldl (fun m n =>
    if c.shaperOn n then Sparse.set {} m n (Tokens.mk ((c.rd (F.TMG_SHAPER_CFG_burst n) : Nat) * tokUnit) 0 c.cycle) else m) []
  let po := (List.range 8192).foldl (fun m n =>
    if c.flag (F.TMG_POL_MODE_enabled n) then
      Sparse.set {} m n (Tokens.mk ((c.rd (F.TMG_POL_CBS_cbs n) : Nat) * tokUnit) ((c.rd (F.TMG_POL_EBS_ebs n) : Nat) * tokUnit) c.cycle)
    else m) []
  { c with data := { c.data with shapers := sh, policers := po } }

/-- Loads the traffic manager from the image: classes, shapers, policers and maps; what the record does not list is disabled. -/
def Chip.loadTm (c : Chip) : Chip :=
  let v := (c.rec1 T.tmConfig).getD []
  let (ts, ps, ms) := tmLists v
  let off : ShaperArgs := { reset := true, enable := false, lenMode := false, scope := 0, overhead := 0, rate := 0, burst := 0 }
  let c := (List.range 4240).foldl (fun c n => c.putShaper n off) c
  let c := (List.range 8192).foldl (fun c m =>
    (List.range 5).foldl (fun c w => c.setWord (R.TMG_POL_CIR m + 4 * w) 0) c) c
  let c := { c with data := { c.data with polMap := [], tenMap := [], policers := [] } }
  let c := (List.range 144).foldl (fun c p =>
    let c := (List.range 8).foldl (fun c k =>
      let e := if c.portOn p then slice v (16 + 16 * p + 2 * k) 2 else fill 2 0
      (c.wr (F.TMG_Q_SCHED_level (qOf p k)) (byteAt e 0)).wr (F.TMG_Q_SCHED_weight (qOf p k)) (byteAt e 1)) c
    let e := slice v (2320 + 16 * p) 16
    let c := if c.portOn p then c.putShaper (portShaper p) (shaperOf (le e 0 4) (le e 4 3) (byteAt e 7 % 4) (byteAt e 8)) else c
    let m := slice v (4624 + 4 * p) 4
    if byteAt m 0 = 0 then c else { c with data := { c.data with polMap := Sparse.set [] c.data.polMap p m } }) c
  let c := ts.foldl (fun c e => c.putShaper (le e 0 2) (shaperOf (le e 4 4) (le e 8 3) (byteAt e 2) (byteAt e 3))) c
  let c := ps.foldl (fun c e => c.putPolicer (2048 * byteAt e 0 + le e 4 2) e) c
  let c := ms.foldl (fun c e =>
    { c with data := { c.data with tenMap := Sparse.set none c.data.tenMap (4096 * byteAt e 0 + le e 2 2) (some (le e 4 2)) } }) c
  c.fillTokens

/-! ## Reading a copy (R169, R212) -/

/-- The router's change to a frame: addresses, hop limit with its checksum, VLAN action. (log entry 27, DEDUCED) -/
def Chip.rewrite (c : Chip) (f : Bytes) (cls k n : Nat) : Bytes :=
  let h := c.hop k n
  let q := c.parse f
  let f := patch f 0 (h.mac ++ toBe (c.routerMac k h.rmac) 6)
  let f := if q.kind = 1 then
      let old := be f (q.l3 + 8) 2
      let g := patch f (q.l3 + 8) (toBe (q.ttl - 1) 1)
      patch g (q.l3 + 10) (toBe (rfc1624 (be f (q.l3 + 10) 2) [old] [old - 256]) 2)
    else if q.kind = 2 then patch f (q.l3 + 7) (toBe (q.ttl - 1) 1)
    else f
  if h.vact = 1 then (if q.tags = [] then f else patch f 14 (toBe (be f 14 2 / 4096 * 4096 + h.vid) 2))
  else if h.vact = 2 then (if q.tags = [] then f else f.take 12 ++ f.drop 16)
  else if h.vact = 3 then f.take 12 ++ toBe c.tpid0 2 ++ toBe (8192 * cls + h.vid) 2 ++ f.drop 12
  else f

/-- A policer's mark: DEI of the outer tag (R212). (log entry 34, DEDUCED) -/
def Chip.markDei (c : Chip) (f : Bytes) : Bytes :=
  if (c.parse f).tags = [] then f else patch f 14 (toBe (be f 14 2 / 8192 * 8192 + 4096 + be f 14 2 % 4096) 2)

/-- A frame as its copy is read: rewritten, marked, and with a new FCS when changed. -/
def Chip.readCopy (c : Chip) (f : Frame) : Bytes :=
  let b := match f.nextHop with
    | some (k, n) => c.rewrite f.bytes f.cls k n
    | none => f.bytes
  let b := if f.marked then c.markDei b else b
  if b = f.bytes then b else withFcs (body b)

/-! ## The transparent clock (R379, R380) -/

/-- The residence of a frame whose first byte reaches the transmit timestamp point of port `p` at `t` ns. (log entry 34, DEDUCED) -/
def Chip.residence (c : Chip) (p t rx : Nat) : Nat := ((t : Int) + (c.latency p).2 + c.txTrim p - rx).toNat

/-- Corrects a PTP event message that came in on `source` at `rx` and leaves on `p` at `t`, both in ns; any other frame is unchanged.
Also 1 for a corrected frame. -/
def Chip.tcCorrect (c : Chip) (source p rx t : Nat) (f : Bytes) : Bytes × Nat × Chip :=
  if 143 < source || !c.tcPort source || !c.tcPort p then (f, 0, c)
  else
    match ptpAt (c.parse f) f with
    | none => (f, 0, c)
    | some (h, u) =>
      let (g, satd) := addResidence f h u (c.residence p t rx)
      (g, 1, if satd then c.bump R.TIM_TC_SAT else c)

/-- The transmit timestamp of a frame of the management cores, whose first byte reaches the transmit timestamp point of port `p` at `t` ns
(R373, R377, R378). -/
def Chip.stampSent (c : Chip) (source p t : Nat) : Chip :=
  if source = 144 then c.emit (.sentStamp p ((t : Int) + (c.latency p).2 + c.txTrim p).toNat) else c

/-! ## The scheduler (R197 to R202) -/

/-- `a` precedes `b` on the 48-bit circle (R202). -/
def tagBefore (a b : Nat) : Bool := toSigned 48 ((a + 2 ^ 48 - b) % 2 ^ 48) < 0

/-- The head of a queue, when the queue is eligible (R199). -/
def Chip.headOf (c : Chip) (p cls : Nat) : Option Queued :=
  match (c.queue (qOf p cls)).frames.head? with
  | none => none
  | some x => match c.frame x.frame with
    | none => none
    | some f => if c.framePermits f p then some x else none

/-- The class that the next dequeue of a port serves (R200). -/
def Chip.pickClass (c : Chip) (p : Nat) : Option Nat :=
  let able := (List.range 8).filter (fun k => (c.headOf p k).isSome)
  let top := (able.map (fun k => c.level (qOf p k))).foldl max 0
  (able.filter (fun k => c.level (qOf p k) == top)).foldl (fun (b : Option Nat) k => match b with
    | none => some k
    | some j => if tagBefore (c.queue (qOf p j)).tag (c.queue (qOf p k)).tag then some j else some k) none

/-- Egress frames of a line port between the parser and their results (R198). -/
def Chip.egressFlights (c : Chip) (p : Nat) : Nat := ((c.flights (2 * p + 1)).filter (fun x => x.source != 144)).length

/-- Fewer than 16 frames of a line port wait behind one that its channel's hard limit holds (R255). -/
def Chip.holdRoom (c : Chip) (p : Nat) : Bool :=
  !((c.port p).commits.head?.map (·.held)).getD false || (c.port p).commits.length < 16

/-- One dequeue of a port in any two cycles, and six of a pipeline's ports in one (R198). -/
def Chip.grantFree (c : Chip) (p : Nat) : Bool :=
  (let last := Sparse.get 0 c.data.served p; last = 0 || last < c.cycle) &&
    (c.data.served.filter (fun e => pipeOf e.1 == pipeOf p && e.2 == c.cycle + 1)).length < 6

/-- A port may be granted a dequeue (R198); `room` tells whether an uplink's MAC has room for the frame. -/
def Chip.mayDequeue (c : Chip) (p : Nat) (room : Bool) : Bool :=
  c.running && !c.stalled p && (if p < 96 then c.egressFlights p < 16 && c.holdRoom p else room) && c.portPermits p && c.grantFree p

/-- The dequeue itself: charges, tags and counts (R200, R201, R204, R214). -/
def Chip.serve (c : Chip) (p cls : Nat) (x : Queued) (f : Frame) : Chip :=
  let q := qOf p cls
  let n := f.bytes.length
  let lc := c.counted (portShaper p) n
  let c := c.chargeShaper (portShaper p) lc
  let c := if f.hasTenant then c.chargeShaper f.tenant (c.counted f.tenant n) else c
  let c := { c with data := { c.data with served := Sparse.set 0 c.data.served p (c.cycle + 1) } }
  let y := c.queue q
  let c := c.setVtime p (c.level q) y.tag
  let rest := y.frames.drop 1
  let w := max 1 (c.rd (F.TMG_Q_SCHED_weight q))
  let tag := if rest = [] then y.tag else (y.tag + ceilDiv (256 * lc.toNat) w) % 2 ^ 48
  let c := c.setQueue q { frames := rest, tag := tag }
  let c := c.bump (R.TMG_Q_TX q)
  c.mark (F.TMG_Q_HWM_SOJ_sojourn_max q) (ceilDiv ((c.cycle - x.linked) * 5) 8)

/-- Frames of the management cores at the head of a port's egress order go on to the commit stage (R123). -/
def drainMgmt : List Flight → List CommitItem × List Flight
  | [] => ([], [])
  | x :: xs =>
    if x.source != 144 then ([], x :: xs)
    else
      let (a, b) := drainMgmt xs
      let sc := match (x.run.bind (·.terminal)) with
        | some (.protect n) => some n
        | _ => none
      ({ bytes := x.bytes, sc := sc, cls := x.cls, rx := x.rx, source := 144, bad := x.bad } :: a, b)

/-- Moves them. -/
def Chip.settleEgress (c : Chip) (p : Nat) : Chip :=
  let (a, b) := drainMgmt (c.flights (2 * p + 1))
  if a = [] then c
  else (c.setFlights (2 * p + 1) b).setPort p { c.port p with commits := (c.port p).commits ++ a }

/-- A frame of the management cores: its protection becomes its result (R123). -/
def protRun (x : Protection) : Run :=
  { terminal := some (match x with | .clear => .bypass | .secure n => .protect n) }

/-- A copy that has been read goes to the egress parser of a line port, or out of an uplink. `bad`: one of its cells turns out
uncorrectable after its commit (R190); an uplink's copy is then aborted on the wire, after a free number of bytes (log entry 16, DESIGN
CHOICE). -/
def Chip.passCopy (c : Chip) (p cls : Nat) (f : Frame) (b : Bytes) (bad : Bool) : Chip :=
  if p < 96 then
    let x : Flight := { bytes := b, cls := cls, tenant := f.tenant, metadata := f.metadata, source := f.port, copy := f.copies, rx := f.rx,
                        run := f.prot.map protRun, bad := bad }
    let c := c.setFlights (2 * p + 1) (c.flights (2 * p + 1) ++ [x])
    let c := c.mark (F.FLW_PD_HWM_inflight_max (2 * p + 1)) (c.egressFlights p)
    c.settleEgress p
  else
    let (b, n, c) := c.tcCorrect f.port p f.rx (c.ns + 60) b
    if bad then (let (v, c) := c.freeNat 16; c.emit (.frame p (abortedFrame b (v % (b.length - 4) + 1)) false))
    else ((c.stampSent f.port p (c.ns + 60)).add R.TIM_TC_FRAMES n).emit (.frame p b true)

/-- A copy has a cell that cannot be corrected: it is counted, and the cell is retired, once for the copies of one frame (R190).
(log entry 35, DEDUCED) -/
def Chip.retireCell (c : Chip) (p q i : Nat) : Chip :=
  let c := c.bump (R.SWC_CELL_UNCORR (pipeOf p))
  match c.frame i with
  | none => c
  | some f =>
    if f.retired then c
    else
      let c := (c.setFrame i (some { f with retired := true })).wr F.SWC_RETIRED_cells (c.rd F.SWC_RETIRED_cells + 1)
      let c := c.wr F.SWC_POOL_SIZE_shared (c.rd F.SWC_POOL_SIZE_shared - 1)
      c.settlePool.alert Sub.swc.n 0 p q

/-- The corrections that the ECC makes, and whether a cell cannot be corrected: none, or whether that was found late. -/
def eccFound : Ecc → Nat × Option Bool
  | .clean => (0, none)
  | .corrected n => (n, none)
  | .uncorrectable n late => (n, some late)

/-- DEQUEUE: the next frame of a port (R198 to R201). A cell that the ECC cannot correct discards the copy before its commit, and aborts
it on the wire after (R190). -/
def execDequeue (port : Nat) (r : CopyRead) (s : State) : Host.Outcome State Fault Refusal :=
  s.actOn (port < 144) fun c =>
    if !c.mayDequeue port r.room then c
    else
      match c.pickClass port with
      | none => c
      | some cls =>
        match c.headOf port cls with
        | none => c
        | some x =>
          match c.frame x.frame with
          | none => c
          | some f =>
            let c := c.serve port cls x f
            let b := c.readCopy f
            let c := c.add (R.SWC_CELL_CORR (pipeOf port)) (eccFound r.ecc).1
            let c := if (eccFound r.ecc).2.isSome then c.retireCell port (qOf port cls) x.frame else c
            let c := c.copyGone x.frame port
            if (eccFound r.ecc).2 = some false then c else c.passCopy port cls f b ((eccFound r.ecc).2 == some true)

end Sys2Proof.Machine
end

