-- ==== Sys2Proof/Machine/Sorrel.lean ====
section
/-! DEFINITION. The Sorrel engines at work: dispatch, overrun, engine faults (R119 to R122, R141 to R146), the engines' performance
counters (R476 to R480), and the host's changes of tables and programs (R135, R149). -/

namespace Sys2Proof.Machine

/-! ## Engines (R119, R145) -/

/-- Place of a port and direction in its cluster, 0 to 11 (R148). -/
def portDir (p dir : Nat) : Nat := 2 * (p % 6) + dir

/-- The engine that stands in a place of a cluster: the assigned one, or the spare that has replaced it. -/
def Chip.engineAt (c : Chip) (cl li : Nat) : Nat :=
  if c.flag (F.FLW_CL_STATUS_spare_active cl) && c.rd (F.FLW_CL_STATUS_replaced cl) == li then 192 + cl else 12 * cl + li

/-- The place of an engine: its own, or that of the engine it replaced. -/
def Chip.placeOf (c : Chip) (e : Nat) : Nat := if 192 ≤ e then c.rd (F.FLW_CL_STATUS_replaced (e - 192)) else e % 12

def engIdle : Nat := 0
def engRunning : Nat := 1
def engFenced : Nat := 2
def engSpare : Nat := 3

def Chip.engState (c : Chip) (e : Nat) : Nat := c.rd (F.FLW_ENG_STATUS_state e)

/-- The program of a flight has ended: its terminal action has issued, though its result may wait for earlier ones (R120, R121). -/
def Chip.flightDone (c : Chip) (x : Flight) : Bool :=
  (x.run.map (fun r => r.terminal.isSome && !r.overran)).getD false && x.due < c.cycle

/-- The frame that an engine is at work on, as key and place in the flights. -/
def Chip.workOf (c : Chip) (e : Nat) : Option (Nat × Nat) :=
  c.data.flights.findSome? (fun kv => (kv.2.findIdx? (fun x => x.engine == some e && !c.flightDone x)).map (fun j => (kv.1, j)))

/-- An engine can take a frame: it is idle, or its program has ended (R120). -/
def Chip.engFree (c : Chip) (e : Nat) : Bool :=
  c.engState e == engIdle || (c.engState e == engRunning && (c.workOf e).isNone)

/-- The engine for a port and direction: home when idle, else the lowest idle place of the cluster (R120). -/
def Chip.pickEngine (c : Chip) (p dir : Nat) : Option Nat :=
  let cl := clusterOf p
  let able := (List.range 12).filter (fun li => c.engFree (c.engineAt cl li))
  if able.contains (portDir p dir) then some (c.engineAt cl (portDir p dir)) else (able.head?).map (c.engineAt cl)

/-! ## Performance counters (R476 to R479) -/

/-- Counting is on: paused from step 1 to step 23 of a warm start. -/
def Chip.counting (c : Chip) : Bool :=
  c.flag F.HLT_PC_GLOBAL_run && !(c.start.busy && c.rd F.MGT_START_STATUS_start_kind == 2 && c.start.todo.contains 23)

/-- Adds to counter `j` of an engine. -/
def Chip.pcAdd (c : Chip) (e j n : Nat) : Chip :=
  let ch := c.rd (F.HLT_PC_SEL_chain e)
  let v (k : Nat) : Nat := c.num (R.HLT_PC_CNT e k) 2
  if bit ch (j / 2) then
    let x := (v (2 * (j / 2)) + 2 ^ 48 * v (2 * (j / 2) + 1) + n) % 2 ^ 96
    (c.setNum (R.HLT_PC_CNT e (2 * (j / 2))) 2 (x % 2 ^ 48)).setNum (R.HLT_PC_CNT e (2 * (j / 2) + 1)) 2 (x / 2 ^ 48)
  else
    let x := v j + n
    let c := c.setNum (R.HLT_PC_CNT e j) 2 (x % 2 ^ 48)
    if 2 ^ 48 ≤ x then c.wr (F.HLT_PC_FILT_overflow e) (c.rd (F.HLT_PC_FILT_overflow e) ||| 2 ^ j) else c

/-- Counts an event of an engine; an event marked F names its port and direction. -/
def Chip.pcEvent (c : Chip) (e ev n : Nat) (pd : Option Nat) : Chip :=
  if n = 0 || !c.counting then c
  else if c.flag (F.HLT_PC_FILT_filter_on e) && (match pd with | some k => k != c.rd (F.HLT_PC_FILT_port_dir e) | none => false) then c
  else
    let sel := c.rd (F.HLT_PC_SEL_event e)
    let ch := c.rd (F.HLT_PC_SEL_chain e)
    (List.range 6).foldl (fun c j => if bits sel (4 * j) 4 = ev && !(j % 2 = 1 && bit ch (j / 2)) then c.pcAdd e j n else c) c

/-- The tallies of a frame enter the slots of its engine as its result takes effect, or is discarded (R476). -/
def Chip.pcFrame (c : Chip) (e pd : Nat) (r : Run) (kept : Bool) : Chip :=
  let c := c.pcEvent e 1 r.cycles none
  let c := (c.pcEvent e 7 r.lookups (some pd)).pcEvent e 8 r.branches (some pd)
  if kept then
    let c := (c.pcEvent e 2 (r.cycles - r.stalls - r.branches) (some pd)).pcEvent e 3 r.branches (some pd)
    c.pcEvent e 4 r.stalls (some pd)
  else c.pcEvent e 3 r.cycles (some pd)

/-- One cycle of the engines that have no frame (R476, slot 3). -/
def Chip.pcTick (c : Chip) : Chip :=
  if !c.counting then c
  else
    (List.range 208).foldl (fun c e =>
      if c.rd (F.HLT_PC_SEL_event e) = 0 || !c.engFree e then c
      else (c.pcEvent e 1 1 none).pcEvent e 5 1 none) c

/-- Zeroes C0 to C5 of an engine. -/
def Chip.pcZero (c : Chip) (e : Nat) : Chip := (List.range 6).foldl (fun c j => c.setNum (R.HLT_PC_CNT e j) 2 0) c

/-- PC_RUN: run of HLT_PC_GLOBAL is written (R479). -/
def execPcRun (init : Nat) (run : Bool) (s : State) : Host.Outcome State Fault Refusal :=
  s.act fun c => c.hostWrite init R.HLT_PC_GLOBAL (fun c => c.wrb F.HLT_PC_GLOBAL_run run)

/-- PC_CLEAR_ALL: clear_all of HLT_PC_GLOBAL is written. -/
def execPcClearAll (init : Nat) (s : State) : Host.Outcome State Fault Refusal :=
  s.act fun c => c.hostWrite init R.HLT_PC_GLOBAL (fun c => (List.range 208).foldl (fun c e => c.pcZero e) c)

/-- PC_CLEAR: clear of HLT_PC_FILT[s] is written. -/
def execPcClear (init engine : Nat) (s : State) : Host.Outcome State Fault Refusal :=
  s.actOn (engine < 208) fun c => c.hostWrite init (R.HLT_PC_FILT engine) (fun c => c.pcZero engine)

/-! ## Dispatch (R120, R125) -/

/-- The place in a list of the first flight that satisfies a test. -/
def flightIx (l : List Flight) (f : Flight → Bool) : Option Nat := l.findIdx? f

/-- The program that a flight runs: that of its generation (R149). -/
def Chip.flightProgram (c : Chip) (cl gen : Nat) : Bytes :=
  let x := Sparse.get {} c.data.clusters cl
  if gen = 0 || gen = x.gen + 1 then c.program cl else ((x.prior.find? (fun e => e.1 + 1 == gen)).map (·.2)).getD (c.program cl)

/-- The plaintext of a flight: that of the stored frame on ingress, and the copy on egress. -/
def Chip.flightBytes (c : Chip) (dir : Nat) (x : Flight) : Bytes :=
  if dir = 0 then ((c.frame x.frame).map (·.bytes)).getD [] else x.bytes

/-- Runs the program on a flight (R125, R137). (log entry 33, DEDUCED) -/
def Chip.runFlight (c : Chip) (p dir : Nat) (x : Flight) (ended : Bool) : Run :=
  let prog := c.flightProgram (clusterOf p) x.gen
  let d := progPort prog p dir
  let f := c.flightBytes dir x
  if dir = 0 then
    let y := (c.frame x.frame).getD { port := p, bytes := [] }
    let g2 := y.verdict + 4 * y.an + 65536 * y.sc
    let g3 := if y.verdict = 1 then y.sa + 2 ^ 31 else 0
    c.runProgram prog p 0 f (if ended then f.length else 0) g2 g3 (byteAt d 3 % 8) (le d 6 2 % 4096)
  else
    let g2 := x.source + 256 * x.cls + 2048 * x.tenant + 2 ^ 23 * b2n x.copy
    c.runProgram prog p 1 f f.length g2 x.metadata x.cls x.tenant

/-- A frame lies between the parser and its result, with no engine: it waits for its dispatch. -/
def Flight.idle (x : Flight) : Bool := x.engine.isNone && x.run.isNone

/-- A run that a fetch ends, as the frame's default action, with what the disposition starts with (R137, R144). -/
def Chip.fetchLost (c : Chip) (k : Nat) (x : Flight) (r : Run) : Run :=
  let d := progPort (c.flightProgram (k / 12) x.gen) (k / 2) (k % 2)
  defaultRun d { terminal := none, cls := if k % 2 = 0 then byteAt d 3 % 8 else x.cls,
                 tenant := if k % 2 = 0 then le d 6 2 % 4096 else x.tenant, cycles := r.cycles, stalls := r.stalls, branches := r.branches,
                 lookups := r.lookups }

/-- Place `j` of the flights of key `k` goes to engine `e`, and its program runs from its first bundle (R120, R145). `ended` is what the
dispatcher preloads into g1, which a re-execution takes as it was held. A fetch that the ECC cannot correct gives the frame its default
action; corrections and such fetches are counted (R144). -/
def Chip.startOn (c : Chip) (k j e : Nat) (ended : Bool) (ecc : Ecc) : Chip :=
  let (fixed, lost) := eccFound ecc
  let p := k / 2
  let dir := k % 2
  let l := c.flights k
  let x := l.getD j {}
  let again := x.gen != 0
  let gen := if again then x.gen else (Sparse.get {} c.data.clusters (clusterOf p)).gen + 1
  let x := { x with gen := gen, engine := some e, ended := if again then x.ended else ended || dir == 1 }
  let r := c.runFlight p dir x x.ended
  let r := if lost.isSome then c.fetchLost k x r else r
  let c := c.wr (F.FLW_CL_ECC_corrected (k / 12)) (c.rd (F.FLW_CL_ECC_corrected (k / 12)) + fixed)
  let c := c.wr (F.FLW_CL_ECC_uncorrectable (k / 12)) (c.rd (F.FLW_CL_ECC_uncorrectable (k / 12)) + b2n lost.isSome)
  let c := (c.wr (F.FLW_ENG_STATUS_state e) engRunning).wr (F.FLW_ENG_STATUS_port_dir e) (portDir p dir)
  let c := c.pcEvent e 12 (b2n (c.placeOf e != portDir p dir)) (some (portDir p dir))
  let c := c.pcEvent e 11 (b2n again) (some (portDir p dir))
  let c := if r.bad && !x.counted then (c.bump (R.FLW_BAD_ACTION k)).pcEvent e 10 1 (some (portDir p dir)) else c
  c.setFlights k (l.set j { x with run := some r, counted := x.counted || r.bad, due := c.cycle + r.cycles - 1 })

/-- A frame of a cluster that waits for its re-execution (R146), as key and place in the flights. -/
def Chip.awaitsAgain (c : Chip) (cl : Nat) : Option (Nat × Nat) :=
  ((List.range 12).map (12 * cl + ·)).findSome? (fun k => (flightIx (c.flights k) (fun x => x.idle && x.gen != 0)).map (fun j => (k, j)))

/-- A frame that has lost its engine takes the next of the cluster to become idle (R146). -/
def Chip.runAgain (c : Chip) (cl : Nat) : Chip :=
  match c.awaitsAgain cl with
  | none => c
  | some (k, j) =>
    match ((List.range 12).map (c.engineAt cl)).find? c.engFree with
    | none => c
    | some e => c.startOn k j e true .clean

/-- SORREL_DISPATCH: the oldest frame of a port and direction whose parser result waits goes to an engine, and its program runs; `ecc` is
what the fetches of its run find. A frame of the cluster that waits for its re-execution goes first (R146). (log entry 33, DEDUCED) (log
entry 67, DEDUCED) -/
def Chip.dispatch (c : Chip) (p dir : Nat) (ended : Bool) (ecc : Ecc) : Chip :=
  let c := c.runAgain (clusterOf p)
  match flightIx ((c.flights (2 * p + dir)).take 16) Flight.idle, c.pickEngine p dir with
  | some j, some e => c.startOn (2 * p + dir) j e ended ecc
  | _, _ => c

/-- SORREL_DISPATCH (R120): The dispatcher hands a frame with a ready parser result to an idle engine, and its program runs. -/
def execSorrelDispatch (port dir : Nat) (r : RunIn) (s : State) : Host.Outcome State Fault Refusal :=
  s.actOn (port < 96 && dir < 2) fun c => if c.running then c.dispatch port dir r.ended r.ecc else c

/-- PROGRAM_OVERRUN: the limit is reached, and the frame takes the default action of its port and direction (R142). -/
def execProgramOverrun (port dir : Nat) (s : State) : Host.Outcome State Fault Refusal :=
  s.actOn (port < 96 && dir < 2) fun c =>
    let l := c.flights (2 * port + dir)
    match flightIx l (fun x => (x.run.map (·.overran)).getD false) with
    | none => c
    | some j =>
      let x := l.getD j {}
      let d := progPort (c.flightProgram (clusterOf port) x.gen) port dir
      let c := if x.counted then c
        else (c.bump (R.FLW_OVERRUN (2 * port + dir))).pcEvent (x.engine.getD 0) 9 1 (some (portDir port dir))
      c.setFlights (2 * port + dir) (l.set j { x with counted := true, run := x.run.map (fun r => { defaultRun d r with overran := false, dflt := true }) })

/-! ## Engine faults (R144 to R146) -/

/-- The frame at place `j` of the flights of key `k` loses the result of engine `e` and waits for its re-execution (R145). -/
def Chip.unrun (c : Chip) (e k j : Nat) : Chip :=
  let l := c.flights k
  let x := l.getD j {}
  let c := match x.run with
    | some r => c.pcFrame e (portDir (k / 2) (k % 2)) r false
    | none => c
  c.setFlights k (l.set j { x with engine := none, run := none })

/-- Fences an engine: the spare of its cluster takes its place when it is ready and not active, and the cluster runs on fewer engines
otherwise. A fenced spare is no longer ready, and in standby it holds no place. (log entry 33, DEDUCED) -/
def Chip.fenceEngine (c : Chip) (e : Nat) : Chip :=
  let cl := if e < 192 then e / 12 else e - 192
  let li := c.placeOf e
  let standby := c.engState e = engSpare
  let c := c.wr (F.FLW_ENG_STATUS_state e) engFenced
  let c := if 192 ≤ e then c.wr (F.FLW_CL_STATUS_spare_ready cl) 0 else c
  if standby then c
  else if e < 192 && c.flag (F.FLW_CL_STATUS_spare_ready cl) && !c.flag (F.FLW_CL_STATUS_spare_active cl) then
    let c := (c.wr (F.FLW_CL_STATUS_spare_active cl) 1).wr (F.FLW_CL_STATUS_replaced cl) li
    c.wr (F.FLW_ENG_STATUS_state (192 + cl)) engIdle
  else c.wr (F.FLW_CL_STATUS_second_fault cl) 1

/-- A fenced engine is reported (R146). -/
def Chip.alertEngine (c : Chip) (e : Nat) : Chip := c.alert Sub.sorrel.n 0 e (c.word (R.FLW_ENG_STATUS e)).toNat

/-- ENGINE_FAULT: a check fires; the engine is fenced, and the frame that it is at work on is re-executed on the spare, which takes its
place, or on the next engine of the cluster to become idle. -/
def Chip.engineFault (c : Chip) (e : Nat) (check : EngineCheck) : Chip :=
  if c.engState e = engFenced then c
  else
    let work := c.workOf e
    let cl := if e < 192 then e / 12 else e - 192
    let spare := e < 192 && c.flag (F.FLW_CL_STATUS_spare_ready cl) && !c.flag (F.FLW_CL_STATUS_spare_active cl)
    let c := ((work.elim c (fun w => c.unrun e w.1 w.2)).fenceEngine e)
    let c := match check with
      | .parity => c.wr (F.FLW_ENG_STATUS_parity e) 1
      | .residue => c.wr (F.FLW_ENG_STATUS_residue e) 1
      | .watchdog => c.wr (F.FLW_ENG_STATUS_watchdog e) 1
    let c := c.alertEngine e
    match work with
    | none => c
    | some w => if spare then c.startOn w.1 w.2 (192 + cl) true .clean else c.runAgain cl

/-- ENGINE_FAULT (R145): A check of a Sorrel engine fires; the engine is fenced and the frame is re-executed on the spare or on another
engine. -/
def execEngineFault (engine : Nat) (check : EngineCheck) (s : State) : Host.Outcome State Fault Refusal :=
  s.actOn (engine < 208) (fun c => c.engineFault engine check)

/-! ## Tables (R135) -/

def Chip.setTable (c : Chip) (cl t : Nat) (l : List (Option TabEntry)) : Chip :=
  { c with data := { c.data with tables := Sparse.set [] c.data.tables (8 * cl + t) l } }

/-- Entries that the exact-match tables of a cluster hold. -/
def Chip.exactUsed (c : Chip) (cl : Nat) : Nat := ((List.range 4).map (fun t => ((c.table cl t).filterMap id).length)).sum

/-- Replaces the first entry that a test names, or takes the first free place, or adds one at the end. (log entry 33, DEDUCED) -/
def putEntry (l : List (Option TabEntry)) (same : TabEntry → Bool) (e : TabEntry) : List (Option TabEntry) :=
  match l.findIdx? (fun x => (x.map same).getD false) with
  | some j => l.set j (some e)
  | none => match l.findIdx? (·.isNone) with
    | some j => l.set j (some e)
    | none => l ++ [some e]

/-- SORREL_TABLE_WRITE (R135, R460). (log entry 33, DEDUCED) -/
def Chip.tableWrite (c : Chip) (i : Instr) (cl t key mask value : Nat) : Chip × Answer :=
  let (kind, n, _) := progTable (c.program cl) t
  let done (c : Chip) : Chip × Answer := (c, { code := Code.committed, jop := some (.cmd i) })
  let l := c.table cl t
  if 15 < cl || 6 < t || kind = 0 then refuse c Code.range
  else if kind = 3 then
    if n ≤ key % 2 ^ 32 then refuse c Code.range else done (c.setTable cl t (l.set (key % 2 ^ 32) (some { value := value })))
  else if kind = 4 then
    let same (e : TabEntry) : Bool := e.key == key && e.mask == mask
    if !(l.filterMap id).any same && 256 ≤ (l.filterMap id).length then refuse c Code.tableFull
    else done (c.setTable cl t (putEntry l same { key := key, mask := mask, value := value }))
  else
    let same (e : TabEntry) : Bool := e.key == key
    if kind = 1 && 2 ^ 32 ≤ key then refuse c Code.range
    else if !(l.filterMap id).any same && 4096 ≤ c.exactUsed cl then refuse c Code.tableFull
    else done (c.setTable cl t (putEntry l same { key := key, value := value }))

/-- SORREL_TABLE_WRITE (R135): The command inserts or changes one entry of a cluster's table, indivisibly and journaled. -/
def execSorrelTableWrite (h : Mb) (cluster table key mask value : Nat) (s : State) : Host.Outcome State Fault Refusal :=
  s.act fun c => c.mbRun h { opcode := 0x0200, commit := true } fun c =>
    c.tableWrite (.sorrelTableWrite h cluster table key mask value) cluster table key mask value

/-- SORREL_TABLE_DELETE (R135, R460): the same opcode with op 1. -/
def Chip.tableDelete (c : Chip) (i : Instr) (cl t key mask : Nat) : Chip × Answer :=
  let (kind, n, _) := progTable (c.program cl) t
  let l := c.table cl t
  let remove (same : TabEntry → Bool) : Chip × Answer :=
    match l.findIdx? (fun x => (x.map same).getD false) with
    | none => refuse c Code.empty
    | some j => (c.setTable cl t (l.set j none), { code := Code.committed, jop := some (.cmd i) })
  if 15 < cl || 6 < t || kind = 0 then refuse c Code.range
  else if kind = 3 then
    if n ≤ key % 2 ^ 32 then refuse c Code.range
    else (c.setTable cl t (l.set (key % 2 ^ 32) none), { code := Code.committed, jop := some (.cmd i) })
  else if kind = 4 then remove (fun e => e.key == key && e.mask == mask)
  else if kind = 1 && 2 ^ 32 ≤ key then refuse c Code.range
  else remove (fun e => e.key == key)

/-- SORREL_TABLE_DELETE (R135): The command deletes an exact-match entry, or returns a direct entry to the miss value. -/
def execSorrelTableDelete (h : Mb) (cluster table key mask : Nat) (s : State) : Host.Outcome State Fault Refusal :=
  s.act fun c => c.mbRun h { opcode := 0x0200, commit := true } fun c =>
    c.tableDelete (.sorrelTableDelete h cluster table key mask) cluster table key mask

/-- Bytes of an entry in the contents of a table of a kind (R148). -/
def contentSize (k : Nat) : Nat := if k = 0 then 0 else if k = 3 then 4 else if k = 4 then 24 else 16

/-- Where the contents of table `t` begin: after the bundles, in table order; for 7, the length of the whole value (R148). -/
def contentStart (v : Bytes) (t : Nat) : Nat :=
  (List.range t).foldl (fun o j => o + contentSize (progTable v j).1 * (progTable v j).2.1) (160 + 8 * progN v)

/-- The contents of table `t` of a program value. The upper four key bytes of an entry of a 32-bit exact table are not said to be zero: it
is the model's choice to keep them in the key, so that such an entry never matches (log entry 73, DESIGN CHOICE). -/
def progContents (v : Bytes) (t : Nat) : List (Option TabEntry) :=
  let (kind, n, _) := progTable v t
  (List.range n).map fun j =>
    let e := entryAt v (contentStart v t) (contentSize kind) j
    some (if kind = 3 then { value := le e 0 4 } else if kind = 4 then { key := le e 0 8, mask := le e 8 8, value := le e 16 4 }
      else { key := le e 0 8, value := le e 8 4 })

/-- The four bytes marked zero that end each exact and each ternary entry are zero (R148). -/
def padsOk (v : Bytes) (t : Nat) : Bool :=
  let (kind, n, _) := progTable v t
  kind = 0 || kind = 3 ||
    (List.range n).all (fun j => le v (contentStart v t + contentSize kind * (j + 1) - 4) 4 == 0)

/-- Loads the program and tables of a cluster from the image (R39 step 16); the overlay and the frames in progress end. -/
def Chip.loadCluster (c : Chip) (cl : Nat) : Chip :=
  let c := { c with data := { c.data with clusters := Sparse.set {} c.data.clusters cl {} } }
  let v := c.program cl
  let c := (List.range 7).foldl (fun c t => c.setTable cl t (progContents v t)) c
  (c.wr (F.FLW_CL_STATUS_bundles cl) (progN v)).wr (F.FLW_CL_STATUS_overlay_active cl) 0

/-! ## Program checks (R132, R143, R148) -/

/-- General registers that the slots of a bundle write. -/
def bundleWrites (b : Nat) : List Nat :=
  let fmt := bits b 62 2
  let alu := if fmt = 1 then (if bits b 57 5 = 0 then [] else [bits b 52 5]) else if fmt = 0 && bits b 57 5 != 0 then [bits b 52 5] else []
  let xc := if fmt != 1 && bits b 38 4 = 1 then [bits b 33 5] else []
  let ta := if fmt != 1 && (bits b 17 5 = 1 || bits b 17 5 = 2) then [bits b 5 5] else []
  (alu ++ xc ++ ta).filter (· != 0)

/-- The TA slot is legal: its op is listed, and a LKUP names a table that is there, with an rs that has a successor for a 64-bit key
(R132, R133, R136). The reserved table value 7 fails only at run time (R138). -/
def taLegal (v : Bytes) (ta : Nat) : Bool :=
  let op := bits ta 17 5
  if op = 1 then
    let t := bits ta 10 3
    let k := (progTable v t).1
    t = 7 || (k != 0 && !((k = 2 || k = 4) && bits ta 0 5 = 31))
  else [0x00, 0x02, 0x04, 0x05, 0x06, 0x07, 0x08, 0x09, 0x10, 0x11, 0x12, 0x13, 0x14].contains op

/-- A bundle passes the checks of R132, apart from what fails only at run time. -/
def bundleLegal (v : Bytes) (n b : Nat) : Bool :=
  let fmt := bits b 62 2
  let w := bundleWrites b
  let wide := [0x00, 0x01, 0x02, 0x03, 0x04, 0x05, 0x0B].contains (bits b 57 5) && bits b 0 15 = 0
  let x := bits b 22 20
  let xo := bits x 16 4
  let xcOk := (xo = 0 && x = 0) || xo = 1 || (xo = 2 && !bit x 0) || xo = 3 || (xo = 4 && bits x 0 8 = 0)
  let cond := bits b 59 3
  let brOk := cond < 4 && bits b 42 4 = 0 && (cond = 3 || bits b 46 11 < n)
  if fmt = 3 then false
  else if fmt = 1 then wide
  else (if fmt = 0 then bits b 57 5 ≤ 0x0E else brOk) && xcOk && taLegal v (bits b 0 22) && w.eraseDups.length == w.length

/-- The value keeps to R132, R143 and R148 for a cluster. Of N above 2,048 the spec names no reject code: CONTENT is the model's choice
(log entry 73, DESIGN CHOICE). `sc` tells the transmit channels of a port, `encap` its encapsulation. -/
def programOk (v : Bytes) (encap : Nat → Nat) (txSc : Nat → Nat → Bool) : Bool :=
  let n := progN v
  let cl := byteAt v 0
  let portsOk := (List.range 12).all fun j =>
    let d := slice v (4 + 8 * j) 8
    let p := 6 * cl + j / 2
    let a := byteAt d 2
    le d 0 2 < n && byteAt d 3 < 8 && (if j % 2 = 0 then a ≤ 1 && le d 6 2 < 4096 else
      le d 6 2 == 0 && (a == 0 || (a == 2 && encap p != 0 && txSc p (le d 4 2)) || (a == 3 && encap p != 2)))
  let kindsOk := (List.range 7).all fun t =>
    let (k, e, m) := progTable v t
    byteAt v (105 + 8 * t) == 0 && (if k = 0 then e == 0 && m == 0 else if t < 4 then k ≤ 2 else if t < 6 then k == 3 else k == 4)
  let dup (t : Nat) : Bool := let ks := ((progContents v t).filterMap id).map (·.key); ks.eraseDups.length != ks.length
  cl < 16 && byteAt v 1 == 1 && 1 ≤ n && n ≤ 2048 && le v 100 4 == 0 && v.length == contentStart v 7 && portsOk && kindsOk &&
    (List.range 4).all (fun t => !dup t) && (List.range 7).all (padsOk v) && (List.range n).all (fun i => bundleLegal v n (progBundle v i))

/-- The contents fit the table memory (R133); beyond it the image is rejected with RESOURCE. -/
def programFits (v : Bytes) : Bool :=
  let e (t : Nat) : Nat := (progTable v t).2.1
  e 0 + e 1 + e 2 + e 3 ≤ 4096 && e 4 + e 5 ≤ 4096 && e 6 ≤ 256

/-- The check of R132, R143 and R148 under the configuration in force, with the capacities of R133. -/
def Chip.programOk (c : Chip) (v : Bytes) : Bool :=
  programFits v && Machine.programOk v (fun p => c.encap p) (fun p sc => ((c.chan sc).map (fun h => h.tx && h.port == p)).getD false)

/-! ## Overlays (R64, R65, R149) -/

/-- An owner or vendor signature in the layout of R64 verifies over a message: ML-DSA-65 and ECDSA P-384 both (R65). -/
def sigOk (pk msg sg : Bytes) : Bool :=
  let ec := slice sg 3309 96
  Config.mldsaVerify (pk.take 1952) [] msg (sg.take 3309) &&
    Config.ecdsaVerify 2 (be pk 1952 48, be pk 2000 48) (Config.sha384 msg) (be ec 0 48) (be ec 48 48)

/-- Puts an overlay in force. -/
def Chip.applyOverlay (c : Chip) (cl : Nat) (v : Bytes) : Chip :=
  let x := Sparse.get {} c.data.clusters cl
  let busy := (List.range 12).any (fun j => (c.flights (12 * cl + j)).any (fun f => f.gen == x.gen + 1))
  let prior := if busy then x.prior ++ [(x.gen, c.program cl)] else x.prior
  let used := progN v + (prior.map (fun e => progN e.2)).sum
  let c := { c with data := { c.data with clusters := Sparse.set {} c.data.clusters cl (Cluster.mk v prior (x.gen + 1)) } }
  (c.wr (F.FLW_CL_STATUS_bundles cl) used).wr (F.FLW_CL_STATUS_overlay_active cl) 1

/-- The old bundles are freed when the last frame on them has its result (R149). -/
def Chip.freePrior (c : Chip) (cl : Nat) : Chip :=
  let x := Sparse.get {} c.data.clusters cl
  let prior := x.prior.filter (fun e => (List.range 12).any (fun j => (c.flights (12 * cl + j)).any (fun f => f.gen == e.1 + 1)))
  if prior.length = x.prior.length then c
  else
    let c := { c with data := { c.data with clusters := Sparse.set {} c.data.clusters cl { x with prior := prior } } }
    c.wr (F.FLW_CL_STATUS_bundles cl) (progN (c.program cl) + (prior.map (fun e => progN e.2)).sum)

/-- The table descriptors agree, but for the entries field of an exact-match table (R135, R149). -/
def sameTables (v w : Bytes) : Bool :=
  (List.range 7).all fun t =>
    let (k, e, m) := progTable v t
    let (k', e', m') := progTable w t
    k == k' && m == m' && (k == 1 || k == 2 || e == e')

/-- SORREL_OVERLAY (R149): the value, then the owner's signature. (log entry 33, DEDUCED) -/
def Chip.sorrelOverlay (c : Chip) (i : Instr) (cl : Nat) (data : Bytes) : Chip × Answer :=
  let v := data.take (data.length - 3405)
  let sg := data.drop (data.length - 3405)
  let run := c.program cl
  let pk := (c.rec1 T.ownerId).getD []
  if 15 < cl || byteAt v 0 != cl then refuse c Code.range
  else if !sigOk pk (ascii "UNESQUE-SORREL" ++ Config.sha384 v) sg then refuse c Code.authFailure
  else if !c.programOk v || !sameTables v run || 2048 < progN v + progN run then refuse c Code.range
  else (c.applyOverlay cl v, { code := Code.committed, jop := some (.cmd i) })

/-- SORREL_OVERLAY (R149): The command replaces a cluster's program with a signed overlay, moving each port between two frames. -/
def execSorrelOverlay (h : Mb) (cluster : Nat) (s : State) : Host.Outcome State Fault Refusal :=
  s.act fun c => c.mbRun h { opcode := 0x0201, commit := true, long := true, inOk := fun n => 3405 + 168 ≤ n } fun c =>
    c.sorrelOverlay (.sorrelOverlay h cluster) cluster h.inData

/-! ## Program counters (R136) -/

/-- Adds to a program counter of a cluster. -/
def Chip.countFrame (c : Chip) (cl ix bytes : Nat) : Chip :=
  let k := 8192 * cl + ix
  let x := Sparse.get (0, 0) c.data.counts k
  let y := ((x.1 + 1) % 2 ^ 64, (x.2 + bytes) % 2 ^ 64)
  { c with data := { c.data with counts := Sparse.set (0, 0) c.data.counts k y } }

/-- FLW_COUNTER_COPY: a write of FLW_CNT_SEL; with go, one counter is copied, and zeroed when clear is set. -/
def Chip.counterCopy (c : Chip) (value : W32) : Chip :=
  let cl := bits value.toNat 0 4
  let ix := bits value.toNat 4 13
  let c := ((c.wr F.FLW_CNT_SEL_cluster cl).wr F.FLW_CNT_SEL_index ix).wrb F.FLW_CNT_SEL_clear (bit value.toNat 17)
  if !bit value.toNat 18 then c
  else
    let x := Sparse.get (0, 0) c.data.counts (8192 * cl + ix)
    let c := (c.setNum (R.FLW_CNT_DATA 0) 2 x.1).setNum (R.FLW_CNT_DATA 2) 2 x.2
    if bit value.toNat 17 then { c with data := { c.data with counts := Sparse.set (0, 0) c.data.counts (8192 * cl + ix) (0, 0) } } else c

/-- FLW_COUNTER_COPY (R136): The go bit of FLW_CNT_SEL copies a program counter into FLW_CNT_DATA, clearing it when asked. -/
def execFlwCounterCopy (init : Nat) (value : W32) (s : State) : Host.Outcome State Fault Refusal :=
  s.act fun c => c.hostWrite init R.FLW_CNT_SEL (fun c => c.counterCopy value)

end Sys2Proof.Machine
end

