-- ==== Sys2Proof/Machine/Ingress.lean ====
section
/-! DEFINITION. The life of a frame up to its queues: the pre-classifier and the ingress cipher (R223 to R232, R237 to R240), uplink
classification (R218), headroom, admission and multicast (R178 to R181, R189, R191), results (R136 to R145), eligibility (R21, R183,
R184), and the management queue (R185, R186). -/

namespace Sys2Proof.Machine

/-! ## Multicast groups (R189, R191, R196) -/

def Chip.group (c : Chip) (g : Nat) : Nat := Sparse.get 0 c.data.groups g

def Chip.setGroup (c : Chip) (g m : Nat) : Chip := { c with data := { c.data with groups := Sparse.set 0 c.data.groups g m } }

/-- MCAST_WRITE (R191): a paired port or a port above 143 is refused. -/
def Chip.mcastWrite (c : Chip) (i : Instr) (g : Nat) (members : Bytes) : Chip × Answer :=
  let m := le members 0 18
  if 16384 ≤ g || 18 < members.length || (List.range 96).any (fun p => bit m p && c.paired p) then refuse c Code.range
  else (c.setGroup g m, { code := Code.committed, jop := some (.cmd i) })

/-- MCAST_WRITE (R191): The command sets a group's membership in one indivisible step. -/
def execMcastWrite (h : Mb) (group : Nat) (members : Bytes) (s : State) : Host.Outcome State Fault Refusal :=
  s.act fun c => c.mbRun h { opcode := 0x0220, commit := true } fun c => c.mcastWrite (.mcastWrite h group members) group members

/-- MCAST_DELETE (R191): the group is empty afterwards. -/
def Chip.mcastDelete (c : Chip) (i : Instr) (g : Nat) : Chip × Answer :=
  if 16384 ≤ g then refuse c Code.range else (c.setGroup g 0, { code := Code.committed, jop := some (.cmd i) })

/-- MCAST_DELETE (R191): The command empties a multicast group. -/
def execMcastDelete (h : Mb) (group : Nat) (s : State) : Host.Outcome State Fault Refusal :=
  s.act fun c => c.mbRun h { opcode := 0x0221, commit := true } fun c => c.mcastDelete (.mcastDelete h group) group

/-- A write of SWC_MC_SEL; with go the membership is copied. -/
def Chip.groupCopy (c : Chip) (value : W32) : Chip :=
  let g := bits value.toNat 0 14
  let c := c.wr F.SWC_MC_SEL_group g
  if !bit value.toNat 14 then c
  else (List.range 5).foldl (fun c w => c.setWord (R.SWC_MC_DATA w) (BitVec.ofNat 32 (c.group g / 2 ^ (32 * w)))) c

/-- MCAST_GROUP_COPY. -/
def execMcastGroupCopy (init : Nat) (value : W32) (s : State) : Host.Outcome State Fault Refusal :=
  s.act fun c => c.hostWrite init R.SWC_MC_SEL (fun c => c.groupCopy value)

/-- Loads the groups of the image: a group not listed is empty. -/
def Chip.loadGroups (c : Chip) : Chip :=
  let c := { c with data := { c.data with groups := [] } }
  ((c.rec1 T.mcastGroups).map (fun v => countedEntries v 24)).getD [] |>.foldl (fun c e => c.setGroup (le e 0 2) (le e 4 18)) c

/-! ## Admission (R178 to R182) -/

/-- A frame that is dropped, at its decision or before it, withdraws what it teaches (R22, R160). -/
def Chip.dropFrame (c : Chip) (i : Nat) : Chip :=
  match c.frame i with
  | none => c
  | some f => (c.learnWithdraw f).freeFrame i

/-- Every frame that waits withdraws what it teaches, and the buffer is emptied (R22, R42); an SA that waited for its last frame is
retired (R252). -/
def Chip.dropBuffer (c : Chip) : Chip :=
  let c := ((c.data.frames.filterMap (·.2)).foldl Chip.learnWithdraw c).emptyBuffer
  (List.range 96).foldl Chip.retireDue c

/-- Decides frame `i` for the queues of `dests`; a frame that no queue takes is dropped (R180, R181). -/
def Chip.admitFrame (c : Chip) (i : Nat) (f : Frame) (dests : List Nat) (n known : Nat) : Chip :=
  match c.admitQueues i f dests n known with
  | (c, true) => c
  | (c, false) => c.dropFrame i

/-- Members of a group that get a copy (R189). -/
def Chip.copiesOf (c : Chip) (g inPort : Nat) : List Nat := (List.range 144).filter (fun p => bit (c.group g) p && c.portOn p && p != inPort)

/-- Admission of a frame with a forwarding result. -/
def Chip.admitFate (c : Chip) (i : Nat) (x : Fate) (n known : Nat) : Chip :=
  match c.frame i with
  | none => c
  | some f =>
    match x with
    | .drop => c.dropFrame i
    | .punt r =>
      let m := cellsOf f.bytes
      if 1024 < c.rd F.SWC_MGMT_Q_occ + m then (c.sat F.SWC_MGMT_Q_punt_drop 1).dropFrame i
      else
        let c := (c.giveHeadroom m).wr F.SWC_MGMT_Q_occ (c.rd F.SWC_MGMT_Q_occ + m)
        c.setFrame i (some { f with decided := true, punt := some r })
    | .port p => c.admitFrame i f [p] n known
    | .group g =>
      match c.copiesOf g f.port with
      | [] => (c.bump (R.SWC_MC_EMPTY (pipeOf f.port))).dropFrame i
      | ds => c.admitFrame i { f with copies := true } ds n known

/-- From the policer to the admission decision (R19, R24, R30). Of a frame that has not ended, what has come so far is metered and
tested (R180, R211). -/
def Chip.onward (c : Chip) (i intent : Nat) (ended : Bool) : Chip :=
  match c.frame i with
  | none => c
  | some f =>
    let (got, c) := c.arrived f.bytes ended
    let known := c.provisional f.bytes ended got
    let (c, out, dei) := c.police f.port f.cls f.tenant f.bytes f.metadata known
    if out then c.dropFrame i
    else
      let f := { f with marked := dei }
      let c := c.setFrame i (some f)
      let n := ceilDiv got 256
      if c.paired f.port then c.admitFate i (.port (partnerOf f.port)) n known
      else
        let (c, x) := c.forward i f intent
        match x with
        | .drop => c.dropFrame i
        | x => c.admitFate i x n known

/-! ## Storing a frame (R174, R179) -/

/-- A frame reaches the buffer: it takes a number, its place in arrival order, and headroom, unless its port's headroom is full. The
second component tells whether it was written. -/
def Chip.store (c : Chip) (f : Frame) : Chip × Option Nat :=
  let i := c.data.nextId
  let c := { c with data := { c.data with nextId := i + 1 } }
  if headroomOf f.port ≤ c.headUsed f.port then
    let c := c.bump (R.SWC_HEADROOM_DROP (pipeOf f.port))
    (if f.waitIcv then c.setFrame i (some { f with gone := true, decided := true }) else c, none)
  else
    let c := c.setFrame i (some f)
    let c := { c with data := { c.data with order := Sparse.set [] c.data.order f.port (Sparse.get [] c.data.order f.port ++ [i]) } }
    (c.takeHeadroom (cellsOf f.bytes), some i)

/-- A stored frame of a line port goes to the parser, or waits ahead of it; `room` is how many may wait (R121). -/
def Chip.toParser (c : Chip) (p i room : Nat) : Chip :=
  let l := c.flights (2 * p)
  if 16 + room ≤ l.length then (c.bump (R.FLW_DISPATCH_DROP (2 * p))).freeFrame i
  else
    let c := c.setFlights (2 * p) (l ++ [{ frame := i, source := p }])
    c.mark (F.FLW_PD_HWM_inflight_max (2 * p)) (min 16 (l.length + 1))

/-- The records of a Denast port that wait in its receive container buffer reach the buffer and the parser while fewer than 16 frames of
the port are in flight (R121, R122). -/
def Chip.feedFrom (c : Chip) (p : Nat) : List (Nat × Frame) → Chip × List (Nat × Frame)
  | [] => (c, [])
  | x :: xs =>
    if 16 ≤ (c.flights (2 * p)).length then (c, x :: xs)
    else match c.store x.2 with
      | (c, some i) => (c.toParser p i 0).feedFrom p xs
      | (c, none) => c.feedFrom p xs

def Chip.feed (c : Chip) (p : Nat) : Chip :=
  let (c, l) := c.feedFrom p (Sparse.get [] c.data.inbox p)
  { c with data := { c.data with inbox := Sparse.set [] c.data.inbox p l } }

/-- The receive time stamp of a frame whose first byte leaves the PCS now, referred to the MDI (R377). -/
def Chip.rxStamp (c : Chip) (p : Nat) : Nat := ((c.ns : Int) - (c.latency p).1 - c.rxTrim p).toNat

/-! ## The ingress cipher (R223, R225, R230) -/

/-- Ingress slices that serve a pipeline: its own two and I8 while it is attached, unless fenced. -/
def Chip.inSlices (c : Chip) (k : Nat) : List Nat :=
  ([9 + 2 * k, 10 + 2 * k].filter (fun s => c.rd (F.CPH_SLICE_STATUS_state s) == 0)) ++
    (if c.rd (F.CPH_SLICE_STATUS_state 17) == 2 && c.rd (F.CPH_SLICE_STATUS_pipeline 17) == k then [17] else [])

/-- A container in the ingress cipher (R223, R226). -/
def Chip.setBox (c : Chip) (n : Nat) (b : Option Box) : Chip := { c with data := { c.data with boxes := Sparse.set none c.data.boxes n b } }

def Chip.setNextId (c : Chip) (n : Nat) : Chip := { c with data := { c.data with nextId := n } }

/-- Blocks that wait on a lane, of frames and of containers. -/
def Chip.laneLoad (c : Chip) (s l : Nat) : Nat :=
  (c.data.boxes.filterMap (·.2)).foldl (fun n b => if b.lane == some (s, l) then n + b.blocks else n)
    ((c.data.frames.filterMap (·.2)).foldl (fun n f => if f.lane == some (s, l) then n + f.blocks else n) 0)

/-- The lane with the fewest blocks waiting; ties go to the lowest slice, then lane 0 (R223). -/
def Chip.pickInLane (c : Chip) (k : Nat) : Option (Nat × Nat) :=
  ((c.inSlices k).flatMap (fun s => [(s, 0), (s, 1)])).foldl (fun (b : Option (Nat × Nat)) x => match b with
    | none => some x
    | some y => if c.laneLoad x.1 x.2 < c.laneLoad y.1 y.2 then some x else some y) none

/-- The PN that a frame on an SA is taken to carry (R239). -/
def recoverPn (xpn : Bool) (next w pn32 : Nat) : Nat :=
  let lowest := max 1 (next - w)
  let base := lowest - lowest % 2 ^ 32
  if !xpn then pn32 else if lowest % 2 ^ 32 ≤ pn32 then base + pn32 else base + 2 ^ 32 + pn32

/-- The GCM nonce of a MACsec frame (R230). -/
def macsecNonce (suite : Nat) (sci : Bytes) (ssci : Nat) (salt : Bytes) (pn : Nat) : Bytes :=
  if isXpn suite then xorBytes (toBe ssci 4 ++ toBe pn 8) salt else (sci ++ fill 8 0).take 8 ++ toBe pn 4

/-- A bypass rule of a port matches a frame (R227). -/
def Chip.bypassHit (c : Chip) (n r : Nat) (f : Bytes) : Bool :=
  let kind := c.rd (F.CPH_BYP_kind n r)
  let v := c.rd (F.CPH_BYP_value n r)
  if kind = 1 then
    let et := if c.tpid0 != 0 && be f 12 2 == c.tpid0 then be f 16 2 else be f 12 2
    et == v
  else if kind = 2 then
    let m := c.rd (F.CPH_BYP_mask n r)
    be f 0 5 == 0x0180C20000 && (byteAt f 5 &&& m) == (v % 256 &&& m)
  else false

/-- What the pre-classifier decides. -/
inductive Verdict where
  | drop (c : Chip)
  | clear (c : Chip)
  | secure (c : Chip) (h : Chan) (sa pn : Nat)

/-- The pre-classifier of a MACsec port (R225). -/
def Chip.preclassify (c : Chip) (p : Nat) (f : Bytes) : Verdict :=
  if be f 12 2 != 0x88E5 then
    match (List.range 8).find? (fun r => c.bypassHit p r f) with
    | some r => .clear ((c.bump (R.CPH_BYP_HITS p r)).bump (R.CPH_RX_BYPASS p))
    | none => .drop (c.bump (R.CPH_RX_UNTAGGED p))
  else
    let tci := byteAt f 14
    let sc := bit tci 5
    if f.length < 20 || (sc && f.length < 28) then .drop (c.bump (R.CPH_RX_SHORT p))
    else if bit tci 7 || bit tci 4 || !bit tci 3 || !bit tci 2 || 64 ≤ byteAt f 15 then .drop (c.bump (R.CPH_RX_BAD_TAG p))
    else
      let pn32 := be f 16 4
      let chans := c.portChans p false
      match (if sc then chans.find? (fun h => h.sci == slice f 20 8) else chans.find? (fun h => h.flag1)) with
      | none => .drop (c.bump (R.CPH_RX_NO_SC p))
      | some h =>
        if !isXpn h.suite && pn32 == 0 then .drop (c.bump (R.CPH_RX_BAD_TAG p))
        else
          match c.rxSa h (tci % 4) with
          | none => .drop (c.bump (R.CPH_RX_NO_SA p))
          | some i =>
            let x := c.sa i
            let pn := recoverPn (isXpn h.suite) x.nextPn x.w pn32
            if pn < max 1 (x.nextPn - x.w) then
              let c := c.setSa i { x with replays := x.replays + 1 }
              let e := scEntity h.sc
              .drop (c.setPerf e { c.perf e with replays := (c.perf e).replays + 1, blocks := (c.perf e).blocks + 1 })
            else .secure c h i pn

/-- Opens a MACsec frame under an SA: the plaintext frame with its FCS, and whether the ICV verifies (R228, R230, R231). -/
def openMacsec (h : Chan) (x : Sa) (f : Bytes) (pn : Nat) : Bytes × Bool :=
  let n := if bit (byteAt f 14) 5 then 28 else 20
  let b := body f
  let data := slice b n (b.length - n - 16)
  let icv := b.drop (b.length - 16)
  let off := min h.offsetBytes data.length
  let nonce := macsecNonce x.suite h.sci x.ssci x.salt pn
  let good := gcmTag x.key nonce (b.take n ++ data.take off) (data.drop off) == icv
  (withFcs (f.take 12 ++ data.take off ++ gcmCrypt x.key nonce (data.drop off)), good)

/-- Takes blocks of the hold store, or returns them (R223). (log entry 28, DEDUCED) -/
def Chip.takeHold (c : Chip) (k n : Nat) : Chip :=
  let c := c.wr (F.CPH_HOLD_used k) (c.rd (F.CPH_HOLD_used k) + n)
  c.mark (F.CPH_HOLD_used_max k) (c.rd (F.CPH_HOLD_used k))

/-- Gives back cells of the hold store of a pipeline. (log entry 28, DEDUCED) -/
def Chip.giveHold (c : Chip) (k n : Nat) : Chip := c.wr (F.CPH_HOLD_used k) (c.rd (F.CPH_HOLD_used k) - n)

/-- A block of a channel: a frame or container for which an SA was found (R109). -/
def Chip.addBlock (c : Chip) (sc : Nat) : Chip :=
  let e := scEntity sc
  c.setPerf e { c.perf e with blocks := (c.perf e).blocks + 1 }

/-- The hold store of a pipeline takes a new frame while 10,304 bytes of it are free, and a slice serves the pipeline (R18, R223). -/
def Chip.holdTakes (c : Chip) (k : Nat) : Bool := c.rd (F.CPH_HOLD_used k) * 64 + 10304 ≤ 8192 * 64 && c.inSlices k != []

/-- The check of a protected frame's length at its end: the counter, when it fails (R232, R238). `n` bytes of it go before the secure
data. -/
def badLength (p n : Nat) (f : Bytes) : Option Nat :=
  let d := f.length - n - 20
  let sl := byteAt f 15
  if f.length < n + 22 then some (R.CPH_RX_SHORT p)
  else if (sl != 0 && sl != d) || (sl == 0 && d < 48) then some (R.CPH_RX_BAD_TAG p)
  else none

/-- A protected frame on SA `i`: lane, hold store, plaintext, and the checks at its end (R223, R232, R238). No verdict is given on a frame
that is cut short, too long or of a wrong length (log entry 28, DEDUCED). -/
def Chip.receiveSecure (c : Chip) (p : Nat) (h : Chan) (i pn : Nat) (f : Bytes) (cut long : Bool) : Chip :=
  let k := pipeOf p
  let x := c.sa i
  if !c.holdTakes k then (c.bump (R.CPH_CAP_DROP k)).addBlock h.sc
  else
    let n := if bit (byteAt f 14) 5 then 28 else 20
    let partial_ := cut || long
    let wrong := if partial_ then none else badLength p n f
    let fail := if partial_ then some 0 else if !fcsGood f then some 1 else if wrong.isSome then some 2 else none
    let judged := !partial_ && wrong.isNone
    let c := if long then c.bump (R.CPH_RX_LONG p) else match wrong with
      | some r => c.bump r
      | none => c.addBlock h.sc
    let (g, ok) := openMacsec h x f pn
    let blocks := laneCycles (f.length - (n - 12) - 16)
    let lane := if judged then c.pickInLane k else none
    let c := c.takeHold k blocks
    let c := if judged then c else c.giveHold k blocks
    let y : Frame := { port := p, bytes := g, fail := fail, verdict := 1, sc := h.sc, sa := i, an := x.an, pn := pn, icvOk := ok,
                       waitIcv := judged, lane := lane, blocks := blocks, rx := c.rxStamp p }
    match c.store y with
    | (c, some j) => c.toParser p j 16
    | (c, none) => c

/-- LINE_FRAME_RECEIVE: a frame arrives on an Ethernet line port; `cut` when a defect or error ends it before its last byte.
(log entry 28, DEDUCED) -/
def Chip.lineReceive (c : Chip) (p : Nat) (frame : Bytes) (cut : Bool) : Chip :=
  let long := 10240 < frame.length
  let f := frame.take 10240
  let inClear (c : Chip) (v : Nat) : Chip :=
    let c := if long then c.bump (R.CPH_RX_LONG p) else c
    let fail := if cut || long then some 0 else if !fcsGood f then some 1 else none
    match c.store { port := p, bytes := f, fail := fail, verdict := v, rx := c.rxStamp p } with
    | (c, some j) => c.toParser p j 16
    | (c, none) => c
  if !c.isMacsec p then inClear c 0
  else
    match c.preclassify p f with
    | .drop c => c
    | .clear c => inClear c 2
    | .secure c h i pn => c.receiveSecure p h i pn f cut long

/-- LINE_FRAME_RECEIVE (R19): A frame arrives on a line port and passes the port complex, the pre-classifier, the ingress cipher and
the parser. (log entry 67, DEDUCED) -/
def execLineFrameReceive (port : Nat) (frame : Bytes) (cut : Bool) (s : State) : Host.Outcome State Fault Refusal :=
  s.actOn (port < 96) fun c =>
    if c.running && c.portOn port && !c.isDenast port && frame != [] then c.lineReceive port frame cut else c

/-! ## The final check (R224, R239, R240) -/

/-- The final replay check of an SA for a frame whose ICV has verified: the part, and whether it passes. `octets` is P. -/
def Chip.finalCheck (c : Chip) (h : Chan) (i pn octets : Nat) : Chip × Bool :=
  let x := c.sa i
  let e := scEntity h.sc
  if pn < max 1 (x.nextPn - x.w) then
    let c := c.setSa i { x with replays := x.replays + 1 }
    (c.setPerf e { c.perf e with replays := (c.perf e).replays + 1 }, false)
  else
    let c := c.setSa i { x with nextPn := if x.nextPn ≤ pn then pn + 1 else x.nextPn, frames := x.frames + 1, octets := x.octets + octets }
    ((if h.mode = modeEpoch then c.proof h x.epoch else c).raiseCeiling h i, true)

/-- An ICV fails: the window stays (R240). -/
def Chip.icvFail (c : Chip) (sc i : Nat) : Chip :=
  let x := c.sa i
  let e := scEntity sc
  let c := c.setSa i { x with fails := x.fails + 1 }
  c.setPerf e { c.perf e with bad := (c.perf e).bad + 1 }

/-- The oldest frame of a port whose verdict is to come (R240). -/
def Chip.oldestWaiting (c : Chip) (p : Nat) : Option Nat :=
  (c.data.frames.find? (fun e => (e.2.map (fun f => f.port == p && f.waitIcv)).getD false)).map (·.1)

/-- The verdict of a frame: verdicts of one port follow its arrival order (R240). (log entry 28, DEDUCED) -/
def Chip.frameVerdict (c : Chip) (n : Nat) (f : Frame) : Chip :=
  if !f.waitIcv || c.oldestWaiting f.port != some n then c
  else
    let c := c.giveHold (pipeOf f.port) f.blocks
    let (c, ok) := if !f.icvOk then (c.icvFail f.sc f.sa, false)
      else match c.chan f.sc with
        | some h => c.finalCheck h f.sa f.pn f.bytes.length
        | none => (c, true)
    let g : Frame := { f with waitIcv := false, lane := none, fail := if ok then f.fail else f.fail.orElse (fun _ => some 3) }
    (c.setFrame n (if f.gone then none else some g)).retireDue f.port

/-! ## Eligibility (R21, R183, R184) -/

/-- The counter of a failing check. -/
def discReg (k fail : Nat) : Nat :=
  if fail = 0 then R.SWC_DISC_PARTIAL k else if fail = 1 then R.SWC_DISC_FCS k else if fail = 2 then R.SWC_DISC_LEN k else R.SWC_DISC_ICV k

/-- The frame leaves its port's arrival order. -/
def Chip.unorder (c : Chip) (p i : Nat) : Chip :=
  { c with data := { c.data with order := Sparse.set [] c.data.order p ((Sparse.get [] c.data.order p).filter (· != i)) } }

/-- FRAME_ELIGIBILITY: the oldest frame of an ingress port, once decided and checked, is linked or discarded. -/
def Chip.eligible (c : Chip) (p : Nat) : Chip :=
  match (Sparse.get [] c.data.order p).head? with
  | none => c
  | some i =>
    match c.frame i with
    | none => c.unorder p i
    | some f =>
      if !f.decided || f.waitIcv then c
      else
        let c := c.unorder p i
        match f.fail with
        | some k => ((c.bump (discReg (pipeOf p) k)).learnWithdraw f).discard i
        | none =>
          let c := c.learnConfirm f
          if f.punt.isSome then { c with data := { c.data with mgmtQ := c.data.mgmtQ ++ [i] } }
          else f.queues.foldl (fun c q => c.link q f.cls i p) c

/-- FRAME_ELIGIBILITY (R21): An admitted frame becomes eligible and is linked into its queues, or is discarded under its first failing
check. -/
def execFrameEligibility (port : Nat) (s : State) : Host.Outcome State Fault Refusal :=
  s.actOn (port < 144) fun c => if c.running then c.eligible port else c

/-! ## Uplinks (R24, R218) -/

/-- Class and tenant of a frame on an uplink port; FIXED with class 0 and tenant 0 without the record. -/
def Chip.uplinkClass (c : Chip) (p : Nat) (f : Bytes) : Nat × Nat :=
  match c.rec1 T.uplinkClass with
  | none => (0, 0)
  | some v =>
    let e := entryAt v 4 80 (p - 96)
    let q := c.parse f
    let dflt := byteAt e 2
    let cls := if byteAt e 0 = 0 then (if q.tags = [] then dflt else byteAt e (8 + q.tags.headD 0 / 8192))
      else if byteAt e 0 = 1 then (if q.kind = 1 || q.kind = 2 then byteAt e (16 + q.ds / 4) else dflt)
      else dflt
    let t := le v (3844 + 8192 * pipeOf p + 2 * q.vid) 2
    (cls, if bit (byteAt e 1) 0 && q.vid != 0 && t != 0xFFFF then t % 4096 else le e 4 2)

/-- UPLINK_FRAME_RECEIVE: classifier, policer, forwarding and admission; `ended` tells whether the frame has ended at its decision.
(log entry 34, DEDUCED) -/
def Chip.uplinkReceive (c : Chip) (p : Nat) (frame : Bytes) (cut ended : Bool) : Chip :=
  let long := 10240 < frame.length
  let f := frame.take 10240
  let fail := if cut || long then some 0 else if !fcsGood f then some 1 else none
  let (cls, ten) := c.uplinkClass p f
  match c.store { port := p, bytes := f, fail := fail, cls := cls, tenant := ten, rx := c.rxStamp p } with
  | (c, some i) => c.onward i 0 ended
  | (c, none) => c

/-- UPLINK_FRAME_RECEIVE (R24): A frame arrives on an uplink, and is classified, policed, forwarded and admitted.
(log entry 67, DEDUCED) -/
def execUplinkFrameReceive (port : Nat) (frame : Bytes) (e : Ending) (s : State) : Host.Outcome State Fault Refusal :=
  s.actOn (96 ≤ port && port < 144) fun c =>
    if c.running && c.portOn port && frame != [] then c.uplinkReceive port frame e.cut e.ended else c

/-! ## Results (R136 to R145) -/

/-- The limit on a frame's record on a Denast port: den_tfc_payload, or the sending limit of R85. -/
def Chip.denLimit (c : Chip) (p : Nat) : Nat :=
  let x := c.port p
  if c.denTfc p != 0 then c.denTfc p
  else match x.partner with
    | some q => if q.twoWay then min (c.denMax p) x.maxPay else c.denMax p
    | none => c.denMax p

/-- A frame leaves the egress program for the commit stage (R139). -/
def Chip.toCommit (c : Chip) (p : Nat) (x : Flight) (cls : Nat) (sc : Option Nat) : Chip :=
  if c.isDenast p && c.denLimit p < x.bytes.length then c.bump (R.PRT_DEN_OVERSIZE p)
  else
    let y := c.port p
    let q : CommitItem := { bytes := x.bytes, sc := if c.isDenast p then some (c.denTxSc p) else sc, cls := cls, rx := x.rx, source := x.source,
                            bad := x.bad }
    c.setPort p { y with commits := y.commits ++ [q] }

/-- The result of an ingress program takes effect. -/
def Chip.ingressResult (c : Chip) (p : Nat) (x : Flight) (r : Run) (t : Terminal) : Chip :=
  match c.frame x.frame with
  | none => c
  | some f =>
    match t with
    | .punt k => (c.bump (R.FLW_PUNT (2 * p))).admitFate x.frame (.punt k) (cellsOf f.bytes) f.bytes.length
    | .accept =>
      let c := c.setFrame x.frame (some { f with cls := r.cls, tenant := r.tenant, metadata := r.metadata })
      c.onward x.frame r.egress x.ended
    | _ => (c.bump (R.FLW_DROP (2 * p))).freeFrame x.frame

/-- The result of an egress program takes effect. -/
def Chip.egressResult (c : Chip) (p : Nat) (x : Flight) (r : Run) (t : Terminal) : Chip :=
  match t with
  | .protect sc =>
    if c.isDenast p || ((c.chan sc).map (fun h => h.tx && h.port == p)).getD false then c.toCommit p x r.cls (some sc)
    else c.bump (R.FLW_SC_ERR (2 * p + 1))
  | .bypass => c.toCommit p x r.cls none
  | _ => c.bump (R.FLW_DROP (2 * p + 1))

/-- An engine has no frame left: it is idle, unless it is fenced (R120). -/
def Chip.engRest (c : Chip) (e : Nat) : Chip :=
  if c.engState e = engRunning && (c.workOf e).isNone then c.wr (F.FLW_ENG_STATUS_state e) engIdle else c

/-- SORREL_RESULT: the oldest result of a port and direction takes effect. What waited for an engine or for room behind it goes on
(R121, R122, R146). -/
def Chip.sorrelResult (c : Chip) (p dir : Nat) : Chip :=
  match c.flights (2 * p + dir) with
  | [] => c
  | x :: xs =>
    match x.run, x.engine with
    | some r, some e =>
      match r.terminal with
      | none => c
      | some t =>
        if r.overran then c
        else
          let pd := portDir p dir
          let c := ((c.setFlights (2 * p + dir) xs).engRest e).pcFrame e pd r (!r.dflt)
          let c := (c.addWide (R.FLW_PD_FRAMES (2 * p + dir)) 2 64 1).pcEvent e 6 (b2n (!r.dflt)) (some pd)
          let c := c.mark (F.FLW_PD_HWM_cycles_max (2 * p + dir)) r.cycles
          let n := (c.flightBytes dir x).length
          let c := r.counts.foldl (fun c k => c.countFrame (clusterOf p) k n) c
          let c := if dir = 0 then (c.ingressResult p x r t).feed p else (c.egressResult p x r t).settleEgress p
          (c.freePrior (clusterOf p)).runAgain (clusterOf p)
    | _, _ => c

/-- SORREL_RESULT (R145): A program's terminal action takes effect one cycle after it issues, in the order of its port and direction. -/
def execSorrelResult (port dir : Nat) (s : State) : Host.Outcome State Fault Refusal :=
  s.actOn (port < 96 && dir < 2) fun c => if c.running then c.sorrelResult port dir else c

/-! ## The management cores (R123, R185, R186) -/

/-- MGMT_FRAME_SEND (R123, R186): firmware sends a frame, which takes an FCS, on a port and class with the protection it names; the
queue's test and a stall decide. (log entry 35, DEDUCED) -/
def execMgmtFrameSend (port cls : Nat) (prot : Protection) (frame : Bytes) (s : State) : Host.Outcome State Fault Refusal :=
  s.actOn (port < 144 && cls < 8) fun c => if c.running && c.firmware then c.mgmtSend port cls prot frame else c

/-- MGMT_QUEUE_DRAIN (R185): firmware takes the oldest punted frame. A cell that the ECC cannot correct discards it, and is retired
(R175, R190). Which pipeline counts a read of the management cores is open: the model takes that of the frame's ingress port
(log entry 73, DESIGN CHOICE). -/
def execMgmtQueueDrain (s : State) (ecc : Ecc := .clean) : Host.Outcome State Fault Refusal :=
  s.act fun c =>
    match c.data.mgmtQ with
    | [] => c
    | i :: is =>
      if !c.firmware then c
      else
        let c := { c with data := { c.data with mgmtQ := is } }
        match c.frame i with
        | none => c
        | some f =>
          let c := c.add (R.SWC_CELL_CORR (pipeOf f.port)) (eccFound ecc).1
          if (eccFound ecc).2.isSome then (c.retireCell f.port (qOf f.port f.cls) i).freeFrame i
          else (c.emit (.toFirmware f.port f.bytes f.rx)).freeFrame i

end Sys2Proof.Machine
end

