-- ==== Sys2Proof/Machine/Egress.lean ====
section
/-! DEFINITION. The egress cipher: commit, protection, PN holds (R25 to R29, R221, R228, R229, R235 to R238, R255, R256), Denast
containers and marks (R80, R81, R83, R85, R86, R233, R234), release and abort (R241, R242), and the faults of slices (R17, R18, R243
to R246). -/

namespace Sys2Proof.Machine

/-! ## Lanes (R221) -/

/-- Egress slices that serve a pipeline. -/
def Chip.outSlices (c : Chip) (k : Nat) : List Nat :=
  ([2 * k, 2 * k + 1].filter (fun s => c.rd (F.CPH_SLICE_STATUS_state s) == 0)) ++
    (if c.rd (F.CPH_SLICE_STATUS_state 8) == 2 && c.rd (F.CPH_SLICE_STATUS_pipeline 8) == k then [8] else [])

/-- The cycle from which a lane is free. -/
def Chip.laneFree (c : Chip) (l : Nat × Nat) : Nat := max c.cycle (Sparse.get 0 c.data.lanes (2 * l.1 + l.2))

/-- The lane that is free soonest; ties go to the lower slice, then lane 0. -/
def Chip.pickOutLane (c : Chip) (k : Nat) : Option (Nat × Nat) :=
  ((c.outSlices k).flatMap (fun s => [(s, 0), (s, 1)])).foldl (fun (b : Option (Nat × Nat)) x => match b with
    | none => some x
    | some y => if c.laneFree x < c.laneFree y then some x else some y) none

/-- Reserves lane-cycles; those of a frame that a rewind withdraws are not given back (log entry 35, DEDUCED). -/
def Chip.takeLane (c : Chip) (l : Nat × Nat) (blocks : Nat) : Chip :=
  { c with data := { c.data with lanes := Sparse.set 0 c.data.lanes (2 * l.1 + l.2) (c.laneFree l + blocks) } }

/-! ## Protection (R228 to R230, R233) -/

/-- A frame of fewer than 64 bytes is padded before its FCS (R229). -/
def padFrame (f : Bytes) : Bytes := if f.length < 64 then withFcs (body f ++ fill (64 - f.length) 0) else f

/-- The SecTAG of a frame (R228). -/
def secTag (h : Chan) (an pn : Nat) : Bytes :=
  toBe 0x88E5 2 ++ toBe (0x0C + an + (if h.explicitSci then 0x20 else 0)) 1 ++ toBe 0 1 ++ toBe (pn % 2 ^ 32) 4 ++
    (if h.explicitSci then (h.sci ++ fill 8 0).take 8 else [])

/-- A frame protected under a transmit SA with a PN. -/
def sealMacsec (h : Chan) (x : Sa) (f : Bytes) (pn : Nat) : Bytes :=
  let head := f.take 12 ++ secTag h x.an pn
  let data := (body f).drop 12
  let off := min h.offsetBytes data.length
  let nonce := macsecNonce x.suite h.sci x.ssci x.salt pn
  let ct := gcmCrypt x.key nonce (data.drop off)
  withFcs (head ++ data.take off ++ ct ++ gcmTag x.key nonce (head ++ data.take off) ct)

/-- The nonce of a container (R233). -/
def denNonce (x : Sa) (pn : Nat) : Bytes := x.salt.take 4 ++ toBe pn 8

/-- A payload sealed under a transmit SA: ciphertext and ICV. -/
def sealContainer (x : Sa) (payload : Bytes) (pn : Nat) : Bytes × Bytes :=
  let ct := gcmCrypt x.key (denNonce x pn) payload
  (ct, gcmTag x.key (denNonce x pn) (coreHeader payload.length) ct)

/-! ## Marks and emission (R80, R81) -/

/-- The current transmit SA of a Denast port. -/
def Chip.denSa (c : Chip) (p : Nat) : Option (Chan × Nat) :=
  (c.chan (c.denTxSc p)).bind (fun h => (c.currentSa h).map (fun i => (h, i)))

/-- A MARK for the next data container; none is sent without a current transmit SA, or in halt (R256, R431). -/
def Chip.sendMark (c : Chip) (p : Nat) : Chip :=
  if c.halted then c
  else
    match c.denSa p with
    | none => c
    | some (_, i) =>
      let (an, seq) := match (c.port p).release with
        | r :: _ => (r.an, r.pn)
        | [] => ((c.sa i).an, (c.sa i).nextPn)
      c.sendContainer p 3 (markBody an (c.flag (F.PRT_DEN_STATUS_tx_rdi p)) seq)

/-- A container goes out, with a MARK before it when it does not follow the last (R81). -/
def Chip.emitContainer (c : Chip) (p : Nat) (r : Release) : Chip :=
  (c.markAhead p r.an r.pn).sendContainer p r.bytes.length (r.bytes ++ r.icv)

/-- The head of a port's release leaves. (log entry 35, DEDUCED) -/
def Chip.releaseHead (c : Chip) (p : Nat) : Chip :=
  match (c.port p).release with
  | [] => c
  | r :: rs =>
    let c := c.setPort p { c.port p with release := rs }
    if r.bad then (c.discardPn r).abortBad p r
    else
      let c := c.add R.TIM_TC_FRAMES r.tc
      if c.isDenast p then c.emitContainer p r else c.emit (.frame p r.bytes true)

/-- Frames in clear at the head leave in their turn (R28). (log entry 35, DEDUCED) -/
def Chip.settleRelease (c : Chip) (p : Nat) : Chip :=
  (c.port p).release.foldl (fun c _ => match (c.port p).release with
    | r :: _ => if r.lane.isNone && !c.isDenast p then c.releaseHead p else c
    | [] => c) c

def Chip.pushRelease (c : Chip) (p : Nat) (r : Release) : Chip :=
  (c.setPort p { c.port p with release := (c.port p).release ++ [r] }).settleRelease p

/-! ## Closing a container (R85, R86, R234, R381) -/

/-- The octets of the records in the open container. -/
def openLen (rs : List DenRecord) : Nat := (rs.map (fun r => r.bytes.length)).sum

/-- The payload of a container that closes at instant `s` ns: each record's event message is corrected for its place (R381). -/
def Chip.fillPayload (c : Chip) (p s : Nat) : List DenRecord → Nat → Bytes × Nat × Chip
  | [], _ => ([], 0, c)
  | r :: rs, o =>
    let (b, k, c) := match r.ptp with
      | none => (r.bytes, 0, c)
      | some (rx, src) =>
        let t := s + (8 + o) * 8 / rateOf (c.mode p)
        let (g, k, c) := (c.stampSent src p t).tcCorrect src p rx t (withFcs (r.bytes.drop 4))
        (r.bytes.take 4 ++ body g, k, c)
    let (bs, n, c) := c.fillPayload p s rs (o + r.bytes.length)
    (b ++ bs, k + n, c)

/-- Seals records as a container under SA `i` of the port's channel on a lane, with `least` bytes of payload at least.
(log entry 36, DESIGN CHOICE) -/
def Chip.closeWith (c : Chip) (p : Nat) (h : Chan) (i : Nat) (lane : Nat × Nat) (rs : List DenRecord) (least : Nat) : Chip :=
  let (v, c) := c.freeNat 16
  let wait := if (c.port p).release = [] && ((c.port p).lastSent.map (fun l => l.1 == (c.sa i).an && l.2 + 1 == (c.sa i).nextPn)).getD false then 0
    else v
  let (b, k, c) := c.fillPayload p (c.ns + 60 + wait) rs 0
  let payload := b ++ fill (least - b.length) 0
  let an := (c.sa i).an
  let blocks := laneCycles payload.length
  let (pn, c) := (c.takeLane lane blocks).takePn h i payload.length
  let (ct, icv) := sealContainer (c.sa i) payload pn
  c.pushRelease p { bytes := ct, icv := icv, sc := some h.sc, records := rs, sa := i, pn := pn, an := an, blocks := blocks,
                    lane := some lane, tc := k, bad := rs.any (·.bad) }

/-- The payload bytes that a container of a port carries at least. -/
def Chip.leastPayload (c : Chip) (p : Nat) : Nat := if c.denTfc p != 0 then c.denTfc p else 512

/-- The containers that a rewind has withdrawn are sealed again in their order, with fresh sequences, as far as their channel supplies
sequences and a lane serves the pipeline (R246, R255). `n` bounds their number. -/
def Chip.settleShut (c : Chip) (p : Nat) : Nat → Chip
  | 0 => c
  | n + 1 =>
    match (c.port p).shut, c.denSa p, c.pickOutLane (pipeOf p) with
    | (rs, least) :: more, some (h, i), some lane =>
      if c.saHeld h i then c.checkLimits h i
      else
        let c := (c.setPort p { c.port p with shut := more }).bump (R.CPH_TX_REWOUND p)
        (c.closeWith p h i lane rs least).settleShut p n
    | _, _, _ => c

/-- The open container closes, behind withdrawn ones. It waits while its channel can supply no sequence (R255) or no lane serves the
pipeline (R26), and it is dropped with its records when the channel has no current SA (R256). -/
def Chip.closeOpen (c : Chip) (p : Nat) : Chip :=
  match c.denSa p with
  | none =>
    let x := c.port p
    let n := (x.openRecs ++ x.shut.flatMap (·.1)).length
    (c.setPort p { x with openRecs := [], openHeld := false, shut := [] }).add (R.SAS_TX_NOSA (pipeOf p)) n
  | some (h, i) =>
    let c := c.settleShut p (c.port p).shut.length
    let x := c.port p
    if c.saHeld h i then (c.setPort p { x with openHeld := x.openHeld || x.openRecs != [] }).checkLimits h i
    else match c.pickOutLane (pipeOf p) with
      | none => c
      | some lane =>
        if x.shut != [] then c
        else (c.setPort p { x with openRecs := [], openHeld := false }).closeWith p h i lane x.openRecs (c.leastPayload p)

/-- A container of the port waits to close. -/
def Chip.mayClose (c : Chip) (p : Nat) : Bool := (c.port p).openRecs != [] || (c.port p).shut != []

/-- CONTAINER_CLOSE: the transmitter is ready and no further frame is committed. -/
def execContainerClose (port : Nat) (s : State) : Host.Outcome State Fault Refusal :=
  s.actOn (port < 96) fun c =>
    if c.running && c.isDenast port && c.denTfc port = 0 && c.mayClose port then c.closeOpen port else c

/-- DEN_CLOSE_TIMEOUT: den_close_ns has passed since the first record entered the container. -/
def execDenCloseTimeout (port : Nat) (s : State) : Host.Outcome State Fault Refusal :=
  s.actOn (port < 96) fun c =>
    if c.running && c.isDenast port && c.denTfc port = 0 && c.mayClose port then c.closeOpen port else c

/-- TFC_CONTAINER_SLOT: under traffic-flow confidentiality a container closes at its slot whatever it holds. -/
def execTfcContainerSlot (port : Nat) (s : State) : Host.Outcome State Fault Refusal :=
  s.actOn (port < 96) fun c =>
    if c.running && c.isDenast port && c.denTfc port != 0 && !c.flag (F.PRT_STATUS_ais_tx port) && !c.flag (F.PRT_STATUS_tfc_mismatch port)
      && (c.denSa port).isSome then c.closeOpen port else c

/-- MARK_SEND: den_mark_us has passed since the last MARK. -/
def execMarkSend (port : Nat) (s : State) : Host.Outcome State Fault Refusal :=
  s.actOn (port < 96) fun c => if c.running && c.isDenast port then c.sendMark port else c

/-! ## Commit (R25, R26, R235 to R238, R255, R256) -/

/-- The head of the commit stage leaves it. -/
def Chip.popCommit (c : Chip) (p : Nat) : Chip := c.setPort p { c.port p with commits := (c.port p).commits.drop 1 }

/-- Why a frame on a channel is not committed now: a counter of the drop, or a hold. -/
inductive CommitBar where
  | drop (reg : Nat) | hold | go (h : Chan) (sa : Nat)
  deriving DecidableEq, Repr

/-- The state of a channel as a frame is committed on it. -/
def Chip.commitBar (c : Chip) (p sc : Nat) : CommitBar :=
  let k := pipeOf p
  match c.chan sc with
  | none => .drop (R.SAS_TX_NOSA k)
  | some h =>
    if (c.scRun sc).blocked then .drop (R.SAS_BLOCK_DROP k)
    else match c.currentSa h with
      | none => .drop (R.SAS_TX_NOSA k)
      | some i => if c.saHeld h i then .hold else .go h i

/-- An SA that holds frames shows the limit that it has reached, even when it was installed there (R253, R255). -/
def Chip.limitsAtHold (c : Chip) (sc : Nat) : Chip :=
  match c.chan sc with
  | none => c
  | some h => (c.currentSa h).elim c (c.checkLimits h)

/-- The head waits for a PN (R255). -/
def Chip.holdHead (c : Chip) (p : Nat) : Chip :=
  match (c.port p).commits with
  | [] => c
  | q :: qs => c.setPort p { c.port p with commits := { q with held := true } :: qs }

/-- What is counted of a frame as it is committed: its padding, and a re-commit by port rewind (R229, R246). -/
def Chip.countCommit (c : Chip) (p : Nat) (q : CommitItem) : Chip :=
  let c := if q.bytes.length < 64 then c.bump (R.CPH_TX_PAD p) else c
  if q.again then c.bump (R.CPH_TX_REWOUND p) else c

/-- Commits a protected frame on an Ethernet port. -/
def Chip.commitSecure (c : Chip) (p : Nat) (q : CommitItem) (h : Chan) (i : Nat) (lane : Nat × Nat) : Chip :=
  let f := padFrame q.bytes
  let (g, k, c) := ((c.countCommit p q).stampSent q.source p (c.ns + 60)).tcCorrect q.source p q.rx (c.ns + 60) f
  let an := (c.sa i).an
  let blocks := laneCycles g.length
  let (pn, c) := (c.takeLane lane blocks).takePn h i g.length
  c.pushRelease p { bytes := sealMacsec h (c.sa i) g pn, plain := f, sc := some h.sc, sa := i, pn := pn, an := an, blocks := blocks,
                    lane := some lane, ptp := some (q.rx, q.source), tc := k, cls := q.cls, bad := q.bad }

/-- Commits a frame in clear. -/
def Chip.commitClear (c : Chip) (p : Nat) (q : CommitItem) : Chip :=
  let f := padFrame q.bytes
  let (g, k, c) := ((c.countCommit p q).stampSent q.source p (c.ns + 60)).tcCorrect q.source p q.rx (c.ns + 60) f
  c.pushRelease p { bytes := g, plain := f, ptp := some (q.rx, q.source), tc := k, cls := q.cls, bad := q.bad }

/-- The record of a frame, padded as R229 asks (R83). (log entry 36, DESIGN CHOICE) -/
def recordOf (q : CommitItem) : DenRecord :=
  let b := body (padFrame q.bytes)
  { bytes := toBe b.length 2 ++ toBe (q.cls % 8) 1 ++ toBe 0 1 ++ b, octets := b.length + 4, ptp := some (q.rx, q.source), bad := q.bad }

/-- Appends the head of the commit stage to the open container. -/
def Chip.appendRecord (c : Chip) (p : Nat) (q : CommitItem) : Chip :=
  let c := (c.popCommit p).countCommit p q
  c.setPort p { c.port p with openRecs := (c.port p).openRecs ++ [recordOf q] }

/-- The head of the commit stage of a Denast port, when its channel lets it go: it joins the open container. Without room the container
closes first, and what its close leaves of the channel is looked at again (R255); under traffic-flow confidentiality the frame waits for
the slot, and without a lane it waits for one (R26). -/
def Chip.commitRecord (c : Chip) (p sc : Nat) (q : CommitItem) : Chip :=
  let room (c : Chip) : Bool := openLen (c.port p).openRecs + (recordOf q).bytes.length ≤ c.denLimit p
  if (c.pickOutLane (pipeOf p)).isNone then c
  else if room c then c.appendRecord p q
  else if c.denTfc p != 0 then c
  else
    let c := c.closeOpen p
    match c.commitBar p sc with
    | .hold => (c.limitsAtHold sc).holdHead p
    | .drop _ => c
    | .go _ _ => if room c then c.appendRecord p q else c

/-- COMMIT: the head of a port's commit stage is committed, dropped or held. A frame that no longer fits the sending limit of a Denast
port is dropped before its commit (R85). -/
def Chip.commitHead (c : Chip) (p : Nat) : Chip :=
  match (c.port p).commits with
  | [] => c
  | q :: _ =>
    match q.sc with
    | none => (c.popCommit p).commitClear p q
    | some sc =>
      let over_ : Bool := match c.chan sc with
        | some h => !c.isDenast p && 10240 < max 64 q.bytes.length + (if h.explicitSci then 32 else 24)
        | none => false
      if over_ then (c.popCommit p).bump (R.CPH_TX_LONG p)
      else if c.isDenast p && c.denLimit p < (recordOf q).bytes.length then (c.popCommit p).bump (R.PRT_DEN_OVERSIZE p)
      else
        match c.commitBar p sc with
        | .drop r => (c.popCommit p).bump r
        | .hold => (c.limitsAtHold sc).holdHead p
        | .go h i =>
          if c.isDenast p then c.commitRecord p sc q
          else
            match c.pickOutLane (pipeOf p) with
            | none => c
            | some lane => (c.popCommit p).commitSecure p q h i lane

/-- COMMIT (R26): A dequeued frame's egress decision is committed once a lane slot and a wire slot are reserved, and its PN is
allocated. -/
def execCommit (port : Nat) (s : State) : Host.Outcome State Fault Refusal :=
  s.actOn (port < 96) fun c => if c.running && !c.stalled port then c.commitHead port else c

/-- The channel whose hard limit holds a port: of the held head of its commit stage, or of a container that waits to close. -/
def Chip.holding (c : Chip) (p : Nat) : Option Nat :=
  let x := c.port p
  let head := (x.commits.head?.filter (·.held)).bind (·.sc)
  let sc := if head.isNone && c.isDenast p && (x.openHeld || x.shut != []) then some (c.denTxSc p) else head
  sc.filter (fun n => match c.commitBar p n with
    | .hold => true
    | _ => false)

/-- The records that a Denast port has committed and that have no sequence. -/
def Port.unsealed (x : Port) : Nat := (x.openRecs ++ x.shut.flatMap (·.1)).length

/-- HOLD_TIMEOUT: 1 ms has passed since the first held frame's commit; the channel's frames are dropped and it is blocked (R255).
(log entry 60, DEDUCED) -/
def execHoldTimeout (port : Nat) (s : State) : Host.Outcome State Fault Refusal :=
  s.actOn (port < 96) fun c =>
    match c.holding port with
    | none => c
    | some sc =>
      let x := c.port port
      let mine := (x.commits.filter (fun y => y.sc == some sc)).length + (if c.isDenast port then x.unsealed else 0)
      let y : Port := { x with commits := x.commits.filter (fun y => y.sc != some sc) }
      let c := c.setPort port (if c.isDenast port then { y with openRecs := [], openHeld := false, shut := [] } else y)
      (c.setSc sc { c.scRun sc with blocked := true }).add (R.SAS_HOLD_DROP (pipeOf port)) mine

/-! ## Release (R241, R251) -/

/-- ICV_RELEASE: the ICV of the frame or container in release passes its checks; the SA it was the last of is retired. -/
def execIcvRelease (port : Nat) (s : State) : Host.Outcome State Fault Refusal :=
  s.actOn (port < 96) fun c =>
    if c.halted then c else ((c.releaseHead port).settleRelease port).retireDue port

/-! ## Slice faults (R17, R18, R243 to R246) -/

/-- The fault register bit of a check. -/
def Chip.markSlice (c : Chip) (s : Nat) : SliceCheck → Chip
  | .aesParity => c.wr (F.CPH_SLICE_STATUS_aes_parity s) 1
  | .keyParity => c.wr (F.CPH_SLICE_STATUS_key_parity s) 1
  | .counterParity => c.wr (F.CPH_SLICE_STATUS_counter_parity s) 1
  | .ghashResidue => c.wr (F.CPH_SLICE_STATUS_ghash_residue s) 1

/-- Attaches the spare `sp` to a pipeline when it stands by ready. -/
def Chip.attachSpare (c : Chip) (sp k : Nat) : Chip :=
  if c.rd (F.CPH_SLICE_STATUS_state sp) == 1 && c.flag (F.CPH_SLICE_STATUS_spare_ready sp) then
    let c := (c.wr (F.CPH_SLICE_STATUS_state sp) 2).wr (F.CPH_SLICE_STATUS_pipeline sp) k
    c.alert Sub.cipher.n 1 sp (c.word (R.CPH_SLICE_STATUS sp)).toNat
  else c

/-- A known-answer test of a standby spare fails, or a check fires during it (R244). -/
def Chip.spareFails (c : Chip) (sp : Nat) : Chip :=
  let c := (c.wr (F.CPH_SLICE_STATUS_spare_ready sp) 0).wr (F.CPH_SLICE_STATUS_selftest_fail sp) 1
  c.alert Sub.cipher.n 0 sp (c.word (R.CPH_SLICE_STATUS sp)).toNat

/-- Fences a slice that carries traffic and attaches the spare of its direction; the pipeline that it served. -/
def Chip.fenceSlice (c : Chip) (s sp : Nat) (check : SliceCheck) : Chip × Nat :=
  let k := c.rd (F.CPH_SLICE_STATUS_pipeline s)
  let c := (c.wr (F.CPH_SLICE_STATUS_state s) 3).markSlice s check
  let c := c.alert Sub.cipher.n 0 s (c.word (R.CPH_SLICE_STATUS s)).toNat
  (c.attachSpare sp k, k)

/-- A withdrawn frame as it stands at the commit stage. -/
def Release.back (r : Release) : CommitItem :=
  { bytes := r.plain, sc := r.sc, cls := r.cls, rx := (r.ptp.getD (0, 144)).1, source := (r.ptp.getD (0, 144)).2, bad := r.bad, again := true }

/-- Commits the withdrawn frames at the head of the commit stage, as far as they go. -/
def Chip.recommit (c : Chip) (p : Nat) : Nat → Chip
  | 0 => c
  | n + 1 => if ((c.port p).commits.head?.map (·.again)).getD false then (c.commitHead p).recommit p n else c

/-- Port rewind (R246): the frame or container in release is aborted once a byte of it has left, and what is behind it is committed again
in order, with fresh PNs. (log entry 35, DEDUCED) -/
def Chip.rewind (c : Chip) (p : Nat) : Chip :=
  match (c.port p).release with
  | [] => c
  | r :: rs =>
    let (c, gone) := c.abortRelease p r
    let c := (r :: rs).foldl Chip.discardPn c
    let rs := if gone then rs else r :: rs
    let x := c.port p
    let c := if c.isDenast p then
        (c.setPort p { x with release := [], shut := rs.map (fun y => (y.records, y.bytes.length)) ++ x.shut }).settleShut p (rs.length + x.shut.length)
      else (c.setPort p { x with release := [], commits := rs.map Release.back ++ x.commits }).recommit p rs.length
    c.retireDue p

/-- EGRESS_SLICE_FAULT: a check fires on E0 to E8. -/
def execEgressSliceFault (slice : Nat) (check : SliceCheck) (s : State) : Host.Outcome State Fault Refusal :=
  s.actOn (slice < 9) fun c =>
    let st := c.rd (F.CPH_SLICE_STATUS_state slice)
    if st = 3 then c
    else if st = 1 then c.spareFails slice
    else
      let (c, k) := c.fenceSlice slice 8 check
      let hit := (List.range 24).filter (fun j => (c.port (24 * k + j)).release.any (fun r => (r.lane.map (·.1)) == some slice))
      hit.foldl (fun c j => c.rewind (24 * k + j)) c

/-- The lane on which the work of a fenced ingress slice resumes: on I8 while it is attached to the pipeline, else on the other slice
(R245). -/
def Chip.resumeLane (c : Chip) (k : Nat) : Option (Nat × Nat) :=
  if (c.inSlices k).contains 17 then some (17, if c.laneLoad 17 1 < c.laneLoad 17 0 then 1 else 0) else c.pickInLane k

/-- The frames on a fenced ingress slice resume, and so do the containers. -/
def Chip.resumeWork (c : Chip) (k slice : Nat) : Chip :=
  let c := c.data.frames.foldl (fun (c : Chip) (e : Nat × Option Frame) =>
    match e.2 with
    | none => c
    | some f =>
      if (f.lane.map (·.1)) == some slice then (c.setFrame e.1 (some { f with lane := c.resumeLane k })).bump (R.CPH_RX_RESUMED f.port)
      else c) c
  c.data.boxes.foldl (fun (c : Chip) (e : Nat × Option Box) =>
    match e.2 with
    | none => c
    | some b =>
      if (b.lane.map (·.1)) == some slice then (c.setBox e.1 (some { b with lane := c.resumeLane k })).bump (R.CPH_RX_RESUMED b.port)
      else c) c

/-- INGRESS_SLICE_FAULT: a check fires on I0 to I8, numbered 9 to 17 as in CPH_SLICE_STATUS; its frames resume on another slice of the
pipeline (R245). -/
def execIngressSliceFault (slice : Nat) (check : SliceCheck) (s : State) : Host.Outcome State Fault Refusal :=
  s.actOn (9 ≤ slice && slice < 18) fun c =>
    let st := c.rd (F.CPH_SLICE_STATUS_state slice)
    if st = 3 then c
    else if st = 1 then c.spareFails slice
    else
      let (c, k) := c.fenceSlice slice 17 check
      c.resumeWork k slice

/-- SPARE_SELFTEST: the known-answer test of a spare that stands by, E8 (8) or I8 (17). -/
def execSpareSelftest (slice : Nat) (passed : Bool) (s : State) : Host.Outcome State Fault Refusal :=
  s.actOn (slice == 8 || slice == 17) fun c =>
    if c.rd (F.CPH_SLICE_STATUS_state slice) != 1 then c
    else if passed then (c.wr (F.CPH_SLICE_STATUS_spare_ready slice) 1).wr (F.CPH_SLICE_STATUS_selftest_fail slice) 0
    else c.spareFails slice

end Sys2Proof.Machine
end

