-- ==== Sys2Proof/Machine/Defects.lean ====
section
/-! DEFINITION. Port and channel defects, signal fail and its consequent actions (R102 to R108, R516), and the up condition of a port
(R74, R75). -/

namespace Sys2Proof.Machine

/-! ## PM_CONFIG (R116) -/

def Chip.degM (c : Chip) : Nat := c.cfgNat T.pmConfig 4 1 7
def Chip.degPpm (c : Chip) : Nat := c.cfgNat T.pmConfig 8 4 100
/-- Threshold `i` of 0 to 11 of an entity: ports by their profiles, channels by channel_profile. -/
def Chip.pmThreshold (c : Chip) (e i : Nat) : Nat :=
  let prof := if e < 144 then c.cfgNat T.pmConfig (12 + e) 1 0 else c.cfgNat T.pmConfig 5 1 0
  c.cfgNat T.pmConfig (160 + 48 * prof + 4 * i) 4 0

/-! ## Conditions (R74, R102) -/

def Chip.portFec (c : Chip) (p : Nat) : Bool := c.rd (F.PRT_CFG_fec p) != 0

/-- The port's number in PRT_DEFECT current: the order of R102. -/
def defectIx : Defect → Nat
  | .dMOD => 0 | .dLOS => 1 | .dLOL => 2 | .dLOA => 3 | .dLOB => 4 | .dLOD => 5 | .dAIS => 6 | .dDEG => 7 | .dRDI => 8

/-- Every up condition of R74 holds. -/
def Chip.upCond (c : Chip) (p : Nat) : Bool :=
  let x := c.port p
  if 96 ≤ p then x.anDone && x.trained && c.flag (F.PRT_STATUS_pcs_ready p)
  else
    c.flag (F.PRT_STATUS_signal p) && c.flag (F.PRT_STATUS_cdr_lock p) && (!c.portFec p || c.flag (F.PRT_STATUS_am_lock p)) &&
      c.flag (F.PRT_STATUS_pcs_ready p) && (c.isDenast p || !c.flag (F.PRT_STATUS_local_fault_rx p))

/-- What the state of a port shows of a defect's criterion; the spans that R102 adds to some of them are the command's own. A fault
signal received on Ethernet is known only by its defect. -/
def Chip.defectCause (c : Chip) (p : Nat) : Defect → Bool
  | .dMOD => c.flag (F.PRT_CFG_managed p) && [0, 3, 4].contains (c.rd (F.PRT_MOD_STATUS_mod_state (cageOf p)))
  | .dLOS => !c.flag (F.PRT_STATUS_signal p)
  | .dLOL => !c.flag (F.PRT_STATUS_cdr_lock p)
  | .dLOA => (c.portFec p || c.isDenast p) && !c.flag (F.PRT_STATUS_am_lock p)
  | .dLOB => !c.isDenast p && !c.flag (F.PRT_STATUS_pcs_ready p)
  | .dLOD => c.isDenast p && !c.flag (F.PRT_STATUS_pcs_ready p)
  | .dAIS => !c.isDenast p || 3 ≤ (c.port p).aisRun
  | .dDEG => c.degM ≤ (c.port p).degRun
  | .dRDI => !c.isDenast p || c.flag (F.PRT_DEN_STATUS_rx_rdi p)

/-- What the state shows of its exit criterion. -/
def Chip.defectGone (c : Chip) (p : Nat) : Defect → Bool
  | .dMOD => !c.flag (F.PRT_CFG_managed p) || c.rd (F.PRT_MOD_STATUS_mod_state (cageOf p)) == 2
  | .dLOS => c.flag (F.PRT_STATUS_signal p)
  | .dLOL => c.flag (F.PRT_STATUS_cdr_lock p)
  | .dLOA => c.flag (F.PRT_STATUS_am_lock p)
  | .dLOB => c.flag (F.PRT_STATUS_pcs_ready p)
  | .dLOD => c.flag (F.PRT_STATUS_pcs_ready p)
  | .dAIS => true
  | .dDEG => c.degM ≤ (c.port p).goodRun
  | .dRDI => !c.isDenast p || !c.flag (F.PRT_DEN_STATUS_rx_rdi p)

/-! ## Signals (R76, R91, R107, R108, R431) -/

/-- What the transmitter of a port sends when no frame is in release. -/
def Chip.txSignal (c : Chip) (p : Nat) : Signal :=
  if !c.portOn p then .squelch
  else if c.flag (F.PRT_STATUS_ais_tx p) then (if c.isDenast p then .ais else .localFault)
  else if c.flag (F.PRT_DEFECT_sf p) && !c.isDenast p then .remoteFault
  else .idle

/-- The signal of a port may have changed: it is sent, and a stall begins or ends. -/
def Chip.resignal (c : Chip) (p : Nat) : Chip := (c.emit (.signal p (c.txSignal p))).settleStall p

/-- A port begins or ends sending AIS or local fault for its partner; a Denast port's open container closes and is sent first. -/
def Chip.setAis (c : Chip) (q : Nat) (on : Bool) : Chip :=
  if !c.portOn q || c.flag (F.PRT_STATUS_ais_tx q) == on then c
  else
    let c := if on && c.isDenast q && (c.port q).openRecs != [] then c.closeOpen q else c
    (c.wrb (F.PRT_STATUS_ais_tx q) on).resignal q

/-! ## Reports (R104) -/

/-- The unmasked defect, if it has not been reported since its entry, is reported. That one reported unmasked, then masked, and still
present when the mask clears is not reported again is the model's choice between two sentences of R104 (log entry 73, DESIGN CHOICE). -/
def Chip.report (c : Chip) (p : Nat) : Chip :=
  match (List.range 9).find? (fun k => bit (c.rd (F.PRT_DEFECT_current p)) k) with
  | none => c
  | some k =>
    if bit (c.port p).reported k then c
    else
      let c := c.setPort p { c.port p with reported := (c.port p).reported ||| 2 ^ k }
      c.alert Sub.port.n 2 p (c.word (R.PRT_DEFECT p)).toNat

/-- What the current second sees of the defects that are present (R109, R110). -/
def Chip.seeDefects (c : Chip) (p : Nat) : Chip :=
  let d := c.rd (F.PRT_DEFECT_current p)
  let x := c.perf p
  c.setPerf p { x with sfSeen := x.sfSeen || c.flag (F.PRT_DEFECT_sf p), losSeen := x.losSeen || bit d 1, aisSeen := x.aisSeen || bit d 6,
                       rdiSeen := x.rdiSeen || bit d 8 }

/-- A defect is no longer present; an exit is recorded when its entry was. -/
def Chip.dropDefect (c : Chip) (p k : Nat) : Chip :=
  let cur := c.rd (F.PRT_DEFECT_current p)
  if !bit cur k then c
  else
    let c := c.wr (F.PRT_DEFECT_current p) (cur - 2 ^ k)
    if !bit (c.port p).reported k then c
    else
      let c := c.setPort p { c.port p with reported := (c.port p).reported - 2 ^ k }
      c.record Sub.port.n 3 0 p (c.word (R.PRT_DEFECT p)).toNat

/-! ## Signal fail (R103, R105, R107) -/

/-- Defects 0 to 6 are those of signal fail. -/
def isSf (cur : Nat) : Bool := cur % 128 != 0

/-- SF entry: dDEG is held clear, and the consequent actions are taken. -/
def Chip.sfEnter (c : Chip) (p : Nat) : Chip :=
  let c := (c.wr (F.PRT_DEFECT_sf p) 1).wr (F.PRT_DEFECT_rd_tx p) 1
  let c := (c.setPort p { c.port p with degRun := 0, goodRun := 0 }).dropDefect p 7
  let c := if c.paired p then c.setAis (partnerOf p) true else c
  if c.isDenast p then (c.wr (F.PRT_DEN_STATUS_tx_rdi p) 1).sendMark p else c.resignal p

/-- SF exit: the actions are undone. -/
def Chip.sfLeave (c : Chip) (p : Nat) : Chip :=
  let c := (c.wr (F.PRT_DEFECT_sf p) 0).wr (F.PRT_DEFECT_rd_tx p) 0
  let c := if c.paired p then c.setAis (partnerOf p) false else c
  if c.isDenast p then (c.wr (F.PRT_DEN_STATUS_tx_rdi p) 0).sendMark p else c.resignal p

/-- A defect enters: it shows at once, whatever masks it. In halt no defect is evaluated (R431). -/
def Chip.enterDefect (c : Chip) (p : Nat) (d : Defect) : Chip :=
  let k := defectIx d
  let cur := c.rd (F.PRT_DEFECT_current p)
  if bit cur k || (k = 7 && c.flag (F.PRT_DEFECT_sf p)) || c.halted then c
  else
    let c := c.wr (F.PRT_DEFECT_current p) (cur + 2 ^ k)
    let c := c.wr (F.PRT_DEFECT_latched p) (c.rd (F.PRT_DEFECT_latched p) ||| 2 ^ k)
    let c := if k = 6 && !c.isDenast p then c.wr (F.PRT_STATUS_local_fault_rx p) 1 else c
    let c := if k = 8 && !c.isDenast p then c.wr (F.PRT_STATUS_remote_fault_rx p) 1 else c
    let c := if k < 7 && !c.flag (F.PRT_DEFECT_sf p) then c.sfEnter p else c
    (c.report p).seeDefects p

/-- A defect leaves: the defects that it masked are reported, and SF may end. (log entry 37, DEDUCED) -/
def Chip.exitDefect (c : Chip) (p : Nat) (d : Defect) : Chip :=
  let k := defectIx d
  if !bit (c.rd (F.PRT_DEFECT_current p)) k || c.halted then c
  else
    let c := c.dropDefect p k
    let c := if k = 6 && !c.isDenast p then c.wr (F.PRT_STATUS_local_fault_rx p) 0 else c
    let c := if k = 6 && c.isDenast p then (c.wr (F.PRT_STATUS_ais_rx p) 0).setPort p { c.port p with aisRun := 0 } else c
    let c := if k = 8 && !c.isDenast p then c.wr (F.PRT_STATUS_remote_fault_rx p) 0 else c
    let c := if c.flag (F.PRT_DEFECT_sf p) && !isSf (c.rd (F.PRT_DEFECT_current p)) then c.sfLeave p else c
    c.report p

/-- Defects are evaluated on this port: it is not DISABLED, it is released, and the part is not halted (R102, R108).
(log entry 2, DESIGN CHOICE) -/
def Chip.watched (c : Chip) (p : Nat) : Bool := c.running && c.portOn p

/-- The receiver of this port works: it is not DISABLED and it is released. It keeps its locks in halt (R431).
(log entry 2, DESIGN CHOICE) -/
def Chip.receives (c : Chip) (p : Nat) : Bool := c.power && c.start.released && c.portOn p

/-- DEFECT_ENTRY. -/
def execDefectEntry (port : Nat) (d : Defect) (s : State) : Host.Outcome State Fault Refusal :=
  s.actOn (port < 144) fun c => if c.watched port && c.defectCause port d then c.enterDefect port d else c

/-- DEFECT_EXIT. -/
def execDefectExit (port : Nat) (d : Defect) (s : State) : Host.Outcome State Fault Refusal :=
  s.actOn (port < 144) fun c => if c.watched port && c.defectGone port d then c.exitDefect port d else c

/-! ## Release (R39 step 22, R103, R516) -/

/-- A port is released: it starts with no lock achieved and with no defect shown, so that it enters SF, and sends what its state asks
for. The partner of a DISABLED port takes the consequent action as though that port were in SF. -/
def Chip.releasePort (c : Chip) (p : Nat) : Chip :=
  if !c.portOn p then (if c.paired p then c.setAis (partnerOf p) true else c).settleStall p
  else
    let x := c.port p
    let c := c.setPort p { x with anDone := false, trained := false, reported := 0, degRun := 0, goodRun := 0, rxSeq := none, icvRun := 0, aisRun := 0,
                                  helloOn := false, lastSent := none }
    let c := { c with data := { c.data with delin := Sparse.set {} c.data.delin p {} } }
    let c := ((c.wr (F.PRT_STATUS_cdr_lock p) 0).wr (F.PRT_STATUS_am_lock p) 0).wr (F.PRT_STATUS_pcs_ready p) 0
    let c := ((c.wr (F.PRT_STATUS_local_fault_rx p) 0).wr (F.PRT_STATUS_remote_fault_rx p) 0).wr (F.PRT_STATUS_ais_rx p) 0
    let c := ((c.wr (F.PRT_DEN_STATUS_state p) 0).wr (F.PRT_DEN_STATUS_presync_count p) 0).wr (F.PRT_DEN_STATUS_bad_run p) 0
    let c := (c.wr (F.PRT_DEN_STATUS_seq_known p) 0).wr (F.PRT_DEN_STATUS_tx_rdi p) 0
    let c := ((c.wr (F.PRT_DEFECT_current p) 0).wr (F.PRT_DEFECT_sf p) 0).wr (F.PRT_DEFECT_rd_tx p) 0
    let c := c.wr (F.PRT_DEN_STATUS_tfc_active p) (b2n (c.isDenast p && c.denTfc p != 0))
    let c := c.resignal p
    [Defect.dMOD, .dLOL, .dLOA, .dLOB, .dLOD].foldl (fun c d => if c.defectCause p d then c.enterDefect p d else c) c

end Sys2Proof.Machine
end

