-- ==== Sys2Proof/Machine/KeySchedule.lean ====
section
/-! DEFINITION. The key schedule: the steps of an epoch on the wheel, confirmed switching, early advance, adoption of a secret, the
messages between the two ends of a channel, and the host's commands on SAs (R250 to R266, R271, R273, R280, R281). -/

namespace Sys2Proof.Machine

/-! ## The schedule on the wheel (R258, R383) -/

/-- Due time in µs of a step of grid instant `g`: 1 the receive load and the choice of mode, 2 the transmit load, 3 accepting, 4 the
transmit switch, 5 the end of the overlap. -/
def Chip.stepDue (c : Chip) (h : Chan) (g step : Nat) : Nat :=
  let t := c.gridUs h.profile g
  let o := 1000 * c.schedO h.profile
  if step = 1 then t - o - 50000 else if step = 2 then t - 50000 else if step = 3 then t - o else if step = 4 then t else t + o

/-- The steps of a channel at a grid instant. -/
def chanSteps (tx : Bool) : List Nat := if tx then [1, 2, 4] else [1, 3, 5]

/-- One step comes before another: by due time, then instant, then step. -/
def stepBefore (a b : Nat × Nat × Nat) : Bool :=
  a.1 < b.1 || (a.1 == b.1 && (a.2.1 < b.2.1 || (a.2.1 == b.2.1 && a.2.2 < b.2.2)))

/-- The first step of a channel after a given one; only instants later than T0 have steps (R257). (log entry 66, DEDUCED) -/
def Chip.nextStep (c : Chip) (h : Chan) (at_ : Nat × Nat × Nat) : Option (Nat × Nat × Nat) :=
  let g := (at_.1 / 1000000 - c.t0) / max 1 (c.schedL h.profile)
  let l := ((List.range 8).map (· + g - 3)).filter (0 < ·) |>.flatMap (fun g => (chanSteps h.tx).map (fun st => (c.stepDue h g st, g, st)))
  (l.filter (stepBefore at_)).foldl (fun (b : Option (Nat × Nat × Nat)) x => match b with
    | none => some x
    | some y => if stepBefore x y then some x else some y) none

/-- Puts the next step of a channel after a given one on the wheel; the system range holds one for every EPOCH channel. -/
def Chip.scheduleAfter (c : Chip) (h : Chan) (at_ : Nat × Nat × Nat) : Chip :=
  match c.nextStep h at_, c.wheelFree 0 512 with
  | some (due, g, st), some n => c.wheelPut n (some { due := due, type := 3, arg := h.sc, step := st, epoch := g })
  | _, _ => c

/-- The schedule of a channel begins, or begins anew, at the time base. -/
def Chip.scheduleChan (c : Chip) (h : Chan) : Chip :=
  let old := c.wheelList.filter (fun x => x.2.type == 3 && x.2.arg == h.sc && x.2.step ≤ 5)
  (old.foldl (fun c x => c.wheelPut x.1 none) c).scheduleAfter h (c.us, 0, 0)

/-! ## Sending (R258, R264 to R266) -/

/-- RX_READY for an epoch; while firmware does not run, it is sent late, by its repetition. (log entry 39, DEDUCED) -/
def Chip.sendReady (c : Chip) (h : Chan) (e : Nat) : Chip :=
  if c.firmware then c.sendCtl h msgRxReady e (c.ctlSecret h) else c.setSc h.sc { c.scRun h.sc with await := some e }

/-- TX_SWITCHED for the channel's epoch, counting down its repetitions. -/
def Chip.sendSwitched (c : Chip) (h : Chan) : Chip :=
  let x := c.scRun h.sc
  if x.switched = 0 || !c.firmware then c
  else (c.setSc h.sc { x with switched := x.switched - 1 }).sendCtl h msgTxSwitched x.epoch (c.ctlSecret h)

/-! ## Switching (R251, R258, R264) -/

/-- The transmit side switches to epoch `e`, whose key belongs to grid index `kg`: the change of SA, the horizon of R262, and the
messages. (log entry 39, DEDUCED) -/
def Chip.txSwitch (c : Chip) (h : Chan) (e kg : Nat) (skip : Int) : Chip :=
  let c := c.loadEpoch h e kg
  let x := c.scRun h.sc
  let c := c.setSc h.sc { x with on := true, epoch := e, skip := skip, await := none, advance := none, confirmed := false, switched := 3 }
  let c := (c.makeCurrent h (h.sa (e % 4))).fillEpochs h e
  let left := h.sas.any (fun i => (c.sa i).installed && (c.sa i).epoch + 1 == e)
  let c := if left then c else
    c.keepEpochs (fun k => k / 2 ^ 64 != h.sc || e ≤ k % 2 ^ 64)
  c.sendSwitched h

/-- Whether the switch at grid instant `g` is confirmed, and whether that choice is counted (R263, R273, R387). (log entry 64, DEDUCED) -/
def Chip.confirmAt (c : Chip) (h : Chan) (g : Nat) : Bool × Bool :=
  let l := (c.port h.port).link
  let poor := 250000 * c.schedO h.profile < c.num R.TIM_EST 2 || !c.flag F.TIM_STATE_acquired || c.time.stepped.contains h.sc
  (poor || (l.pending != [] && l.adoptAt == g), poor)

/-- Step 1: the mode is chosen, an outstanding advance is abandoned, and a receive channel loads its SA. -/
def Chip.gridLoad (c : Chip) (h : Chan) (g : Nat) : Chip :=
  let (conf, count) := c.confirmAt h g
  let x := c.scRun h.sc
  let bitP := 2 ^ h.profile
  let m := c.rd F.SAS_TIME_MODE_confirmed
  let c := c.wr F.SAS_TIME_MODE_confirmed (if count then m ||| bitP else if bit m h.profile then m - bitP else m)
  let c := if h.tx && count then c.bump (R.SAS_CONFIRMED (pipeOf h.port)) else c
  let c := c.setSc h.sc { x with confirmed := conf, advance := none }
  if h.tx then c else c.loadEpoch h (x.epochAt g) g

/-- A time-base step since the mode was chosen makes this switch confirmed all the same (R387). (log entry 64, DEDUCED) -/
def Chip.steppedNow (c : Chip) (h : Chan) : Chip :=
  if !c.time.stepped.contains h.sc then c
  else
    let x := c.scRun h.sc
    let c := { c with time := { c.time with stepped := c.time.stepped.filter (· != h.sc) } }
    let c := if h.tx && !x.confirmed then c.bump (R.SAS_CONFIRMED (pipeOf h.port)) else c
    c.setSc h.sc { x with confirmed := true }

/-- Step 3: the new epoch is accepted, RX_READY is sent, and the epoch before it is due to retire. -/
def Chip.gridAccept (c : Chip) (h : Chan) (g : Nat) : Chip :=
  let c := c.steppedNow h
  let x := c.scRun h.sc
  let e := x.epochAt g
  let c := c.loadEpoch h e g
  let i := h.sa (e % 4)
  let c := c.setSa i { c.sa i with accepting := true }
  let c := c.setSc h.sc { x with retire := if e = 0 then none else some (e - 1), retireAt := c.stepDue h g 5, proof := false, skipDue := false,
                                 await := if x.confirmed then some e else none, confirmed := false }
  c.sendReady h e

/-- Step 4: the scheduled switch, or under confirmed switching the wait for RX_READY. -/
def Chip.gridSwitch (c : Chip) (h : Chan) (g : Nat) : Chip :=
  let c := c.steppedNow h
  let x := c.scRun h.sc
  let e := x.epochAt g
  if e ≤ x.epoch && (c.currentSa h).isSome then c
  else if x.confirmed then c.setSc h.sc { x with await := some g }
  else c.txSwitch h e g x.skip

/-- Step 5: the overlap has passed. -/
def Chip.gridEnd (c : Chip) (h : Chan) (g : Nat) : Chip :=
  let x := c.scRun h.sc
  (c.setSc h.sc { x with epoch := max x.epoch (x.epochAt g) }).settleRetire h

/-- Step 2: the transmit SA is loaded, but not over the current one, on which a channel that waits for RX_READY stays (R264). -/
def Chip.gridLoadTx (c : Chip) (h : Chan) (g : Nat) : Chip :=
  let e := (c.scRun h.sc).epochAt g
  if (c.sa (h.sa (e % 4))).installed && (c.sa (h.sa (e % 4))).current then c else c.loadEpoch h e g

/-- A step of a channel; a channel without a secret has no epoch to step. -/
def Chip.gridStep (c : Chip) (h : Chan) (g step : Nat) : Chip :=
  if h.mode != modeEpoch || !(c.scRun h.sc).on || c.secretAt h.port g == [] then c
  else if step = 1 then c.gridLoad h g
  else if step = 2 then c.gridLoadTx h g
  else if step = 3 then c.gridAccept h g
  else if step = 4 then c.gridSwitch h g
  else c.gridEnd h g

/-- A timed SA_ACTIVATE takes effect when its SA is still installed (R280); its wheel entry carries the AN. -/
def Chip.timedActivate (c : Chip) (h : Chan) (w : WheelEntry) : Chip :=
  let x := c.scRun h.sc
  let an := w.epoch
  match x.active.find? (fun a => a.1 == an && ceilDiv a.2 1000 == w.due) with
  | none => c
  | some a =>
    let c := c.setSc h.sc { x with active := x.active.erase a }
    if (c.sa (h.sa an)).installed && (c.sa (h.sa an)).an == an then c.makeCurrent h (h.sa an) else c

/-- KEY_STEP. -/
def Chip.keyStep (c : Chip) (w : WheelEntry) : Chip :=
  match c.chan w.arg with
  | none => c
  | some h =>
    if w.step = 6 then c.timedActivate h w
    else if w.step = 7 then c.settleRetire h
    else ((c.gridStep h w.epoch w.step).settleLink h.port).scheduleAfter h (w.due, w.epoch, w.step)

/-- KEY_STEP (R258): A wheel entry performs one key-schedule step of a channel or a timed SA_ACTIVATE. -/
def execKeyStep (entry : Nat) (s : State) : Host.Outcome State Fault Refusal :=
  s.actOn (entry < 4096) fun c => c.fire entry 3 fun w c => c.keyStep w

/-! ## Adoption of a secret (R267, R273) -/

/-- The first epoch under a newly adopted secret: skip 0, SAs of an older secret retired, the receive SA accepted, and the
transmit side waiting for RX_READY. (log entry 39, DEDUCED) -/
def Chip.startEpoch (c : Chip) (h : Chan) : Chip :=
  let cur := (c.port h.port).link.current
  let g := c.grid h.profile
  let c := c.setSc h.sc { on := true, epoch := g, await := some g, loadDue := if h.tx then none else some (g, g) }
  let c := h.sas.foldl (fun c i => if (c.sa i).installed && (c.sa i).secret != cur then c.retireWhenDone h.port i else c) c
  let c := c.keepEpochs (fun k => k / 2 ^ 64 != h.sc)
  let c := (c.fillEpochs h g).loadFirst h
  let c := if h.tx || (c.scRun h.sc).loadDue.isSome then c else c.sendReady h g
  c.scheduleChan h

def Chip.epochChans (c : Chip) (p : Nat) : List Chan := c.data.chans.filter (fun h => h.port == p && h.mode == modeEpoch)

/-- A secret agreed on a port is adopted: at once for index 0, or pending for a grid instant, whose keys and those of later ones are
derived anew, as are those of a pending secret that it replaces. -/
def Chip.adoptSecret (c : Chip) (p : Nat) (s : Bytes) (ga : Nat) : Chip :=
  let x := c.port p
  let peer := (x.partner.map (·.id)).getD x.link.peer
  let pport := (x.partner.map (·.port)).getD x.link.peerPort
  let from_ := if x.link.pending = [] then ga else min ga x.link.adoptAt
  let c := c.wr (F.SAS_LINK_STATUS_holding p) 0
  let c := if ga = 0 then
      let c := c.setPort p { x with link := { x.link with current := s, pending := [], adoptAt := 0, fresh := [], peer := peer, peerPort := pport } }
      (c.epochChans p).foldl (fun c h => c.startEpoch h) c
    else
      let c := c.setPort p { x with link := { x.link with pending := s, adoptAt := ga, fresh := [], peer := peer, peerPort := pport } }
      (c.epochChans p).foldl (fun c h =>
        let r := c.scRun h.sc
        let later (k : Nat) : Bool := k / 2 ^ 64 == h.sc && (from_ : Int) ≤ ((k % 2 ^ 64 : Nat) : Int) - r.skip
        let c := c.keepEpochs (fun k => !later k)
        if r.on then c.fillEpochs h r.epoch else c) c
  c.settleLink p

/-- The smallest grid index whose instant lies at least O + 250 ms ahead, later than T0 (R257, R273). -/
def Chip.adoptionIndex (c : Chip) (h : Chan) : Nat :=
  let at_ := c.us + (c.schedO h.profile + 250) * 1000
  let l := max 1 (c.schedL h.profile) * 1000000
  max 1 (ceilDiv (at_ - c.t0 * 1000000) l)

/-! ## Messages between the ends (R264, R265, R271) -/

/-- The entry of a peer in the peer table. (log entry 30, DEDUCED) -/
def Chip.peerIx (c : Chip) (id : Bytes) : Option Nat := (c.data.peers.find? (fun e => e.2.used && e.2.id == id)).map (·.1)

/-- A message's port and peer_id are the partner's. A MACsec partner is known by its SCI, and its peer_id by the peer table.
(log entry 30, DEDUCED) -/
def Chip.fromPartner (c : Chip) (p : Nat) (m : Bytes) : Bool :=
  match (c.port p).partner with
  | none => false
  | some q =>
    if c.isDenast p then q.id == slice m 4 16 && q.port == byteAt m 2
    else match c.peerIx (slice m 4 16) with
      | none => false
      | some i =>
        let e := Sparse.get ({} : Peer) c.data.peers i
        e.epoch && bit e.ports p && (c.port p).mka.byte.getD (byteAt m 2) == byteAt m 2

/-- The first message of a MACsec partner whose tag verifies gives the port byte of the later ones. (log entry 30, DEDUCED) -/
def Chip.heardFrom (c : Chip) (p : Nat) (m : Bytes) : Chip :=
  if c.isDenast p || (c.port p).mka.byte.isSome then c else c.setMka p (fun k => { k with byte := some (byteAt m 2) })

/-- The secret under which a message that names epoch `e` is checked: that of the channel's current SA, which TX_SWITCHED says is the SA of
`e` (R271). (log entry 30, DEDUCED) -/
def Chip.ctlKey (c : Chip) (h : Chan) (type e : Nat) : Bytes :=
  let x := c.sa (h.sa (e % 4))
  if type = msgTxSwitched && x.installed && x.epoch == e then x.secret else c.ctlSecret h

/-- The channel that a message acts on: the transmit one for RX_READY, the receive one for the others. A port has one EPOCH channel in each
direction (R248). (log entry 39, DEDUCED) -/
def Chip.ctlChan (c : Chip) (p type : Nat) : Option Chan := (c.epochChans p).find? (fun h => h.tx == (type == msgRxReady))

/-- A 56-byte message of its type, version 1, from the partner, whose tag verifies. -/
def Chip.ctlOk (c : Chip) (p type : Nat) (m : Bytes) : Bool :=
  m.length == 56 && byteAt m 0 == type && byteAt m 1 == 1 && c.fromPartner p m &&
    ((c.ctlChan p type).map (fun h => kmac (c.ctlKey h type (be m 28 8)) (m.take 40) 128 "GLEORN-CTL" == m.drop 40)).getD false

/-- A message is discarded and counted (R271). -/
def Chip.ctlDiscard (c : Chip) (p : Nat) : Chip := c.bump (R.SAS_CTL_AUTH p)

/-- RX_READY(e) at the transmit side: it acts under confirmed switching, at an advance, or without a current SA. -/
def Chip.onReady (c : Chip) (h : Chan) (e : Nat) : Chip :=
  let x := c.scRun h.sc
  let none_ := (c.currentSa h).isNone
  let kg := ((e : Int) - x.skip).toNat
  if !x.on || (!none_ && e ≤ x.epoch) || !(x.confirmed || x.await.isSome || x.advance.isSome || none_) || c.secretAt h.port kg == [] then c
  else
    let g := match x.await with
      | some g => g
      | none => if x.confirmed && x.advance.isNone then c.grid h.profile + 1 else c.grid h.profile
    c.txSwitch h e kg ((e : Int) - g)

/-- ADVANCE_REQ(e) at the receive side: the next epoch is loaded and accepted, and answered; a duplicate is answered again. -/
def Chip.onAdvance (c : Chip) (h : Chan) (e : Nat) : Chip :=
  let x := c.scRun h.sc
  let kg := ((e : Int) - x.skip).toNat
  if !x.on || e != x.epoch + 1 || c.secretAt h.port kg == [] then c
  else
    let i := h.sa (e % 4)
    if x.skipDue && (c.sa i).accepting && (c.sa i).epoch == e then c.sendReady h e
    else
      let c := c.loadEpoch h e kg
      let c := c.setSa i { c.sa i with accepting := true }
      let overlap := c.us + 1000 * c.schedO h.profile
      let c := c.setSc h.sc { x with retire := some x.epoch, retireAt := overlap, proof := false, skipDue := true }
      let c := match c.wheelFree 0 512 with
        | some n => c.wheelPut n (some { due := overlap, type := 3, arg := h.sc, step := 7 })
        | none => c
      c.sendReady h e

/-- A message of type 0x18 to 0x1A received on a port. -/
def Chip.onControl (c : Chip) (p type : Nat) (m : Bytes) : Chip :=
  match c.ctlChan p type with
  | none => c.ctlDiscard p
  | some h =>
    let e := be m 28 8
    if !c.ctlOk p type m then c.ctlDiscard p
    else
      let c := c.heardFrom p m
      if type = msgRxReady then c.onReady h e else if type = msgTxSwitched then c.proof h e else c.onAdvance h e

/-- Messages are heard on a port: it is released and the part not halted, and a Denast port is in SYNC (R90).
(log entry 2, DESIGN CHOICE) -/
def Chip.hears (c : Chip) (p : Nat) : Bool :=
  c.watched p && p < 96 && (!c.isDenast p || c.rd (F.PRT_DEN_STATUS_state p) == 2)

/-- RX_READY (R264): A received RX_READY lets the transmit side switch to the named epoch under confirmed switching. -/
def execRxReady (port : Nat) (msg : Bytes) (s : State) : Host.Outcome State Fault Refusal :=
  s.actOn (port < 96) fun c => if c.hears port then c.onControl port msgRxReady msg else c

/-- TX_SWITCHED (R259): A received TX_SWITCHED is proof that lets the receive side retire the old SA. -/
def execTxSwitched (port : Nat) (msg : Bytes) (s : State) : Host.Outcome State Fault Refusal :=
  s.actOn (port < 96) fun c => if c.hears port then c.onControl port msgTxSwitched msg else c

/-- ADVANCE_REQ (R265): A received ADVANCE_REQ makes the receive side load the next epoch and reply with RX_READY. -/
def execAdvanceReq (port : Nat) (msg : Bytes) (s : State) : Host.Outcome State Fault Refusal :=
  s.actOn (port < 96) fun c => if c.hears port then c.onControl port msgAdvanceReq msg else c

/-- Acts on a channel that exists. -/
def Chip.onChan (c : Chip) (sc : Nat) (f : Chan → Chip) : Chip := (c.chan sc).elim c f

/-- RX_READY_REPEAT: under confirmed switching, until proof. -/
def execRxReadyRepeat (sc : Nat) (s : State) : Host.Outcome State Fault Refusal :=
  s.act fun c => c.onChan sc fun h =>
    match (c.scRun sc).await with
    | some e => if !h.tx && c.firmware && (c.scRun sc).loadDue.isNone then c.sendCtl h msgRxReady e (c.ctlSecret h) else c
    | none => c

/-- TX_SWITCHED_REPEAT. -/
def execTxSwitchedRepeat (sc : Nat) (s : State) : Host.Outcome State Fault Refusal :=
  s.act fun c => c.onChan sc fun h => if h.tx then c.sendSwitched h else c

/-- ADVANCE_REQ_REPEAT. -/
def execAdvanceReqRepeat (sc : Nat) (s : State) : Host.Outcome State Fault Refusal :=
  s.act fun c => c.onChan sc fun h =>
    match (c.scRun sc).advance with
    | some e => if h.tx && c.firmware then c.sendCtl h msgAdvanceReq e (c.ctlSecret h) else c
    | none => c

/-- CONFIRM_LATE: T + 1 s has passed without an RX_READY; it counts once for each T. (log entry 60, DEDUCED) -/
def execConfirmLate (sc : Nat) (s : State) : Host.Outcome State Fault Refusal :=
  s.act fun c => c.onChan sc fun h =>
    let x := c.scRun sc
    if h.tx && x.await.isSome && x.lateFor != x.await then
      ((c.setSc sc { x with late := true, lateFor := x.await }).attn 8).bump (R.SAS_LATE (pipeOf h.port))
    else c

/-- FORCED_RETIRE: no proof has arrived in time, and the old receive SA is retired anyway. (log entry 60, DEDUCED) -/
def execForcedRetire (sc : Nat) (s : State) : Host.Outcome State Fault Refusal :=
  s.act fun c => c.onChan sc fun h =>
    let x := c.scRun sc
    if h.tx || x.proof then c
    else match x.retire with
      | none => c
      | some _ =>
        let c := (c.bump (R.SAS_RETIRE_FORCED (pipeOf h.port))).attn 8
        (c.setSc sc { x with proof := true, retireAt := 0 }).settleRetire h

/-! ## The host's commands (R280, R281) -/

/-- The slot may fill an SA of this channel: op 9, the direction, and the length of the suite (R300). -/
def slotFits (x : Slot) (h : Chan) : Bool :=
  bit x.ops 9 && bit x.dest (if h.tx then 0 else 1) && x.length == (if h.suite = 2 then 2 else 3)

/-- The rule of SA_INSTALL. (log entry 42, DEDUCED) -/
def Chip.saInstall (c : Chip) (i : Instr) (an sc n w nextPn : Nat) : Chip × Answer :=
  match c.chan sc with
  | none => refuse c Code.empty
  | some h =>
    let x := c.slot n
    if 3 < an || 1023 < n || 2 ^ 30 < w || nextPn = 0 || 2 ^ 64 ≤ nextPn then refuse c Code.range
    else if h.mode != modeHost then refuse c Code.denied
    else if !x.filled then refuse c Code.empty
    else if !slotFits x h then refuse c Code.denied
    else if (c.sa (h.sa an)).installed then refuse c Code.busy
    else
      let v := x.value
      let k := if h.suite = 2 then 16 else 32
      let salt := if h.suite = 4 then slice v k 4 else slice v k 12
      let c := c.installSa h an (v.take k) salt
        { accepting := !h.tx, ssci := h.ssci, nextPn := nextPn, w := if h.tx then 0 else w, slot := n, ceiling := nextPn + 2 ^ 40, ceilNext := nextPn + 2 ^ 40 }
      (c, { code := Code.committed, jop := some (.cmd i) })

/-- SA_INSTALL (R280): The command installs an SA of a HOST channel from a key slot. -/
def execSaInstall (h : Mb) (an sc slot w nextPn : Nat) (s : State) : Host.Outcome State Fault Refusal :=
  s.act fun c => c.mbRun h { opcode := 0x0300, commit := true } fun c => c.saInstall (.saInstall h an sc slot w nextPn) an sc slot w nextPn

/-- The rule of SA_ACTIVATE. (log entry 21, DEDUCED) (log entry 42, DEDUCED) -/
def Chip.saActivate (c : Chip) (i : Instr) (an sc instant : Nat) : Chip × Answer :=
  match c.chan sc with
  | none => refuse c Code.empty
  | some h =>
    if 3 < an then refuse c Code.range
    else if h.mode != modeHost || !h.tx then refuse c Code.denied
    else if !(c.sa (h.sa an)).installed || (c.sa (h.sa an)).an != an then refuse c Code.busy
    else
      let done : Answer := { code := Code.committed, jop := some (.cmd i) }
      if instant = 0 then (c.makeCurrent h (h.sa an), done)
      else if c.us + wheelHorizon < ceilDiv instant 1000 then refuse c Code.range
      else match c.wheelFree 1536 4096 with
        | none => refuse (c.wr F.TIM_WHEEL_refused 1) Code.busy
        | some n =>
          let c := c.wheelPut n (some { due := ceilDiv instant 1000, type := 3, arg := sc, step := 6, epoch := an })
          (c.setSc sc { c.scRun sc with active := (c.scRun sc).active ++ [(an, instant)] }, done)

/-- SA_ACTIVATE (R280): The command makes a transmit SA of a HOST channel current, at once or at a named instant. -/
def execSaActivate (h : Mb) (an sc instant : Nat) (s : State) : Host.Outcome State Fault Refusal :=
  s.act fun c => c.mbRun h { opcode := 0x0301, commit := true } fun c => c.saActivate (.saActivate h an sc instant) an sc instant

/-- The rule of SA_RETIRE. -/
def Chip.saRetire (c : Chip) (i : Instr) (an sc : Nat) : Chip × Answer :=
  match c.chan sc with
  | none => refuse c Code.empty
  | some h =>
    let n := h.sa an
    if 3 < an then refuse c Code.range
    else if h.mode != modeHost then refuse c Code.denied
    else if !(c.sa n).installed || (c.sa n).an != an then refuse c Code.empty
    else if (c.sa n).current then refuse c Code.busy
    else (c.retireWhenDone h.port n, { code := Code.committed, jop := some (.cmd i) })

/-- SA_RETIRE (R280): The command clears accepting on an SA of a HOST channel and retires it. -/
def execSaRetire (h : Mb) (an sc : Nat) (s : State) : Host.Outcome State Fault Refusal :=
  s.act fun c => c.mbRun h { opcode := 0x0302, commit := true } fun c => c.saRetire (.saRetire h an sc) an sc

/-- EPOCH_ADVANCE: it completes once the switch takes place. (log entry 42, DEDUCED) -/
def execEpochAdvance (h : Mb) (sc : Nat) (s : State) : Host.Outcome State Fault Refusal :=
  s.act fun c => c.mbRun h { opcode := 0x0303, long := true } fun c =>
    match c.chan sc with
    | none => refuse c Code.empty
    | some ch =>
      if ch.mode != modeEpoch || !ch.tx then refuse c Code.denied
      else if !c.advanceOk ch then refuse c Code.busy
      else (c.startAdvance ch, { wait := .epoch sc ((c.scRun sc).epoch + 1) })

end Sys2Proof.Machine
end

