-- ==== Sys2Proof/Machine/KeyAgree.lean ====
section
/-! DEFINITION. Pairwise link secrets: key agreement on Denast ports (R267 to R274), MKA on MACsec ports (R94, R275 to R277), partners
that leave and return (R278, R279), and LINK_REKEY (R280). -/

namespace Sys2Proof.Machine

/-! ## Peers (R278, R284) -/

def Chip.peer (c : Chip) (i : Nat) : Peer := Sparse.get {} c.data.peers i

def Chip.setPeer (c : Chip) (i : Nat) (x : Peer) : Chip := { c with data := { c.data with peers := Sparse.set {} c.data.peers i x } }

/-- Why a peer may not agree on a port: 1 it is not listed, 2 the port is not permitted; 0 it may. An entry that only records a live
partner is no listing. -/
def Chip.peerBar (c : Chip) (p : Nat) (id : Bytes) : Nat :=
  match c.peerIx id with
  | none => 1
  | some i => if (c.peer i).live then 1 else if bit (c.peer i).ports p then 0 else 2

/-- The table entry that governs a partner: its own, or for a MACsec port the MKA epoch peer that is permitted on it. -/
def Chip.partnerEntry (c : Chip) (p : Nat) (id : Bytes) : Option Nat :=
  if c.isDenast p then c.peerIx id
  else (c.data.peers.find? (fun e => e.2.used && e.2.epoch && bit e.2.ports p)).map (·.1)

/-- Records a live partner that has no entry in a free one; none is free when all 16,384 are in use. (log entry 40, DEDUCED) -/
def Chip.enterPeer (c : Chip) (id : Bytes) (denast : Bool) : Option (Nat × Chip) :=
  match c.peerIx id with
  | some i => some (i, c)
  | none => (Sparse.freeKey c.data.peers 0 16384).map (fun i => (i, c.setPeer i { used := true, id := id, denast := denast, live := true }))

/-- Frees the entry of a partner that is only recorded. -/
def Chip.leavePeer (c : Chip) (id : Bytes) : Chip :=
  match c.peerIx id with
  | none => c
  | some i => if (c.peer i).live then c.setPeer i {} else c

/-- A partner is two-way or live: it is shown, attended to and recorded. (log entry 40, DEDUCED) -/
def Chip.partnerUp (c : Chip) (p : Nat) (q : Partner) (ix : Nat) : Chip :=
  let same := (c.port p).link.peer == q.id
  let c := c.setPort p { c.port p with partner := some { q with twoWay := true } }
  let c := c.setWord (R.PRT_PEER p) (BitVec.ofNat 32 (3 + 256 * q.port + 65536 * ix))
  let c := c.wr (F.PRT_STATUS_partner_up p) 1
  let c := if same then c.wr (F.SAS_LINK_STATUS_holding p) 0 else c
  (c.attn 13).record Sub.key.n 3 0 p (c.word (R.PRT_PEER p)).toNat

/-! ## Partners lost (R279) -/

/-- The hold has passed: the port's EPOCH SAs are retired, and its secrets and vault keys zeroised. -/
def Chip.expireHold (c : Chip) (p : Nat) : Chip :=
  let c := c.wr (F.SAS_LINK_STATUS_holding p) 0
  let l := (c.port p).link
  let c := c.setPort p { c.port p with link := { l with current := [], pending := [], fresh := [], adoptAt := 0, peer := [] } }
  let c := (c.epochChans p).foldl (fun c h =>
    let c := h.sas.foldl (fun c i => c.retireWhenDone p i) c
    let c := c.setSc h.sc {}
    c.keepEpochs (fun k => k / 2 ^ 64 != h.sc)) c
  c.settleLink p

/-- MKA_DIRECT SAs of a port retire (R279). -/
def Chip.retireMka (c : Chip) (p : Nat) (pick : Sa → Bool) : Chip :=
  (c.data.chans.filter (fun h => h.port == p && h.mode == modeMka)).foldl (fun c h =>
    h.sas.foldl (fun c i => if (c.sa i).installed && pick (c.sa i) then c.retireWhenDone p i else c) c) c

/-- The partner of a port is lost. -/
def Chip.partnerLost (c : Chip) (p : Nat) : Chip :=
  match (c.port p).partner with
  | none => c
  | some q =>
    let x := c.port p
    let e := (c.partnerEntry p q.id).map c.peer
    let hold := match e with
      | some e => if e.live || e.drop then 0 else e.hold
      | none => 0
    let c := c.setPort p { x with partner := none, link := { x.link with step := .idle, fresh := [] } }
    let c := ((c.wr (F.PRT_STATUS_partner_up p) 0).wr (F.PRT_STATUS_partner_changed p) 1).setWord (R.PRT_PEER p) 0xFFFF0000
    let c := (c.wr (F.SAS_LINK_STATUS_agreeing p) 0).leavePeer q.id
    let c := (c.attn 13).record Sub.key.n 2 0 p (c.word (R.PRT_PEER p)).toNat
    let c := c.retireMka p (fun _ => true)
    if c.epochChans p == [] || (x.link.current == [] && x.link.pending == []) || x.link.peer != q.id then c
    else if hold = 0 then c.expireHold p
    else c.wr (F.SAS_LINK_STATUS_holding p) 1

/-- PEER_HOLD_EXPIRY. -/
def execPeerHoldExpiry (port : Nat) (s : State) : Host.Outcome State Fault Refusal :=
  s.actOn (port < 96) fun c => if c.flag (F.SAS_LINK_STATUS_holding port) then c.expireHold port else c

/-! ## Keys of an agreement (R270, R272) -/

/-- Bytes 0 to 3,771 of an offer or accept (R270). -/
def Chip.agreeHead (c : Chip) (p type session : Nat) (fresh : Bool) (nonce ecdh kem : Bytes) : Bytes :=
  toBe type 1 ++ toBe 1 1 ++ toBe p 1 ++ toBe (b2n fresh) 1 ++ c.peerId ++ toBe session 8 ++ fit 32 nonce ++ fit 96 ecdh ++ fit 1568 kem ++
    fit 2048 (seedPublic (identitySeed c.keys.d))

/-- The point of an offer or accept. -/
def agreePoint (m : Bytes) : Nat × Nat := (be m 60 48, be m 108 48)

/-- The secret of an agreement, from the two shared values and the transcript digest. -/
def linkSecret (zec kem h : Bytes) : Bytes := kmac (fit 48 zec ++ fit 32 kem) h 256 "GLEORN-LINK"

/-- The identity's signatures over a message of an agreement, none when one fails, and their jobs (R65, R270). -/
def Chip.agreeSign (c : Chip) (msg rnd : Bytes) : Option Bytes × List PkeJob :=
  let (sig, jobs) := signPair 4 (identitySeed c.keys.d) msg (Config.sha384 msg) rnd
  (sig.map (fun s => fit 3309 s.1 ++ s.2), jobs)

/-! ## Steps of an agreement -/

def Chip.setLink (c : Chip) (p : Nat) (f : Link → Link) : Chip := c.setPort p { c.port p with link := f (c.port p).link }

/-- Where the agreement stands changes, and SAS_LINK_STATUS with it. -/
def Chip.kaStep (c : Chip) (p : Nat) (k : KaStep) : Chip :=
  (c.setLink p (fun l => { l with step := k })).wrb (F.SAS_LINK_STATUS_agreeing p) (k == .offered || k == .accepted || k == .finished)

/-- This part initiates on the port: its peer_id is the lower (R268). -/
def Chip.initiates (c : Chip) (p : Nat) : Bool := ((c.port p).partner.map (fun q => decide (beNat c.peerId < beNat q.id))).getD false

/-- A failed agreement is counted; the initiator makes its next offer after 5 s. (log entry 40, DEDUCED) -/
def Chip.kaFailed (c : Chip) (p : Nat) : Chip :=
  let c := (c.bump (R.SAS_KA_FAIL p)).setLink p (fun l => { l with fails := l.fails + 1, fresh := [] })
  c.kaStep p (if c.initiates p then .backoff else .idle)

/-- A check has failed: KA_REJECT with its reason. (log entry 40, DEDUCED) -/
def Chip.kaReject (c : Chip) (p session reason : Nat) : Chip :=
  let c := (c.sendLink p (c.messageHead p 0x14 reason session 0 ++ fill 16 0)).wr (F.SAS_LINK_STATUS_last_reject p) reason
  c.kaFailed p

/-- The ephemeral keys of an agreement out of 48 fresh bytes (R292): the seeds d and z of ML-KEM-1024, and the P-384 scalar. -/
def Chip.ephemeral (c : Chip) (p session : Nat) (r : Bytes) : Bytes × Nat :=
  let v := kmac (c.slot 3).value (r ++ toBe p 1 ++ toBe session 8) 960 "GLEORN-EPH"
  (v.take 64, p384Key (slice v 64 56))

/-- An offer is made, with fresh ephemeral keys and a new session. Without fresh random bytes the agreement fails (R293). -/
def Chip.kaOffer (c : Chip) (p : Nat) : Chip :=
  let l := (c.port p).link
  if !c.pkeOk then c.kaFailed p
  else
    let (r, c) := c.random 892
    let (seed, d) := c.ephemeral p (l.session + 1) (slice r 32 48)
    let ec := fwJob PkeOp.ecPubkey none (toBe d 48) (slice r 502 390)
    let kem := fwJob PkeOp.mlkemKeygen none [] seed
    let head := c.agreeHead p 0x10 (l.session + 1) (l.current == []) (r.take 32) ((jobOut ec).getD []) ((jobOut kem).getD [])
    let (sig, jobs) := c.agreeSign (ascii "GLEORN-KA-OFFER" ++ Config.sha384 head) (slice r 80 signRnd)
    let c := c.fwJobs (some p) ([ec, kem] ++ jobs)
    match jobOut ec, sig with
    | some _, some sig =>
      let body := head ++ sig
      let c := c.setLink p (fun l => { l with session := l.session + 1, offer := body, ecKey := d, kemSeed := seed })
      (c.kaStep p .offered).sendLink p body
    | _, _ => c.kaFailed p

/-- Key agreement starts on a Denast port whose partner is two-way (R268). Only the initiator offers; an unlisted partner is sent
KA_REJECT instead (R279). (log entry 40, DEDUCED) -/
def Chip.kaStart (c : Chip) (p : Nat) : Chip :=
  match (c.port p).partner with
  | none => c
  | some q =>
    if !c.isDenast p || !q.twoWay || c.epochChans p == [] then c
    else if q.id == c.peerId then c.attn 8
    else
      let c := c.wrb (F.SAS_LINK_STATUS_initiator p) (c.initiates p)
      if !c.initiates p then c
      else
        let bar := c.peerBar p q.id
        if bar != 0 then c.kaReject p (c.port p).link.session bar else c.kaOffer p

/-- Why an offer or accept fails its checks: a reason of KA_REJECT, or 0. `signed` is what its signatures cover.
(log entry 40, DEDUCED) -/
def Chip.agreeBar (c : Chip) (p : Nat) (m signed : Bytes) : Nat :=
  let keys := slice m 1724 2048
  let id := slice m 4 16
  if byteAt m 1 != 1 then 4
  else if id == c.peerId then 6
  else if id16 keys != id || ((c.port p).partner.map (·.id)) != some id then 3
  else if c.peerBar p id != 0 then c.peerBar p id
  else if !verifyPair keys signed (slice m 3772 3405) then 3
  else if !onCurve 2 (agreePoint m) then 5
  else 0

/-- KA_OFFER at the responder; the initiator discards an offer. -/
def Chip.onOffer (c : Chip) (p : Nat) (m : Bytes) : Chip :=
  if m.length != 7177 then c.ctlDiscard p
  else if c.initiates p && slice m 4 16 != c.peerId then c
  else
    let session := be m 20 8
    let bar := c.agreeBar p m (ascii "GLEORN-KA-OFFER" ++ Config.sha384 (m.take 3772))
    let bar := if bar = 0 && !Config.mlkemEkOk (slice m 156 1568) then 5 else bar
    if bar != 0 then (if bar = 6 then c.attn 8 else c).kaReject p session bar
    else if !c.pkeOk then c.kaFailed p
    else
      let (r, c) := c.random 1314
      let (_, d) := c.ephemeral p session (slice r 32 48)
      let ec := fwJob PkeOp.ecPubkey none (toBe d 48) (slice r 502 390)
      let kem := fwJob PkeOp.mlkemEncaps none (slice m 156 1568) (slice r 892 32)
      let dh := fwJob PkeOp.ecdh none (toBe d 48 ++ slice m 60 96) (slice r 924 390)
      let enc := (jobOut kem).getD []
      let fresh := (c.port p).link.current == []
      let head := c.agreeHead p 0x11 session fresh (r.take 32) ((jobOut ec).getD []) (enc.take 1568)
      let (sig, jobs) := c.agreeSign (ascii "GLEORN-KA-ACCEPT" ++ Config.sha384 (m ++ head)) (slice r 80 signRnd)
      let signed := ascii "GLEORN-KA-OFFER" ++ Config.sha384 (m.take 3772)
      let c := c.fwJobs (some p) (verifyJobs (slice m 1724 2048) signed (slice m 3772 3405) ++ [ec, kem, dh] ++ jobs)
      match jobOut ec, jobOut dh, sig with
      | some _, some zec, some sig =>
        let body := head ++ sig
        let hh := Config.sha384 (m ++ body)
        let c := c.setLink p (fun l => { l with session := session, fresh := linkSecret zec (enc.drop 1568) hh, digest := hh })
        ((c.kaStep p .accepted).wr (F.SAS_LINK_STATUS_initiator p) 0).sendLink p body
      | _, _, _ => c.kaFailed p

/-- The tag of KA_FINISH or KA_DONE over the transcript digest. -/
def finTag (s h head : Bytes) (who : String) : Bytes := kmac s (h ++ head) 128 who

/-- The adoption index, which the profile of the port's transmit channel sets. -/
def Chip.indexFor (c : Chip) (p : Nat) (immediate : Bool) : Nat :=
  match (c.epochChans p).find? (·.tx) with
  | none => 0
  | some h => if immediate then 0 else c.adoptionIndex h

/-- KA_ACCEPT at the initiator: checked, decapsulated, and answered with KA_FINISH. -/
def Chip.onAccept (c : Chip) (p : Nat) (m : Bytes) : Chip :=
  let l := (c.port p).link
  if m.length != 7177 || l.step != .offered then c.ctlDiscard p
  else
    let bar := c.agreeBar p m (ascii "GLEORN-KA-ACCEPT" ++ Config.sha384 (l.offer ++ m.take 3772))
    let bar := if bar = 0 && be m 20 8 != l.session then 3 else bar
    if bar != 0 then c.kaReject p l.session bar
    else if !c.pkeOk then c.kaFailed p
    else
      let (r, c) := c.random 390
      let dh := fwJob PkeOp.ecdh none (toBe l.ecKey 48 ++ slice m 60 96) r
      let kem := fwJob PkeOp.mlkemDecaps none ((Config.mlkemKeygen l.kemSeed).drop 1568 ++ slice m 156 1568) []
      let signed := ascii "GLEORN-KA-ACCEPT" ++ Config.sha384 (l.offer ++ m.take 3772)
      let c := c.fwJobs (some p) (verifyJobs (slice m 1724 2048) signed (slice m 3772 3405) ++ [dh, kem])
      match jobOut dh with
      | none => c.kaFailed p
      | some zec =>
        let z := Config.mlkemDecaps ((Config.mlkemKeygen l.kemSeed).drop 1568) (slice m 156 1568)
        let hh := Config.sha384 (l.offer ++ m)
        let s := linkSecret zec z hh
        let ga := c.indexFor p (l.current == [] || bit (byteAt m 3) 0)
        let head := c.messageHead p 0x12 0 l.session ga
        let c := c.setLink p (fun l => { l with fresh := s, digest := hh, adopt := ga, ecKey := 0, kemSeed := [] })
        (c.kaStep p .finished).sendLink p (head ++ finTag s hh head "GLEORN-FIN-I")

/-- LINK_REKEY commands on a port are done. -/
def Chip.rekeyDone (c : Chip) (p : Nat) : Chip :=
  let done (m : Mailbox) : Mailbox := { m with longs := m.longs.map (fun l => if l.wait = .linkRekey p then { l with wait := .ready } else l) }
  { c with mb0 := done c.mb0, mb1 := done c.mb1 }

/-- An agreement has completed. -/
def Chip.kaComplete (c : Chip) (p ga : Nat) : Chip :=
  let s := (c.port p).link.fresh
  let c := ((c.bump (R.SAS_KA_OK p)).setLink p (fun l => { l with fails := 0 })).kaStep p .idle
  (c.adoptSecret p s ga).rekeyDone p

/-- A 56-byte message of an agreement has its shape and comes from the partner. -/
def Chip.kaShape (c : Chip) (p type : Nat) (m : Bytes) : Bool :=
  m.length == 56 && byteAt m 0 == type && byteAt m 1 == 1 && c.fromPartner p m

/-- KA_FINISH at the responder, answered with KA_DONE. -/
def Chip.onFinish (c : Chip) (p : Nat) (m : Bytes) : Chip :=
  let l := (c.port p).link
  if !c.kaShape p 0x12 m || l.step != .accepted || be m 20 8 != l.session then c.ctlDiscard p
  else if finTag l.fresh l.digest (m.take 40) "GLEORN-FIN-I" != m.drop 40 then (c.ctlDiscard p).kaReject p l.session 5
  else
    let head := c.messageHead p 0x13 0 l.session 0
    (c.sendLink p (head ++ finTag l.fresh l.digest head "GLEORN-FIN-R")).kaComplete p (be m 28 8)

/-- KA_DONE at the initiator. -/
def Chip.onDone (c : Chip) (p : Nat) (m : Bytes) : Chip :=
  let l := (c.port p).link
  if !c.kaShape p 0x13 m || l.step != .finished || be m 20 8 != l.session then c.ctlDiscard p
  else if finTag l.fresh l.digest (m.take 40) "GLEORN-FIN-R" != m.drop 40 then (c.ctlDiscard p).kaReject p l.session 5
  else c.kaComplete p l.adopt

/-- KA_REJECT: counted, and the next offer waits 5 s. -/
def Chip.onReject (c : Chip) (p : Nat) (m : Bytes) : Chip :=
  if !c.kaShape p 0x14 m then c.ctlDiscard p
  else (c.wr (F.SAS_LINK_STATUS_last_reject p) (byteAt m 3)).kaFailed p

/-- KA_OFFER (R272): The responder checks a received offer and replies with KA_ACCEPT or KA_REJECT. -/
def execKaOffer (port : Nat) (body : Bytes) (s : State) : Host.Outcome State Fault Refusal :=
  s.actOn (port < 96) fun c => if c.hears port && c.isDenast port then c.onOffer port body else c

/-- KA_ACCEPT (R272): The initiator checks a received accept, derives the secret and sends KA_FINISH. -/
def execKaAccept (port : Nat) (body : Bytes) (s : State) : Host.Outcome State Fault Refusal :=
  s.actOn (port < 96) fun c => if c.hears port && c.isDenast port then c.onAccept port body else c

/-- KA_FINISH (R272): The responder verifies KA_FINISH and replies with KA_DONE. -/
def execKaFinish (port : Nat) (msg : Bytes) (s : State) : Host.Outcome State Fault Refusal :=
  s.actOn (port < 96) fun c => if c.hears port && c.isDenast port then c.onFinish port msg else c

/-- KA_DONE (R272): The initiator verifies KA_DONE and the new secret becomes pending at both ends. -/
def execKaDone (port : Nat) (msg : Bytes) (s : State) : Host.Outcome State Fault Refusal :=
  s.actOn (port < 96) fun c => if c.hears port && c.isDenast port then c.onDone port msg else c

/-- KA_REJECT (R271): A received KA_REJECT is counted and delays the next offer by 5 s. -/
def execKaReject (port : Nat) (msg : Bytes) (s : State) : Host.Outcome State Fault Refusal :=
  s.actOn (port < 96) fun c => if c.hears port && c.isDenast port then c.onReject port msg else c

/-- KA_TIMEOUT: a step has waited more than 500 ms for its reply: a failure, and a new session, or after three in a row an offer
every 5 s. (log entry 60, DEDUCED) -/
def execKaTimeout (port : Nat) (s : State) : Host.Outcome State Fault Refusal :=
  s.actOn (port < 96) fun c =>
    let l := (c.port port).link
    if !c.running || l.step == .idle || l.step == .backoff then c
    else
      let c := c.kaFailed port
      if 3 ≤ (c.port port).link.fails then c else c.kaStart port

/-- KA_BACKOFF_EXPIRY. -/
def execKaBackoffExpiry (port : Nat) (s : State) : Host.Outcome State Fault Refusal :=
  s.actOn (port < 96) fun c => if c.running && (c.port port).link.step == .backoff then (c.kaStep port .idle).kaStart port else c

/-- Agreements in progress are abandoned and start again from their first message (R266). -/
def Chip.kaAbandon (c : Chip) : Chip :=
  (List.range 96).foldl (fun c p =>
    let k := (c.port p).link.step
    if k == .idle || k == .backoff then c else (c.kaStep p .idle).kaStart p) c

/-! ## MKA (R94, R275 to R277) -/

/-- MKA starts on a MACsec port that is declared up (R94). -/
def Chip.mkaStart (c : Chip) (p : Nat) : Chip :=
  if !c.isMacsec p || (c.mkaEntry p).isNone || (c.port p).mka.running then c
  else
    let (mi, c) := c.random 12
    (c.setMka p (fun _ => { running := true, mi := mi })).sendMkpdu p

/-- ADOPT on a port, under the secret being adopted (R271, R277). (log entry 41, PRESUMED) -/
def Chip.sendAdopt (c : Chip) (p ga : Nat) (s : Bytes) : Chip :=
  let head := c.messageHead p msgAdopt 0 0 ga
  c.sendLink p (head ++ kmac s head 128 "GLEORN-ADOPT")

/-- A peer is live: recorded, or refused when the peer table is full (R278). -/
def Chip.mkaLive (c : Chip) (p : Nat) (d : Mkpdu) : Chip :=
  if (c.port p).mka.peers.any (fun q => q.mi == d.mi) then
    c.setMka p (fun m => { m with peers := m.peers.map (fun q => if q.mi == d.mi then { q with fresh := d.fresh } else q) })
  else
    match c.enterPeer d.sci false with
    | none => c.attn 8
    | some (i, c) =>
      let c := c.setMka p (fun m => { m with peers := m.peers ++ [{ mi := d.mi, sci := d.sci, priority := d.priority, fresh := d.fresh }] })
      if (c.port p).partner.isSome then c else c.partnerUp p { id := d.sci } i

/-- The transmit SA of the latest SAK becomes current once every live peer receives under it (R250). (log entry 41, PRESUMED) -/
def Chip.mkaTransmit (c : Chip) (p : Nat) : Chip :=
  let a := (c.port p).mka.an
  let c := ((c.portChans p true).filter (fun h => h.mode == modeMka)).foldl (fun c h =>
    let x := c.sa (h.sa a)
    if x.installed && x.an == a && !x.current then c.makeCurrent h (h.sa a) else c) c
  c.setMka p (fun m => { m with tx := true })

/-- The key server sends ADOPT once its partner has the SAK, and again until the echo: the index is 0 when either side has no current
secret, else one that still lies ahead (R273, R277). (log entry 41, PRESUMED) -/
def Chip.offerAdopt (c : Chip) (p : Nat) : Chip :=
  let l := (c.port p).link
  if !(c.port p).mka.mine || l.fresh == [] then c
  else
    let ga := c.indexFor p (l.current == [] || (c.port p).mka.peers.any (·.fresh))
    (c.setLink p (fun l => { l with adopt := ga })).sendAdopt p ga l.fresh

/-- MKPDU_RECEIVE. (log entry 41, PRESUMED) -/
def Chip.onMkpdu (c : Chip) (p : Nat) (d : Mkpdu) : Chip :=
  if !(c.port p).mka.running || !d.icvOk then c
  else
    let c := if d.liveMe then c.mkaLive p d else c
    let c := match d.retire with
      | none => c
      | some a =>
        let c := c.retireMka p (fun x => x.an == a % 4)
        match (c.port p).mka.wait with
        | some k => c.installSak p k
        | none => c
    let c := match d.sak with
      | some k => if c.keyServer p then c else c.takeSak p k d.mi false
      | none => c
    let c := if d.allRx && (c.port p).mka.rx then (c.mkaTransmit p).offerAdopt p else c
    if c.keyServer p && d.liveMe && !(c.port p).mka.mine then c.newSak p else c

/-- MKPDU_RECEIVE (R275): A received MKA PDU is processed, and SAKs are installed or secrets are derived from them. -/
def execMkpduReceive (port : Nat) (pdu : Mkpdu) (s : State) : Host.Outcome State Fault Refusal :=
  s.actOn (port < 96) fun c => if c.hears port && c.isMacsec port then c.onMkpdu port pdu else c

/-- MKA_HELLO_TIMER: an MKPDU is sent; a key server whose transmit SA is at its soft limit and which could not distribute a new SAK then
first does so (R254). -/
def execMkaHelloTimer (port : Nat) (s : State) : Host.Outcome State Fault Refusal :=
  s.actOn (port < 96) fun c =>
    if !c.running || !(c.port port).mka.running then c
    else
      let soft := (c.portChans port true).any (fun h => h.mode == modeMka && h.sas.any (fun i => (c.sa i).current && (c.sa i).soft))
      (if soft then c.mkaSoft port else c).sendMkpdu port

/-- The MKA session of a port has no live peer. -/
def Chip.mkaPeersGone (c : Chip) (p : Nat) : Chip :=
  let c := (c.port p).mka.peers.foldl (fun c q => c.leavePeer q.sci) c
  (c.partnerLost p).setMka p (fun m => { m with peers := [], kn := 0, an := 0, key := [], mine := false, rx := false, tx := false, wait := none, byte := none })

/-- MKA_LIFE_EXPIRY. -/
def execMkaLifeExpiry (port : Nat) (s : State) : Host.Outcome State Fault Refusal :=
  s.actOn (port < 96) fun c => if c.running && (c.port port).mka.running then c.mkaPeersGone port else c

/-- ADOPT (R277): the key server's partner adopts and echoes; the key server adopts on the echo. A repeated ADOPT of a secret already
adopted is echoed again, and moves a pending adoption to its index. On Denast it is discarded. (log entry 41, PRESUMED) -/
def Chip.onAdopt (c : Chip) (p : Nat) (m : Bytes) : Chip :=
  let l := (c.port p).link
  let under (s : Bytes) : Bool := s != [] && kmac s (m.take 40) 128 "GLEORN-ADOPT" == m.drop 40
  if c.isDenast p || m.length != 56 || byteAt m 0 != msgAdopt || byteAt m 1 != 1 || !c.fromPartner p m then c.ctlDiscard p
  else
    let ga := be m 28 8
    let mine := (c.port p).mka.mine
    if under l.fresh then
      let c := c.heardFrom p m
      if mine then (if ga = l.adopt then (c.adoptSecret p l.fresh ga).rekeyDone p else c.ctlDiscard p)
      else ((c.sendAdopt p ga l.fresh).adoptSecret p l.fresh ga).rekeyDone p
    else if under l.pending then
      if mine then c else (c.sendAdopt p ga l.pending).adoptSecret p l.pending ga
    else if under l.current then (if mine then c else c.sendAdopt p ga l.current)
    else c.ctlDiscard p

/-- ADOPT (R277): A received ADOPT sets the adoption index of a secret derived from MKA, and the partner echoes it.
(log entry 40, DEDUCED) -/
def execAdopt (port : Nat) (msg : Bytes) (s : State) : Host.Outcome State Fault Refusal :=
  s.actOn (port < 96) fun c => if c.hears port then c.onAdopt port msg else c

/-! ## New agreements (R268, R274, R280) -/

/-- A new agreement on a port: an offer, or a new SAK from the key server. -/
def Chip.agreeAnew (c : Chip) (p : Nat) : Chip :=
  if c.epochChans p == [] then c
  else if c.isDenast p then (if (c.port p).link.step == .idle then c.kaStart p else c)
  else if c.keyServer p then c.newSak p
  else c

/-- KA_INTERVAL_EXPIRY. -/
def execKaIntervalExpiry (s : State) : Host.Outcome State Fault Refusal :=
  s.act fun c => if c.running && c.cfgNat T.keySchedule 16 4 0 != 0 then (List.range 96).foldl (fun c p => c.agreeAnew p) c else c

/-- The rule of LINK_REKEY: an agreement starts where this part can start one, and the command waits for the next to complete; the part that
responds waits for the initiator's offer. (log entry 42, DEDUCED) -/
def Chip.linkRekey (c : Chip) (p : Nat) : Chip × Answer :=
  if 95 < p then refuse c Code.range
  else if c.epochChans p == [] then refuse c Code.denied
  else (c.agreeAnew p, { wait := .linkRekey p })

/-- LINK_REKEY: it completes when the agreement completes. -/
def execLinkRekey (h : Mb) (port : Nat) (s : State) : Host.Outcome State Fault Refusal :=
  s.act fun c => c.mbRun h { opcode := 0x0304, long := true } fun c => c.linkRekey port

end Sys2Proof.Machine
end

