-- ==== Sys2Proof/Machine/Port.lean ====
section
/-! DEFINITION. Line ports and uplinks: locks and link state (R74, R75, R513, R516), Denast delineation and containers (R76 to R92),
HELLO and partners (R92, R93), and pluggable modules (R95 to R99). -/

namespace Sys2Proof.Machine

/-! ## Locks (R74, R513, R516) -/

def Chip.delin (c : Chip) (p : Nat) : Delin := Sparse.get {} c.data.delin p

def Chip.setDelin (c : Chip) (p : Nat) (x : Delin) : Chip := { c with data := { c.data with delin := Sparse.set {} c.data.delin p x } }

/-- The receiver looks at another position, and no container is to come. -/
def Chip.seek (c : Chip) (p pos : Nat) : Chip := c.setDelin p { c.delin p with pos := pos, due := none, last := false }

/-- The port leaves SYNC: the hunt begins, and the expected sequence becomes unknown (R82, R87 to R89). (log entry 37, DEDUCED) -/
def Chip.leaveSync (c : Chip) (p : Nat) : Chip :=
  if c.rd (F.PRT_DEN_STATUS_state p) != 2 then (c.wr (F.PRT_DEN_STATUS_state p) 0).wr (F.PRT_DEN_STATUS_presync_count p) 0
  else
    let c := ((c.wr (F.PRT_DEN_STATUS_state p) 0).wr (F.PRT_DEN_STATUS_presync_count p) 0).wr (F.PRT_DEN_STATUS_bad_run p) 0
    let c := (c.wr (F.PRT_DEN_STATUS_seq_known p) 0).wr (F.PRT_STATUS_pcs_ready p) 0
    let c := c.setPort p { c.port p with rxSeq := none, icvRun := 0, aisRun := 0 }
    (c.bump (R.PRT_DEN_HUNT p)).enterDefect p .dLOD

/-- SIGNAL_CHANGE. An uplink that loses its signal negotiates and trains anew. (log entry 37, DEDUCED) -/
def execSignalChange (port : Nat) (on : Bool) (s : State) : Host.Outcome State Fault Refusal :=
  s.actOn (port < 144) fun c =>
    if !c.receives port then c
    else
      let c := c.wrb (F.PRT_STATUS_signal port) on
      if on || port < 96 then c else c.setPort port { c.port port with anDone := false, trained := false }

/-- CDR_LOCK_CHANGE. -/
def execCdrLockChange (port : Nat) (on : Bool) (s : State) : Host.Outcome State Fault Refusal :=
  s.actOn (port < 144) fun c => if c.receives port then c.wrb (F.PRT_STATUS_cdr_lock port) on else c

/-- ALIGNMENT_LOCK_CHANGE. Its loss sends a Denast port to HUNT; with the lock the hunt begins at the first byte after the marker (R87). -/
def execAlignmentLockChange (port : Nat) (on : Bool) (s : State) : Host.Outcome State Fault Refusal :=
  s.actOn (port < 144) fun c =>
    if !c.receives port then c
    else
      let c := c.wrb (F.PRT_STATUS_am_lock port) on
      if !c.isDenast port then c else if on then c.seek port 0 else (c.leaveSync port).seek port (c.delin port).pos

/-- PCS_LOCK_CHANGE, on a port that runs the Ethernet PCS. -/
def execPcsLockChange (port : Nat) (on : Bool) (s : State) : Host.Outcome State Fault Refusal :=
  s.actOn (port < 144) fun c => if c.receives port && !c.isDenast port then c.wrb (F.PRT_STATUS_pcs_ready port) on else c

/-- UPLINK_AUTONEG_COMPLETE. -/
def execUplinkAutonegComplete (port : Nat) (s : State) : Host.Outcome State Fault Refusal :=
  s.actOn (96 ≤ port && port < 144) fun c =>
    if c.receives port then c.setPort port { c.port port with anDone := true } else c

/-- UPLINK_TRAINING_COMPLETE: training follows auto-negotiation. -/
def execUplinkTrainingComplete (port : Nat) (s : State) : Host.Outcome State Fault Refusal :=
  s.actOn (96 ≤ port && port < 144) fun c =>
    if c.receives port && (c.port port).anDone then c.setPort port { c.port port with trained := true } else c

/-- AUTONEG_RESTART: training has not completed within 3 s. -/
def execAutonegRestart (port : Nat) (s : State) : Host.Outcome State Fault Refusal :=
  s.actOn (96 ≤ port && port < 144) fun c =>
    if c.receives port && (c.port port).anDone && !(c.port port).trained then c.setPort port { c.port port with anDone := false } else c

/-! ## Up and down (R74, R75) -/

/-- The port is declared up. -/
def Chip.linkUp (c : Chip) (p : Nat) : Chip :=
  let c := (c.wr (F.PRT_STATUS_link_up p) 1).wr (F.PRT_STATUS_link_changed p) 1
  if c.halted then c else (c.mkaStart p).noteNosa p

/-- The port is declared down: its partner is lost (R93, R94), and its MAC entries go when its FWD_CONFIG entry asks for it. In halt
only its status follows (R431). -/
def Chip.linkDown (c : Chip) (p : Nat) : Chip :=
  let c := (c.wr (F.PRT_STATUS_link_up p) 0).wr (F.PRT_STATUS_link_changed p) 1
  let c := c.sat (F.PRT_STATUS_link_downs p) 1
  if c.halted then c
  else
    let c := c.setPerf p { c.perf p with downs := (c.perf p).downs + 1 }
    let c := if c.isDenast p then c.partnerLost p
      else if c.isMacsec p then (c.mkaPeersGone p).setMka p (fun m => { m with running := false }) else c
    if c.flushOnDown p then (List.range 4).foldl (fun c k => c.flush k (some p) none false) c else c

/-- LINK_UP_HOLD_EXPIRY: every up condition has held for link_up_hold. (log entry 60, DEDUCED) -/
def execLinkUpHoldExpiry (port : Nat) (s : State) : Host.Outcome State Fault Refusal :=
  s.actOn (port < 144) fun c =>
    if c.receives port && c.upCond port && !c.flag (F.PRT_STATUS_link_up port) then c.linkUp port else c

/-- LINK_DOWN_HOLD_EXPIRY: an up condition has lapsed for link_down_hold. -/
def execLinkDownHoldExpiry (port : Nat) (s : State) : Host.Outcome State Fault Refusal :=
  s.actOn (port < 144) fun c =>
    if c.receives port && !c.upCond port && c.flag (F.PRT_STATUS_link_up port) then c.linkDown port else c

/-! ## Delineation (R77, R78, R87, R88) -/

/-- A control header checks (R79): its eHEC matches, and the length lies between 4 and 8,192. -/
def controlHeadOk (x : Bytes) : Bool :=
  x.length == 4 && be x 2 2 == crc16 (x.take 2) && 4 ≤ be x 0 2 && be x 0 2 ≤ 8192

/-- An unmasked core header is valid without correction. -/
def coreOk (h : Bytes) : Bool := be h 2 2 == crc16 (h.take 2)

/-- Its PLI names a container of the port. -/
def pliOk (max pli : Nat) (control : Bytes) : Bool := pli ≤ max && (pli != 2 || controlHeadOk control)

/-- A header fits (R87). -/
def headerFits (max : Nat) (h control : Bytes) : Bool := coreOk h && pliOk max (be h 0 2) control

/-- A header with one bit inverted, bit 0 the first bit of byte 0. -/
def flipBit (h : Bytes) (k : Nat) : Bytes := patch h (k / 8) [h.getD (k / 8) 0 ^^^ BitVec.ofNat 8 (2 ^ (7 - k % 8))]

/-- The header that a single-bit error makes of a valid one, or none (R88). -/
def corrected (h : Bytes) : Option Bytes := ((List.range 32).map (flipBit h)).find? coreOk

/-- Bytes of a container, by its PLI; the length of a CONTROL container stands in its control header (R78, R79). -/
def containerLen (pli : Nat) (control : Bytes) : Nat :=
  if pli = 0 then 4 else if pli = 1 then 64 else if pli = 2 then 12 + be control 0 2 else if pli = 3 then 20 else 20 + pli

/-- The port enters SYNC, and accepts containers from the next header onward (R87, R93). -/
def Chip.enterSync (c : Chip) (p : Nat) : Chip :=
  let c := ((c.wr (F.PRT_DEN_STATUS_state p) 2).wr (F.PRT_DEN_STATUS_presync_count p) 0).wr (F.PRT_DEN_STATUS_bad_run p) 0
  let c := (c.wr (F.PRT_STATUS_pcs_ready p) 1).setPort p { c.port p with helloOn := true }
  c.exitDefect p .dLOD

/-- The header of a container is used: the container is to come, and the next header follows it. -/
def Chip.useHeader (c : Chip) (p pli : Nat) (control : Bytes) : Chip :=
  c.setDelin p { c.delin p with pos := (c.delin p).pos + containerLen pli control, due := some pli }

/-- A header has been used with its container: after the third bad one in a row the port leaves SYNC (R88). -/
def Chip.used (c : Chip) (p : Nat) : Chip := if (c.delin p).last then (c.leaveSync p).seek p (c.delin p).pos else c

/-- A header in SYNC (R87, R88). The third bad one in a row is used, and its PLI gives the first candidate of the hunt; after one that
cannot be corrected the hunt goes on one byte further. -/
def Chip.syncHeader (c : Chip) (p : Nat) (h control : Bytes) : Chip :=
  let lost := (c.leaveSync p).seek p ((c.delin p).pos + 1)
  if headerFits (c.denMax p) h control then (c.wr (F.PRT_DEN_STATUS_bad_run p) 0).useHeader p (be h 0 2) control
  else
    match (if coreOk h then none else corrected h) with
    | none => lost
    | some g =>
      if !pliOk (c.denMax p) (be g 0 2) control then lost
      else
        let c := c.bump (R.PRT_DEN_CORR p)
        let n := c.rd (F.PRT_DEN_STATUS_bad_run p) + 1
        let c := c.useHeader p (be g 0 2) control
        if n < 3 then c.wr (F.PRT_DEN_STATUS_bad_run p) n
        else
          let c := c.setDelin p { c.delin p with last := true }
          if be g 0 2 = 0 then c.used p else c

/-- DENAST_HEADER: the four bytes, as received, at the position that the receiver examines next, and the four bytes after them. -/
def Chip.denHeader (c : Chip) (p : Nat) (header control : Bytes) : Chip :=
  let c := c.used p
  let h := denMask header
  let fits := headerFits (c.denMax p) h control
  let st := c.rd (F.PRT_DEN_STATUS_state p)
  let x := c.delin p
  let next := x.pos + containerLen (be h 0 2) control
  if st = 2 then c.syncHeader p h control
  else if st = 1 then
    if !fits then ((c.wr (F.PRT_DEN_STATUS_state p) 0).wr (F.PRT_DEN_STATUS_presync_count p) 0).seek p (x.cand + 1)
    else
      let n := c.rd (F.PRT_DEN_STATUS_presync_count p) + 1
      (if n = 3 then c.enterSync p else c.wr (F.PRT_DEN_STATUS_presync_count p) n).seek p next
  else if fits then
    ((c.wr (F.PRT_DEN_STATUS_state p) 1).wr (F.PRT_DEN_STATUS_presync_count p) 0).setDelin p { pos := next, cand := x.pos }
  else c.seek p (x.pos + 1)

/-- DENAST_HEADER (R87): The Denast receiver tests a candidate core header and moves between HUNT, PRESYNC and SYNC. -/
def execDenastHeader (port : Nat) (header control : Bytes) (s : State) : Host.Outcome State Fault Refusal :=
  s.actOn (port < 96 && header.length == 4) fun c =>
    if c.receives port && c.isDenast port && c.flag (F.PRT_STATUS_am_lock port) then c.denHeader port header control else c

/-! ## Data containers (R82 to R84, R89, R122, R223, R226, R239) -/

/-- The header that announces a container of this PLI has been accepted in SYNC, and the container comes now (R78, R87). -/
def Chip.awaits (c : Chip) (p pli : Nat) : Bool := c.watched p && p < 96 && c.isDenast p && (c.delin p).due == some pli

/-- The container has come. -/
def Chip.taken (c : Chip) (p : Nat) : Chip := c.setDelin p { c.delin p with due := none }

/-- Containers in the receive container buffer of a port: in the cipher, or with records that wait ahead of the parser (R122). -/
def Chip.boxesWaiting (c : Chip) (p : Nat) : Nat :=
  (((Sparse.get [] c.data.inbox p).map (·.1)).dedup).length + ((c.data.boxes.filterMap (·.2)).filter (fun b => b.port == p)).length

/-- The records of a payload from offset `o`, as frames in order, and whether one ends them by an error (R83, R84). `n` bounds their
number; `rate` is the port's in Gb/s. -/
def recordsOf (f : Frame) (rate : Nat) (v : Bytes) : Nat → Nat → List Frame × Bool
  | 0, _ => ([], false)
  | n + 1, o =>
    let l := be v o 2
    if v.length < o + 4 || l = 0 then ([], false)
    else if l < 60 || 10236 < l || v.length < o + 4 + l then ([], true)
    else
      let g : Frame := { f with bytes := withFcs (slice v (o + 4) l), rx := f.rx + (8 + o) * 8 / max 1 rate }
      let (gs, bad) := recordsOf f rate v n (o + 4 + l)
      (g :: gs, bad)

/-- Delivers the records of a container: they wait in the receive container buffer and go on to the parser as it takes them (R84, R121). -/
def Chip.deliver (c : Chip) (n : Nat) (b : Box) : Chip :=
  let f : Frame := { port := b.port, bytes := [], verdict := 1, sc := b.sc, sa := b.sa, an := b.an, pn := b.seq, rx := b.rx }
  let (gs, bad) := recordsOf f (rateOf (c.mode b.port)) b.payload b.payload.length 0
  let c := if bad then c.bump (R.PRT_DEN_REC_ERR b.port) else c
  let l := Sparse.get [] c.data.inbox b.port ++ gs.map (fun g => (n, g))
  ({ c with data := { c.data with inbox := Sparse.set [] c.data.inbox b.port l } }).feed b.port

/-- A container whose sequence is known: the SA, the early replay check, hold store and lane; its verdict follows (R223, R226, R239). A
container that is dropped here neither counts towards the run of ICV failures of R89 nor breaks it: the spec says so of R122 and of a
missing SA; of one that is too short, fails the early replay check or finds no hold store it is the model's choice (log entry 73, DESIGN
CHOICE). -/
def Chip.openContainer (c : Chip) (p seq : Nat) (payload icv : Bytes) : Chip :=
  let k := pipeOf p
  let an := c.rd (F.PRT_DEN_STATUS_rx_an p)
  if 2 ≤ c.boxesWaiting p then c.bump (R.FLW_DISPATCH_DROP (2 * p))
  else if payload.length < 512 then c.bump (R.CPH_RX_DEN_SHORT p)
  else
    match (c.chan (c.denRxSc p)).bind (fun h => (c.rxSa h an).map (fun i => (h, i))) with
    | none => c.bump (R.CPH_RX_NO_SA p)
    | some (h, i) =>
      let x := c.sa i
      let c := c.addBlock h.sc
      if seq < max 1 (x.nextPn - x.w) then
        let e := scEntity h.sc
        (c.setSa i { x with replays := x.replays + 1 }).setPerf e { c.perf e with replays := (c.perf e).replays + 1 }
      else if !c.holdTakes k then c.bump (R.CPH_CAP_DROP k)
      else
        let n := c.data.nextId
        let b : Box := { port := p, sc := h.sc, sa := i, an := an, seq := seq, payload := gcmCrypt x.key (denNonce x seq) payload,
                         icvOk := gcmTag x.key (denNonce x seq) (coreHeader payload.length) payload == icv,
                         lane := c.pickInLane k, blocks := laneCycles payload.length, rx := c.rxStamp p }
        ((c.takeHold k b.blocks).setBox n (some b)).setNextId (n + 1)

/-- The ICV of a container fails; a run of failures in SYNC sends the port to HUNT (R89, R240). -/
def Chip.boxFails (c : Chip) (b : Box) : Chip :=
  let c := c.icvFail b.sc b.sa
  if c.rd (F.PRT_DEN_STATUS_state b.port) != 2 then c
  else
    let n := (c.port b.port).icvRun + 1
    let c := c.setPort b.port { c.port b.port with icvRun := n }
    if c.icvResync b.port ≤ n then (c.leaveSync b.port).seek b.port (c.delin b.port).pos else c

/-- The verdict of a container: verdicts of one port follow its arrival order (R240). -/
def Chip.boxVerdict (c : Chip) (n : Nat) (b : Box) : Chip :=
  if (c.data.boxes.find? (fun e => (e.2.map (·.port)) == some b.port)).map (·.1) != some n then c
  else
    let c := (c.setBox n none).giveHold (pipeOf b.port) b.blocks
    let c := if !b.icvOk then c.boxFails b
      else
        let c := (c.setPort b.port { c.port b.port with icvRun := 0 }).exitDefect b.port .dAIS
        match (c.chan b.sc).map (fun h => c.finalCheck h b.sa b.seq b.payload.length) with
        | some (c, true) => c.deliver n b
        | some (c, false) => c
        | none => c
    c.retireDue b.port

/-- ICV_VERDICT (R224): The ICV result of a protected frame or container becomes known and the final replay check runs. -/
def execIcvVerdict (frame : Nat) (s : State) : Host.Outcome State Fault Refusal :=
  s.act fun c =>
    if c.halted then c
    else match c.frame frame, Sparse.get none c.data.boxes frame with
      | some f, _ => c.frameVerdict frame f
      | none, some b => c.boxVerdict frame b
      | none, none => c

/-- DENAST_DATA_CONTAINER. (log entry 37, DEDUCED) -/
def Chip.dataContainer (c : Chip) (p : Nat) (payload icv : Bytes) : Chip :=
  let c := (c.setPort p { c.port p with aisRun := 0 }).wr (F.PRT_STATUS_ais_rx p) 0
  match (c.port p).rxSeq with
  | none => c.bump (R.PRT_DEN_NOSEQ p)
  | some seq => (c.setPort p { c.port p with rxSeq := some ((seq + 1) % 2 ^ 64) }).openContainer p seq payload icv

/-- DENAST_DATA_CONTAINER (R226): A received data container is taken whole, verified under its SA, and its records are delivered. -/
def execDenastDataContainer (port : Nat) (payload icv : Bytes) (s : State) : Host.Outcome State Fault Refusal :=
  s.actOn (port < 96 && icv.length == 16) fun c =>
    if 4 ≤ payload.length && c.awaits port payload.length then ((c.taken port).dataContainer port payload icv).used port else c

/-! ## Marks and AIS (R80, R90, R102) -/

/-- DENAST_MARK: a MARK whose CRC verifies gives the AN, the remote defect and the next sequence. -/
def Chip.mark_ (c : Chip) (p : Nat) (body : Bytes) : Chip :=
  if body.drop 12 != toLe (crc32 (body.take 12)) 4 then c.bump (R.PRT_DEN_CTRL_ERR p)
  else
    let c := (c.wr (F.PRT_DEN_STATUS_rx_an p) (byteAt body 0 % 4)).wrb (F.PRT_DEN_STATUS_rx_rdi p) (bit (byteAt body 0) 2)
    let c := (c.setPort p { c.port p with rxSeq := some (be body 4 8) }).wr (F.PRT_DEN_STATUS_seq_known p) 1
    if bit (byteAt body 0) 2 then c.enterDefect p .dRDI else c.exitDefect p .dRDI

/-- DENAST_MARK (R80): A received MARK sets the AN, the expected sequence and the remote-defect indication. -/
def execDenastMark (port : Nat) (body : Bytes) (s : State) : Host.Outcome State Fault Refusal :=
  s.actOn (port < 96 && body.length == 16) fun c => if c.awaits port 3 then ((c.taken port).mark_ port body).used port else c

/-- DENAST_AIS_CONTAINER: the third with no data container between enters dAIS. -/
def execDenastAisContainer (port : Nat) (s : State) : Host.Outcome State Fault Refusal :=
  s.actOn (port < 96) fun c =>
    if !c.awaits port 1 then c
    else
      let c := c.taken port
      let n := (c.port port).aisRun + 1
      let c := (c.wr (F.PRT_STATUS_ais_rx port) 1).setPort port { c.port port with aisRun := n }
      (if 3 ≤ n then c.enterDefect port .dAIS else c).used port

/-! ## HELLO (R86, R92, R93) -/

/-- A HELLO body (R92). -/
def Chip.helloBody (c : Chip) (p : Nat) : Bytes :=
  let x := c.port p
  let h := x.heard.getD { id := fill 16 0 }
  toBe 1 1 ++ toBe 1 1 ++ toBe x.helloSeq 2 ++ c.peerId ++ toBe p 1 ++
    toBe (b2n (c.denTfc p != 0) + 2 * b2n (c.flag (F.PRT_STATUS_ais_tx p))) 1 ++ toBe (c.denMax p) 2 ++ h.id ++ toBe h.port 1 ++ fill 7 0

/-- The partner's maximum against den_tfc_payload (R86). -/
def Chip.checkTfc (c : Chip) (p : Nat) : Chip :=
  let bad := c.denTfc p != 0 && (c.port p).maxPay < c.denTfc p
  let c := if bad && !c.flag (F.PRT_STATUS_tfc_mismatch p) then c.attn 8 else c
  (c.wrb (F.PRT_STATUS_tfc_mismatch p) bad).wrb (F.PRT_DEN_STATUS_tfc_active p) (c.denTfc p != 0 && !bad)

/-- HELLO: another sender replaces the partner; one that has heard this part is two-way. (log entry 38, DEDUCED) -/
def Chip.onHello (c : Chip) (p : Nat) (m : Bytes) : Chip :=
  if m.length != 48 || byteAt m 0 != 1 || byteAt m 1 != 1 then c.bump (R.PRT_DEN_CTRL_ERR p)
  else
    let q : Partner := { id := slice m 4 16, port := byteAt m 20 }
    let known := ((c.port p).partner.map (fun y => y.id == q.id && y.port == q.port)).getD false
    let c := if known then c
      else
        let c := c.partnerLost p
        let c := c.setPort p { c.port p with partner := some q }
        c.setWord (R.PRT_PEER p) (BitVec.ofNat 32 (1 + 256 * q.port + 65536 * 65535))
    let c := c.setPort p { c.port p with heard := some q }
    let two := ((c.port p).partner.map (·.twoWay)).getD false
    let now := slice m 24 16 == c.peerId && byteAt m 40 == p
    if two then (c.setPort p { c.port p with maxPay := be m 22 2 }).checkTfc p
    else if !now then c
    else
      match c.enterPeer q.id true with
      | none => c.attn 8
      | some (i, c) =>
        let c := (c.partnerUp p q i).setPort p { (c.partnerUp p q i).port p with maxPay := be m 22 2 }
        (c.checkTfc p).kaStart p

/-- HELLO (R93): A received HELLO refreshes the partner, makes it two-way, or reports that it has changed. -/
def execHello (port : Nat) (body : Bytes) (s : State) : Host.Outcome State Fault Refusal :=
  s.actOn (port < 96) fun c => if c.hears port && c.isDenast port then c.onHello port body else c

/-- HELLO_SEND: every 100 ms from the moment the port reaches SYNC. (log entry 38, DEDUCED) -/
def execHelloSend (port : Nat) (s : State) : Host.Outcome State Fault Refusal :=
  s.actOn (port < 96) fun c =>
    if !(c.watched port && c.isDenast port && (c.port port).helloOn) then c
    else
      let c' := c.sendControl port (c.helloBody port)
      c'.setPort port { c'.port port with helloSeq := ((c.port port).helloSeq + 1) % 65536 }

/-- PARTNER_TIMEOUT: no HELLO for 300 ms. (log entry 60, DEDUCED) -/
def execPartnerTimeout (port : Nat) (s : State) : Host.Outcome State Fault Refusal :=
  s.actOn (port < 96) fun c => if c.watched port && c.isDenast port then c.partnerLost port else c

/-! ## Control containers (R79) -/

/-- A message body, by its type. (log entry 38, DEDUCED) -/
def Chip.onMessage (c : Chip) (p : Nat) (m : Bytes) : Chip :=
  let t := byteAt m 0
  if t = 0x01 then c.onHello p m
  else if t = 0x10 then c.onOffer p m
  else if t = 0x11 then c.onAccept p m
  else if t = 0x12 then c.onFinish p m
  else if t = 0x13 then c.onDone p m
  else if t = 0x14 then c.onReject p m
  else if t = msgRxReady || t = msgTxSwitched || t = msgAdvanceReq then c.onControl p t m
  else if t = msgAdopt then c.onAdopt p m
  else c.bump (R.PRT_DEN_CTRL_ERR p)

/-- DENAST_CONTROL_CONTAINER: the bytes after the core header, whose control header has checked. (log entry 38, DEDUCED) -/
def Chip.controlContainer (c : Chip) (p : Nat) (v : Bytes) : Chip :=
  let n := be v 0 2
  if v.drop (4 + n) != toLe (crc32 (v.take (4 + n))) 4 then c.bump (R.PRT_DEN_CTRL_ERR p) else c.onMessage p (slice v 4 n)

/-- DENAST_CONTROL_CONTAINER (R79): A received CONTROL container is checked by its CRC-32 and its message is dispatched by type. -/
def execDenastControlContainer (port : Nat) (body : Bytes) (s : State) : Host.Outcome State Fault Refusal :=
  s.actOn (port < 96) fun c =>
    if c.awaits port 2 && controlHeadOk (body.take 4) && body.length == be body 0 2 + 8 then ((c.taken port).controlContainer port body).used port else c

/-! ## Modules (R95 to R99) -/

/-- The MODULE_CONFIG entry of a cage (R101): master, channel; 0xFF is unmanaged. -/
def Chip.cageMaster (c : Chip) (n : Nat) : Nat := c.cfgNat T.moduleConfig (32 + 2 * n) 1 255

def Chip.cage (c : Chip) (n : Nat) : Cage := Sparse.get {} c.data.cages n

def Chip.setCage (c : Chip) (n : Nat) (x : Cage) : Chip := { c with data := { c.data with cages := Sparse.set {} c.data.cages n x } }

/-- The 9612 sees this cage: it is managed, and its master works. -/
def Chip.cageSeen (c : Chip) (n : Nat) : Bool :=
  let m := c.cageMaster n
  c.flag (F.PRT_CFG_managed n) && m < 8 && !c.flag (F.PRT_I2C_STATUS_failed m)

/-- The state of a module changes; a stall of its ports may begin or end (R187). -/
def Chip.setModState (c : Chip) (n st : Nat) : Chip :=
  let c := (c.wr (F.PRT_MOD_STATUS_mod_state n) st).settleStall n
  if 96 ≤ n then c.settleStall (n + 24) else c

/-- Polls go on while the part is not held before its start and firmware or a start serves the masters. -/
def Chip.modulesServed (c : Chip) : Bool := c.power && !c.halted && !c.safe

/-- MODULE_POLL. The spec does not say that a module's temperature and flags are cleared when it is removed: it is the model's choice to
keep them, so that the same flag of the next module is not new (log entry 73, DESIGN CHOICE). -/
def Chip.modulePoll (c : Chip) (n : Nat) (ack : Bool) : Chip :=
  let x := c.cage n
  let here := c.flag (F.PRT_MOD_STATUS_present n)
  let y : Cage := if ack then { x with acks := min 2 (x.acks + 1), nacks := 0 } else { x with nacks := min 2 (x.nacks + 1), acks := 0 }
  let c := c.setCage n y
  if ack && y.acks = 2 && !here then ((c.setCage n { y with step := 1 }).wr (F.PRT_MOD_STATUS_present n) 1).setModState n 1
  else if !ack && y.nacks = 2 && here then
    (((c.setCage n { y with step := 0 }).wr (F.PRT_MOD_STATUS_present n) 0).wr (F.PRT_MOD_STATUS_tx_disabled n) 1).setModState n 0
  else c

/-- MODULE_POLL (R95): A cage is polled at I2C address 0x50, and two consistent polls make it present or absent. -/
def execModulePoll (cage : Nat) (ack : Bool) (s : State) : Host.Outcome State Fault Refusal :=
  s.actOn (cage < 120) fun c => if c.modulesServed && c.cageSeen cage then c.modulePoll cage ack else c

/-- TX disable of a ready module is released, unless ports are not yet released or the port is DISABLED. What tx_disabled reads for the
fixed optics of an unmanaged cage is not stated: it keeps its reset value 1, the model's choice (log entry 73, DESIGN CHOICE). -/
def Chip.releaseTx (c : Chip) (n : Nat) : Chip :=
  if c.start.released && c.portOn n && c.rd (F.PRT_MOD_STATUS_mod_state n) == 2 then c.wr (F.PRT_MOD_STATUS_tx_disabled n) 0 else c

/-- MODULE_BRINGUP_STEP: the step in progress ends (R96). A DISABLED port's module stays in low power. -/
def Chip.bringupStep (c : Chip) (n : Nat) (found : Bool) : Chip :=
  let x := c.cage n
  if x.step = 0 || c.rd (F.PRT_MOD_STATUS_mod_state n) != 1 then c
  else if x.step = 2 && !found then (c.setCage n { x with step := 0 }).setModState n 3
  else if x.step < 5 then c.setCage n { x with step := x.step + 1 }
  else ((c.setCage n { x with step := 0 }).setModState n 2).releaseTx n

/-- MODULE_BRINGUP_STEP (R96): One step of the CMIS module bring-up completes and the next begins. Which mod_state a present module of a
DISABLED port's cage reads is not stated: it is the model's choice that it stays 1 (initialising), at step 1, until a time-out makes it
fault (log entry 73, DESIGN CHOICE). -/
def execModuleBringupStep (cage : Nat) (applicationFound : Bool) (s : State) : Host.Outcome State Fault Refusal :=
  s.actOn (cage < 120) fun c =>
    if c.modulesServed && c.cageSeen cage && c.portOn cage then c.bringupStep cage applicationFound else c

/-- MODULE_BRINGUP_TIMEOUT: a step has taken too long; the cage reads fault. -/
def execModuleBringupTimeout (cage : Nat) (s : State) : Host.Outcome State Fault Refusal :=
  s.actOn (cage < 120) fun c =>
    if c.modulesServed && c.cageSeen cage && (c.cage cage).step != 0 && c.rd (F.PRT_MOD_STATUS_mod_state cage) == 1 then
      (c.setCage cage { c.cage cage with step := 0 }).setModState cage 4
    else c

/-- MODULE_MONITOR_READ: each new flag raises an alarm attention (R97). -/
def Chip.monitorRead (c : Chip) (n : Nat) (tempC : Int) (t v l : Bool) : Chip :=
  let new := b2n (t && !c.flag (F.PRT_MOD_STATUS_temp_flag n)) + b2n (v && !c.flag (F.PRT_MOD_STATUS_vcc_flag n)) +
    b2n (l && !c.flag (F.PRT_MOD_STATUS_rx_los_flag n))
  let c := c.wr (F.PRT_MOD_STATUS_temperature n) (ofSigned 8 tempC)
  let c := ((c.wrb (F.PRT_MOD_STATUS_temp_flag n) t).wrb (F.PRT_MOD_STATUS_vcc_flag n) v).wrb (F.PRT_MOD_STATUS_rx_los_flag n) l
  (List.range new).foldl (fun c _ => c.attn 8) c

/-- MODULE_MONITOR_READ (R97): Once a second, a module's temperature, supply and receive-loss flags are read. -/
def execModuleMonitorRead (cage : Nat) (tempC : Int) (tempFlag vccFlag losFlag : Bool) (s : State) : Host.Outcome State Fault Refusal :=
  s.actOn (cage < 120) fun c =>
    if c.modulesServed && c.cageSeen cage && c.flag (F.PRT_MOD_STATUS_present cage) then c.monitorRead cage tempC tempFlag vccFlag losFlag else c

/-- Cages of a master show whether it is failed. -/
def Chip.markMaster (c : Chip) (m : Nat) (failed : Bool) : Chip :=
  (List.range 120).foldl (fun c n =>
    if c.flag (F.PRT_CFG_managed n) && c.cageMaster n == m then c.wrb (F.PRT_MOD_STATUS_master_failed n) failed else c) c

/-- I2C_STUCK: nine clock pulses and a stop are sent; a line that is still low fails the master (R98). -/
def execI2cStuck (master : Nat) (cleared : Bool) (s : State) : Host.Outcome State Fault Refusal :=
  s.actOn (master < 8) fun c =>
    let c := c.emit (.i2cClear master)
    if cleared || c.flag (F.PRT_I2C_STATUS_failed master) then c
    else (((c.wr (F.PRT_I2C_STATUS_failed master) 1).sat (F.PRT_I2C_STATUS_stuck_events master) 1).markMaster master true).attn 8

/-- I2C_RETRY: once a second the pulses and the stop are sent again; a failed master that recovers has its cages polled anew (R98). -/
def execI2cRetry (master : Nat) (recovered : Bool) (s : State) : Host.Outcome State Fault Refusal :=
  s.actOn (master < 8) fun c =>
    if !c.flag (F.PRT_I2C_STATUS_failed master) then c
    else if !recovered then c.emit (.i2cClear master)
    else
      let c := c.emit (.i2cClear master)
      let c := ((c.wr (F.PRT_I2C_STATUS_failed master) 0).wr (F.PRT_I2C_STATUS_recovered master) 1).markMaster master false
      (List.range 120).foldl (fun c n => if c.cageMaster n == master then c.setCage n { c.cage n with acks := 0, nacks := 0 } else c) c

/-- The cages at step 17 of a start: which are managed, also for the halves Un/1 of their uplinks (R99, R102), and the masters' counts. A
cage that a new image makes managed is polled from the beginning. -/
def Chip.loadCages (c : Chip) : Chip :=
  let c := (List.range 120).foldl (fun c n =>
    let managed := c.cageMaster n < 8
    let c := c.wrb (F.PRT_CFG_managed n) managed
    if !managed then (c.wr (F.PRT_MOD_STATUS_present n) 1).wr (F.PRT_MOD_STATUS_mod_state n) 5
    else if c.rd (F.PRT_MOD_STATUS_mod_state n) = 5 then
      ((c.setCage n {}).wr (F.PRT_MOD_STATUS_present n) 0).wr (F.PRT_MOD_STATUS_mod_state n) 0
    else c) c
  let c := (List.range 24).foldl (fun c u => c.wrb (F.PRT_CFG_managed (120 + u)) (c.portOn (120 + u) && c.flag (F.PRT_CFG_managed (96 + u)))) c
  (List.range 8).foldl (fun c m =>
    c.wr (F.PRT_I2C_STATUS_cages m) ((List.range 120).filter (fun n => c.cageMaster n == m)).length) c

end Sys2Proof.Machine
end

