-- ==== Sys2Proof/Machine/Perf.lean ====
section
/-! DEFINITION. Performance (R105, R109 to R118): seconds and their classes, unavailability, bins, threshold-crossing alerts, and the
history on die, in the vault and in flash. -/

namespace Sys2Proof.Machine

/-! ## Entries (R117) -/

/-- A port's bin read back from its entry. -/
def Bin.ofEntry (v : Bytes) (start : Nat) : Bin :=
  { start := start, es := le v 0 4, ses := le v 4 4, uas := le v 8 4, bbe := le v 12 4, fecCorr := le v 16 8, fecBad := le v 24 8,
    downs := le v 32 2, suspect := bit (byteAt v 34) 0, disabled := bit (byteAt v 34) 2, los := le v 36 4, ais := le v 40 4,
    rdi := le v 44 4 }

/-- Counts added to a bin. -/
def Bin.plus (b d : Bin) : Bin :=
  { b with es := b.es + d.es, ses := b.ses + d.ses, uas := b.uas + d.uas, bbe := b.bbe + d.bbe, fecCorr := b.fecCorr + d.fecCorr,
           fecBad := b.fecBad + d.fecBad, downs := b.downs + d.downs, los := b.los + d.los, ais := b.ais + d.ais, rdi := b.rdi + d.rdi,
           icvs := b.icvs + d.icvs, rps := b.rps + d.rps, nosa := b.nosa + d.nosa, disabled := false }

/-- Parameter `i` of R115. -/
def Bin.param (b : Bin) (i : Nat) : Nat :=
  if i = 0 then b.es else if i = 1 then b.ses else if i = 2 then b.uas else if i = 3 then b.bbe else if i = 4 then b.icvs else b.rps

/-! ## Final seconds (R110, R111, R115) -/

/-- The bin that second `s` lies in: the open one that began at `start`, or one that is closed and not completed. -/
def inOpen (start s : Nat) (old : Option Bin) : Bool :=
  start ≤ s || match old with
    | none => true
    | some o => s < o.start

/-- An alert: attention, record and log entry (R115). -/
def Chip.tca (c : Chip) (e i : Nat) (day : Bool) : Chip :=
  let ix := if e < 144 then e else e - 144
  let w := ix + 65536 * b2n (144 ≤ e) + 2 ^ 17 * i + 2 ^ 20 * b2n day + 2 ^ 31
  let c := (c.attn 14).record Sub.port.n 4 0 ix w
  if 64 ≤ c.pm.tca.length then c.sat32 R.PRT_PM_TCA_LOST 1
  else { c with pm := { c.pm with tca := c.pm.tca ++ [BitVec.ofNat 32 w] } }

/-- The parameters of a bin that have just reached their thresholds. -/
def Chip.fires (c : Chip) (e : Nat) (b : Bin) (day : Bool) : List Nat :=
  (List.range (if e < 144 then 4 else 6)).filter (fun i =>
    let t := c.pmThreshold e (i + 6 * b2n day)
    t != 0 && t ≤ b.param i && !bit b.alerted i)

/-- A final second is added to a fifteen-minute or a day bin, and its alerts fire. -/
def Chip.addFinal (c : Chip) (e s : Nat) (d : Bin) (day : Bool) : Chip :=
  let x := c.perf e
  let start := if day then c.pm.startDay else c.pm.start15
  let old := if day then x.oldDay else x.old15
  let cur := if day then x.curDay else x.cur15
  let opened := inOpen start s old
  let b := (if opened then cur else old.getD {}).plus d
  let hits := c.fires e b day
  let b := { b with alerted := hits.foldl (fun n i => n ||| 2 ^ i) b.alerted }
  let x := if opened then (if day then { x with curDay := b } else { x with cur15 := b })
    else (if day then { x with oldDay := some b } else { x with old15 := some b })
  hits.foldl (fun c i => c.tca e i day) (c.setPerf e x)

/-- dDEG after a second that was degraded or not, once its availability is final (R102, R105, R109; log entry 43, DEDUCED). -/
def Chip.degSecond (c : Chip) (p : Nat) (degraded : Bool) : Chip :=
  if c.flag (F.PRT_DEFECT_sf p) || !c.watched p then c
  else
    let x := c.port p
    let m := c.degM
    let c := c.setPort p (if degraded then { x with degRun := min m (x.degRun + 1), goodRun := 0 } else { x with degRun := 0, goodRun := min m (x.goodRun + 1) })
    if m ≤ (c.port p).degRun then c.enterDefect p .dDEG
    else if m ≤ (c.port p).goodRun then c.exitDefect p .dDEG
    else c

/-- A second becomes final: available, or a second of unavailability. -/
def Chip.finalSecond (c : Chip) (e : Nat) (x : Second) (avail : Bool) : Chip :=
  let d : Bin := if avail then { x.add with es := b2n (x.es || x.ses), ses := b2n x.ses, bbe := if x.ses then 0 else x.bbe }
    else { x.add with uas := 1 }
  let c := (c.addFinal e x.at_ d false).addFinal e x.at_ d true
  if e < 144 then c.degSecond e (avail && x.deg) else c

/-- A second ends: it waits while it may begin or end a period of unavailability, and else is final with those before it. -/
def Chip.classify (c : Chip) (e : Nat) (x : Second) : Chip :=
  let p := c.perf e
  let all (c : Chip) (l : List Second) (avail : Bool) : Chip := l.foldl (fun c y => c.finalSecond e y avail) c
  if x.ses != p.unavail then
    let w := p.wait ++ [x]
    if w.length < 10 then c.setPerf e { p with wait := w }
    else all (c.setPerf e { p with wait := [], unavail := x.ses }) w (!x.ses)
  else all (c.setPerf e { p with wait := [] }) (p.wait ++ [x]) (!p.unavail)

/-! ## The end of a second (R105, R109) -/

/-- At least `n` in `m` of the blocks are errored. -/
def ratioAtLeast (errored blocks n m : Nat) : Bool := 0 < errored && n * blocks ≤ m * errored

/-- The second of a port. -/
def Chip.portSecond (c : Chip) (p s : Nat) (b : Blocks) : Chip :=
  let c := if c.portFec p then (c.addWide (R.PRT_FEC_CORR p) 2 64 b.corrected).addWide (R.PRT_FEC_UNCORR p) 2 64 b.errored else c
  let x := c.perf p
  let ses := x.sfSeen || ratioAtLeast b.errored b.blocks 3 10
  let d : Bin := { fecCorr := if c.portFec p then b.corrected else 0, fecBad := if c.portFec p then b.errored else 0, downs := x.downs,
                   los := b2n x.losSeen, ais := b2n x.aisSeen, rdi := b2n x.rdiSeen }
  let x := c.perf p
  let c := c.setPerf p { x with cur15 := { x.cur15 with disabled := false }, curDay := { x.curDay with disabled := false } }
  let c := c.classify p { at_ := s, ses := ses, es := ses || 0 < b.errored, deg := ratioAtLeast b.errored b.blocks c.degPpm 1000000,
                          bbe := b.errored, add := d }
  let y := c.perf p
  (c.setPerf p { y with sfSeen := false, losSeen := false, aisSeen := false, rdiSeen := false, downs := 0 }).seeDefects p

/-- The second of a receive channel, whose port has been in SF for a part of it or not. -/
def Chip.chanSecond (c : Chip) (h : Chan) (s : Nat) (sf : Bool) : Chip :=
  let e := scEntity h.sc
  let x := c.perf e
  let ses := sf || x.nosaSeen || ratioAtLeast x.bad x.blocks 3 10
  let d : Bin := { fecCorr := x.blocks, icvs := b2n (0 < x.bad), rps := b2n (0 < x.replays), nosa := b2n x.nosaSeen }
  let c := c.classify e { at_ := s, ses := ses, es := ses || 0 < x.bad, bbe := x.bad, add := d }
  c.setPerf e { c.perf e with nosaSeen := false, blocks := 0, bad := 0, replays := 0 }

/-- The receive channels whose seconds count. -/
def Chip.rxChans (c : Chip) : List Chan := c.data.chans.filter (fun h => !h.tx && c.portOn h.port)

/-- SECOND_END: a TAI second ends; `blocks` is what the ports counted in it. (log entry 43, DEDUCED) -/
def Chip.secondEnd (c : Chip) (blocks : List Blocks) : Chip :=
  let s := c.seconds - 1
  let c := c.rxChans.foldl (fun c h => c.chanSecond h s (c.perf h.port).sfSeen) c
  let ports := (List.range 144).filter c.portOn
  let c := ports.foldl (fun c p =>
    c.portSecond p s ((blocks.find? (fun b => b.port == p)).getD { port := p, blocks := 0, errored := 0 })) c
  ports.foldl (fun c p => c.noteNosa p) c

/-- SECOND_END (R109): A TAI second ends and each port and channel classifies it; seconds that become final are counted. -/
def execSecondEnd (blocks : List Blocks) (s : State) : Host.Outcome State Fault Refusal :=
  s.act fun c => if !c.halted && c.pm.on then c.secondEnd blocks else c

/-! ## Bins (R112 to R114, R118) -/

/-- The boundary of a period at or before a second. (log entry 43, DEDUCED) -/
def Chip.binStart (c : Chip) (len s : Nat) : Nat := ((s : Int) - ((s : Int) - c.pmOffset) % len).toNat

/-- Bins open at step 20 of a cold start (R39, R114). -/
def Chip.openBins (c : Chip) : Chip :=
  { c with pm := { c.pm with on := true, start15 := c.binStart 900 c.seconds, startDay := c.binStart 86400 c.seconds, suspect15 := true,
                             suspectDay := true, crossed15 := false, crossedDay := false } }

/-- The entities that have bins. -/
def Chip.entities (c : Chip) : List Nat := List.range 144 ++ (c.data.chans.filter (fun h => !h.tx)).map (fun h => scEntity h.sc)

/-- The port of an entity is enabled: its open bin is not disabled for the whole bin (R117). -/
def Chip.entityOn (c : Chip) (e : Nat) : Bool :=
  if e < 144 then c.portOn e else ((c.data.chans.find? (fun h => h.sc == e - 144)).map (fun h => c.portOn h.port)).getD false

/-- A bin enters a ring of the vault in the place of its start time (R113, R349). -/
def ringPut (len slots : Nat) (off : Int) (b : Bin) (l : List Bin) : List Bin :=
  b :: l.filter (fun x => binPlace len slots off x.start != binPlace len slots off b.start)

/-- A completed bin of an entity enters its block of the history area, at entry `j` (R113, R349). -/
def Chip.binWrote (c : Chip) (e : Nat) (j : Int) : Chip :=
  let a := 0x20800000 + 0x8000 * e + 48 * j.toNat
  let c := c.areaWrote (a / 64)
  if (a + 47) / 64 = a / 64 then c else c.areaWrote (a / 64 + 1)

def Chip.putVault15 (c : Chip) (e : Nat) (b : Bin) : Chip :=
  if !c.vaultOpen then c
  else (c.setPerf e { c.perf e with vault15 := ringPut 900 672 c.pmOffset b (c.perf e).vault15 }).binWrote e (binPlace 900 672 c.pmOffset b.start)

def Chip.putVaultDay (c : Chip) (e : Nat) (b : Bin) : Chip :=
  if !c.vaultOpen then c
  else (c.setPerf e { c.perf e with vaultDay := ringPut 86400 7 c.pmOffset b (c.perf e).vaultDay }).binWrote e
    (672 + binPlace 86400 7 c.pmOffset b.start)

/-- The flash bin of the port entries (R118). -/
def Chip.flashBin (c : Chip) (start : Nat) (suspect : Bool) (entries : List Bytes) : Bytes :=
  let v := toLe 0x42484D50 4 ++ toLe c.pm.binSeq 4 ++ toLe start 8 ++ toLe c.pm.dur15 2 ++ toLe (b2n suspect) 2 ++ fill 44 0 ++ entries.flatten ++
    fill 1200 0
  v ++ (Config.cmac (Sparse.get ({} : Slot) c.keys.slots 0).value v ++ fill 16 0).take 16

/-- The closed fifteen-minute bins are completed: history on die, vault and flash. -/
def Chip.complete15 (c : Chip) : Chip :=
  let es := c.entities
  match (c.perf 0).old15 with
  | none => c
  | some first =>
    let entries := (List.range 144).map (fun p => (((c.perf p).old15).getD {}).entry true false)
    let c := if c.persistBlocked then c.sat F.MGT_FLASH_STATUS_lost_writes 1
      else
        let v := c.flashBin first.start first.suspect entries
        let n := c.pm.binSeq % 96
        let c := if n % 8 = 0 then c.countErases (464 + n / 8) 1 else c
        let c := c.onFlash (fun f => { f with history := Sparse.set [] f.history n v })
        { c with pm := { c.pm with binSeq := c.pm.binSeq + 1 } }
    es.foldl (fun c e =>
      let x := c.perf e
      match x.old15 with
      | none => c
      | some b =>
        (c.setPerf e { x with old15 := none, done15 := (b :: x.done15).take 32 }).putVault15 e b) c

/-- The closed day bins are completed. -/
def Chip.completeDay (c : Chip) : Chip :=
  c.entities.foldl (fun c e =>
    let x := c.perf e
    match x.oldDay with
    | none => c
    | some b =>
      (c.setPerf e { x with oldDay := none, doneDay := [b] }).putVaultDay e b) c

/-- The open fifteen-minute bins close, and those of the time base's interval open. (log entry 43, DEDUCED) -/
def Chip.close15 (c : Chip) : Chip :=
  let c := c.complete15
  let start := c.pm.start15
  let sus := c.pm.suspect15 || c.pm.crossed15
  let c := c.entities.foldl (fun c e =>
    let x := c.perf e
    c.setPerf e { x with old15 := some { x.cur15 with start := start, suspect := sus, disabled := x.cur15.disabled && !c.entityOn e }, cur15 := {} }) c
  let c := { c with pm := { c.pm with dur15 := if c.pm.crossed15 then c.pm.cut15 - start else 900 } }
  { c with pm := { c.pm with start15 := c.binStart 900 c.seconds, suspect15 := c.pm.crossed15 || !c.flag F.TIM_STATE_acquired,
                             crossed15 := false } }

/-- The same for the day bins. -/
def Chip.closeDay (c : Chip) : Chip :=
  let c := c.completeDay
  let start := c.pm.startDay
  let sus := c.pm.suspectDay || c.pm.crossedDay
  let c := c.entities.foldl (fun c e =>
    let x := c.perf e
    c.setPerf e { x with oldDay := some { x.curDay with start := start, suspect := sus, disabled := x.curDay.disabled && !c.entityOn e }, curDay := {} }) c
  { c with pm := { c.pm with startDay := c.binStart 86400 c.seconds, suspectDay := c.pm.crossedDay || !c.flag F.TIM_STATE_acquired,
                             crossedDay := false } }

/-- A boundary: the bins whose end the time base has reached close, and their completion is due 10 s later (R112, R114).
(log entry 43, DEDUCED) -/
def Chip.boundary (c : Chip) (due : Nat) : Chip :=
  let late := c.pm.crossed15 || c.pm.crossedDay
  let day := c.pm.startDay + 86400 ≤ c.seconds
  let c := if c.pm.start15 + 900 ≤ c.seconds then c.close15 else c
  let c := if day then c.closeDay else c
  match c.wheelFree 0 512 with
  | none => c
  | some n => c.wheelPut n (some { due := (if late then c.us else due) + 10000000, type := 6, arg := 0 })

/-- BIN_BOUNDARY. -/
def execBinBoundary (entry : Nat) (s : State) : Host.Outcome State Fault Refusal :=
  s.actOn (entry < 4096) fun c => c.fire entry 5 fun w c => if c.pm.on then c.boundary w.due else c

/-- A management restart holds this event to the end of step 24 (R114). -/
def Chip.mgmtRestarting (c : Chip) : Bool := c.start.busy && c.rd F.MGT_START_STATUS_start_kind == 3

/-- BIN_COMPLETE. -/
def execBinComplete (entry : Nat) (s : State) : Host.Outcome State Fault Refusal :=
  s.actOn (entry < 4096) fun c =>
    if c.mgmtRestarting && (c.wheelDue entry).isSome then
      if c.start.deferred.contains entry then c else { c with start := { c.start with deferred := c.start.deferred ++ [entry] } }
    else c.fire entry 6 fun _ c => c.complete15.completeDay

/-- A flash bin whose CMAC verifies. -/
def Chip.flashBinOk (c : Chip) (v : Bytes) : Bool :=
  v.length == 8192 && le v 0 4 == 0x42484D50 &&
    (Config.cmac (Sparse.get ({} : Slot) c.keys.slots 0).value (v.take 8176) ++ fill 16 0).take 16 == v.drop 8176

/-- The bins of the flash ring that either device holds with a good CMAC, newest first. -/
def Chip.flashBins (c : Chip) : List Bytes :=
  ((List.range 96).filterMap (fun n =>
    [Sparse.get [] c.flash0.history n, Sparse.get [] c.flash1.history n].find? c.flashBinOk)).mergeSort (fun a b => le b 4 4 ≤ le a 4 4)

/-- Step 19 of a cold start rebuilds the port history on die and in the vault from flash (R113). -/
def Chip.rebuildHistory (c : Chip) : Chip :=
  let bs := c.flashBins
  let seq := bs.foldl (fun n v => max n (le v 4 4 + 1)) 0
  let c := { c with pm := { c.pm with binSeq := seq } }
  (List.range 144).foldl (fun c p =>
    let l := bs.map (fun v => Bin.ofEntry (entryAt v 64 48 p) (le v 8 8))
    l.reverse.foldl (fun c b => c.putVault15 p b) (c.setPerf p { c.perf p with done15 := l.take 32 })) c

/-! ## Reading bins (R115, R117, R460) -/

/-- The bin that PRT_PM_CTRL selects of an entity, with its start and flags in force. -/
def Chip.binOf (c : Chip) (e k : Nat) : Option Bin :=
  let x := c.perf e
  if !c.pm.on then (if 1 ≤ k && k ≤ 32 then x.done15[k - 1]? else if k = 34 then x.doneDay[0]? else none)
  else if k = 0 then some { x.cur15 with start := c.pm.start15, suspect := c.pm.suspect15 || c.pm.crossed15,
                                                      disabled := x.cur15.disabled && !c.entityOn e }
  else if k ≤ 32 then x.done15[k - 1]?
  else if k = 33 then some { x.curDay with start := c.pm.startDay, suspect := c.pm.suspectDay || c.pm.crossedDay,
                                                            disabled := x.curDay.disabled && !c.entityOn e }
  else x.doneDay[0]?

/-- A write of PRT_PM_CTRL; with go the bin is copied. -/
def Chip.binCopy (c : Chip) (value : W32) : Chip :=
  let chan := bit value.toNat 0
  let ix := bits value.toNat 1 16
  let k := bits value.toNat 17 6
  let c := ((c.wrb F.PRT_PM_CTRL_kind chan).wr F.PRT_PM_CTRL_index ix).wr F.PRT_PM_CTRL_bin k
  if !bit value.toNat 23 then c
  else
    let bad := (!chan && 143 < ix) || 34 < k
    let exists_ := !chan || (match c.data.chans.find? (fun h => h.sc == ix) with
      | some h => !h.tx
      | none => false)
    let b := if bad || !exists_ then none else c.binOf (if chan then scEntity ix else ix) k
    let c := (c.wrb F.PRT_PM_STATUS_valid b.isSome).wrb F.PRT_PM_STATUS_bad_select bad
    let v := (b.map (fun b => b.entry (!chan) (k == 0 || k == 33))).getD (fill 48 0)
    let c := c.setNum R.PRT_PM_START 2 ((b.map (·.start)).getD 0 % 2 ^ 48)
    (List.range 12).foldl (fun c w => c.setWord (R.PRT_PM_DATA w) (BitVec.ofNat 32 (le v (4 * w) 4))) c

/-- PM_BIN_COPY. -/
def execPmBinCopy (init : Nat) (value : W32) (s : State) : Host.Outcome State Fault Refusal :=
  s.act fun c => c.hostWrite init R.PRT_PM_CTRL (fun c => c.binCopy value)

/-- PM_TCA_READ: the oldest alert leaves the log. -/
def Chip.tcaRead (c : Chip) : W32 × Chip :=
  match c.pm.tca with
  | [] => (0, c)
  | w :: ws => (w, { c with pm := { c.pm with tca := ws } })

/-- PM_TCA_READ (R115): A read of PRT_PM_TCA returns and removes the oldest alert log entry. -/
def execPmTcaRead (init : Nat) (s : State) : Host.Outcome State Fault Refusal :=
  s.act fun c => c.hostRead init R.PRT_PM_TCA Chip.tcaRead

/-- The fifteen-minute bins of a source that begin at `start` or later, oldest first. (log entry 43, DEDUCED) -/
def Chip.historyBins (c : Chip) (e : Nat) (flash : Bool) (start : Nat) : List Bin :=
  let l := if flash then c.flashBins.map (fun v => Bin.ofEntry (entryAt v 64 48 e) (le v 8 8)) else (c.perf e).vault15
  (l.filter (fun b => start ≤ b.start)).mergeSort (fun a b => a.start ≤ b.start)

/-- HISTORY_READ: `count` bins from `start` on; places past the last bin are zero. (log entry 26, DEDUCED) (log entry 43, DEDUCED) -/
def Chip.historyRead (c : Chip) (kind source index count start : Nat) : Chip × Answer :=
  if 1 < kind || 1 < source || count = 0 || 672 < count || (kind = 0 && 143 < index) || (kind = 1 && source = 1) then refuse c Code.range
  else if source = 0 && !c.vaultOpen then refuse c Code.busy
  else
    let e := if kind = 0 then index else scEntity index
    let known := kind = 0 || (c.data.chans.any (fun h => h.sc == index && !h.tx))
    if !known then refuse c Code.empty
    else
      let l := (c.historyBins e (source == 1) start).take count
      let v := (l.map (fun b => toLe b.start 8 ++ b.entry (kind == 0) false)).flatten
      (c, { out := v ++ fill (56 * count - v.length) 0 })

/-- HISTORY_READ (R113): The command returns port or channel bins from the vault or the flash. -/
def execHistoryRead (h : Mb) (kind source index count start : Nat) (s : State) : Host.Outcome State Fault Refusal :=
  s.act fun c => c.mbRun h { opcode := 0x0003, pf1 := true, halt := true, outLen := 56 * count } fun c =>
    c.historyRead kind source index count start

end Sys2Proof.Machine
end

