-- ==== Sys2Proof/Machine/PublicKey.lean ====
section
/-! DEFINITION. The public-key engine at work (R325 to R345): submission, rounds, the checks at a job's start, aborts, wipes
and completion. -/

namespace Sys2Proof.Machine

/-! ## Configuration and the checks at the start (R331, R335, R340, R345) -/

/-- PKE_OWNERS, or its defaults (R345). -/
def Chip.pkeCfg (c : Chip) (i dflt : Nat) : Nat := c.cfgNat T.pkeOwners i 1 dflt
def Chip.hostMaxNw (c : Chip) : Nat := c.pkeCfg 6 64

/-- PKE_HOST_CFG at a start. -/
def Chip.loadPke (c : Chip) : Chip :=
  let c := ((c.wr F.PKE_HOST_CFG_host_enable (c.pkeCfg 1 1 % 2)).wr F.PKE_HOST_CFG_host_depth (c.pkeCfg 2 16)).wr F.PKE_HOST_CFG_host_weight (c.pkeCfg 3 1)
  ((c.wr F.PKE_HOST_CFG_fw_weight (c.pkeCfg 4 4)).wr F.PKE_HOST_CFG_vector (c.pkeCfg 5 8)).wr F.PKE_HOST_CFG_host_max_nw c.hostMaxNw

/-- A system slot may be named by firmware alone: K2, K4 and K5, on P-384, and for the operations of R331. -/
def systemOk (d : Bytes) : Bool :=
  let l := if djSlot d = 2 then [PkeOp.ecPubkey, PkeOp.ecdh, PkeOp.mlkemKeygen, PkeOp.mlkemDecaps]
    else if djSlot d = 4 || djSlot d = 5 then [PkeOp.ecPubkey, PkeOp.ecdsaSign, PkeOp.mldsaKeygen, PkeOp.mldsaSign]
    else []
  l.contains (djOp d) && (!isEcOp (djOp d) || djCurve d == 2)

/-- Why a job may not use the slot that it names (R302, R331), for a context: a slot that is being cleared counts as empty. -/
def Chip.slotBar (c : Chip) (fw : Bool) (d : Bytes) : Option Nat :=
  let x := c.slot (djSlot d)
  if !djSlotKey d then none
  else if djSlot d < 8 && !(fw && systemOk d) then some PkeCode.denied
  else if !x.filled || x.clearDue then some PkeCode.empty
  else if 8 ≤ djSlot d && (x.owner != (if fw then 0 else 1) || !bit x.dest 4 || !bit x.ops 10) then some PkeCode.denied
  else none

/-- The code of a job that ends when it starts, with its detail; host_max_nw bounds host jobs alone. (log entry 44, DEDUCED) -/
def Chip.djBar (c : Chip) (fw : Bool) (d : Bytes) : Option (Nat × Nat) :=
  if c.flag F.PKE_STATUS_fenced then some (PkeCode.fault, 1)
  else if !djFormatOk d then some (PkeCode.format, 0)
  else if !djLengthOk d (if fw then 128 else c.hostMaxNw) then some (PkeCode.length, 0)
  else if (c.slotBar fw d).isSome then (c.slotBar fw d).map (fun x => (x, 0))
  else if djRandom d && !c.rbgOk then some (PkeCode.fault, 2)
  else none

/-! ## Completion (R326, R339 to R344) -/

/-- The completion record. (log entry 70, DEDUCED) -/
def pkeRecord (j : PkeJob) (code detail out ns iter : Nat) : Bytes :=
  slice j.desc 4 4 ++ toLe code 1 ++ toLe (djOp j.desc) 1 ++ toLe detail 1 ++ [0] ++ toLe j.num 4 ++ toLe out 4 ++
    toLe (capTo4 ns) 4 ++ toLe iter 2 ++ fill 9 0 ++ [1]
where capTo4 (n : Nat) : Nat := min n (2 ^ 32 - 1)

/-- A key agreement whose job has failed fails (R344). -/
def Chip.agreeFault (c : Chip) (j : PkeJob) : Chip :=
  match j.port with
  | none => c
  | some p =>
    let k := (c.port p).link.step
    if k == .idle || k == .backoff then c else c.kaFailed p

/-- A job ends: its output, then its record, then the interrupt; a firmware job's record goes to management memory, with the management
cores' own interrupt (R339). (log entry 45, DESIGN CHOICE) -/
def Chip.pkeEnd (c : Chip) (j : PkeJob) (code detail : Nat) (out : Bytes) (ns iter : Nat) (recordOk : Bool) : Chip :=
  let c := c.bump (if code = PkeCode.ok then R.PKE_JOBS_OK else R.PKE_JOBS_ERR)
  let c := if code = PkeCode.mismatch then c.bump R.PKE_MISMATCH else c
  if j.fw then
    let c := c.emit (.fwJob (pkeRecord j code detail out.length ns iter))
    (if code = PkeCode.fault then c.agreeFault j else c).pkeSync
  else
  let c := if out = [] then c else c.emit (.hostWrite 0 (le j.desc 24 8) out)
  let c := if !recordOk then c.bump R.PKE_DMA_ERR
    else
      let c := c.emit (.hostWrite 0 (le j.desc 40 8) (pkeRecord j code detail out.length ns iter))
      if bit (byteAt j.desc 1) 0 then c.msix (c.rd F.PKE_HOST_CFG_vector) else c
  c.pkeSync

/-- A job ends with FAULT, detail 1: counted, alerted and recorded (R343). -/
def Chip.pkeCheckFault (c : Chip) (j : PkeJob) (ns : Nat) : Chip :=
  let c := c.bump R.PKE_FAULTS
  (c.alert Sub.pke.n 0 0 (c.word R.PKE_FAULT).toNat).pkeEnd j PkeCode.fault 1 [] ns 0 true

/-- A check of the engine fires; the third such FAULT within 1 s fences the engine, and every queued job then ends with FAULT (R343,
R344). -/
def Chip.pkeFault (c : Chip) (j : PkeJob) (b ns : Nat) : Chip :=
  let c := (c.wr ⟨R.PKE_FAULT, 0, 5⟩ (c.rd ⟨R.PKE_FAULT, 0, 5⟩ ||| 2 ^ b)).pkeCheckFault j ns
  let l := (c.ns :: c.pke.faults).filter (fun t => c.ns < t + 1000000000)
  let c := { c with pke := { c.pke with faults := l.take 3 } }
  if l.length < 3 then c
  else
    let q := c.pke.fwQueue ++ c.pke.queue
    let c := ({ c with pke := { c.pke with queue := [], fwQueue := [] } }).wr F.PKE_STATUS_fenced 1
    q.foldl (fun c x => c.pkeCheckFault x 0) c

/-- PKE_SUBMIT. -/
def Chip.pkeSubmit (c : Chip) (d : Bytes) : Chip × Answer :=
  if !c.flag F.PKE_HOST_CFG_host_enable then refuse c Code.denied
  else if c.rd F.PKE_HOST_CFG_host_depth ≤ c.rd F.PKE_STATUS_host_queued then refuse c Code.busy
  else if d.length != 64 || le d 40 8 % 32 != 0 then refuse c Code.format
  else if c.flag F.PKE_STATUS_fenced then refuse c Code.fault
  else
    let n := c.pke.next
    let j : PkeJob := { num := n, desc := d }
    let c := { c with pke := { c.pke with next := (n + 1) % 2 ^ 32, queue := c.pke.queue ++ [j] } }
    (c.pkeSync, { result := n })

/-- PKE_SUBMIT (R328): The command queues a host public-key job and returns its job number. -/
def execPkeSubmit (h : Mb) (descriptor : Bytes) (s : State) : Host.Outcome State Fault Refusal :=
  s.act fun c => c.mbRun h { opcode := 0x0500 } fun c => c.pkeSubmit descriptor

/-- PKE_ABORT (R341): a queued job is removed, a loading or computing one stopped and wiped; another is RANGE.
(log entry 45, DESIGN CHOICE) -/
def Chip.pkeAbort (c : Chip) (n : Nat) : Chip × Answer :=
  match c.pke.queue.find? (fun j => j.num == n) with
  | some j =>
    let c := { c with pke := { c.pke with queue := c.pke.queue.filter (fun x => x.num != n) } }
    ((c.bump R.PKE_ABORTS).pkeEnd j PkeCode.aborted 0 [] 0 0 true, {})
  | none =>
    match c.pke.running with
    | none => refuse c Code.range
    | some (j, _) =>
      if j.fw || j.num != n then refuse c Code.range
      else
        let (ns, c) := c.freeNat 32
        let c := ({ c with pke := { c.pke with running := none } }).pkeWipe
        ((c.bump R.PKE_ABORTS).pkeEnd j PkeCode.aborted 0 [] ns 0 true, {})

/-- PKE_ABORT (R341): The command removes or stops a named public-key job. -/
def execPkeAbort (h : Mb) (job : Nat) (s : State) : Host.Outcome State Fault Refusal :=
  s.act fun c => c.mbRun h { opcode := 0x0501 } fun c => c.pkeAbort job

/-- The engine runs jobs: in power and not in halt. -/
def Chip.pkeOn (c : Chip) : Bool := c.power && !c.halted

/-- The engine serves host jobs: from step 22 of a cold start on, or 23 of a warm one, and not in halt (R329). -/
def Chip.pkeServes (c : Chip) : Bool := c.running

/-- The context that has the next job (R325), and the round after it: up to fw_weight firmware jobs, then up to host_weight host jobs; a
context without a job yields the rest of its turn. -/
def Chip.pkeTurn (c : Chip) : Option (Bool × Bool × Nat) :=
  let x := c.pke
  let host := x.queue != [] && c.pkeServes
  let fw := x.fwQueue != []
  if x.hostTurn then
    if host && x.taken < c.rd F.PKE_HOST_CFG_host_weight then some (true, true, x.taken + 1)
    else if fw then some (false, false, 1)
    else if host then some (true, true, 1)
    else none
  else
    if fw && x.taken < c.rd F.PKE_HOST_CFG_fw_weight then some (false, false, x.taken + 1)
    else if host then some (true, true, 1)
    else if fw then some (false, false, 1)
    else none

/-- A job starts: a wipe when the other context wrote the memory last, then the checks that need no input (R326, R331, R340). -/
def Chip.pkeBegin (c : Chip) (j : PkeJob) (input : Bytes) : Chip :=
  let c := if c.flag F.PKE_STATUS_context == j.fw then c.pkeWipe else c
  let c := c.wrb F.PKE_STATUS_context (!j.fw)
  match c.djBar j.fw j.desc with
  | some (code, detail) =>
    let c := if code = PkeCode.fault then c.pkeWipe else c
    if code = PkeCode.fault && detail = 1 then c.pkeCheckFault j 0 else c.pkeEnd j code detail [] 0 0 true
  | none =>
    let v := fit (djIn j.desc) input
    let j := { j with key := if djSlotKey j.desc then some (c.slot (djSlot j.desc)).value else none }
    (({ c with pke := { c.pke with running := some (j, v) } }).pkeLoad j v).pkeSync

/-- PKE_JOB_START: the next job starts; `input` is what a host job reads from host memory. -/
def Chip.pkeStart (c : Chip) (input : Bytes) : Chip :=
  if c.pke.running.isSome then c
  else match c.pkeTurn with
    | none => c
    | some (host, turn, n) =>
      let c := { c with pke := { c.pke with hostTurn := turn, taken := n } }
      if host then
        match c.pke.queue with
        | [] => c
        | j :: js => { c with pke := { c.pke with queue := js } }.pkeBegin j input
      else
        match c.pke.fwQueue with
        | [] => c
        | j :: js => { c with pke := { c.pke with fwQueue := js } }.pkeBegin j j.input

/-- PKE_JOB_START (R337): A public-key job starts after any wipe, and its inputs are checked. -/
def execPkeJobStart (input : Bytes) (s : State) : Host.Outcome State Fault Refusal :=
  s.act fun c => if c.pkeOn then c.pkeStart input else c

/-- A job that no check and no failed access stops. -/
def Chip.pkeGood (c : Chip) (j : PkeJob) (input : Bytes) (recordOk : Bool) : Chip :=
  let (rnd, c) := if j.fw then (j.rnd, c) else if djRandom j.desc then c.random 1040 else ([], c)
  let (r, n) := pkeCompute j input rnd
  let iter := if djOp j.desc = PkeOp.mldsaSign then min n 200 else 0
  let full := pkeFullNs j.desc input (if djOp j.desc = PkeOp.mldsaSign then iter else n)
  if djOp j.desc = PkeOp.mldsaSign && 200 < n then (c.pkeWipe.pkeBusy full).pkeEnd j PkeCode.fault 3 [] full iter recordOk
  else match r with
    | .out v => ((c.pkeStore j input v).pkeBusy full).pkeEnd j PkeCode.ok 0 v full iter recordOk
    | .early code => ((c.pkeStore j input []).pkeBusy (pkeEarlyNs j.desc)).pkeEnd j code 0 [] (pkeEarlyNs j.desc) 0 recordOk
    | .late code => ((c.pkeStore j input []).pkeBusy full).pkeEnd j code 0 [] full 0 recordOk
    | .offCurve => (c.pkeWipe.pkeBusy full).pkeFault j 4 full

/-- PKE_JOB_COMPLETE. How long a job ran that a check or a failed access stopped is a free value. -/
def Chip.pkeComplete (c : Chip) (run : PkeRun) : Chip :=
  match c.pke.running with
  | none => c
  | some (j, input) =>
    let c := { c with pke := { c.pke with running := none } }
    match run with
    | .good => c.pkeGood j input true
    | .recordError => c.pkeGood j input false
    | .check b =>
      let (ns, c) := c.freeNat 32
      (c.pkeWipe.pkeBusy ns).pkeFault j (b % 5) ns
    | .dmaError =>
      let (ns, c) := c.freeNat 32
      (c.pkeWipe.pkeBusy ns).pkeEnd j PkeCode.fault 4 [] ns 0 true

/-- PKE_JOB_COMPLETE (R339): A public-key job ends, and its output and completion record are written. -/
def execPkeJobComplete (run : PkeRun) (s : State) : Host.Outcome State Fault Refusal :=
  s.act fun c => if c.pkeOn then c.pkeComplete run else c

/-- Host jobs at an event of R464: removed or aborted with the wipe, and none writes a completion. -/
def Chip.pkeDepart (c : Chip) : Chip :=
  let was := c.pkeHostJob.isSome
  let c := { c with pke := { c.pke with queue := [], running := c.pke.running.filter (fun r => r.1.fw) } }
  (if was then c.pkeWipe else c).pkeSync

end Sys2Proof.Machine
end

