-- ==== Sys2Proof/Machine/Content.lean ====
section
/-! DEFINITION. The content rules of the image's records, as step 16 of a start and IMAGE_VERIFY check them (R61, R63, R70): one
check per record type, the rules that join records, and the resource requests that exceed the part. -/

namespace Sys2Proof.Machine

/-! ## Reading an image's own configuration -/

/-- `n` bytes from `a` on are zero. -/
def zeroAt (v : Bytes) (a n : Nat) : Bool := (slice v a n).all (· == 0)

/-- The PORT_CONFIG record of port 0 to 119. -/
def Image.portOf (i : Image) (p : Nat) : Option Bytes := (i.recs T.portConfig).find? (fun v => byteAt v 0 == p)

/-- The mode of a port of R117, DISABLED without a record; the second half of an uplink has one only in 2×200GbE mode. -/
def Image.mode (i : Image) (p : Nat) : Nat :=
  if p < 120 then ((i.portOf p).map (fun v => byteAt v 1)).getD 0
  else if ((i.portOf (p - 24)).map (fun v => byteAt v 1)).getD 0 = 6 then 6 else 0

/-- The encapsulation of a line port. -/
def Image.encap (i : Image) (p : Nat) : Nat := ((i.portOf p).map (fun v => byteAt v 3)).getD 0

/-- The ports of R117 that are configured. -/
def Image.ports (i : Image) : List Nat := (List.range 144).filter (fun p => i.mode p != 0)

/-- Port p is a member of a pair (R101). -/
def Image.paired (i : Image) (p : Nat) : Bool :=
  p < 96 && bit (((i.rec1 T.pairConfig).map (fun v => le v 0 6)).getD 0) (p % 48)

/-- Every channel that the image lists. -/
def Image.chans (i : Image) : List Chan := (i.recs T.scTable).flatMap tableChans

/-- Entry of a port in MKA_CONFIG. -/
def Image.mka (i : Image) (p : Nat) : Option Bytes :=
  ((i.rec1 T.mkaConfig).map (fun v => countedEntries v 48)).getD [] |>.find? (fun e => byteAt e 0 == p)

/-- A list without repetitions. -/
def noDup {α : Type} [BEq α] (l : List α) : Bool := l.eraseDups.length == l.length

/-- A number lies between two bounds. -/
def within (n a b : Nat) : Bool := a ≤ n && n ≤ b

/-- A number read as two's complement of `w` bits lies between two bounds. -/
def withinInt (w n : Nat) (a b : Int) : Bool := a ≤ toSigned w n && toSigned w n ≤ b

/-! ## Ports (R72, R100, R101, R116) -/

/-- PORT_CONFIG (R72, R100). The spec does not say that a line port's record with lane_swap or the lane 1 inversions set is rejected: it is
the model's choice to accept it (log entry 73, DESIGN CHOICE). -/
def portRecOk (v : Bytes) : Bool :=
  let p := byteAt v 0
  let m := byteAt v 1
  let fec := byteAt v 2
  let enc := byteAt v 3
  let line : Bool := p < 96
  let modeOk : Bool :=
    if m = 0 then fec == 0 && enc == 0
    else if m = 1 then line && fec == 0 && enc ≤ 1
    else if m = 2 then line && fec ≤ 1 && (enc ≤ 1 || (enc == 2 && fec == 1))
    else if m ≤ 4 then line && fec == 2 && enc ≤ 2
    else m ≤ 6 && !line && fec == 2 && enc == 0
  let denOk : Bool :=
    if enc = 2 then
      within (le v 10 2) 512 16364 && (le v 12 2 == 0 || within (le v 12 2) 512 (le v 10 2)) && le v 14 2 ≤ 10000 &&
        within (le v 16 2) 10 1000 && 2 ≤ byteAt v 18
    else zeroAt v 10 9 && zeroAt v 20 4
  v.length == 32 && p ≤ 119 && modeOk && byteAt v 4 < 32 && byteAt v 5 == 0 && le v 6 2 ≤ 1000 && le v 8 2 ≤ 1000 && denOk &&
    byteAt v 19 == 0 && zeroAt v 24 8

/-- PAIR_CONFIG (R3, R101). -/
def Image.pairRecOk (i : Image) (v : Bytes) : Bool :=
  v.length == 8 && le v 6 2 == 0 && (List.range 48).all fun n =>
    !bit (le v 0 6) n || i.mode n == 0 || i.mode (n + 48) == 0 || i.mode n == i.mode (n + 48)

/-- MODULE_CONFIG (R101). -/
def moduleRecOk (v : Bytes) : Bool :=
  let cage (n : Nat) : Nat × Nat := (byteAt v (32 + 2 * n), byteAt v (33 + 2 * n))
  let used := ((List.range 120).map cage).filter (fun e => e.1 != 0xFF)
  v.length == 272 &&
    (List.range 8).all (fun m => byteAt v (4 * m) ≤ 2 && byteAt v (4 * m + 1) < 128 && byteAt v (4 * m + 2) < 128 && byteAt v (4 * m + 3) == 0) &&
    used.all (fun e => e.1 < 8 && e.2 < 16 && byteAt v (4 * e.1 + 1 + e.2 / 8) != 0) && noDup used

/-- PM_CONFIG (R116). -/
def pmRecOk (v : Bytes) : Bool :=
  v.length == 928 && withinInt 32 (le v 0 4) (-43200) 43200 && within (byteAt v 4) 2 10 && byteAt v 5 < 16 && zeroAt v 6 2 &&
    within (le v 8 4) 1 299999 && (List.range 144).all (fun p => byteAt v (12 + p) < 16) && zeroAt v 156 4

/-! ## Sorrel and forwarding (R147, R148, R171, R172) -/

/-- PARSER_CONFIG (R147). -/
def parserRecOk (v : Bytes) : Bool :=
  v.length == 16 && !zeroAt v 0 8 && byteAt v 8 ≤ 2 && byteAt v 9 ≤ 2 && zeroAt v 10 6

/-- SORREL_PROGRAM (R132, R143, R148). -/
def Image.programRecOk (i : Image) (v : Bytes) : Bool :=
  programOk v i.encap (fun p sc => i.chans.any (fun h => h.sc == sc && h.tx && h.port == p))

/-- A destination that R170 accepts. -/
def Image.destOk (i : Image) (kind dest : Nat) : Bool :=
  kind ≤ 3 && (kind != 0 || (dest ≤ 143 && !i.paired dest)) && (kind != 1 || dest < 16384)

/-- FWD_CONFIG (R154, R171, R172). -/
def Image.fwdRecOk (i : Image) (v : Bytes) : Bool :=
  let n (k : Nat) : Nat := le v (16592 + 4 * k) 4
  let (ss, hs, as, bs) := fwdLists v
  let portOk (j : Nat) : Bool := let e := slice v (64 + 4 * j) 4; le e 0 2 < 4096 && byteAt e 2 < 8 && byteAt e 3 == 0
  let mapOk (off lim j : Nat) : Bool := let x := le v (off + 2 * j) 2; x < lim || x == 0xFFFF
  let staticOk (e : Bytes) : Bool := le e 6 2 < 4096 && byteAt e 9 == 0 && i.destOk (byteAt e 8) (le e 10 2)
  let hopOk (e : Bytes) : Bool :=
    let x := hopOf e
    i.destOk x.kind x.dest && x.rmac < 8 && !zeroAt v (16 + 6 * x.rmac) 6 && x.vact ≤ 3 && x.vid < 4096 && byteAt e 3 == 0 && zeroAt e 14 2
  let routeOk (w : Nat) (e : Bytes) : Bool :=
    let len := byteAt e w
    len ≤ 8 * w && be e 0 w % 2 ^ (8 * w - len) == 0 && byteAt e (w + 1) == 0 && le e (w + 2) 2 < n 1
  v.length == 16608 + 12 * n 0 + 16 * n 1 + 8 * n 2 + 20 * n 3 && byteAt v 0 ≤ 3 && byteAt v 1 == 1 &&
    (le v 2 2 == 0 || 10 ≤ le v 2 2) && le v 4 4 != le v 8 4 && byteAt v 12 < 4 && byteAt v 13 == 0 &&
    le v 14 2 % 2 == 0 && le v 14 2 ≤ 16384 && (List.range 36).all portOk && (List.range 4096).all (mapOk 208 4096) &&
    (List.range 4096).all (mapOk 8400 16384) && ss.all staticOk && noDup (ss.map (fun e => e.take 8)) && hs.all hopOk &&
    as.all (routeOk 4) && noDup (as.map (fun e => e.take 5)) && bs.all (routeOk 16) && noDup (bs.map (fun e => e.take 17))

/-- FWD_CONFIG asks for more than the pipeline holds, or for static entries that cannot be placed (R157, R172). -/
def Image.fwdExceeds (i : Image) (v : Bytes) : Bool :=
  let n (k : Nat) : Nat := le v (16592 + 4 * k) 4
  65536 < n 0 || 4096 < n 1 || 16384 - le v 14 2 < n 2 || le v 14 2 / 2 < n 3 ||
    (({ img := some i } : Chip).loadForward (byteAt v 0)).isNone

/-! ## Buffer and traffic manager (R177, R195, R196, R215 to R218) -/

/-- MCAST_GROUPS (R196). -/
def Image.mcastRecOk (i : Image) (v : Bytes) : Bool :=
  let es := countedEntries v 24
  v.length == 4 + 24 * le v 0 4 && noDup (es.map (fun e => le e 0 2)) && es.all fun e =>
    le e 0 2 < 16384 && zeroAt e 2 2 && zeroAt e 22 2 && (List.range 96).all (fun p => !bit (le e 4 18) p || !i.paired p)

/-- BUFFER_CONFIG (R195). -/
def bufferRecOk (v : Bytes) : Bool :=
  v.length == 712 && byteAt v 0 == 1 && byteAt v 1 == 0 && zeroAt v 4 4 && (List.range 16).all fun k =>
    let e := slice v (8 + 8 * k) 8
    le e 0 2 ≤ 1024 && withinInt 8 (byteAt e 2) (-6) 3 && byteAt e 3 == 0 && within (le e 4 4) 1 262144 && le e 0 2 ≤ le e 4 4

/-- Cells that headroom, management and the guarantees of the image's configured ports leave to the shared pool (R176). -/
def Image.sharedCells (i : Image) (retired : Nat) : Nat :=
  let min (q : Nat) : Nat :=
    match i.rec1 T.bufferConfig with
    | none => 16
    | some v => le v (8 + 8 * bits (byteAt v (136 + q / 2)) (4 * (q % 2)) 4) 2
  let asked (p : Nat) : Nat := headroomOf p + ((List.range 8).map (fun k => min (8 * p + k))).sum
  262144 - 1024 - retired - (i.ports.map asked).sum

/-- A port or tenant shaper entry keeps to R203, R205 and R215. -/
def shaperEntryOk (rate burst flags ovh : Nat) : Bool := shaperArgsOk (shaperOf rate burst flags ovh)

/-- The length that the counts of a TM_CONFIG value ask for (R215). -/
def tmLength (v : Bytes) : Nat := 5200 + 16 * le v 4 4 + 24 * le v 8 4 + 8 * le v 12 4

/-- TM_CONFIG (R203, R205, R209, R210, R215, R216). -/
def Image.tmRecOk (i : Image) (v : Bytes) : Bool :=
  let (ts, ps, ms) := tmLists v
  let listed (k ix : Nat) : Bool := ps.any (fun e => byteAt e 0 == k && le e 4 2 == ix)
  let classOk (p k : Nat) : Bool := byteAt v (16 + 16 * p + 2 * k) ≤ 7 && byteAt v (17 + 16 * p + 2 * k) != 0
  let portOk (p : Nat) : Bool :=
    let e := slice v (2320 + 16 * p) 16
    let m := slice v (4624 + 4 * p) 4
    let on := i.mode p != 0
    zeroAt e 9 7 &&
      (!on || (byteAt e 7 < 4 && (List.range 8).all (classOk p) && shaperEntryOk (le e 0 4) (le e 4 3) (byteAt e 7) (byteAt e 8))) &&
      byteAt m 0 ≤ 3 && byteAt m 1 == 0 &&
      (if byteAt m 0 = 1 then listed (pipeOf p) (le m 2 2)
       else if byteAt m 0 = 2 then le m 2 2 + 7 ≤ 2047 && (List.range 8).all (fun k => listed (pipeOf p) (le m 2 2 + k))
       else true)
  let tenantOk (e : Bytes) : Bool :=
    le e 0 2 < 4096 && byteAt e 2 < 16 && shaperEntryOk (le e 4 4) (le e 8 3) (byteAt e 2) (byteAt e 3) && zeroAt e 11 5
  let polEntryOk (e : Bytes) : Bool := byteAt e 0 ≤ 3 && le e 4 2 ≤ 2047 && polOk e
  let mapOk (e : Bytes) : Bool :=
    byteAt e 0 ≤ 3 && byteAt e 1 == 0 && le e 2 2 < 4096 && zeroAt e 6 2 && listed (byteAt e 0) (le e 4 2)
  v.length == tmLength v && byteAt v 0 == 1 && zeroAt v 1 3 && (List.range 144).all portOk &&
    ts.all tenantOk && noDup (ts.map (fun e => le e 0 2)) && ps.all polEntryOk && noDup (ps.map (fun e => (byteAt e 0, le e 4 2))) &&
    ms.all mapOk && noDup (ms.map (fun e => (byteAt e 0, le e 2 2)))

/-- TM_CONFIG asks for more than the part holds (R216). -/
def tmExceeds (v : Bytes) : Bool := 4096 < le v 4 4 || 8192 < le v 8 4 || 16384 < le v 12 4

/-- UPLINK_CLASS (R218). -/
def uplinkRecOk (v : Bytes) : Bool :=
  let entryOk (j : Nat) : Bool :=
    let e := slice v (4 + 80 * j) 80
    byteAt e 0 ≤ 2 && byteAt e 1 < 2 && byteAt e 2 ≤ 7 && byteAt e 3 == 0 && le e 4 2 ≤ 4095 && zeroAt e 6 2 && (slice e 8 72).all (fun b => b.toNat ≤ 7)
  v.length == 36612 && byteAt v 0 == 1 && zeroAt v 1 3 && (List.range 48).all entryOk &&
    (List.range 16384).all (fun j => let x := le v (3844 + 2 * j) 2; x ≤ 4095 || x == 0xFFFF)

/-! ## Channels and key agreement (R248, R253, R260, R277, R282 to R286) -/

/-- A channel entry of SC_TABLE of pipeline `k` by itself (R282). -/
def chanEntryOk (k : Nat) (e : Bytes) : Bool :=
  let h := chanOf e
  pipeOf h.port == k && h.port < 96 && byteAt e 3 < 32 && h.offset ≤ 2 && h.suite ≤ 4 && h.mode ≤ 2 && byteAt e 4 < 32 && h.profile ≤ 15 &&
    zeroAt e 6 2 && (if h.tx then h.w == 0 else h.w ≤ 2 ^ 30) && zeroAt e 28 4

/-- Two channels share an SA (R247, R286). -/
def Chan.overlaps (h g : Chan) : Bool := h.base < g.base + g.count && g.base < h.base + h.count

/-- A channel keeps to R248 and R286 in its image. -/
def Image.chanOk (i : Image) (h : Chan) : Bool :=
  let v := (i.portOf h.port).getD []
  let named : Bool := i.encap h.port == 2 && le v (if h.tx then 20 else 22) 2 == h.sc
  (h.suite == 4) == (named && h.mode != modeMka) && (h.mode != modeMka || h.count == 4) && (h.mode != modeHost || 2 ≤ h.suite) &&
    (h.mode != modeEpoch || (i.rec1 T.keySchedule).isSome)

/-- A line port keeps to R227, R248 and R277: the channels that a Denast port names exist, and a MACsec port with an EPOCH channel
carries one of each direction, an MKA entry with epoch set, and a bypass rule for link-control frames. -/
def Image.linkOk (i : Image) (p : Nat) : Bool :=
  let v := (i.portOf p).getD []
  let hs := i.chans.filter (fun h => h.port == p)
  let den (off : Nat) (tx : Bool) : Bool :=
    hs.any (fun h => h.sc == le v off 2 && h.tx == tx && h.suite == 4 && h.mode != modeMka)
  let table := ((i.recs T.scTable).find? (fun t => byteAt t 0 == p / 24)).getD []
  let rules := (List.range 8).map (fun r => slice table (8 + 32 * (p % 24) + 4 * r) 4)
  let bypass : Bool := rules.any (fun e => byteAt e 0 == 1 && le e 2 2 == 0x88B5)
  let mka := i.mka p
  let mkaEpoch : Bool := (mka.map (fun e => bit (byteAt e 2) 1)).getD false
  (i.encap p != 2 || (den 20 true && den 22 false)) &&
    (i.encap p != 1 || !hs.any (fun h => h.mode == modeEpoch) ||
      ((hs.filter (·.tx)).length == 1 && (hs.filter (fun h => !h.tx)).length == 1 && hs.all (fun h => h.mode == modeEpoch) && mkaEpoch)) &&
    (!mkaEpoch || bypass) && (mka.isNone || i.encap p == 1) &&
    (hs.filter (fun h => !h.tx && h.flag1)).length ≤ 1

/-- SC_TABLE (R227, R282, R286). -/
def Image.scRecOk (i : Image) (v : Bytes) : Bool :=
  let k := byteAt v 0
  let n := le v 4 4
  let hs := tableChans v
  let spaced (l : List Chan) : Bool :=
    (l.zip (l.drop 1)).all (fun e => !e.1.overlaps e.2)
  v.length == 776 + 32 * n && k ≤ 3 && byteAt v 1 == 1 && zeroAt v 2 2 && n ≤ 32768 &&
    (List.range 192).all (fun r => byteAt v (8 + 4 * r) ≤ 2) &&
    (List.range n).all (fun j => chanEntryOk k (entryAt v 776 32 j)) &&
    hs.all (fun h => 32768 * k ≤ h.base && h.base + h.count ≤ 32768 * k + 32768) &&
    spaced (hs.mergeSort (fun a b => a.base ≤ b.base)) && hs.all i.chanOk

/-- A profile of KEY_SCHEDULE (R253, R260, R283). -/
def Image.profileOk (i : Image) (v : Bytes) (p : Nat) : Bool :=
  let e := slice v (24 + 32 * p) 32
  let soft := le e 8 8
  let oct := le e 16 8
  let users := i.chans.filter (fun h => h.limitProfile == p)
  within (le e 0 4) 1 86400 && within (le e 4 2) 1 1000 && within (le e 6 2) 1 256 &&
    (soft == 0 || (within soft (2 ^ 16) (2 ^ 64 - 2 ^ 17) && users.all (fun h => 2 ≤ h.suite || soft ≤ 2 ^ 32 - 2 ^ 17))) &&
    (oct == 0 || within oct (2 ^ 20) (2 ^ 63)) && zeroAt e 24 8 &&
    i.chans.all (fun h => h.mode != modeEpoch || h.profile != p || h.count != 2 || 2 * le e 4 2 + 100 ≤ 1000 * le e 0 4)

/-- KEY_SCHEDULE (R283). -/
def Image.scheduleRecOk (i : Image) (v : Bytes) : Bool :=
  v.length == 536 && byteAt v 0 == 1 && zeroAt v 1 7 && le v 8 8 < 2 ^ 48 && le v 16 4 ≤ 8760 && zeroAt v 20 4 &&
    (List.range 16).all (i.profileOk v)

/-- PEER_TABLE (R284). -/
def peerRecOk (v : Bytes) : Bool :=
  let es := countedEntries v 40
  let entryOk (e : Bytes) : Bool := le e 16 2 ≤ 16383 && byteAt e 18 < 4 && byteAt e 19 ≤ 1 && le e 20 4 ≤ 86400 && zeroAt e 36 4
  le v 0 4 ≤ 16384 && v.length == 4 + 40 * le v 0 4 && es.all entryOk && noDup (es.map (fun e => e.take 16)) && noDup (es.map (fun e => le e 16 2))

/-- MKA_CONFIG (R285). -/
def Image.mkaRecOk (i : Image) (v : Bytes) : Bool :=
  let es := countedEntries v 48
  let entryOk (e : Bytes) : Bool :=
    let n := byteAt e 3
    i.encap (byteAt e 0) == 1 && byteAt e 0 < 96 && byteAt e 2 < 4 && within n 1 32 && le e 4 2 ≤ 1023 && zeroAt e 6 2 && zeroAt e (8 + n) (32 - n) && zeroAt e 40 8
  v.length == 4 + 48 * le v 0 4 && es.all entryOk && noDup (es.map (fun e => byteAt e 0))

/-! ## Keys, vault and time (R290, R291, R300, R321, R322, R345, R370, R391, R392) -/

/-- A byte that a label component may hold (R290). -/
def labelByte (b : Byte) : Bool := within b.toNat 0x61 0x7A || within b.toNat 0x30 0x39 || b == 0x2D

/-- A label of an owner slot (R290, R291). (log entry 46, DEDUCED) -/
def labelOk (l : Bytes) (owner : Nat) : Bool :=
  let cs := splitLabel l
  within l.length 1 128 && cs.length ≤ 8 && cs.all (fun x => within x.length 1 32 && x.all labelByte) && cs.headD [] == ascii "la" &&
    cs.getD 1 [] == ascii (if owner = 1 then "host" else "fw")

/-- An entry of KEY_SLOTS (R300, R321). -/
def keySlotOk (e : Bytes) : Bool :=
  let n := byteAt e 16
  within (le e 0 2) 8 1023 && within (byteAt e 2) 1 2 && attrsOk (slice e 2 14 ++ fill 2 0) &&
    (if byteAt e 2 = 1 then labelOk (slice e 17 n) (byteAt e 6) else n == 0) && zeroAt e (17 + n) (128 - n) && zeroAt e 145 7

/-- KEY_SLOTS (R321). -/
def keySlotsRecOk (v : Bytes) : Bool :=
  let es := countedEntries v 152
  le v 0 4 ≤ 1016 && v.length == 4 + 152 * le v 0 4 && es.all keySlotOk && noDup (es.map (fun e => le e 0 2))

/-- LOOKASIDE_RINGS (R322). -/
def ringsRecOk (v : Bytes) : Bool :=
  v.length == 64 && (List.range 8).all fun r =>
    let e := slice v (8 * r) 8
    byteAt e 0 ≤ 1 && within (byteAt e 1) 4 12 && within (byteAt e 2) 1 16 && (if 6 ≤ r then byteAt e 3 ≤ 63 else byteAt e 3 == 0) && zeroAt e 4 4

/-- PKE_OWNERS (R345). -/
def pkeRecOk (v : Bytes) : Bool :=
  v.length == 16 && byteAt v 0 == 1 && byteAt v 1 < 2 && within (byteAt v 2) 1 64 && within (byteAt v 3) 1 15 && within (byteAt v 4) 1 15 &&
    byteAt v 5 ≤ 63 && within (byteAt v 6) 1 128 && zeroAt v 7 9

/-- VAULT_CONFIG (R370). -/
def vaultRecOk (v : Bytes) : Bool :=
  v.length == 16 && byteAt v 0 == 1 && within (byteAt v 1) 3 8 && 1 ≤ byteAt v 2 && within (byteAt v 3) 1 168 && within (le v 4 2) 16 4096 &&
    within (byteAt v 6) 1 168 && zeroAt v 7 9

/-- A trigger entry of TIME_CONFIG (R389, R391). -/
def trigRecOk (e : Bytes) : Bool :=
  let period := le e 10 8
  let width := le e 18 3
  zeroAt e 0 22 || (le e 6 4 < 1000000000 && byteAt e 21 < 2 && 1 ≤ width && (period == 0 || (within period 1000 (10 ^ 12) && width < period)))

/-- TIME_CONFIG (R391). (log entry 21, DEDUCED) -/
def timeRecOk (v : Bytes) : Bool :=
  v.length == 728 && byteAt v 0 == 1 && byteAt v 1 ≤ 2 && byteAt v 2 ≤ 127 && byteAt v 3 < 2 &&
    (List.range 4).all (fun k => byteAt v (4 + k) ≤ 143 || byteAt v (4 + k) == 0xFF) && within (byteAt v 8) 2 10 && within (le v 10 2) 1 500 &&
    within (le v 12 4) 1000 1000000000 && within (le v 16 4) 1 100000 && le v 20 4 ≤ 100000 && withinInt 32 (le v 24 4) (-50000000) 50000000 &&
    within (le v 28 2) 1 500 && zeroAt v 30 2 && withinInt 32 (le v 32 4) (-100000) 100000 && withinInt 32 (le v 36 4) (-100000) 100000 &&
    zeroAt v 58 4 && (List.range 4).all (fun k => trigRecOk (slice v (638 + 22 * k) 22)) && zeroAt v 726 2

/-- WHEEL_EVENTS (R392). -/
def wheelRecOk (v : Bytes) : Bool :=
  le v 0 4 ≤ 2560 && v.length == 4 + 16 * le v 0 4 && (countedEntries v 16).all fun e =>
    le e 6 4 ≤ 999999 && within (byteAt e 10) 1 2 && byteAt e 11 ≤ 3 && zeroAt e 12 4

/-! ## Tamper, host, access control and health (R402, R412, R470, R475, R491) -/

/-- TAMPER_CONFIG (R402, R412). -/
def tamperRecOk (v : Bytes) : Bool :=
  v.length == 48 && byteAt v 0 == 1 && byteAt v 1 == 0 &&
    (List.range 18).all (fun n => byteAt v (2 + n) == 0 || within (byteAt v (2 + n)) (tamperFloor.getD n 0) 3) &&
    (List.range 4).all (fun n => byteAt v (20 + n) < 4 && 1 ≤ byteAt v (24 + n)) && within (byteAt v 28) 110 125 &&
    withinInt 8 (byteAt v 29) (-45) (-5) && zeroAt v 30 18

/-- HOST_CONFIG (R475). -/
def hostRecOk (v : Bytes) : Bool :=
  v.length == 16 && byteAt v 0 == 1 && byteAt v 1 < 8 && within (le v 2 2) 10 10000 && zeroAt v 4 12

/-- ACU_RULES (R466, R470). -/
def acuRecOk (v : Bytes) : Bool :=
  v.length == 260 && byteAt v 0 ≤ 2 && byteAt v 1 == 1 && byteAt v 2 < 8 && byteAt v 3 == 0 && (List.range 16).all fun r =>
    let e := slice v (4 + 16 * r) 16
    let s := byteAt e 4
    byteAt e 6 < 8 && zeroAt e 7 9 && (s == 0 || (within s 11 20 && le e 0 4 % 2 ^ s == 0 && le e 0 4 + 2 ^ s ≤ 2 ^ 20))

/-- HEALTH_CONFIG (R491). -/
def healthRecOk (v : Bytes) : Bool :=
  v.length == 24 && byteAt v 0 == 1 && within (byteAt v 1) 85 105 && within (byteAt v 2) 5 50 && within (byteAt v 3) 5 100 &&
    within (le v 4 2) 1 240 && within (le v 6 2) 1 240 && within (le v 8 4) 1 10000 && within (le v 12 2) 1 3650 && within (le v 14 2) 1 240 &&
    within (le v 16 4) 1000 1000000 && zeroAt v 20 4

/-! ## The whole image (R61, R70) -/

/-- A record keeps to the content rules of its own chapter; a TM_CONFIG that only asks for too much fails later, with RESOURCE (R216).
(log entry 46, DEDUCED) -/
def Image.recOk (i : Image) (t : Nat) (v : Bytes) : Bool :=
  if t = T.fwManifest then v.length == 72 && zeroAt v 56 16
  else if t = T.portConfig then portRecOk v
  else if t = T.pairConfig then i.pairRecOk v
  else if t = T.moduleConfig then moduleRecOk v
  else if t = T.pmConfig then pmRecOk v
  else if t = T.parserConfig then parserRecOk v
  else if t = T.sorrelProgram then i.programRecOk v
  else if t = T.fwdConfig then i.fwdRecOk v
  else if t = T.mcastGroups then i.mcastRecOk v
  else if t = T.bufferConfig then bufferRecOk v
  else if t = T.tmConfig then i.tmRecOk v || (tmExceeds v && v.length == tmLength v)
  else if t = T.uplinkClass then uplinkRecOk v
  else if t = T.scTable then i.scRecOk v
  else if t = T.peerTable then peerRecOk v
  else if t = T.keySchedule then i.scheduleRecOk v
  else if t = T.mkaConfig then i.mkaRecOk v
  else if t = T.keySlots then keySlotsRecOk v
  else if t = T.lookasideRings then ringsRecOk v
  else if t = T.pkeOwners then pkeRecOk v
  else if t = T.vaultConfig then vaultRecOk v
  else if t = T.timeConfig then timeRecOk v
  else if t = T.wheelEvents then wheelRecOk v
  else if t = T.tamperConfig then tamperRecOk v
  else if t = T.hostConfig then hostRecOk v
  else if t = T.acuRules then acuRecOk v
  else if t = T.healthConfig then healthRecOk v
  else true

/-- A required type is there, and each cluster and pipeline has its record (R61, R148, R171). -/
def Image.complete (i : Image) : Bool :=
  let has (t : Nat) : Bool := i.recs t != []
  let each (t n : Nat) : Bool := (List.range n).all (fun k => (i.recs t).any (fun v => byteAt v 0 == k))
  has T.fwCode && has T.portConfig && has T.parserConfig && each T.sorrelProgram 16 && each T.fwdConfig 4 && has T.tmConfig

/-- Rules that no single record breaks: the channels of a port, and SC indices that are unique across the image. -/
def Image.joinOk (i : Image) : Bool := (List.range 96).all i.linkOk && noDup (i.chans.map (·.sc))

/-- The record asks for more of a resource than the part holds (R70). -/
def Image.exceeds (i : Image) (t : Nat) (v : Bytes) : Bool :=
  if t = T.sorrelProgram then !programFits v
  else if t = T.fwdConfig then i.fwdExceeds v
  else if t = T.mcastGroups then 16384 < le v 0 4
  else if t = T.bufferConfig then i.sharedCells 0 < 8192
  else if t = T.tmConfig then tmExceeds v
  else if t = T.scTable then 32768 < ((tableChans v).map (·.count)).sum
  else false

/-- The content check of step 16: the reject code (CONTENT 15, RESOURCE 16) and the offset, or none (R70, R71). (log entry 46, DEDUCED) -/
def Image.contentCheck (i : Image) : Option (Nat × Nat) :=
  match i.records.find? (fun r => !i.recOk r.type r.value) with
  | some r => some (15, r.off)
  | none =>
    if !i.complete then some (15, 0)
    else if !i.joinOk then some (15, ((i.records.find? (fun r => r.type == T.scTable)).map (·.off)).getD 0)
    else (i.records.find? (fun r => i.exceeds r.type r.value)).map (fun r => (16, r.off))

end Sys2Proof.Machine
end

