-- ==== Sys2Proof/Machine/ImageCheck.lean ====
section
/-! DEFINITION. Reading and checking an image in a flash slot, in the order of the reject codes (R58 to R71). -/

namespace Sys2Proof.Machine

/-! Reject codes (R71). -/

namespace Reject

def read : Nat := 1
def magic : Nat := 2
def version : Nat := 3
def target : Nat := 4
def length : Nat := 5
def reserved : Nat := 6
def framing : Nat := 7
def order : Nat := 8
def unknownCritical : Nat := 9
def vendorSig : Nat := 10
def fwRollback : Nat := 11
def ownerKey : Nat := 12
def ownerSig : Nat := 13
def cfgRollback : Nat := 14

end Reject

/-- The bytes of a slot; a byte that nothing has written since its sector was erased reads 0xFF (R460 IMAGE_WRITE). -/
def Flash.slot (f : Flash) (s : Nat) : Sparse Byte := if s = 0 then f.slot0 else f.slot1

/-- `n` bytes of a slot from its start. -/
def Flash.imageBytes (f : Flash) (s n : Nat) : Bytes := (List.range n).map (Sparse.get 0xFF (f.slot s))

/-- The check of the header (R58, R60), with the code and offset of the first failure. (log entry 46, DEDUCED) -/
def headerCheck (b : Bytes) : Option (Nat × Nat) :=
  let len := le b 8 4
  if le b 0 4 != 0x49514E55 then some (Reject.magic, 0)
  else if le b 4 2 != 1 then some (Reject.version, 4)
  else if le b 6 2 != 64 then some (Reject.version, 6)
  else if le b 0x10 4 != 0x9612 then some (Reject.target, 0x10)
  else if len = 0xFFFFFFFF || 12582912 < len || len % 8 != 0 then some (Reject.length, 8)
  else if !zeroAt b 0x14 44 then some (Reject.reserved, 0x14)
  else none

/-- Padding after a value of `n` bytes (R59). -/
def padOf (n : Nat) : Nat := (8 - n % 8) % 8

/-- The walk of the record chain from offset `x` (R60): the records, or the code and offset of the first that fails.
(log entry 46, DEDUCED) -/
def walkRecords (b : Bytes) (len : Nat) : Nat → Nat → Except (Nat × Nat) (List ImgRec)
  | 0, x => .error (Reject.framing, x)
  | fuel + 1, x =>
    if x = len then .ok []
    else if len < x + 8 then .error (Reject.framing, x)
    else
      let flags := le b (x + 2) 2
      let n := le b (x + 4) 4
      if 4 ≤ flags then .error (Reject.reserved, x)
      else if n = 0xFFFFFFFF || len - x - 8 < n || !zeroAt b (x + 8 + n) (padOf n) then .error (Reject.framing, x)
      else
        let r : ImgRec := { type := le b x 2, flags := flags, value := slice b (x + 8) n, off := x }
        (walkRecords b len fuel (x + 8 + n + padOf n)).map (r :: ·)

/-- The configuration types of R61. -/
def configTypes : List Nat :=
  [T.portConfig, T.pairConfig, T.moduleConfig, T.pmConfig, T.parserConfig, T.sorrelProgram, T.fwdConfig, T.mcastGroups, T.bufferConfig,
   T.tmConfig, T.uplinkClass, T.scTable, T.peerTable, T.keySchedule, T.mkaConfig, T.keySlots, T.lookasideRings, T.pkeOwners,
   T.vaultConfig, T.timeConfig, T.wheelEvents, T.tamperConfig, T.hostConfig, T.acuRules, T.healthConfig]

/-- Owner annotations (R61). -/
def isNote (t : Nat) : Bool := 0x7F00 ≤ t && t ≤ 0x7FFF

/-- A type that the running firmware does not know (R61). -/
def unknownType (t : Nat) : Bool :=
  !configTypes.contains t && !isNote t && !([T.fwManifest, T.fwCode, T.fwData, T.fwSig, T.ownerId, T.ownerSig].contains t)

/-- Types that the table marks repeatable without an owner in byte 0. -/
def freelyRepeats (t : Nat) : Bool := t == T.fwCode || t == T.fwData || isNote t || unknownType t

/-- Types with one record per port, cluster, pipeline or unit, which byte 0 of the value names. -/
def repeatsPerUnit (t : Nat) : Bool :=
  t == T.portConfig || t == T.sorrelProgram || t == T.fwdConfig || t == T.scTable || t == T.acuRules

/-- What tells two records of a type apart. -/
def ImgRec.unit (r : ImgRec) : Nat := if repeatsPerUnit r.type then byteAt r.value 0 else 0

/-- Two records are of the same type and instance (R40, R61). -/
def ImgRec.same (r q : ImgRec) : Bool := r.type == q.type && r.unit == q.unit

/-- Where a record of a type may stand (R61): the phase after it. 0 start; 1 manifest read; 2 FW_SIG read; 3 OWNER_ID read; 4 ended.
-/
def orderStep (phase t : Nat) : Option Nat :=
  if phase = 0 then (if t = T.fwManifest then some 1 else none)
  else if phase = 1 then
    if t = T.fwCode || t = T.fwData || unknownType t then some 1 else if t = T.fwSig then some 2 else none
  else if phase = 2 then (if t = T.ownerId then some 3 else none)
  else if phase = 3 then
    if configTypes.contains t || isNote t || unknownType t then some 3 else if t = T.ownerSig then some 4 else none
  else none

/-- The order check (R61): the offset of the first record that breaks it; 0 when a framing record is missing at the end.
(log entry 46, DEDUCED) -/
def orderCheck : List ImgRec → Nat → List ImgRec → Option Nat
  | [], phase, _ => if phase = 4 then none else some 0
  | r :: rs, phase, seen =>
    match orderStep phase r.type with
    | none => some r.off
    | some p => if !freelyRepeats r.type && seen.any r.same then some r.off else orderCheck rs p (r :: seen)

/-- Records of types that the firmware does not know and that are not critical, which are skipped (R59). (log entry 46, DEDUCED) -/
def skippedOf (rs : List ImgRec) : Nat := (rs.filter (fun r => unknownType r.type && !bit r.flags 0)).length

/-- The offset of the first record of a type. -/
def offOf (rs : List ImgRec) (t : Nat) : Nat := ((rs.find? (fun r => r.type == t)).map (·.off)).getD 0

/-- Step 9: header, walk, order and unknown types (R58 to R61): the image read, or the first failure. -/
def readImage (f : Flash) (s : Nat) : Except (Nat × Nat) (Bytes × Image) :=
  match headerCheck (f.imageBytes s 64) with
  | some e => .error e
  | none =>
    let b := f.imageBytes s (le (f.imageBytes s 64) 8 4)
    match walkRecords b b.length (b.length / 8 + 1) 64 with
    | .error e => .error e
    | .ok rs =>
      match orderCheck rs 0 [] with
      | some x => .error (Reject.order, x)
      | none =>
        match rs.find? (fun r => unknownType r.type && bit r.flags 0) with
        | some r => .error (Reject.unknownCritical, r.off)
        | none =>
          let fw := offOf rs T.fwManifest
          let sg := offOf rs T.fwSig
          let manifest := ((rs.head?).map (·.value)).getD []
          let i : Image := { slot := s, sequence := le b 0xC 4, fwVer := le manifest 0 4, records := rs,
                             fwMeas := Config.sha384 (slice b fw (sg - fw)),
                             cfgMeas := Config.sha384 (b.take (offOf rs T.ownerSig)), skipped := skippedOf rs }
          .ok (b, i)

/-- The messages that the vendor and the owner sign (R65). -/
def vendorMessage (i : Image) : Bytes := ascii "UNESQUE-FW" ++ i.fwMeas
def ownerMessage (i : Image) : Bytes := ascii "UNESQUE-CFG" ++ i.cfgMeas

/-- Step 10: the vendor's signatures under a pair that is not revoked, and firmware rollback (R65, R66, R68). -/
def vendorCheck (k : Keys) (i : Image) : Option (Nat × Nat) :=
  let sg := (i.rec1 T.fwSig).getD []
  if !(List.range 4).any (fun n => !bit k.revoked n && verifyPair (Config.vendorKey n) (vendorMessage i) sg) then
    some (Reject.vendorSig, offOf i.records T.fwSig)
  else if i.fwVer < k.fwFuses.getLast?.getD 0 then some (Reject.fwRollback, offOf i.records T.fwManifest)
  else none

/-- Step 11: the owner's key and signatures, and configuration rollback (R65, R66, R68). -/
def ownerCheck (k : Keys) (i : Image) : Option (Nat × Nat) :=
  let id := (i.rec1 T.ownerId).getD []
  let sg := (i.rec1 T.ownerSig).getD []
  if k.owners.getLast? != some (Config.sha384 id) then some (Reject.ownerKey, offOf i.records T.ownerId)
  else if !verifyPair id (ownerMessage i) sg then some (Reject.ownerSig, offOf i.records T.ownerSig)
  else if i.sequence < k.cfgFuses.getLast?.getD 0 then some (Reject.cfgRollback, 0xC)
  else none

/-- Every check of a slot on one device, in the order of the codes (R71). -/
def checkSlot (k : Keys) (f : Flash) (s : Nat) : Except (Nat × Nat) Image :=
  match readImage f s with
  | .error e => .error e
  | .ok (_, i) =>
    match vendorCheck k i with
    | some e => .error e
    | none =>
      match ownerCheck k i with
      | some e => .error e
      | none =>
        match i.contentCheck with
        | some e => .error e
        | none => .ok i

/-- The sequence and firmware version that a slot shows after a check: read from its header and its first record, or zero where the
chain cannot be read. (log entry 47, DEDUCED) -/
def slotShows (f : Flash) (s : Nat) : Nat × Nat :=
  match readImage f s with
  | .ok (_, i) => (i.sequence, i.fwVer)
  | .error _ => ((if headerCheck (f.imageBytes s 64) = none then le (f.imageBytes s 64) 0xC 4 else 0), 0)

/-- Records the result of a check of a slot (MGT_SLOT_STATUS and the three registers after it). (log entry 47, DEDUCED) -/
def Chip.showSlot (c : Chip) (s code off : Nat) (device1 : Bool) (shows : Nat × Nat) : Chip :=
  let c := c.wr (F.MGT_SLOT_STATUS_reject_code s) code
  let c := (c.wrb (F.MGT_SLOT_STATUS_valid s) (code == 0)).wrb (F.MGT_SLOT_STATUS_device1_only s) device1
  let c := c.setWord (R.MGT_SLOT_FAIL_OFFSET s) (BitVec.ofNat 32 off)
  (c.setWord (R.MGT_SLOT_SEQ s) (BitVec.ofNat 32 shows.1)).setWord (R.MGT_SLOT_FWVER s) (BitVec.ofNat 32 shows.2)

/-- A region is copied from the good device to the bad one, for one slot (R55). -/
def Chip.copySlot (c : Chip) (s src : Nat) : Chip :=
  let v := (c.flash src).slot s
  let put (f : Flash) : Flash := if s = 0 then { f with slot0 := v } else { f with slot1 := v }
  if src = 0 then { c with flash1 := put c.flash1 } else { c with flash0 := put c.flash0 }

end Sys2Proof.Machine
end

