-- ==== Sys2Proof/Machine/Replay.lean ====
section
/-! DEFINITION. What a start reads back and loads: the journal (R53, R54, R281, R301, R309, R457) and the tables that step 17 takes from
the image (R39, R43, R517). -/

namespace Sys2Proof.Machine

/-! ## The journal at a start (R53) -/

/-- The key of the journal's CMAC: node(vault/journal), which K0 holds; empty while E does not exist (R53, R300). -/
def Chip.journalKey (c : Chip) : Bytes := (c.keys.e.map (fun e => epkaiNode e ["vault", "journal"])).getD []

/-- The entries of one device. -/
def Chip.deviceEntries (c : Chip) (d : Nat) : List JEntry :=
  if c.flashGood d then (c.flash d).half0 ++ (c.flash d).half1 else []

/-- The CMAC of an entry verifies. -/
def JEntry.good (key : Bytes) (e : JEntry) : Bool := key != [] && e.tag == entryTag key e.jseq e.imgSeq e.op e.fn e.seq e.result

/-- Entries that verify on either device, in journal-sequence order, each once. -/
def Chip.verified (c : Chip) : List JEntry :=
  let k := c.journalKey
  let good (d : Nat) : List JEntry := (c.deviceEntries d).filter (JEntry.good k)
  let a := good 0
  let b := (good 1).filter (fun e => !a.any (fun x => x.jseq == e.jseq))
  (a ++ b).mergeSort (fun x y => x.jseq ≤ y.jseq)

/-- The entries that apply: those made against the running image. -/
def Chip.liveEntries (c : Chip) : List JEntry :=
  let n := (c.img.map (·.sequence)).getD 0
  c.verified.filter (fun e => e.imgSeq == n)

/-- The journal as a cold start finds it: the active half, the last sequence, and the stale entries counted (R53). -/
def Chip.openJournal (c : Chip) : Chip :=
  let es := c.deviceEntries 0 ++ c.deviceEntries 1
  let top := es.foldl (fun n e => max n e.jseq) 0
  let half := if c.readFlash.half1 = [] then 0 else 1
  let c := { c with jseq := top, jhalf := half, jpend := [] }
  c.setWord R.MGT_JOURNAL_STALE (BitVec.ofNat 32 (c.verified.length - c.liveEntries.length))

/-- A committed command of the tables is performed again. (log entry 49, DEDUCED) -/
def Chip.replayTable (c : Chip) (i : Instr) : Chip :=
  match i with
  | .sorrelTableWrite _ cl t k m v => (c.tableWrite i cl t k m v).1
  | .sorrelTableDelete _ cl t k m => (c.tableDelete i cl t k m).1
  | .sorrelOverlay h cl => (c.sorrelOverlay i cl h.inData).1
  | .fwdMacWrite _ ps kind fid dest mac => (c.fwdMacWrite i ps kind fid dest (beNat mac)).1
  | .fwdMacDelete _ ps fid mac => (c.fwdMacDelete i ps fid (beNat mac)).1
  | .fwdFlush _ ps m port fid => (c.fwdFlush i ps m port fid).1
  | .fwdLpmWrite _ ps v6 len nh pfx => (c.fwdLpmWrite i ps v6 len nh pfx).1
  | .fwdLpmDelete _ ps v6 len pfx => (c.fwdLpmDelete i ps v6 len pfx).1
  | .fwdNhWrite _ ps ix e => (c.fwdNhWrite i ps ix e).1
  | .mcastWrite _ g m => (c.mcastWrite i g m).1
  | .mcastDelete _ g => (c.mcastDelete i g).1
  | .tmShaperWrite _ n a => (c.tmShaperWrite i n a).1
  | .tmPolicerWrite _ e => (c.tmPolicerWrite i e).1
  | .tmMapWrite _ kind k key mode ix => (c.tmMapWrite i kind k key mode ix).1
  | _ => c

/-- Step 18 of a cold start: the table commands of the live entries, in journal-sequence order. -/
def Chip.replayTables (c : Chip) : Chip :=
  c.liveEntries.foldl (fun c e => match e.op with
    | .cmd i => c.replayTable i
    | _ => c) c

/-- Step 20: the wheel commands of the live entries; an event keeps its entry number. (log entry 49, DEDUCED) -/
def Chip.replayWheel (c : Chip) : Chip :=
  c.liveEntries.foldl (fun c e => match e.op with
    | .cmd (.wheelAdd _ type output dueUs dueS) =>
      let due := dueS * 1000000 + dueUs
      if due ≤ c.us then c else c.wheelOrHold e.result { due := due, type := type, arg := output, host := true }
    | .cmd (.wheelDelete _ n) =>
      let c := { c with time := { c.time with held := c.time.held.filter (fun x => x.1 != n) } }
      (c.wheelDelete n).getD c
    | _ => c) c

/-- A slot as the journal gives it: attributes, value, and the IV ceiling. -/
structure SlotBack where
  n     : Nat
  attrs : Bytes
  value : Bytes
  ceil  : Nat

/-- An SA as the journal gives it. -/
structure SaBack where
  sc    : Nat
  an    : Nat
  slot  : Nat
  w     : Nat
  ceil  : Nat
  /-- The value of its key slot when it was installed. -/
  value : Bytes
  /-- The instant of its activation in ns of network time: 0 at once; none until it is activated. -/
  act   : Option Nat := none

/-- One entry's change to the slots and SAs to restore. `derived` gives the value that a slot not in the journal holds, and `unwrap` the one
that an entry wraps (R301). -/
def backStep (base : Nat → Nat → Nat) (derived : Nat → Bytes) (unwrap : Bytes → Bytes → Option Bytes) (b : List SlotBack × List SaBack) :
    JOp → List SlotBack × List SaBack
  | .slot n a w =>
    let rest := b.1.filter (·.n != n)
    (match unwrap a w with
      | none => rest
      | some v => rest ++ [{ n := n, attrs := a, value := v, ceil := 1 + 2 ^ 32 }], b.2)
  | .slotClear n => (b.1.filter (·.n != n), b.2)
  | .ivCeiling n v => (b.1.map (fun x => if x.n = n then { x with ceil := v } else x), b.2)
  | .pnCeiling i v => (b.1, b.2.map (fun x => if base x.sc x.an = i then { x with ceil := v } else x))
  | .cmd (.saInstall _ an sc n w pn) =>
    let v := ((b.1.find? (·.n == n)).map (·.value)).getD (derived n)
    (b.1, b.2.filter (fun x => base x.sc x.an != base sc an) ++ [{ sc := sc, an := an, slot := n, w := w, ceil := pn + 2 ^ 40, value := v }])
  | .cmd (.saActivate _ an sc t) =>
    (b.1, (b.2.filter (fun x => x.sc != sc || x.an == an || x.act != some 0 || t != 0)).map
      (fun x => if x.sc = sc && x.an = an then { x with act := some t } else x))
  | .cmd (.saRetire _ an sc) => (b.1, b.2.filter (fun x => x.sc != sc || x.an != an))
  | _ => b

/-- Step 21: a persistent slot is restored, with its IV counter at the last ceiling; one whose expiry has passed stays empty (R301,
R302, R309). -/
def Chip.restoreSlot (c : Chip) (b : SlotBack) : Chip :=
  let x := slotOf b.attrs b.value
  if x.expiry != 0 && x.expiry ≤ c.seconds then c
  else
    let c := c.setSlot b.n { x with iv := b.ceil, ivCeil := b.ceil + 2 ^ 32 }
    let c := c.journalAhead (.ivCeiling b.n (b.ceil + 2 ^ 32))
    if x.expiry = 0 then c else c.wheelOrHold (slotWheel b.n) { due := x.expiry * 1000000, type := 4, arg := b.n }

/-- Step 21: a journaled SA is installed again at its last ceiling while its key slot holds the same key, and its next ceiling is
journaled; otherwise it is left out with an alarm (R281). (log entry 42, DEDUCED) -/
def Chip.restoreSa (c : Chip) (b : SaBack) : Chip :=
  match c.chan b.sc with
  | none => c.attn 8
  | some h =>
    let x := c.slot b.slot
    if !x.filled || x.value != b.value || h.mode != modeHost || !slotFits x h then c.attn 8
    else
      let v := x.value
      let k := if h.suite = 2 then 16 else 32
      let salt := if h.suite = 4 then slice v k 4 else slice v k 12
      let c := c.installSa h b.an (v.take k) salt
        { accepting := !h.tx, ssci := h.ssci, nextPn := b.ceil, w := if h.tx then 0 else b.w, slot := b.slot, ceiling := b.ceil, ceilNext := b.ceil + 2 ^ 40 }
      let c := c.journalAhead (.pnCeiling (h.sa b.an) (b.ceil + 2 ^ 40))
      match b.act with
      | none => c
      | some t =>
        if t ≤ c.ns then c.makeCurrent h (h.sa b.an)
        else match c.wheelFree 1536 4096 with
          | none => c
          | some n =>
            (c.wheelPut n (some { due := ceilDiv t 1000, type := 3, arg := b.sc, step := 6, epoch := b.an })).setSc b.sc
              { c.scRun b.sc with active := (c.scRun b.sc).active ++ [(b.an, t)] }

/-- Generated slots that KEY_SLOTS names and that no journaled value fills (R301). -/
def Chip.generateSlots (c : Chip) : Chip :=
  (((c.rec1 T.keySlots).map (fun v => countedEntries v 152)).getD []).foldl (fun c q =>
    let n := le q 0 2
    let a := slice q 2 14 ++ fill 2 0
    let x := slotOf a []
    if x.source != 2 || (c.slot n).filled || (x.expiry != 0 && x.expiry ≤ c.seconds) || !c.rbgOk || (x.persistent && c.keys.e.isNone) then c
    else
      let (v, c) := c.random (slotBytes x.length)
      let c := c.fillSlot n (slotOf a v)
      if x.persistent then c.journalAhead (c.slotEntry n a v) else c) c

/-- Step 21: slots, then SAs in the order of their activation. -/
def Chip.restoreKeys (c : Chip) : Chip :=
  let c := c.fillSystem.fillDerived
  let base (sc an : Nat) : Nat := ((c.chan sc).map (fun h => h.sa an)).getD 0
  let (slots, sas) := (c.liveEntries.map (·.op)).foldl (backStep base (fun n => (c.slot n).value) c.slotUnwrap) ([], [])
  let c := (slots.foldl Chip.restoreSlot c).generateSlots
  (sas.mergeSort (fun a b => a.act.getD 0 ≤ b.act.getD 0)).foldl Chip.restoreSa c

/-- A cold start rebuilds the completion tables and last_seq from the journal (R457). -/
def Chip.rebuildTables (c : Chip) : Chip :=
  c.verified.foldl (fun c e =>
    if 1 < e.fn then c
    else
      let c := c.tableAdd e.fn { seq := e.seq, code := some Code.committed, result := e.result }
      c.setNum (R.HST_MB_LAST_SEQ e.fn) 2 (max (c.num (R.HST_MB_LAST_SEQ e.fn) 2) e.seq)) c

/-! ## Loading the image (R39 step 17) -/

/-- PRT_CFG of every port. -/
def Chip.loadPorts (c : Chip) (i : Image) : Chip :=
  (List.range 144).foldl (fun c p =>
    let v := (i.portOf (if p < 120 then p else p - 24)).getD []
    let on := i.mode p != 0
    let c := c.setWord (R.PRT_CFG p) 0
    let c := (c.wr (F.PRT_CFG_port_mode p) (i.mode p)).wr (F.PRT_CFG_fec p) (if on then byteAt v 2 else 0)
    let c := (c.wr (F.PRT_CFG_encap p) (if on then byteAt v 3 else 0)).wr (F.PRT_CFG_lanes p) (byteAt v 4 % 32)
    (c.wrb (F.PRT_CFG_paired p) (i.paired p)).wrb (F.PRT_CFG_tfc p) (p < 96 && le v 12 2 != 0)) c

/-- The pools and the profile of every queue (R176 to R178, R195). -/
def Chip.loadPools (c : Chip) (i : Image) : Chip :=
  let n := i.sharedCells (c.rd F.SWC_RETIRED_cells)
  let c := (c.wr F.SWC_POOL_SIZE_shared n).wr F.SWC_POOL_FREE_free n
  (List.range 1152).foldl (fun c q => c.wr (F.SWC_Q_OCC_profile q) (c.qProfile q)) c

/-- The rules of a unit without its record (R470). (log entry 69, DEDUCED) -/
def acuDefault (u : Nat) : Nat × List (Nat × Nat × Nat × Nat) :=
  if u = 0 then (3, []) else if u = 1 then (1, []) else (1, [(0x10000, 13, 0, 4), (0x9000, 12, 0, 4), (0x4000, 14, 0, 4)])

/-- The rules of a unit: default permission, and regions as base, size, disabled sub-regions, permission. -/
def Chip.acuRules (c : Chip) (u : Nat) : Nat × List (Nat × Nat × Nat × Nat) :=
  match c.recFor T.acuRules u with
  | none => acuDefault u
  | some v => (byteAt v 2, (List.range 16).map (fun r => let e := slice v (4 + 16 * r) 16; (le e 0 4, byteAt e 4, byteAt e 5, byteAt e 6)))

/-- The access check units at step 17 (R469). (log entry 69, DEDUCED) -/
def Chip.loadAcu (c : Chip) : Chip :=
  (List.range 3).foldl (fun c u =>
    let (d, rs) := c.acuRules u
    let c := (c.wr (F.ACU_STATUS_default_perm u) d).wr (F.ACU_STATUS_narrowed u) 0
    (List.range 16).foldl (fun c r =>
      let (b, s, x, p) := rs.getD r (0, 0, 0, 0)
      let c := (c.wr (F.ACU_REGION_BASE_base u r) b).wr (F.ACU_REGION_CFG_size_log2 u r) s
      (c.wr (F.ACU_REGION_CFG_sub_disable u r) x).wr (F.ACU_REGION_CFG_perm u r) p) c) c

/-- Classes of the tamper sources, on main power and on the cell, and which external inputs are used (R402, R409, R412). -/
def Chip.loadTamper (c : Chip) : Chip :=
  let v := (c.rec1 T.tamperConfig).getD []
  let classes : List Nat := (List.range 18).map (fun n => if byteAt v (2 + n) = 0 then tamperFloor.getD n 0 else byteAt v (2 + n))
  let c := { c with ao := { c.ao with classes := classes } }
  let c := (List.range 18).foldl (fun c n => c.wr (F.TMP_SRC_class n) (classes.getD n 0)) c
  (List.range 4).foldl (fun c e => c.wrb (F.TMP_SRC_used (11 + e)) (v == [] || bit (byteAt v (20 + e)) 0)) c

/-- The lookaside rings as a cold start sets them (R322). -/
def Chip.loadRings (c : Chip) : Chip :=
  (List.range 8).foldl (fun c r =>
    let e := match c.rec1 T.lookasideRings with
      | some v => slice v (8 * r) 8
      | none => if r < 2 || 6 ≤ r then toLe 1 1 ++ toLe 8 1 ++ toLe 1 1 ++ toLe (if 6 ≤ r then r else 0) 1 ++ fill 4 0 else fill 8 0
    let c := (c.wrb (F.KEY_LA_CFG_enable r) (bit (byteAt e 0) 0)).wr (F.KEY_LA_CFG_log2_entries r) (byteAt e 1)
    (c.wr (F.KEY_LA_CFG_vector r) (byteAt e 3)).laSync r) c

/-- The peer table of the image; an entry that records a live partner stays where the image leaves it free (R278, R284).
(log entry 49, DEDUCED) -/
def Chip.loadPeers (c : Chip) : Chip :=
  let es := ((c.rec1 T.peerTable).map (fun v => countedEntries v 40)).getD []
  let live := c.data.peers.filter (fun e => e.2.live)
  let m := es.foldl (fun m e =>
    let p : Peer := { used := true, id := slice e 0 16, denast := bit (byteAt e 18) 0, epoch := bit (byteAt e 18) 1, drop := byteAt e 19 == 1,
                      hold := le e 20 4, ports := le e 24 12 }
    Sparse.set {} m (le e 16 2) p) live
  { c with data := { c.data with peers := m } }

/-- The bypass rules of the line ports (R227, R282). -/
def Chip.loadBypass (c : Chip) : Chip :=
  (List.range 96).foldl (fun c p =>
    let v := (c.recFor T.scTable (pipeOf p)).getD []
    (List.range 8).foldl (fun c r =>
      let e := slice v (8 + 32 * (p % 24) + 4 * r) 4
      ((c.wr (F.CPH_BYP_kind p r) (byteAt e 0)).wr (F.CPH_BYP_mask p r) (byteAt e 1)).wr (F.CPH_BYP_value p r) (le e 2 2)) c) c

/-- The image in force reaches the registers and tables that every load of an image sets; `old` are the channels before it. -/
def Chip.loadTables (c : Chip) (i : Image) : Chip :=
  let c := ((c.loadPorts i).dropLanes.loadCages.loadBypass.loadPools i).loadTm
  let c := (List.range 16).foldl Chip.loadCluster c.loadGroups
  let c := (List.range 4).foldl (fun c k => (c.loadForward k).getD c) c
  c.loadPeers

/-- Channels of a warm start's new image (R517): a changed or dropped channel loses its SAs, skip and epoch; a changed or new EPOCH
channel starts its first epoch while its port still holds a secret, which is zeroised when no SA under it remains (R267). -/
def Chip.changeChans (c : Chip) (new : List Chan) : Chip :=
  let old := c.data.chans
  let gone := old.filter (fun h => !new.contains h)
  let fresh := new.filter (fun h => !old.contains h)
  let c := gone.foldl (fun c h =>
    let c := h.sas.foldl Chip.retireSa c
    let c := (c.setSc h.sc {})
    let c := c.keepEpochs (fun k => k / 2 ^ 64 != h.sc)
    (c.wheelList.filter (fun x => x.2.type == 3 && x.2.arg == h.sc)).foldl (fun c x => c.wheelPut x.1 none) c) c
  let c := { c with data := { c.data with chans := new } }
  let c := (List.range 96).foldl Chip.settleLink c
  fresh.foldl (fun c h => if h.mode = modeEpoch && (c.port h.port).link.current != [] then c.startEpoch h else c) c

/-- The ageing sweeps of the wheel (R163, R384): each first falls due one period after it is placed. (log entry 32, DEDUCED) -/
def Chip.placeSweeps (c : Chip) : Chip :=
  let c := (c.wheelList.filter (fun x => x.2.type == 7)).foldl (fun c x => c.wheelPut x.1 none) c
  (List.range 4).foldl (fun c k =>
    let age := le (c.fwdRec k) 2 2
    match c.wheelFree 0 512 with
    | some n => if age = 0 then c else c.wheelPut n (some { due := c.us + age * 500000, type := 7, arg := k, period := age * 500000 })
    | none => c) c

end Sys2Proof.Machine
end

