-- ==== Sys2Proof/Machine/Start.lean ====
section
/-! DEFINITION. Starts: their causes, the steps of R39, failed starts and the safe state (R37 to R50, R499, R504), the images in flash
(R51 to R57, R68, R69, R460), and the journal's commit and compaction (R53, R54). -/

namespace Sys2Proof.Machine

/-! ## Failed starts (R46 to R49) -/

/-- 600 s in the units of the always-on timer. -/
def failWindow : Nat := 600 * 1000000000 * nsUnit

/-- The failed starts of the last 600 s. -/
def Chip.liveFails (c : Chip) : List Nat := c.ao.fails.filter (fun t => decide (c.ao.timer ≤ t + failWindow))

/-- Seconds since the newest failed start, saturating. -/
def Chip.failAge (c : Chip) : Nat :=
  match c.ao.fails with
  | [] => 0xFFFF
  | t :: _ => min 0xFFFF ((c.ao.timer - t) / nsUnit / 1000000000)

/-- Brings TMP_START_FAILS up to date. -/
def Chip.syncFails (c : Chip) : Chip := (c.wr F.TMP_START_FAILS_count c.liveFails.length).wr F.TMP_START_FAILS_newest_age c.failAge

/-- A port of the safe state: down and dark. -/
def Chip.portDark (c : Chip) (p : Nat) : Chip :=
  if !c.portOn p then c
  else
    let c := ((c.wr (F.PRT_STATUS_link_up p) 0).wr (F.PRT_STATUS_pcs_ready p) 0).wr (F.PRT_STATUS_ais_tx p) 0
    c.emit (.signal p .squelch)

/-- Enters the safe state (R48): every port down, TX disable asserted on every module, and no channel, slot or vault area open.
(log entry 48, DEDUCED) -/
def Chip.enterSafe (c : Chip) : Chip :=
  let c := c.abortReleases.dropBuffer.retireAll.wipePke
  let c := (List.range 144).foldl Chip.portDark c
  let c := (List.range 120).foldl (fun c n => if c.flag (F.PRT_CFG_managed n) then c.wr (F.PRT_MOD_STATUS_tx_disabled n) 1 else c) c
  let st : Start := { ordered := c.start.ordered, scrubBad := c.start.scrubBad, badPairs := c.start.badPairs }
  let c := { c with keys := { c.keys with e := none, slots := [], rings := [] }, vault := {}, start := st, img := none,
                    pm := { c.pm with on := false } }
  let c := ((c.wr F.VLT_STATUS_state 0).wr F.VLT_KEYID_live 0).wr F.VLT_STATUS_flush_active 0
  let c := ((c.wr F.KEY_STATUS_root 0).wr F.MGT_START_STATUS_safe_state 1).wr F.MGT_START_STATUS_configured 0
  (c.record Sub.mgmt.n 0x16 1 0 c.startDetail).syncLifecycle

/-- The start in progress ends without going on. -/
def Chip.endStart (c : Chip) (retry : Bool) : Chip := { c with start := { c.start with busy := false, todo := [], retry := retry } }

/-- A start fails at step `n` (R46, R47): it is recorded, and a heavier start, a retry or the safe state follows. A management restart
that fails in halt leaves the part in halt (R432). (log entry 48, DEDUCED) -/
def Chip.startFail (c : Chip) (n : Nat) : Chip :=
  let kind := c.rd F.MGT_START_STATUS_start_kind
  let c := { c with ao := { c.ao with fails := (c.ao.timer :: c.ao.fails).take 3 } }
  let c := (c.wr F.MGT_START_STATUS_last_fail_step n).syncFails
  let c := c.record Sub.mgmt.n 0x16 1 0 c.startDetail
  if c.halted then c.endStart false
  else if 3 ≤ c.liveFails.length then (c.wr F.TMP_START_FAILS_safe_latched 1).enterSafe
  else if kind = mgmtKind then c.startNow warmKind causeEscalated
  else if kind = warmKind then c.startNow coldKind causeEscalated
  else c.endStart true

/-! ## Causes (R37, R38, R499, R504) -/

/-- The straps are sampled (R504). (log entry 48, DEDUCED) -/
def Chip.sampleStraps (c : Chip) (x : Straps) : Chip :=
  ((c.wrb F.MGT_STRAPS_flash_sdr x.flashSdr).wrb F.MGT_STRAPS_pcie_en x.pcieEn).wrb F.MGT_STRAPS_test x.test

/-- POWER_ON: RESET_N is high, every main rail is in range and a reference input is good (R499). With STRAP_TEST high the part is powered
and does not start (R504). -/
def execPowerOn (straps : Straps) (ref0 ref1 resetHigh railsOk : Bool) (s : State) : Host.Outcome State Fault Refusal :=
  s.always fun c =>
    if c.power || !resetHigh || !railsOk || !(ref0 || ref1) then c
    else
      let c := ({ c with power := true }).sampleStraps straps
      let c := (c.wrb F.MGT_REFCLK_in0_good ref0).wrb F.MGT_REFCLK_in1_good ref1
      if straps.test then c else c.startNow coldKind causePowerOn

/-- RESET_INPUT: RESET_N was low for `lowNs`, and the straps are sampled as it rises; a pulse below 10 µs is ignored (R499), and
so is a pulse during a cold start, which is recorded (R38). -/
def execResetInput (lowNs : Nat) (straps : Straps) (s : State) : Host.Outcome State Fault Refusal :=
  s.act fun c =>
    if lowNs < 10000 then c
    else if c.start.busy && c.rd F.MGT_START_STATUS_start_kind == coldKind then c.ignoreCause causeReset
    else if straps.test then (c.sampleStraps straps).coldReset
    else (c.sampleStraps straps).startNow coldKind causeReset

/-- Begins the start that a command has ordered, once the replies up to its own are written (R461). -/
def Chip.beginOrdered (c : Chip) : Chip :=
  let waits := c.mb0.replies.any (fun r => !r.dup && decide (0x0100 ≤ r.opcode && r.opcode ≤ 0x0102))
  if c.start.ordered = 0 || waits then c
  else ({ c with start := { c.start with ordered := 0 } }).beginStart c.start.ordered causeHost

/-- A start command orders its start; of two, the more thorough applies (R38). (log entry 48, DEDUCED) -/
def Chip.orderStart (c : Chip) (kind : Nat) : Chip × Answer :=
  let k := if c.start.ordered = 0 then kind else min kind c.start.ordered
  ({ c with start := { c.start with ordered := k } }, {})

/-- COLD_START (R461). -/
def execColdStart (h : Mb) (s : State) : Host.Outcome State Fault Refusal :=
  s.act fun c => (c.mbRun h { opcode := 0x0100, safe := true, halt := true } fun c => c.orderStart coldKind).beginOrdered

/-- WARM_START (R461, R432). -/
def execWarmStart (h : Mb) (s : State) : Host.Outcome State Fault Refusal :=
  s.act fun c => (c.mbRun h { opcode := 0x0101, safe := true, halt := true } fun c => c.orderStart warmKind).beginOrdered

/-- MGMT_RESTART (R461). -/
def execMgmtRestart (h : Mb) (s : State) : Host.Outcome State Fault Refusal :=
  s.act fun c => (c.mbRun h { opcode := 0x0102, safe := true, halt := true } fun c => c.orderStart mgmtKind).beginOrdered

/-- The step that ends a kind of start (R46). -/
def finalStep (kind : Nat) : Nat := if kind = coldKind then 22 else if kind = warmKind then 23 else 24

/-- START_TIMEOUT: the start has not reached its final step within 30 s, 500 ms or 2 s (R46). (log entry 60, DEDUCED) -/
def execStartTimeout (s : State) : Host.Outcome State Fault Refusal :=
  s.act fun c =>
    match c.start.todo with
    | [] => c
    | n :: _ =>
      if c.start.busy && c.start.todo.contains (finalStep (c.rd F.MGT_START_STATUS_start_kind)) then c.startFail n else c

/-- START_RETRY_TIMER: 2 s have passed since a cold start failed (R47). -/
def execStartRetryTimer (s : State) : Host.Outcome State Fault Refusal :=
  s.act fun c => if c.start.retry then c.startNow coldKind causeRetry else c

/-- ONDIE_SCRUB_ERROR: an uncorrectable error in an on-die datapath memory (R37, R422); in a memory that a warm start retains, it makes
the next warm start fail at step 7 (R41). -/
def execOndieScrubError (retained : Bool) (s : State) : Host.Outcome State Fault Refusal :=
  s.act fun c =>
    let c := if retained then { c with start := { c.start with scrubBad := true } } else c
    c.autoStart warmKind causeScrub

/-! ## Steps 1 to 7 -/

/-- Step 1 on a port: what is committed leaves, and the transmitter sends idle (R42). Out of a halt nothing is left to send.
(log entry 32, DEDUCED) -/
def Chip.quiescePort (c : Chip) (p : Nat) : Chip :=
  let c := if c.start.released && c.isDenast p && (c.port p).openRecs != [] then c.closeOpen p else c
  let c := ((c.port p).release.foldl (fun c _ => c.releaseHead p) c).retireDue p
  let c := (c.setPort p { c.port p with openRecs := [], openHeld := false, shut := [] }).wr (F.PRT_STATUS_ais_tx p) 0
  if c.portOn p then c.emit (.signal p .idle) else c

/-- Step 1 of a warm start (R42, R43, R313, R329, R366). -/
def Chip.stepQuiesce (c : Chip) : Chip :=
  let c := (List.range 144).foldl Chip.quiescePort c
  let c := { c.dropBuffer with start := { c.start with released := false } }
  ((List.range 8).foldl Chip.laDiscard c).wipePke.vaultSleep.warmRegs

/-- Step 2 of every start: the tamper latch and the share decide whether the run is quarantined (R39, R50). Only a cold start ends a
quarantine, since only it derives the Epkai root (log entry 48, DEDUCED). -/
def Chip.stepQuarantine (c : Chip) (kind : Nat) : Chip :=
  let none_ := c.ao.share == fill 32 0
  let q := c.flag F.TMP_STATUS_tamper_latch || none_ || (kind != coldKind && c.quarantined)
  ((c.wrb F.MGT_START_STATUS_quarantined q).wrb F.KEY_STATUS_quarantined q).wrb F.KEY_STATUS_share_present (!none_)

/-- Step 2 of a cold start besides: the stimulus test (R397) and the mesh seeds (R398). -/
def Chip.stepAlwaysCold (c : Chip) (r : StepIn) : Chip :=
  let (v, c) := c.random 16
  let c := { c with ao := { c.ao with mesh := (List.range 4).map (fun k => le v (4 * k) 4 % 2 ^ 31) } }
  let bad := r.detectorFail % 2 ^ 11
  let c := (c.wr F.TMP_DISAGREE_disagree (c.rd F.TMP_DISAGREE_disagree ||| bad)).wrb F.TMP_STATUS_self_test_ok (bad == 0)
  if bad = 0 then c else c.fireSource (plainDetection 17 0)

/-- Step 2: the failed-start records and the latch of the safe state (R48, R49). -/
def Chip.stepAlwaysOn (c : Chip) (kind : Nat) (r : StepIn) : Chip :=
  let c := if c.ao.failClear then
      ({ c with ao := { c.ao with failClear := false, fails := [] } }).wr F.TMP_START_FAILS_safe_latched 0
    else c
  let old := c.flag F.MGT_START_CAUSE_power_on && c.liveFails == []
  let c := (if old then c.wr F.TMP_START_FAILS_safe_latched 0 else c).syncFails
  if c.flag F.TMP_START_FAILS_safe_latched then c.enterSafe
  else if kind = coldKind then (c.stepQuarantine kind).stepAlwaysCold r
  else c.stepQuarantine kind

/-- Step 3: the self-test of both pairs; the first that passes is active (R419). -/
def Chip.stepPairs (c : Chip) (r : StepIn) : Chip :=
  let ok0 := r.pair0Ok && !c.start.badPairs.contains 0
  let ok1 := r.pair1Ok && !c.start.badPairs.contains 1
  if !ok0 && !ok1 then c.startFail 3
  else
    let bad := (if ok0 then [] else [0]) ++ (if ok1 then [] else [1])
    let c := { c with start := { c.start with badPairs := bad } }
    let c := c.wr F.MGT_PAIR_STATUS_active (if ok0 then 0 else 1)
    (c.wr F.MGT_PAIR_STATUS_pair0_state (if ok0 then 0 else 3)).wr F.MGT_PAIR_STATUS_pair1_state
      (if !ok1 then 3 else if ok0 then 2 else 0)

/-- A pair that is synchronising becomes the standby (step 12). -/
def Chip.standbyReady (c : Chip) : Chip :=
  if c.rd F.MGT_PAIR_STATUS_pair0_state = 2 then c.wr F.MGT_PAIR_STATUS_pair0_state 1
  else if c.rd F.MGT_PAIR_STATUS_pair1_state = 2 then c.wr F.MGT_PAIR_STATUS_pair1_state 1
  else c

/-- Step 6: memory BIST. What fails stays out of service (R146, R243, R344). (log entry 48, DEDUCED) -/
def Chip.stepBist (c : Chip) (r : StepIn) : Chip :=
  let c := (List.range 16).foldl (fun c k =>
    (c.wr (F.FLW_ENG_STATUS_state (192 + k)) engSpare).wrb (F.FLW_CL_STATUS_spare_ready k) (!r.enginesBad.contains (192 + k))) c
  let c := (List.range 208).foldl (fun c e => if r.enginesBad.contains e then (c.fenceEngine e).alertEngine e else c) c
  let c := (List.range 18).foldl (fun c k =>
    let pipe := if k = 8 || k = 17 then 0 else k % 9 / 2
    let c := (c.wr (F.CPH_SLICE_STATUS_pipeline k) pipe).wr (F.CPH_SLICE_STATUS_state k) (if k = 8 || k = 17 then 1 else 0)
    if r.slicesBad.contains k then
      let c := c.wr (F.CPH_SLICE_STATUS_state k) 3
      c.alert Sub.cipher.n 0 k (c.word (R.CPH_SLICE_STATUS k)).toNat
    else c) c
  if r.pkeBad then
    let c := c.wr F.PKE_STATUS_fenced 1
    c.alert Sub.pke.n 0 0 (c.word R.PKE_STATUS).toNat
  else c

/-! ## Flash discovery and the descriptor (R51, R52, R55, R423) -/

/-- A flash device fails (R423). -/
def Chip.flashFailed (c : Chip) (d : Nat) : Chip :=
  if !c.flashGood d then c
  else
    let c := c.wr (if d = 0 then F.MGT_FLASH_STATUS_dev0_failed else F.MGT_FLASH_STATUS_dev1_failed) 1
    let c := c.wrb F.MGT_FLASH_STATUS_persist_blocked (!c.flashGood 0 && !c.flashGood 1)
    c.alert Sub.mgmt.n 0x14 d (c.word R.MGT_FLASH_STATUS).toNat

/-- The valid copy with the higher update sequence. -/
def newerDesc : Option Descriptor → Option Descriptor → Option Descriptor
  | some a, some b => some (if a.seq < b.seq then b else a)
  | some a, none => some a
  | none, b => b

/-- A descriptor copy that is valid: its CRC-32 checks (R52). -/
def Descriptor.checked (d : Option Descriptor) : Option Descriptor := d.filter (fun x => x.crc == crc32 x.body)

def Flash.copy0 (f : Flash) : Option Descriptor := Descriptor.checked f.desc0
def Flash.copy1 (f : Flash) : Option Descriptor := Descriptor.checked f.desc1

/-- The descriptor in force: each copy from device 0, or from device 1 where that fails. -/
def Chip.descriptor (c : Chip) : Option Descriptor :=
  let get (d : Nat) (f : Flash → Option Descriptor) : Option Descriptor := if c.flashGood d then f (c.flash d) else none
  let copy (f : Flash → Option Descriptor) : Option Descriptor := (get 0 f).or (get 1 f)
  newerDesc (copy Flash.copy0) (copy Flash.copy1)

/-- Copies of the descriptor that device 0 has lost are rewritten from device 1, with an ALERT (R55). -/
def Chip.healDescriptors (c : Chip) : Chip :=
  let lost := (c.flash0.copy0.isNone && c.flash1.copy0.isSome) || (c.flash0.copy1.isNone && c.flash1.copy1.isSome)
  if c.flashGood 0 && c.flashGood 1 && lost then
    let f := { c.flash0 with desc0 := c.flash0.copy0.or c.flash1.copy0, desc1 := c.flash0.copy1.or c.flash1.copy1 }
    let c := ({ c with flash0 := f }).wr F.MGT_START_STATUS_device_fallback 1
    c.alert Sub.mgmt.n 0 0 (c.word R.MGT_FLASH_STATUS).toNat
  else c

/-- The configuration digest that a descriptor records for a slot. -/
def Descriptor.digest (d : Descriptor) (s : Nat) : Bytes := if s = 0 then d.digest0 else d.digest1

/-- The slot tried first: the preferred one, or slot A without a descriptor. -/
def Chip.preferredSlot (c : Chip) : Nat := (c.descriptor.map (·.preferred)).getD 0

/-- The descriptor's preference reaches the slots' registers. -/
def Chip.showPreferred (c : Chip) : Chip :=
  let p := c.descriptor.map (·.preferred)
  (c.wrb (F.MGT_SLOT_STATUS_preferred 0) (p == some 0)).wrb (F.MGT_SLOT_STATUS_preferred 1) (p == some 1)

/-- Images to try: the preferred slot and then the other, each on device 0 and then device 1, as `2 slot + device` (R55, R56). -/
def Chip.candidates_ (c : Chip) : List Nat :=
  let p := c.preferredSlot
  [2 * p, 2 * p + 1, 2 * (1 - p), 2 * (1 - p) + 1].filter (fun x => c.flashGood (x % 2))

/-- Step 8. A warm start whose descriptor names another configuration goes on with steps 9, 10, 11 and 16 (R40). -/
def Chip.stepFlash (c : Chip) (kind : Nat) (r : StepIn) : Chip :=
  let c := if r.flash0Ok then c else c.flashFailed 0
  let c := if r.flash1Ok then c else c.flashFailed 1
  let c := if !c.flashGood 0 && c.flashGood 1 then c.wr F.MGT_START_STATUS_device_fallback 1 else c
  let c := c.healDescriptors.showPreferred
  let c := { c with start := { c.start with cand := c.candidates_ } }
  if kind = coldKind then c
  else if c.persistBlocked then c.startFail 8
  else
    let digest := (c.descriptor.map (fun d => d.digest d.preferred)).getD []
    if c.img.map (·.cfgMeas) == some digest then c
    else { c with start := { c.start with todo := [8, 9, 10, 11, 12, 13, 16, 17, 22, 23, 24] } }

/-! ## The image: steps 9, 10, 11 and 16 (R56, R58 to R71) -/

/-- No candidate is left: with blank owner fuses and an image refused for its owner the part waits for provisioning (R66); else the
start fails. -/
def Chip.noImage (c : Chip) (n : Nat) : Chip :=
  let byOwner := (List.range 2).any (fun s => c.rd (F.MGT_SLOT_STATUS_reject_code s) == Reject.ownerKey)
  if c.owners = [] && byOwner then
    ({ c with start := { c.start with busy := false, todo := [], blank := true } }).syncLifecycle
  else c.startFail n

/-- The candidate fails at step `n`: the next is tried from step 9. A slot shows its failure on the first device read (R55). -/
def Chip.nextCandidate (c : Chip) (x n code off : Nat) : Chip :=
  let s := x / 2
  let d := x % 2
  let c := if d = 0 || !c.flashGood 0 then c.showSlot s code off false (slotShows (c.flash d) s) else c
  let c := { c with start := { c.start with cand := c.start.cand.drop 1, image := none } }
  if c.start.cand = [] then c.noImage n
  else
    let after := c.start.todo.drop 1
    let again := if n = 16 then [9, 10, 11, 12, 16] ++ after else [9, 10, 11] ++ after.filter (fun k => decide (12 ≤ k))
    { c with start := { c.start with todo := again } }

/-- One of the four steps on the candidate at hand. -/
def Chip.stepImage (c : Chip) (n : Nat) (found : Image → Chip → Chip) : Chip :=
  match c.start.cand with
  | [] => (List.range 2).foldl (fun c s => c.showSlot s Reject.read 0 false (0, 0)) c |>.startFail n
  | x :: _ =>
    if n = 9 then
      match readImage (c.flash (x % 2)) (x / 2) with
      | .error e => c.nextCandidate x n e.1 e.2
      | .ok (_, i) => { c with start := { c.start with image := some i } }
    else
      match c.start.image with
      | none => c.startFail n
      | some i =>
        let bad := if n = 10 then vendorCheck c.keys i else if n = 11 then ownerCheck c.keys i else i.contentCheck
        match bad with
        | some e => c.nextCandidate x n e.1 e.2
        | none => if n = 16 then found i c else c

/-- The candidate has passed every check; one that passed on device 1 alone is copied to device 0, with an ALERT (R55). -/
def Chip.imagePassed (c : Chip) (i : Image) : Chip :=
  match c.start.cand with
  | [] => c
  | x :: _ =>
    let c := c.showSlot i.slot 0 0 (x % 2 == 1) (i.sequence, i.fwVer)
    if x % 2 = 0 then c
    else
      let c := c.wr F.MGT_START_STATUS_device_fallback 1
      if c.flashGood 0 then (c.copySlot i.slot 1).alert Sub.mgmt.n 0 0 (c.word R.MGT_FLASH_STATUS).toNat else c

/-- Records that take effect only at a cold start: those flagged so (R59), and those that R61 names. -/
def ImgRec.coldOnly (r : ImgRec) : Bool := bit r.flags 1 || [T.portConfig, T.pairConfig, T.vaultConfig, T.tamperConfig].contains r.type

/-- A cold-only record of one image is missing from the other or differs in it (R40). (log entry 47, DEDUCED) -/
def coldChange (a b : List ImgRec) : Bool :=
  let differs (a b : List ImgRec) : Bool := a.any (fun r => r.coldOnly && !b.any (fun q => r.same q && r.value == q.value))
  differs a b || differs b a

/-- Step 16 passes. A warm start that meets a changed cold-only record begins a cold start, and does not count as failed (R40).
(log entry 48, DEDUCED) -/
def Chip.stepContent (c : Chip) (kind : Nat) : Chip :=
  c.stepImage 16 fun i c =>
    let changed := match c.img with
      | none => true
      | some old => coldChange old.records i.records
    if kind = warmKind && changed then c.startNow coldKind causeColdOnly else c.imagePassed i

/-! ## Steps 12 to 14 (R45, R365, R366, R368) -/

/-- The vault can serve the firmware copy (R45). -/
def Chip.vaultHolds (c : Chip) : Bool :=
  let st := c.rd F.VLT_STATUS_state
  (st == 2 || st == 3) && !c.quarantined && !(c.halted && c.rd F.MGT_HALT_cause == 2)

/-- The digest of the vendor's message over the firmware records of a slot, FW_MANIFEST to the header of FW_SIG, as the records stand in
flash (R45, R65). -/
def firmwareDigest (f : Flash) (s : Nat) : Option Bytes :=
  let b := f.imageBytes s 12582912
  let rec find : Nat → Nat → Option Nat
    | 0, _ => none
    | fuel + 1, x =>
      let n := le b (x + 4) 4
      if b.length < x + 8 + n then none
      else if le b x 2 = T.fwSig then some x
      else if [T.fwManifest, T.fwCode, T.fwData].contains (le b x 2) || unknownType (le b x 2) then find fuel (x + 8 + n + padOf n)
      else none
  (find 1572864 64).map (fun x => Config.sha384 (slice b 64 (x - 64)))

/-- The running slot's firmware on a device has the measurement recorded at the last cold start (R45). -/
def Chip.firmwareOn (c : Chip) (d : Nat) : Bool :=
  match c.img with
  | none => false
  | some old => c.flashGood d && firmwareDigest (c.flash d) old.slot == some old.fwMeas

/-- Step 12 reads the firmware from flash, under the device rules of R55: device 0 first; what device 1 alone holds good is copied to
device 0, with an ALERT (R45). -/
def Chip.flashFirmware (c : Chip) : Chip :=
  if c.firmwareOn 0 then c.standbyReady
  else if !c.firmwareOn 1 then c.startFail 12
  else
    let c := c.wr F.MGT_START_STATUS_device_fallback 1
    let c := if c.flashGood 0 then c.copySlot ((c.img.map (·.slot)).getD 0) 1 else c
    (c.alert Sub.mgmt.n 0 0 (c.word R.MGT_FLASH_STATUS).toNat).standbyReady

/-- Step 12: firmware runs on both pairs. -/
def Chip.stepFirmware (c : Chip) (kind : Nat) : Chip :=
  if kind = coldKind then c.standbyReady.healthStart
  else if c.img.isNone then c.startFail 12
  else if c.vaultHolds then c.standbyReady
  else c.flashFirmware

/-- Step 13. -/
def Chip.stepStacks (c : Chip) (kind : Nat) (r : StepIn) : Chip :=
  if kind = coldKind then (c.vaultTrain r.stack0Ok r.stack1Ok).getD (c.startFail 13)
  else if c.rd F.VLT_STATUS_state = 3 then c.wr F.VLT_STATUS_state 2
  else c

/-! ## Steps 17 to 21 -/

/-- The image in force and where it came from. (log entry 48, DEDUCED) -/
def Chip.useImage (c : Chip) (i : Image) : Chip :=
  let c := ({ c with img := some i }).wr F.MGT_START_STATUS_slot_running i.slot
  let c := c.wrb F.MGT_START_STATUS_slot_fallback (i.slot != c.preferredSlot)
  c.setWord R.MGT_IMAGE_SKIPPED (BitVec.ofNat 32 i.skipped)

/-- Step 17: tables and programs (R39, R40, R517). A quarantined run opens no channel (R50). -/
def Chip.stepTables (c : Chip) (kind : Nat) : Chip :=
  match c.start.image, c.img with
  | some i, old =>
    let c := c.useImage { i with fwMeas := if kind = coldKind then i.fwMeas else (old.map (·.fwMeas)).getD i.fwMeas }
    let c := c.loadTables i
    let chans := if c.quarantined then [] else i.chans
    if kind = coldKind then
      let c := { c with data := { c.data with chans := chans } }
      c.loadRings.loadPke.loadTamper.loadAcu.wr F.TIM_STATE_source c.timeSource
    else ((c.changeChans chans).placeSweeps.replayTables.fillTokens).loadPke.loadTamper.loadAcu
  | none, some i => (c.useImage i).loadAcu.loadTamper.loadPke.fillTokens
  | none, none => c.startFail 17

/-- The newest flush of the two devices whose header is valid, by run and then by last sequence: its slot (R439). -/
def Chip.newestFlush (c : Chip) : Option Nat :=
  let of_ (d : Nat) : List (Nat × FlushSlot) :=
    if !c.flashGood d then []
    else (c.flash d).flush.filterMap (fun e => (e.2.filter (fun f => f.tag == f.sealed c.keys.recKey)).map (fun f => (e.1, f)))
  let best := (of_ 0 ++ of_ 1).foldl (fun (b : Option (Nat × FlushSlot)) e => match b with
    | none => some e
    | some x => if x.2.run < e.2.run || (x.2.run == e.2.run && x.2.lastSeq < e.2.lastSeq) then some e else some x) none
  best.map (·.1)

/-- A flush slot is erased on every healthy device that holds it. -/
def Chip.eraseFlush (c : Chip) (k : Nat) : Chip :=
  let first := 488 + (0x1000 + 0x21000 * k) / 65536
  let last := 488 + (0x1000 + 0x21000 * (k + 1) - 1) / 65536
  let held (d : Nat) : Bool := (Sparse.get none (c.flash d).flush k).isSome
  if held 0 || held 1 then
    (c.countErases first (last + 1 - first)).onFlash (fun f => { f with flush := Sparse.set none f.flush k none })
  else c

/-- Step 19: the vault areas open, the history is rebuilt, the next flush slot is found, and what was logged on the cell is copied to
the recorder (R113, R365, R410, R439). -/
def Chip.stepAreas (c : Chip) : Chip :=
  let c := if c.quarantined then c else ((c.wr F.VLT_STATUS_state 2).wr F.MGT_REC_STATUS_vault_open 1).rebuildHistory
  let k := (c.newestFlush.map (fun n => (n + 1) % 7)).getD 0
  let c := (c.wr F.MGT_REC_STATUS_next_slot k).eraseFlush k
  let c := c.ao.cellLog.foldl (fun (c : Chip) (e : Bytes) =>
    (c.record Sub.tamper.n 2 (byteAt e 8 % 4) (byteAt e 7) (le e 0 8)).attn 9) c
  { c with ao := { c.ao with cellLog := [] } }

/-- The first pulse of a train at or after an instant in ns. -/
def Trigger.from_ (t : Trigger) (ns : Nat) : Nat :=
  (if ns ≤ t.start || t.period = 0 then t.start else t.start + ceilDiv (ns - t.start) t.period * t.period) * nsUnit

/-- A train that TIME_CONFIG sets runs from its start instant; what lies before step 20 is not emitted (R388, R389). -/
def Chip.loadTriggers (c : Chip) : Chip :=
  let v := (c.rec1 T.timeConfig).getD []
  (List.range 4).foldl (fun c i =>
    let e := slice v (638 + 22 * i) 22
    let start := le e 0 6 * 1000000000 + le e 6 4
    let t : Trigger := { start := start, period := le e 10 8, width := le e 18 3, activeLow := bit (byteAt e 21) 0, next := start * nsUnit }
    let t := { t with next := t.from_ c.ns }
    let c := { c with time := { c.time with trig := Sparse.set {} c.time.trig i t } }
    if le e 0 6 = 0 || (t.period = 0 && start < c.ns) then c else c.wr (F.TIM_TRIG_STATUS_running i) 1) c

/-- The owner's events (R392). -/
def Chip.loadEvents (c : Chip) : Chip :=
  let es := ((c.rec1 T.wheelEvents).map (fun v => countedEntries v 16)).getD []
  (es.foldl (fun (a : Nat × Chip) e =>
    let w : WheelEntry := { due := le e 0 6 * 1000000 + le e 6 4, type := byteAt e 10, arg := byteAt e 11 }
    (a.1 + 1, a.2.wheelOrHold a.1 w)) (1536, c)).2

/-- What the real-time counter reads: it has run at ±50 ppm since it was last set, by a free amount within that (R372).
(log entry 12, DESIGN CHOICE) -/
def Chip.readRtc (c : Chip) : Nat × Chip :=
  let d := (c.ao.rtc - c.ao.rtcBase) / 20000
  let (v, c) := c.freeNat 128
  (c.ao.rtc + v % (2 * d + 1) - d, c)

/-- Step 20: the time base starts and the wheel is loaded (R372, R384, R391, R392). -/
def Chip.stepTime (c : Chip) : Chip :=
  let (now, c) := if c.ao.rtcSet then c.readRtc else (c.t0 * 1000000000 * nsUnit, c)
  let c := ({ c with time := { c.time with now := now, running := true } }).setIncrement c.freqTrim
  let c := { c with time := { c.time with ppsNext := c.ppsAfter c.ns } }
  let c := c.loadTriggers.loadEvents.placeSweeps
  let place (c : Chip) (w : WheelEntry) : Chip := match c.wheelFree 0 512 with
    | some n => c.wheelPut n (some w)
    | none => c
  let bin := c.binStart 900 c.seconds + 900
  let c := place c { due := bin * 1000000, type := 5, arg := 0, period := 900000000 }
  let c := place c { due := c.us + 1000000, type := 8, arg := 0, period := 1000000 }
  c.replayWheel.openBins

/-- Step 21: key slots and SAs, the alias certificates, and the host endpoint (R281, R297, R301, R442, R475). -/
def Chip.stepKeys (c : Chip) : Chip :=
  let c := c.restoreKeys.makeAliasCerts
  let c := { c with start := { c.start with endpoint := true } }
  c.wrb F.HST_LINK_pf1_present (bit (c.cfgNat T.hostConfig 1 1 7) 0)

/-! ## Steps 22 to 24 -/

/-- Every port is released, and TX disable of its module with it (R39, R516). (log entry 48, DEDUCED) -/
def Chip.releasePorts (c : Chip) : Chip :=
  let c := { c with start := { c.start with released := true } }
  (List.range 120).foldl Chip.releaseTx ((List.range 144).foldl Chip.releasePort c)

/-- A checkpoint of the recorder (R438). -/
def Chip.checkpoint (c : Chip) : Chip := (c.record Sub.mgmt.n 0x17 0 0 (c.word R.MGT_REC_SEQ).toNat).seal

/-- An entry that fell due during the start is applied (R44, R114). (log entry 66, DEDUCED) -/
def Chip.applyDeferred (c : Chip) (n : Nat) : Chip :=
  match c.wheelAt n with
  | none => c
  | some w =>
    let c := c.wheelFired n w
    if w.type = 3 then c.keyStep w
    else if w.type = 4 then c.expireSlot (w.arg % 1024)
    else if w.type = 6 then c.complete15.completeDay
    else if w.type = 7 then c.sweep (w.arg % 4) []
    else if w.type = 8 then c.checkpoint
    else c

/-- The first entry of the wheel that has been held back, or that a step of the key schedule has since placed at a time now past. -/
def Chip.firstDue (c : Chip) (held : List Nat) : Option Nat :=
  let l := c.wheelList.filter (fun e => held.contains e.1 || (e.2.type == 3 && e.2.due ≤ c.us))
  (l.foldl (fun (b : Option (Nat × WheelEntry)) e => match b with
    | none => some e
    | some y => if wheelBefore e y then some e else some y) none).map (·.1)

/-- Applies what is due, one entry after the other in the order of the wheel. -/
def Chip.applyDue (c : Chip) (held : List Nat) : Nat → Chip
  | 0 => c
  | n + 1 => match c.firstDue held with
    | none => c
    | some k => (c.applyDeferred k).applyDue (held.filter (· != k)) n

/-- Everything that fell due is applied, in order of due time (R44, R266, R385), the steps of the key schedule that follow an overdue one
among it. -/
def Chip.applyAllDeferred (c : Chip) : Chip :=
  let held := c.start.deferred
  { c with start := { c.start with deferred := [] } }.applyDue held (held.length + 4096)

/-- Step 23 of a warm start: traffic resumes, with a fresh key agreement with every peer (R43). -/
def Chip.stepResume (c : Chip) : Chip :=
  let c := c.releasePorts
  let c := (List.range 96).foldl (fun c p => (c.kaStep p .idle).agreeAnew p) c
  c.applyAllDeferred

/-- Step 24: mailbox service resumes; firmware takes up what a management restart held (R114, R266, R375). -/
def Chip.stepMailbox (c : Chip) (kind : Nat) : Chip :=
  if kind != mgmtKind then c
  else
    let c := ({ c with time := { c.time with stopped := false } }).wr F.MGT_START_STATUS_configured 1
    c.applyAllDeferred.kaAbandon

/-- One step of R39. -/
def Chip.doStep (c : Chip) (kind n : Nat) (r : StepIn) : Chip :=
  if n = 1 then c.stepQuiesce
  else if n = 2 then c.stepAlwaysOn kind r
  else if n = 3 then c.stepPairs r
  else if n = 5 then c.deriveRoots.fillSystem.syncLifecycle
  else if n = 6 then c.stepBist r
  else if n = 7 then (if c.start.scrubBad then c.startFail 7 else c)
  else if n = 8 then c.stepFlash kind r
  else if n = 9 || n = 10 || n = 11 then c.stepImage n (fun _ c => c)
  else if n = 12 then c.stepFirmware kind
  else if n = 13 then c.stepStacks kind r
  else if n = 14 then (if c.quarantined then c else (c.vaultBuild 0).wr F.VLT_STATUS_state 1)
  else if n = 16 then c.stepContent kind
  else if n = 17 then c.stepTables kind
  else if n = 18 then (if kind = coldKind then c.openJournal.rebuildTables.replayTables.fillTokens else c)
  else if n = 19 then (if kind = coldKind then c.stepAreas else c)
  else if n = 20 then c.stepTime
  else if n = 21 then c.stepKeys
  else if n = 22 then
    let c := c.wr F.MGT_START_STATUS_configured 1
    if kind = coldKind then c.releasePorts else c
  else if n = 23 then c.stepResume
  else if n = 24 then c.stepMailbox kind
  else c

/-- START_STEP: the step at hand ends, and the next begins. A step that ended the start, began another or turned to another image does
not count as done. -/
def Chip.startStep (c : Chip) (r : StepIn) : Chip :=
  match c.start.todo with
  | [] => c
  | n :: _ =>
    if !r.stepOk then c.startFail n
    else
      let kind := c.rd F.MGT_START_STATUS_start_kind
      let x := c.doStep kind n r
      let same := x.start.busy && c.start.cand.length ≤ x.start.cand.length && x.rd F.MGT_START_STATUS_start_kind == kind
      if !same then x
      else
        let rest := x.start.todo.drop 1
        ({ x with start := { x.start with todo := rest, busy := rest != [] } }).wr F.MGT_START_STATUS_step n

/-- START_STEP (R39): One step of a cold start, warm start or management restart completes and the next step begins. -/
def execStartStep (r : StepIn) (s : State) : Host.Outcome State Fault Refusal :=
  s.act fun c => if c.start.busy then c.startStep r else c

/-! ## Images in flash (R56, R57, R460) -/

/-- The bytes of a slot of a device. -/
def Flash.putSlot (f : Flash) (s : Nat) (v : Sparse Byte) : Flash := if s = 0 then { f with slot0 := v } else { f with slot1 := v }

/-- Bytes are programmed from an offset on. (log entry 59, DESIGN CHOICE) -/
def programBytes (m : Sparse Byte) (off : Nat) (data : Bytes) : Sparse Byte :=
  (data.foldl (fun (a : Nat × Sparse Byte) b => (a.1 + 1, Sparse.set 0xFF a.2 a.1 b)) (off, m)).2

/-- A sector of a slot is erased when a write of the new image first reaches it. (log entry 59, DESIGN CHOICE) -/
def Chip.reachSector (c : Chip) (s k : Nat) : Chip :=
  if c.reached.contains (192 * s + k) then c
  else
    let c := ({ c with reached := c.reached ++ [192 * s + k] }).countErases (16 + 192 * s + k) 1
    c.onFlash (fun f => f.putSlot s ((f.slot s).filter (fun e => e.1 / 65536 != k)))

/-- IMAGE_WRITE (R57, R460). (log entry 58, DEDUCED) (log entry 59, DESIGN CHOICE) -/
def Chip.imageWrite (c : Chip) (s off : Nat) (data : Bytes) : Chip × Answer :=
  if 1 < s || off % 256 != 0 || 12582912 < off + data.length then refuse c Code.range
  else if c.img.map (·.slot) == some s then refuse c Code.denied
  else if c.persistBlocked then refuse c Code.fault
  else
    let c := if off = 0 then { c with reached := c.reached.filter (fun k => k / 192 != s) } else c
    let first := off / 65536
    let last := (off + data.length - 1) / 65536
    let c := (List.range (last + 1 - first)).foldl (fun c i => c.reachSector s (first + i)) c
    let c := c.onFlash (fun f => f.putSlot s (programBytes (f.slot s) off data))
    (c.wr (F.MGT_SLOT_STATUS_valid s) 0, {})

/-- IMAGE_WRITE (R460): The command writes image data into a slot that is not running, erasing sectors on first reach. -/
def execImageWrite (h : Mb) (slot offset : Nat) (s : State) : Host.Outcome State Fault Refusal :=
  s.act fun c => c.mbRun h { opcode := 0x0103, long := true, safe := true, inOk := fun n => decide (256 ≤ n && n ≤ 65536) && n % 256 == 0 }
    fun c => c.imageWrite slot offset h.inData

/-- IMAGE_VERIFY: every check of R71, on device 0 and then on device 1 (R55, R71). (log entry 44, DEDUCED) (log entry 47, DEDUCED) -/
def Chip.imageVerify (c : Chip) (s : Nat) : Chip × Answer :=
  let devs := (List.range 2).filter c.flashGood
  if 1 < s then refuse c Code.range
  else
    match devs.head? with
    | none => (c.showSlot s Reject.read 0 false (0, 0), { code := Code.rejected, result := Reject.read })
    | some first =>
      if c.flag F.PKE_STATUS_fenced then refuse c Code.fault
      else
        let pass := devs.find? (fun d => match checkSlot c.keys (c.flash d) s with
          | .ok _ => true
          | .error _ => false)
        match pass, checkSlot c.keys (c.flash first) s with
        | some d, _ =>
          let c := c.showSlot s 0 0 (d == 1) (slotShows (c.flash d) s)
          let c := if d = 1 && c.flashGood 0 then (c.copySlot s 1).alert Sub.mgmt.n 0 0 (c.word R.MGT_FLASH_STATUS).toNat else c
          (c, {})
        | none, .error e => (c.showSlot s e.1 e.2 false (slotShows (c.flash first) s), { code := Code.rejected, result := e.1 })
        | none, .ok _ => (c, {})

/-- IMAGE_VERIFY (R71): The command checks a slot's image and reports its first failing check. -/
def execImageVerify (h : Mb) (slot : Nat) (s : State) : Host.Outcome State Fault Refusal :=
  s.act fun c => c.mbRun h { opcode := 0x0104, long := true, safe := true } fun c => c.imageVerify slot

/-- The copy of the descriptor that is not in use: 0 or 1 (R52). -/
def Chip.unusedDesc (c : Chip) : Nat :=
  let f := c.readFlash
  match f.copy0, f.copy1 with
  | some a, some b => if a.seq < b.seq then 0 else 1
  | some _, none => 1
  | none, _ => 0

/-- The descriptor that makes a slot preferred: its length and digest are those of the image that the slot holds. -/
def Chip.newDescriptor (c : Chip) (s : Nat) : Descriptor :=
  let old : Descriptor := c.descriptor.getD { seq := 0, preferred := 0 }
  let len := le (c.readFlash.imageBytes s 64) 8 4
  let digest := match readImage c.readFlash s with
    | .ok (_, i) => i.cfgMeas
    | .error _ => []
  let d := if s = 0 then { old with seq := old.seq + 1, preferred := 0, len0 := len, digest0 := digest }
    else { old with seq := old.seq + 1, preferred := 1, len1 := len, digest1 := digest }
  { d with crc := crc32 d.body }

/-- IMAGE_ACTIVATE: a slot that has not passed every check since it was last written is refused (R57); else the copy of the descriptor
that is not in use makes it preferred (R52, R56). (log entry 58, DEDUCED) -/
def Chip.imageActivate (c : Chip) (i : Instr) (s : Nat) : Chip × Answer :=
  if 1 < s then refuse c Code.range
  else if !c.flag (F.MGT_SLOT_STATUS_valid s) then refuse c Code.busy
  else
    let k := c.unusedDesc
    let d := c.newDescriptor s
    let c := c.countErases (8 * k) 1
    let c := c.onFlash (fun f => if k = 0 then { f with desc0 := some d } else { f with desc1 := some d })
    (c.showPreferred, { code := Code.committed, jop := some (.cmd i) })

/-- IMAGE_ACTIVATE (R57): The command makes a verified slot preferred by updating the descriptor. -/
def execImageActivate (h : Mb) (slot : Nat) (s : State) : Host.Outcome State Fault Refusal :=
  s.act fun c => c.mbRun h { opcode := 0x0105, commit := true, safe := true } fun c => c.imageActivate (.imageActivate h slot) slot

/-- START_FAIL_CLEAR: the records are emptied and the latch cleared at the next start (R49). -/
def execStartFailClear (h : Mb) (s : State) : Host.Outcome State Fault Refusal :=
  s.act fun c => c.mbRun h { opcode := 0x0106, safe := true, halt := true } fun c => ({ c with ao := { c.ao with failClear := true } }, {})

/-- ROLLBACK_ADVANCE (R68, R69). (log entry 58, DEDUCED) -/
def Chip.rollbackAdvance (c : Chip) (i : Instr) (counter value : Nat) : Chip × Answer :=
  let used := if counter = 0 then c.keys.fwFuses else c.keys.cfgFuses
  match c.img with
  | none => refuse c Code.busy
  | some m =>
    if 1 < counter then refuse c Code.range
    else if (if counter = 0 then m.fwVer else m.sequence) < value then refuse c Code.denied
    else if 64 ≤ used.length || value < used.getLast?.getD 0 then refuse c Code.range
    else
      let k := if counter = 0 then { c.keys with fwFuses := used ++ [value] } else { c.keys with cfgFuses := used ++ [value] }
      (({ c with keys := k }).showFuses, { code := Code.committed, jop := some (.cmd i) })

/-- ROLLBACK_ADVANCE (R69): The command programs a new anti-rollback counter entry with the named value. -/
def execRollbackAdvance (h : Mb) (counter value : Nat) (s : State) : Host.Outcome State Fault Refusal :=
  s.act fun c => c.mbRun h { opcode := 0x0107, long := true, commit := true } fun c =>
    c.rollbackAdvance (.rollbackAdvance h counter value) counter value

/-! ## The journal (R53, R54) -/

/-- JOURNAL_COMMIT: the oldest waiting entry is committed. (log entry 19, DEDUCED) -/
def execJournalCommit (s : State) : Host.Outcome State Fault Refusal := s.act fun c => c.commitEntry.beginOrdered

/-- JOURNAL_COMPACTION: the active half is full; the net committed state goes into the other half, and the full half is erased.
(log entry 54, DEDUCED) -/
def Chip.compact (c : Chip) : Chip :=
  if c.persistBlocked then c
  else
    let c := (c.onFlash (fun f => if c.jhalf = 0 then { f with half1 := netEntries f.half0, half0 := [] }
                                  else { f with half0 := netEntries f.half1, half1 := [] })).countErases (400 + 32 * c.jhalf) 32
    { c with jhalf := 1 - c.jhalf }

/-- JOURNAL_COMPACTION (R54): A full journal half is compacted into the other half as a snapshot, a completion marker is written, and
the full half is erased. (log entry 54, DEDUCED) -/
def execJournalCompaction (s : State) : Host.Outcome State Fault Refusal := s.act Chip.compact

end Sys2Proof.Machine
end

