-- ==== Sys2Proof/Machine/Faults.lean ====
section
/-! DEFINITION. Single faults and their recovery outside the datapath: management pairs, reference clocks, flash devices, the SA store
(R413 to R424), and the flushes and reads of the Cowslip recorder (R438 to R440). -/

namespace Sys2Proof.Machine

/-! ## Management pairs (R414, R417 to R419) -/

/-- Writes the state of a pair: 0 active, 1 standby ready, 2 synchronising, 3 fenced. -/
def Chip.setPair (c : Chip) (p st : Nat) : Chip := c.wr (if p = 0 then F.MGT_PAIR_STATUS_pair0_state else F.MGT_PAIR_STATUS_pair1_state) st

/-- The state of a pair. -/
def Chip.pairState (c : Chip) (p : Nat) : Nat := c.rd (if p = 0 then F.MGT_PAIR_STATUS_pair0_state else F.MGT_PAIR_STATUS_pair1_state)

/-- The standby takes over (R417, R418): firmware's lookaside requests and public-key jobs are discarded and its key agreements
abandoned. (log entry 53, DEDUCED) -/
def Chip.takeOver (c : Chip) (p : Nat) : Chip :=
  let c := ((c.setPair p 3).setPair (1 - p) 0).wr F.MGT_PAIR_STATUS_active (1 - p)
  let c := c.sat F.MGT_PAIR_STATUS_takeovers 1
  let c := c.alert Sub.mgmt.n 0x10 p (c.word R.MGT_PAIR_STATUS).toNat
  let c := ((List.range 6).foldl Chip.laDiscard c).dropFwJobs
  if c.halted then c else c.kaAbandon

/-- No standby is ready: the pair is fenced and a management restart follows, after a flush when the watchdog has expired (R414,
R439). -/
def Chip.pairRestart (c : Chip) (p : Nat) (watchdog : Bool) : Chip :=
  let c := c.setPair p 3
  let c := c.alert Sub.mgmt.n 0 p (c.word R.MGT_PAIR_STATUS).toNat
  let c := if watchdog then { c.seal with cow := { c.seal.cow with flushDue := true } } else c
  c.autoStart mgmtKind causeWatchdog

/-- A fault of the active pair, by its cause of R417. While a start is in progress or the boot ROM serves, a heavier response is in
force: the cause is ignored and recorded (R38, R429). (log entry 53, DEDUCED) -/
def Chip.pairFault (c : Chip) (cause : Nat) : Chip :=
  let p := c.rd F.MGT_PAIR_STATUS_active
  let c := c.wr F.MGT_PAIR_STATUS_last_cause cause
  if c.start.busy || c.safe || !(c.configured || c.halted) then
    (c.alert Sub.mgmt.n 0 p (c.word R.MGT_PAIR_STATUS).toNat).ignoreCause causeWatchdog
  else if c.pairState (1 - p) = 1 then c.takeOver p
  else c.pairRestart p (cause == 3)

/-- PAIR_FAULT: a lockstep mismatch (1) or an uncorrectable error of the pair's memory (2). -/
def execPairFault (ecc : Bool) (s : State) : Host.Outcome State Fault Refusal := s.act fun c => c.pairFault (if ecc then 2 else 1)

/-- PAIR_WATCHDOG_EXPIRY: the pair watchdog expires at 100 ms (3). -/
def execPairWatchdogExpiry (s : State) : Host.Outcome State Fault Refusal := s.act fun c => c.pairFault 3

/-- PAIR_STATE_CHECKPOINT: the standby's copy of firmware state is brought up to date; it differs from the active pair's in nothing
that the model holds, because every takeover continues from the state itself (R417). -/
def execPairStateCheckpoint (s : State) : Host.Outcome State Fault Refusal := s.act fun c => c

/-- PAIR_SYNC_COMPLETE: the fenced pair has passed its self-test and copied the state, or stays fenced until the next cold start
(R419). (log entry 53, DEDUCED) -/
def Chip.pairSynced (c : Chip) (passed : Bool) : Chip :=
  let p := 1 - c.rd F.MGT_PAIR_STATUS_active
  if c.pairState p != 3 || c.start.badPairs.contains p then c
  else
    let c := if passed then c.setPair p 1 else { c with start := { c.start with badPairs := c.start.badPairs ++ [p] } }
    c.record Sub.mgmt.n 0x11 (b2n (!passed)) p (c.word R.MGT_PAIR_STATUS).toNat

/-- PAIR_SYNC_COMPLETE (R419): A fenced pair that passed its self-test finishes copying state and becomes the standby, or stays fenced. -/
def execPairSyncComplete (passed : Bool) (s : State) : Host.Outcome State Fault Refusal := s.act fun c => c.pairSynced passed

/-! ## Reference clocks (R420, R421) -/

/-- Writes whether an input is good. -/
def Chip.setRef (c : Chip) (i : Nat) (good : Bool) : Chip := c.wrb (if i = 0 then F.MGT_REFCLK_in0_good else F.MGT_REFCLK_in1_good) good

/-- An input is good. -/
def Chip.refGood (c : Chip) (i : Nat) : Bool := c.flag (if i = 0 then F.MGT_REFCLK_in0_good else F.MGT_REFCLK_in1_good)

/-- An input is lost: every PLL switches to the other, or holds when both are lost. (log entry 53, DEDUCED) -/
def Chip.refLost (c : Chip) (i : Nat) : Chip :=
  let c := c.setRef i false
  if c.refGood (1 - i) then
    if c.rd F.MGT_REFCLK_selected != i then c
    else
      let c := (c.wr F.MGT_REFCLK_selected (1 - i)).sat F.MGT_REFCLK_switchovers 1
      c.alert Sub.mgmt.n 0x12 i (c.word R.MGT_REFCLK).toNat
  else if c.flag F.MGT_REFCLK_holdover then c
  else
    let c := c.wr F.MGT_REFCLK_holdover 1
    c.alert Sub.mgmt.n 0x13 i (c.word R.MGT_REFCLK).toNat

/-- REFCLK_LOSS. -/
def execRefclkLoss (input : Nat) (s : State) : Host.Outcome State Fault Refusal :=
  s.actOn (input < 2) fun c => if c.refGood input then c.refLost input else c

/-- A lost input has been good for 10 s: it becomes the standby, or is selected out of holdover. (log entry 53, DEDUCED) -/
def Chip.refBack (c : Chip) (i : Nat) : Chip :=
  let c := c.setRef i true
  if !c.flag F.MGT_REFCLK_holdover then c
  else
    let c := ((c.wr F.MGT_REFCLK_selected i).wr F.MGT_REFCLK_holdover 0).sat F.MGT_REFCLK_switchovers 1
    c.record Sub.mgmt.n 0x13 0 i (c.word R.MGT_REFCLK).toNat

/-- REFCLK_RECOVERED. -/
def execRefclkRecovered (input : Nat) (s : State) : Host.Outcome State Fault Refusal :=
  s.actOn (input < 2) fun c => if c.refGood input then c else c.refBack input

/-! ## Flash devices (R423) -/

/-- FLASH_DEVICE_FAIL: a program, an erase or a read-back has failed. -/
def execFlashDeviceFail (dev : Nat) (s : State) : Host.Outcome State Fault Refusal := s.actOn (dev < 2) fun c => c.flashFailed dev

/-- FLASH_RETRY: the device passes, every region is copied from the good device, whose copy erases each sector, and the mark is
cleared. (log entry 51, DEDUCED) -/
def Chip.flashBack (c : Chip) (d : Nat) : Chip :=
  let c := if !c.flashGood (1 - d) then c
    else
      let c := c.countErase d 0 512
      if d = 0 then { c with flash0 := c.flash1 } else { c with flash1 := c.flash0 }
  let c := c.wr (if d = 0 then F.MGT_FLASH_STATUS_dev0_failed else F.MGT_FLASH_STATUS_dev1_failed) 0
  let c := c.wr F.MGT_FLASH_STATUS_persist_blocked 0
  c.record Sub.mgmt.n 0x14 0 d (c.word R.MGT_FLASH_STATUS).toNat

/-- FLASH_RETRY (R423): The hourly retry of a failed flash device either restores it by copying every region or leaves it failed.
(log entry 53, DEDUCED) -/
def execFlashRetry (dev : Nat) (passed : Bool) (s : State) : Host.Outcome State Fault Refusal :=
  s.actOn (dev < 2) fun c => if c.firmware && passed && !c.flashGood dev then c.flashBack dev else c

/-! ## The SA store (R414, R422, R424) -/

/-- A corrected read of macro `m` of a pipeline's store. A macro that has yielded corrections at 16 addresses is marked failed; a
second one leaves words with two failed macros, and the part halts. (log entry 53, DEDUCED) -/
def Chip.saCorrected (c : Chip) (p m a : Nat) : Chip :=
  let c := c.sat (F.MGT_MACRO_CORR_corrected p) 1
  let k := 18 * p + m
  let as_ := Sparse.get [] c.data.saErrs k
  if as_.contains a || 16 ≤ as_.length then c
  else
    let new : List Nat := as_ ++ [a]
    let c := { c with data := { c.data with saErrs := Sparse.set [] c.data.saErrs k new } }
    if new.length < 16 then c
    else if c.flag (F.MGT_MACRO_CORR_macro_failed p) then c.enterHalt 3 0 false
    else (c.wr (F.MGT_MACRO_CORR_failed_macro p) m).wr (F.MGT_MACRO_CORR_macro_failed p) 1

/-- SA_STORE_SCRUB: the scrub of a pipeline's SA contexts. -/
def execSaStoreScrub (pipe : Nat) (r : SaScrub) (s : State) : Host.Outcome State Fault Refusal :=
  s.actOn (pipe < 4 && match r with
    | .corrected m _ => decide (m < 18)
    | _ => true) fun c =>
    match r with
    | .clean => c
    | .corrected m a => c.saCorrected pipe m a
    | .uncorrectable => c.enterHalt 3 0 false

/-! ## The recorder: checkpoints, flushes, reads (R438 to R440) -/

/-- REC_CHECKPOINT: a checkpoint record, then a SEAL. -/
def execRecCheckpoint (entry : Nat) (s : State) : Host.Outcome State Fault Refusal :=
  s.actOn (entry < 4096) fun c => c.fire entry 8 fun _ c => c.checkpoint

/-- The sequence of a record, without the bit that marks a SEAL. -/
def recSeq (r : Bytes) : Nat := le r 4 4 % 2 ^ 31

/-- The record is a SEAL. -/
def recIsSeal (r : Bytes) : Bool := bit (le r 4 4) 31

/-- The flush slot that the on-die ring makes, its header sealed (R439). (log entry 71, DESIGN CHOICE) -/
def Chip.flushSlot (c : Chip) : FlushSlot :=
  let ring := c.cow.ring
  let f : FlushSlot := { run := c.ao.run, firstSeq := recSeq (ring.headD []), lastSeq := recSeq (ring.getLast?.getD []),
                         cause := if c.halted then c.rd F.MGT_HALT_cause else 0, time := c.seconds, tag := [], records := ring }
  { f with tag := f.sealed c.keys.recKey }

/-- The whole on-die ring goes into the next flush slot, and the slot after it is erased; with both devices failed the flush is lost
and counted (R423, R439). (log entry 24, DEDUCED) -/
def Chip.recFlush (c : Chip) : Chip :=
  let c := c.seal
  let c := { c with cow := { c.cow with flushDue := false } }
  if c.persistBlocked then c.sat F.MGT_FLASH_STATUS_lost_writes 1
  else
    let k := c.rd F.MGT_REC_STATUS_next_slot
    let next := (k + 1) % 7
    let f := c.flushSlot
    let c := c.onFlash (fun d => { d with flush := Sparse.set none d.flush k (some f) })
    let c := (c.wr F.MGT_REC_STATUS_next_slot next).eraseFlush next
    let c := c.bump R.MGT_REC_FLUSHES
    c.record Sub.mgmt.n 0x18 0 k (c.word R.MGT_REC_STATUS).toNat

/-- RECORDER_FLUSH: the flush that a halt, an erase or the management watchdog has ordered is written. -/
def execRecorderFlush (s : State) : Host.Outcome State Fault Refusal := s.act fun c => if c.cow.flushDue then c.recFlush else c

/-- Where the chain of seals stands as the records of a place are read, oldest first (R437, R440). -/
structure SealChain where
  run     : Nat
  /-- The tag of the SEAL before, when the place holds it or the run begins here. -/
  prev    : Option Bytes
  /-- A SEAL of this run has failed. -/
  broken  : Bool := false
  pending : List Bytes := []
  /-- Statuses so far, oldest first: 0 VERIFIED, 1 UNSEALED, 2 FAILED, 3 when the SEAL before has left the place. -/
  done    : List Nat := []

/-- The tag that a SEAL over these records must have. -/
def sealTag (key : Bytes) (r prev : Bytes) (covered : List Bytes) : Bytes :=
  (Config.gmac (cowKey key "tag") (toBe (le r 0 4) 4 ++ toBe (le r 4 4) 4 ++ fill 4 0) (prev ++ covered.flatten) ++ fill 16 0).take 16

/-- Reads one record into the chain. -/
def SealChain.read (key : Bytes) (x : SealChain) (r : Bytes) : SealChain :=
  let start : Option Bytes := if recSeq r = 0 && !recIsSeal r then some (fill 16 0) else none
  let x := if le r 0 4 = x.run then x
    else { run := le r 0 4, prev := start, done := x.done ++ x.pending.map (fun _ => 1) }
  if !recIsSeal r then { x with pending := x.pending ++ [r] }
  else
    let st := match x.prev with
      | none => 3
      | some t =>
        if !x.broken && byteAt r 24 = x.pending.length && slice r 8 16 == sealTag key r t x.pending then 0 else 2
    { x with prev := some (slice r 8 16), broken := x.broken || st == 2, pending := [],
             done := x.done ++ x.pending.map (fun _ => st) ++ [st] }

/-- The statuses of the records of a place. (log entry 24, DEDUCED) -/
def sealStatuses (key : Bytes) (rs : List Bytes) : List Nat :=
  match rs with
  | [] => []
  | r :: _ =>
    let start : Option Bytes := if recSeq r = 0 && !recIsSeal r then some (fill 16 0) else none
    let x := rs.foldl (SealChain.read key) { run := le r 0 4, prev := start }
    x.done ++ x.pending.map (fun _ => 1)

/-- A record as REC_READ returns it: decrypted, unless it failed, and its status. (log entry 24, DEDUCED) -/
def recOut (key : Bytes) (r : Bytes) (st : Nat) : Bytes :=
  let ks := Config.ctr (cowKey key "enc") (toBe (le r 0 4) 4 ++ toBe (le r 4 4) 4 ++ fill 8 0) 24
  let body := if recIsSeal r || st = 2 then slice r 8 24 else xorBytes (slice r 8 24) ks
  slice r 0 8 ++ body ++ toLe st 4

/-- A position without a record: ABSENT. -/
def recAbsent : Bytes := fill 32 0 ++ toLe 3 4

/-- The records of a place (R440). While the vault is closed its area has no record to give (R431). (log entry 24, DEDUCED) -/
def Chip.recPlace (c : Chip) (place slot : Nat) : List Bytes :=
  if place = 0 then (if c.vaultOpen then c.cow.vault else []) ++ c.cow.ring
  else if place = 1 then ((Sparse.get none c.readFlash.flush slot).map (·.records)).getD []
  else c.ao.ring

/-- The positions that are asked for: the newest `count`, or those from a named record on. -/
def recChosen (l : List (Bytes × Nat)) (count run seq : Nat) : List (Option (Bytes × Nat)) :=
  if seq = 0xFFFFFFFF then
    List.replicate (count - l.length) none ++ (l.drop (l.length - count)).map some
  else
    let from_ := (l.dropWhile (fun e => !(le e.1 0 4 == run && le e.1 4 4 == seq))).take count
    from_.map some ++ List.replicate (count - from_.length) none

/-- The rule of REC_READ. Whether a SEAL verifies whose predecessor has left the place is not stated: it is a free value.
(log entry 24, DEDUCED) -/
def Chip.recRead (c : Chip) (place count slot run seq outLen : Nat) : Chip × Answer :=
  if 2 < place || count = 0 || 64 < count || (place = 1 && 6 < slot) then refuse c Code.range
  else if outLen < 36 * count then refuse c Code.length
  else
    let rs := c.recPlace place slot
    let (v, c) := c.freeNat 1
    let sts := (sealStatuses c.keys.recKey rs).map (fun st => if st = 3 then 2 * v else st)
    let out := ((recChosen (rs.zip sts) count run seq).map fun o => match o with
      | none => recAbsent
      | some (r, st) => recOut c.keys.recKey r st).flatten
    (c, { out := out })

/-- REC_READ: every state of the part serves it (R440, R462). -/
def execRecRead (h : Mb) (place count slot run seq : Nat) (s : State) : Host.Outcome State Fault Refusal :=
  s.act fun c => c.mbRun h { opcode := 0x0002, pf1 := true, safe := true, halt := true }
    fun c => c.recRead place count slot run seq h.outLen

end Sys2Proof.Machine
end

