-- ==== Sys2Proof/Machine/Registers.lean ====
section
/-! DEFINITION. Register accesses as a whole (R8 to R12, R443, R465 to R467): what a register shows, what a read and a write of one
dword do, and the telemetry window (R446, R447). -/

namespace Sys2Proof.Machine

/-! ## Fields that show the state of the part as it is now -/

/-- The index of the word at `a` in a run of `n` words `s` bytes apart. -/
def wordIx (a base n s : Nat) : Option Nat :=
  if base ≤ a && a < base + n * s && (a - base) % s == 0 then some ((a - base) / s) else none

/-- A word of TIM_NOW. -/
def Chip.nowWord (c : Chip) (w : Nat) : W32 :=
  let ns := c.ns
  BitVec.ofNat 32 (([c.time.now % nsUnit / 65536, ns % 1000000000, c.seconds, c.seconds / 2 ^ 32]).getD w 0)

/-- The level of a trigger output: active from an emitted pulse to the end of its width (R389). (log entry 21, DEDUCED) -/
def Chip.trigLevel (c : Chip) (i : Nat) : Bool :=
  let t := Sparse.get {} c.time.trig i
  let on := c.flag (F.TIM_TRIG_STATUS_running i)
  let last := if t.period = 0 then t.next else t.next - t.period * nsUnit
  let emitted := t.start != 0 && (if t.period = 0 then !on else t.start * nsUnit + t.period * nsUnit ≤ t.next)
  (emitted && last ≤ c.time.now && c.time.now < last + t.width * nsUnit) != t.activeLow

/-- PRT_PM_CH_DEFECT of the channel that PRT_PM_CTRL selects (R106, R107). (log entry 37, DEDUCED) -/
def Chip.chDefectWord (c : Chip) : W32 :=
  let ix := c.rd F.PRT_PM_CTRL_index
  let rx := c.data.chans.find? (fun h => h.sc == ix && !h.tx)
  let tx := c.data.chans.find? (fun h => h.sc == ix && h.tx)
  let (csf, nosa) := match rx with
    | none => (false, false)
    | some h => (c.flag (F.PRT_DEFECT_sf h.port),
        c.flag (F.PRT_STATUS_link_up h.port) && !((List.range h.count).any (fun a => (c.sa (h.base + a)).installed)))
  let rd := match tx with
    | none => false
    | some h => c.flag (F.PRT_DEFECT_rd_tx h.port)
  BitVec.ofNat 32 (if c.flag F.PRT_PM_CTRL_kind then b2n csf + 2 * b2n nosa + 4 * b2n rd else 0)

/-- SWC_Q_OCC: the stall of the port and whether it has outlasted egress_stall_us (R187). -/
def Chip.occWord (c : Chip) (q : Nat) : W32 :=
  let p := q / 8
  F.SWC_Q_OCC_refusing q |>.put ((F.SWC_Q_OCC_stalled q).put (c.word (R.SWC_Q_OCC q)) (b2n (c.stalled p))) (b2n ((c.port p).stallOut && c.stalled p))

/-- TMG_Q_SCHED: a linked frame is present, and the head is held by its tenant shaper (R199). -/
def Chip.schedWord (c : Chip) (q : Nat) : W32 :=
  let back := (c.queue q).frames != []
  let held := back && (c.headOf (q / 8) (q % 8)).isNone
  (F.TMG_Q_SCHED_head_held q).put ((F.TMG_Q_SCHED_backlogged q).put (c.word (R.TMG_Q_SCHED q)) (b2n back)) (b2n held)

/-- TMG_SHAPER_CFG and TMG_SHAPER_TOKENS (R203). -/
def Chip.shaperWord (c : Chip) (n w : Nat) : W32 :=
  let t := (c.shaper n).a
  if w = 1 then (F.TMG_SHAPER_CFG_holding n).put (c.word (R.TMG_SHAPER_CFG n)) (b2n (c.shaperOn n && t ≤ 0))
  else if w = 3 then BitVec.ofInt 32 (t / tokUnit)
  else c.word (R.TMG_SHAPER_RATE n + 4 * w)

/-- FLW_ENG_STATUS: an engine whose frame has met its terminal action is idle (R120). -/
def Chip.engWord (c : Chip) (e : Nat) : W32 :=
  if c.engState e = engRunning && (c.workOf e).isNone then (F.FLW_ENG_STATUS_state e).put (c.word (R.FLW_ENG_STATUS e)) engIdle
  else c.word (R.FLW_ENG_STATUS e)

/-- What a register shows. (log entry 62, DESIGN CHOICE) -/
def Chip.view (c : Chip) (a : Nat) : W32 :=
  if a = R.TMP_START_FAILS then c.syncFails.word a
  else if a = R.PRT_PM_CH_DEFECT then c.chDefectWord
  else if a = R.TIM_STATE then F.TIM_STATE_pps_in_present.put (c.word a) (b2n c.ppsPresent)
  else if a = R.VLT_MISMATCH then F.VLT_MISMATCH_count.put (c.word a) (min c.mismatchesNow 255)
  else if a = R.MGT_REC_STATUS then
    F.MGT_REC_STATUS_flush_busy.put (F.MGT_REC_STATUS_vault_open.put (c.word a) (b2n (c.flag F.MGT_REC_STATUS_vault_open && c.vaultOpen)))
      (b2n c.cow.flushDue)
  else match wordIx a R.TIM_NOW 4 4 with
  | some w => c.nowWord w
  | none => match wordIx a (R.TIM_TRIG_STATUS 0) 4 4 with
  | some i => (F.TIM_TRIG_STATUS_level i).put (c.word a) (b2n (c.trigLevel i))
  | none => match wordIx a (R.SWC_Q_OCC 0) 1152 16 with
  | some q => c.occWord q
  | none => match wordIx a (R.TMG_Q_SCHED 0) 1152 16 with
  | some q => c.schedWord q
  | none => match wordIx a (R.TMG_SHAPER_RATE 0) 16960 4 with
  | some k => c.shaperWord (k / 4) (k % 4)
  | none => match wordIx a (R.FLW_ENG_STATUS 0) 208 4 with
  | some e => c.engWord e
  | none => c.word a

/-! ## Reads (R9, R11, R12, R443) -/

/-- The lowest set bit of a mask. -/
def lowBit (m : W32) : Nat := ((List.range 32).find? (fun i => m.getLsbD i)).getD 0

/-- What a read leaves in the RC fields of a word: their reset values, but a queue's depth mark restarts from its occupancy (R214). -/
def Chip.restartValue (c : Chip) (a : Nat) (d : RegDesc) : W32 :=
  match wordIx a (R.TMG_Q_HWM_DEPTH 0) 1152 16 with
  | some q => BitVec.ofNat 32 (c.rd (F.SWC_Q_OCC_occ q))
  | none => d.reset

/-- A read clears the RC fields of a word, which take their reset values; what was cleared stays in the telemetry total (R446).
(log entry 22, DEDUCED) -/
def Chip.clearRc (c : Chip) (a : Nat) (d : RegDesc) : Chip :=
  if d.rc = 0 then c
  else
    let w := c.word a
    let n := (w &&& d.rc).toNat / 2 ^ lowBit d.rc
    let t := c.tele.totals
    let c := { c with tele := { c.tele with totals := Sparse.set 0 t a (Sparse.get 0 t a + n) } }
    c.setWord a ((w &&& ~~~d.rc) ||| (c.restartValue a d &&& d.rc))

/-- The place of a word, 0 to 3, in a chained pair of an engine's counters (R478). -/
def Chip.chained (c : Chip) (a : Nat) : Option Nat :=
  let e := (a - 0x50000) / 128
  let off := (a - 0x50000) % 128
  if 0x50000 ≤ a && e < 208 && 32 ≤ off && off < 80 && off % 4 == 0 && bit (c.rd (F.HLT_PC_SEL_chain e)) ((off - 32) / 16) then
    some ((off - 32) % 16 / 4)
  else none

/-- A permitted read of one dword: the value, and the part after it. The lowest word of a wide value latches the others for the initiator;
a higher word reads as the initiator's shadow. -/
def Chip.readWord (c : Chip) (init a : Nat) : W32 × Chip :=
  match descOf a with
  | none => (0, c)
  | some (d, w) =>
    if a = R.PRT_PM_TCA then c.tcaRead
    else if w != 0 then (c.shadow init a, c)
    else if (c.chained a).isSome then
      if c.chained a == some 0 then (c.view a, c.latch init (a + 4) 3 [c.view (a + 4), c.view (a + 8), c.view (a + 12)])
      else (c.shadow init a, c)
    else match wordIx a (R.TIM_CAP 0) 5 16 with
    | some i => c.captureRead init i
    | none =>
      let more := (List.range (d.wide - 1)).map (fun k => c.view (a + 4 + 4 * k))
      (c.view a, (c.latch init (a + 4) (d.wide - 1) more).clearRc a d)

/-- A read of one dword whose response arrives with a bus code: on a mismatch the initiator takes zero data with an error, and BUS_CODE
fires (R400). -/
def Chip.codedRead (c : Chip) (init a : Nat) (code : Option Byte) (f : Chip → W32 × Chip) : Chip :=
  if c.served init a && c.allowed init a false && !codeGood code a init 0 (f c).1 then
    ((f c).2.emit (.regRead init [0] true)).fireSource (plainDetection 15 0)
  else c.hostRead init a f

/-- COUNTER_LOW_READ (R12). -/
def execCounterLowRead (init : Nat) (r : CodedRead) (s : State) : Host.Outcome State Fault Refusal :=
  s.act fun c => c.codedRead init r.addr r.code (fun c => c.readWord init r.addr)

/-- Registers whose RC fields mark the highest value seen, which an event raises and does not increment. (log entry 22, DEDUCED) -/
def rcMark (a : Nat) : Bool :=
  a == R.SWC_HEADROOM || a == R.TIM_WHEEL || 0x80000 ≤ a || (0x34000 ≤ a && a < 0x37000) || (0x14000 ≤ a && a < 0x15000) ||
    (0x20100 ≤ a && a < 0x20180)

/-- Registers whose RC fields hold the oldest entry of a list or the least slack: no event adds to them. (log entry 22, DEDUCED) -/
def rcHeld (a : Nat) : Bool := a == R.PRT_PM_TCA || (R.ACU_ERR 0 ≤ a && a ≤ R.ACU_ERR 2) || (R.HLT_AGE_REPL 0 ≤ a && a ≤ R.HLT_AGE_REPL 31)

/-- The fields of a mask, lowest first: runs of set bits from bit `i` on. -/
def maskRuns (m : W32) : Nat → Nat → List (Nat × Nat)
  | 0, _ => []
  | k + 1, i =>
    let l := maskRuns m k (i + 1)
    if !m.getLsbD i then l
    else match l with
      | (lo, w) :: rest => if lo = i + 1 then (i, w + 1) :: rest else (i, 1) :: l
      | [] => [(i, 1)]

/-- The RC fields of a register that events raise or increment, lowest first; FLW_CL_ECC has two counts side by side. -/
def rcFields (a : Nat) (d : RegDesc) : List Fld :=
  if rcHeld a then []
  else if (wordIx a (R.FLW_CL_ECC 0) 16 256).isSome then [⟨a, 0, 16⟩, ⟨a, 16, 16⟩]
  else (maskRuns d.rc 32 0).map (fun r => ⟨a, r.1, r.2⟩)

/-- Events of the same clock are carried into the RC fields of a register, lowest first, after their clear: into a count, how many there
were, and into a mark, the value (R11, R214). -/
def Chip.carryRc (c : Chip) (a : Nat) (l : List Nat) : Chip :=
  match descOf a with
  | none => c
  | some (d, _) => ((rcFields a d).zip l).foldl (fun c e => if rcMark a then c.mark e.1 e.2 else c.sat e.1 e.2) c

/-- READ_CLEAR (R11): the events of `sameClock`, one entry for each RC field, fall in the clock of the read. -/
def execReadClear (init addr : Nat) (sameClock : List Nat) (s : State) : Host.Outcome State Fault Refusal :=
  s.act fun c => c.hostRead init addr fun c =>
    let (w, c) := c.readWord init addr
    (w, c.carryRc addr sameClock)

/-! ## Writes (R8 to R10, R443) -/

/-- A word after a write of a register that has no effect of its own. -/
def RegDesc.written (d : RegDesc) (old v : W32) : W32 :=
  let m := d.rw ||| d.rws
  ((old &&& ~~~m) ||| (v &&& m)) &&& ~~~(v &&& d.w1c)

/-- A write of a vector's control word sends the message that was pending when it unmasks the vector (log entry 11, PRESUMED). -/
def Chip.writeMsix (c : Chip) (v : Nat) (value : W32) : Chip :=
  let c := c.wr (F.HST_MSIX_CTRL_mask v) (bits value.toNat 0 1)
  let a := R.HST_MSIX_PBA (v / 32)
  if bit value.toNat 0 || !bit (c.word a).toNat (v % 32) then c
  else (c.setWord a (c.word a &&& ~~~BitVec.ofNat 32 (2 ^ (v % 32)))).msix v

/-- The registers whose writes have effects of their own, by address. -/
def Chip.writeSpecial (c : Chip) (init a : Nat) (value : W32) : Option Chip :=
  if a = R.HST_MB_PROD 0 then some (c.mbProduce 0 value)
  else if a = R.HST_MB_PROD 1 then some (c.mbProduce 1 value)
  else if a = R.HST_MB_CFG 0 then some (c.mbConfig 0 value)
  else if a = R.HST_MB_CFG 1 then some (c.mbConfig 1 value)
  else if a = R.TMP_LATCHED then some (c.clearLatched value)
  else if a = R.TMP_LOG_SEL then some (c.logCopy value)
  else if a = R.PRT_PM_CTRL then some (c.binCopy value)
  else if a = R.FLW_CNT_SEL then some (c.counterCopy value)
  else if a = R.FWD_SRCH_CTRL then some (c.search value)
  else if a = R.SWC_MC_SEL then some (c.groupCopy value)
  else if a = R.CPH_SA_SEL then some (c.saCopy value)
  else if a = R.SAS_SC_SEL then some (c.scCopy value)
  else if a = R.KEY_SLOT_SEL then some (c.slotCopy value)
  else if a = R.HLT_PC_GLOBAL then
    let c := c.wr F.HLT_PC_GLOBAL_run (bits value.toNat 0 1)
    some (if bit value.toNat 1 then (List.range 208).foldl (fun c e => c.pcZero e) c else c)
  else ((List.range 8).find? (fun r => a == R.KEY_LA_PROD r)).map (fun r => c.laProduce init r value)
    |>.or (((List.range 8).find? (fun r => R.KEY_LA_BASE r ≤ a && a < R.KEY_LA_CFG r && a % 4 == 0)).map (fun r => c.laBase init r a value))
    |>.or (((List.range 8).find? (fun r => a == R.KEY_LA_CFG r)).map (fun r => c.laConfig init r value))
    |>.or ((wordIx a (R.HST_MSIX_CTRL 0) 64 16).map (fun v => c.writeMsix v value))

/-- A permitted write of one dword; an address that names no register ignores it. -/
def Chip.writeWord (c : Chip) (init a : Nat) (value : W32) : Chip :=
  match descOf a with
  | none => c
  | some (d, _) =>
    match c.writeSpecial init a value with
    | some c => c
    | none =>
      let c := match wordIx a (R.HLT_PC_FILT 0) 208 128 with
        | some e => if bit value.toNat 5 then c.pcZero e else c
        | none => c
      c.setWord a (d.written (c.word a) value)

/-- A write of consecutive dwords, in ascending order: one whose byte enables are not all set is dropped (R443), and one whose bus code
disagrees is not performed and fires BUS_CODE (R400). -/
def Chip.writeDwords (init start : Nat) : Chip → Nat → List WDword → Chip
  | c, _, [] => c
  | c, a, d :: ds =>
    let c := if !codeGood d.code a init (a / 32 - start / 32) d.value then c.fireSource (plainDetection 15 0)
      else if !d.enabled then c
      else c.hostWrite init a (fun c => c.writeWord init a d.value)
    Chip.writeDwords init start c (a + 4) ds

/-- REGISTER_WRITE (R443). -/
def execRegisterWrite (init addr : Nat) (dwords : List WDword) (s : State) : Host.Outcome State Fault Refusal :=
  s.act fun c => Chip.writeDwords init addr c addr dwords

/-- WRITE_ONE_CLEAR: bits that the part sets in the same clock remain set (R10). -/
def execWriteOneClear (init addr : Nat) (value setNow : W32) (s : State) : Host.Outcome State Fault Refusal :=
  s.act fun c => c.hostWrite init addr fun c =>
    let m := ((descOf addr).map (fun e => e.1.w1c)).getD 0
    let c := c.writeWord init addr value
    c.setWord addr (c.word addr ||| (setNow &&& m))

/-- BAR2_WRITE: dropped, and answered as an Unsupported Request (R443). -/
def execBar2Write (fn : Nat) (s : State) : Host.Outcome State Fault Refusal := s.actOn (fn ≤ 1) fun c => c.emit (.unsupported fn)

/-! ## The telemetry window (R446, R447) -/

/-- telemetry_enable and telemetry_period_ms (R475). -/
def Chip.teleEnable (c : Chip) : Bool := bit (c.cfgNat T.hostConfig 1 1 7) 2
def Chip.telePeriod (c : Chip) : Nat := c.cfgNat T.hostConfig 2 2 100

/-- A dword of BAR2 as the host reads it (R442, R447). -/
def Chip.bar2 (c : Chip) (off : Nat) : W32 := if c.start.endpoint && c.teleEnable then Sparse.get 0 c.tele.words (off / 4) else 0

/-- Writes `k` dwords of the window. -/
def Chip.telePut (c : Chip) (off : Nat) : Nat → Nat → Chip
  | 0, _ => c
  | k + 1, v =>
    let c := { c with tele := { c.tele with words := Sparse.set 0 c.tele.words (off / 4) (BitVec.ofNat 32 v) } }
    c.telePut (off + 4) k (v / 2 ^ 32)

/-- The words of a counter. -/
def wideOf (a : Nat) : Nat := ((descOf a).map (fun e => e.1.wide)).getD 1

/-- The running total of a counter, which a wrap does not turn back, with the part that remembers it. (log entry 55, DEDUCED) -/
def Chip.teleTotal (c : Chip) (off a : Nat) : Nat × Chip :=
  let k := wideOf a
  let old := (Sparse.get 0 c.tele.words (off / 4)).toNat + 2 ^ 32 * (Sparse.get 0 c.tele.words (off / 4 + 1)).toNat
  let base := Sparse.get 0 c.tele.totals a
  let base := if k = 1 && base + c.num a k < old then base + 2 ^ 32 else base
  ((base + c.num a k) % 2 ^ 64, { c with tele := { c.tele with totals := Sparse.set 0 c.tele.totals a base } })

/-- Copies a counter as a 64-bit total. -/
def Chip.teleCounter (c : Chip) (off a : Nat) : Chip :=
  let (v, c) := c.teleTotal off a
  c.telePut off 2 v

/-- Copies a list of counters, eight bytes each. -/
def Chip.teleCounters (off : Nat) : List Nat → Chip → Chip
  | [], c => c
  | a :: as_, c => Chip.teleCounters (off + 8) as_ (c.teleCounter off a)

/-- Consecutive registers of one word. -/
def regRun (a n : Nat) : List Nat := (List.range n).map (fun k => a + 4 * k)

/-- The counters of a FLW window (R446). -/
def flwCounters (w : Nat) : List Nat := R.FLW_PD_FRAMES w :: regRun (R.FLW_OVERRUN w) 6

/-- The counters of a port's windows, in offset order. -/
def portCounters (p : Nat) : List Nat :=
  regRun (R.PRT_DEN_CORR p) 6 ++ [R.PRT_FEC_CORR p, R.PRT_FEC_UNCORR p] ++
    (if p < 96 then flwCounters (2 * p) ++ flwCounters (2 * p + 1) ++ regRun (R.CPH_RX_UNTAGGED p) 13 else [])

/-- PRT_STATUS as the window holds it: link_downs is the running total, in its own width. (log entry 43, DEDUCED) -/
def Chip.telePort (c : Chip) (p : Nat) : W32 :=
  let a := R.PRT_STATUS p
  (F.PRT_STATUS_link_downs p).put (c.view a) (Sparse.get 0 c.tele.totals a + c.rd (F.PRT_STATUS_link_downs p))

/-- The counters of a pipeline's windows, in the order FWD, SWC, CPH, SAS. -/
def pipeCounters (k : Nat) : List Nat :=
  regRun (R.FWD_LEARN k) 19 ++ regRun (R.SWC_HEADROOM_DROP k) 9 ++ [R.CPH_CAP_DROP k] ++ regRun (R.SAS_TX_NOSA k) 8

/-- Clears the dwords of a range of the window, for a region whose entries come and go. -/
def Chip.teleClear (c : Chip) (lo hi : Nat) : Chip :=
  { c with tele := { c.tele with words := c.tele.words.filter (fun e => e.1 < lo / 4 || hi / 4 ≤ e.1) } }

/-- Copies bytes into the window. -/
def Chip.teleBytes (c : Chip) (off : Nat) (b : Bytes) : Chip := c.telePut off (b.length / 4) (leNat b)

/-- Copies the entries of a region (R446). -/
def Chip.teleRegion (c : Chip) (r : Nat) : Chip :=
  if r = 1 then
    (List.range 144).foldl (fun c p =>
      let off := 0x1000 + 512 * p
      let c := (c.telePut off 1 (c.view (R.PRT_CFG p)).toNat).telePut (off + 4) 1 (c.telePort p).toNat
      let c := (c.telePut (off + 8) 1 (c.view (R.PRT_DEFECT p)).toNat).telePut (off + 12) 1 (c.view (R.PRT_DEN_STATUS p)).toNat
      Chip.teleCounters (off + 16) (portCounters p) c) c
  else if r = 2 then
    (List.range 1152).foldl (fun c q =>
      let off := 0x20000 + 32 * q
      let c := (c.telePut off 1 (c.view (R.SWC_Q_OCC q)).toNat).telePut (off + 4) 1 (c.view (R.TMG_Q_SCHED q)).toNat
      Chip.teleCounters (off + 8) [R.SWC_Q_DROP q, R.SWC_Q_DROP_B q, R.TMG_Q_TX q] c) c
  else if r = 3 then (List.range 4).foldl (fun c k => Chip.teleCounters (0x30000 + 1024 * k) (pipeCounters k) c) c
  else if r = 4 then
    (List.range 16960).foldl (fun c k => c.telePut (0x40000 + 4 * k) 1 (c.view (R.TMG_SHAPER_RATE 0 + 4 * k)).toNat) c
  else if r = 5 then
    (List.range 8192).foldl (fun c m =>
      let off := 0x60000 + 32 * m
      Chip.teleCounters (off + 8) [R.TMG_POL_GREEN m, R.TMG_POL_YELLOW m, R.TMG_POL_RED m]
        (c.telePut off 1 (c.view (R.TMG_POL_MODE m)).toNat)) c
  else if r = 6 then
    c.data.chans.foldl (fun c h =>
      let off := 0x100000 + 32 * h.sc
      let c := c.telePut off 2 (c.scStatusWord h.sc)
      (c.telePut (off + 8) 2 (c.scRun h.sc).epoch).telePut (off + 16) 2 (c.scSkip h.sc)) (c.teleClear 0x100000 0x300000)
  else if r = 7 then
    c.data.sas.foldl (fun c e =>
      let off := 0x400000 + 64 * e.1
      let c := c.telePut off 1 (c.saStatusWord e.1)
      (List.range 6).foldl (fun c k => c.telePut (off + 16 + 8 * k) 2 (e.2.data.getD k 0)) c) (c.teleClear 0x400000 0xC00000)
  else if r = 8 then
    let put (c : Chip) (port : Bool) (e : Nat) : Chip := match c.binOf e 0 with
      | none => c
      | some b => c.teleBytes (0xC00000 + 48 * e) (b.entry port true)
    let c := (List.range 144).foldl (fun c p => put c true p) (c.teleClear 0xC00000 0x1000000)
    (c.data.chans.filter (fun h => !h.tx)).foldl (fun c h => put c false (scEntity h.sc)) c
  else c

/-- Entries of each region; region 0 is the header. -/
def teleEntries : List Nat := [9, 144, 1152, 4, 4240, 8192, 65536, 131072, 65680]

/-- Refreshes are paused from step 1 to step 23 of a warm start (R447). -/
def Chip.telePaused (c : Chip) : Bool := c.warmHeld

/-- A refresh of a region: its generation rises by one before and by one after (R447). (log entry 55, DEDUCED) -/
def Chip.teleRefresh (c : Chip) (r : Nat) : Chip :=
  if !c.start.endpoint || !c.teleEnable || c.telePaused then c
  else
    let off := 32 * r
    let gen := (Sparse.get 0 c.tele.words (off / 4)).toNat + 2 ^ 32 * (Sparse.get 0 c.tele.words (off / 4 + 1)).toNat
    let c := (c.telePut off 2 (gen + 2)).telePut (off + 8) 2 c.ns
    let c := (c.telePut (off + 16) 1 c.telePeriod).telePut (off + 20) 1 (teleEntries.getD r 0)
    c.teleRegion r

/-- TELEMETRY_REFRESH. -/
def execTelemetryRefresh (region : Nat) (s : State) : Host.Outcome State Fault Refusal := s.actOn (region ≤ 8) fun c => c.teleRefresh region

end Sys2Proof.Machine
end

