-- ==== Sys2Proof/Machine/HostPort.lean ====
section
/-! DEFINITION. The host and the debug port: links and departures (R442, R463, R464, R499), the commands of the mailbox that no other
chapter owns (R452, R453, R460, R469, R314), and the register accesses of the debug port (R474). -/

namespace Sys2Proof.Machine

/-! ## The link (R441, R442, R463) -/

/-- PCIE_LINK_UP: the link trains, from step 3 of a cold start on, and the host sets Bus Master Enable of the functions. With
STRAP_PCIE_EN low or STRAP_TEST high it never trains (R504). (log entry 55, DEDUCED) -/
def execPcieLinkUp (width speed : Nat) (pf0 pf1 : Bool) (s : State) : Host.Outcome State Fault Refusal :=
  s.act fun c =>
    let early := c.start.busy && c.rd F.MGT_START_STATUS_start_kind == coldKind && c.start.todo.contains 3
    if early || !c.flag F.MGT_STRAPS_pcie_en || c.flag F.MGT_STRAPS_test || width = 0 || 8 < width || speed = 0 || 5 < speed then c
    else
      let c := ((c.wr F.HST_LINK_link_up 1).wr F.HST_LINK_width width).wr F.HST_LINK_speed speed
      (c.wrb F.HST_LINK_pf0_bme pf0).wrb F.HST_LINK_pf1_bme (pf1 && c.flag F.HST_LINK_pf1_present)

/-! ## Departures (R464) -/

/-- The configuration space of a function is reset: its vectors are masked and empty (log entry 11, PRESUMED). -/
def Chip.resetFunction (c : Chip) (fn : Nat) : Chip :=
  if fn != 0 then c
  else
    let c := (List.range 64).foldl (fun c v =>
      (List.range 3).foldl (fun c w => c.setWord (R.HST_MSIX_TABLE v w) 0) (c.wr (F.HST_MSIX_CTRL_mask v) 1)) c
    (c.setWord (R.HST_MSIX_PBA 0) 0).setWord (R.HST_MSIX_PBA 1) 0

/-- What a departure does to one function: its mailbox stops with indices zero, replies of what has started are discarded, PF0's
lookaside rings stop, and its public-key jobs are discarded. (log entry 55, DEDUCED) -/
def Chip.depart (c : Chip) (fn : Nat) : Chip :=
  let c := c.wr (if fn = 0 then F.HST_LINK_pf0_bme else F.HST_LINK_pf1_bme) 0
  let c := (c.wr (F.HST_MB_CFG_enable fn) 0).mbClear fn
  let m := c.mb fn
  let gone : List LongCmd := m.longs.map (fun l => { l with reply := { l.reply with drop := true } })
  let c := ((c.setMb fn { m with longs := gone }).syncMb fn).dropShadow (fn + 2)
  if fn != 0 then c
  else
    let stop (c : Chip) (r : Nat) : Chip := ((c.laDiscard r).wr (F.KEY_LA_CFG_enable r) 0).laSync r
    ((stop c 6).pkeDepart |> (stop · 7)).beginOrdered

/-- The functions that an event touches, when it takes place. (log entry 18, DEDUCED) -/
def Chip.departing (c : Chip) : Departure → List Nat
  | .linkDown | .hotReset | .perst => if c.flag F.HST_LINK_link_up then [0, 1] else []
  | .flr fn => if c.flag F.HST_LINK_link_up && (fn == 0 || (fn == 1 && c.flag F.HST_LINK_pf1_present)) then [fn] else []
  | .busMasterClear fn => if (fn == 0 && c.flag F.HST_LINK_pf0_bme) || (fn == 1 && c.flag F.HST_LINK_pf1_bme) then [fn] else []

/-- An event of R464. The link is down after those that take it down. (log entry 55, DEDUCED) -/
def Chip.departure (c : Chip) (d : Departure) : Chip :=
  let fns := c.departing d
  if fns = [] then c
  else
    let c := c.sat F.HST_LINK_departures 1
    let c := if fns.length < 2 then c else ((c.wr F.HST_LINK_link_up 0).wr F.HST_LINK_width 0).wr F.HST_LINK_speed 0
    let c := match d with
      | .busMasterClear _ => c
      | _ => fns.foldl Chip.resetFunction c
    fns.foldl Chip.depart c

/-- HOST_DEPARTURE. -/
def execHostDeparture (d : Departure) (s : State) : Host.Outcome State Fault Refusal := s.act fun c => c.departure d

/-- PCIE_PERST: only the endpoint is reset (R499). -/
def execPciePerst (s : State) : Host.Outcome State Fault Refusal := s.act fun c => c.departure .perst

/-! ## Long commands (R452) -/

/-- What a long command waits for has come. -/
def Chip.longReady (c : Chip) : LongWait → Bool
  | .ready => true
  | .journal => false
  | .rekey => !c.flag F.VLT_STATUS_flush_active
  | .epoch sc e => e ≤ (c.scRun sc).epoch
  | .linkRekey _ => false

/-- LONG_COMMAND_DONE: a long command that has completed is replied, and a start that its reply held back begins. -/
def Chip.longComplete (c : Chip) (fn seq : Nat) : Chip :=
  match (c.mb fn).longs.find? (fun l => l.reply.seq == seq) with
  | none => c
  | some l =>
    if !c.mbServed fn || !c.longReady l.wait then c
    else
      let (code, result) := l.reply.answer.getD (Code.ok, 0)
      (c.longDone fn seq code result l.reply.out).beginOrdered

/-- LONG_COMMAND_DONE (R452): A long command completes and its reply is written. -/
def execLongCommandDone (fn seq : Nat) (s : State) : Host.Outcome State Fault Refusal := s.actOn (fn ≤ 1) fun c => c.longComplete fn seq

/-! ## Status commands (R453, R460) -/

/-- NOP: its reply carries the attention status. -/
def execNop (h : Mb) (s : State) : Host.Outcome State Fault Refusal :=
  s.act fun c => c.mbRun h { opcode := 0x0000, pf1 := true, safe := true, halt := true } fun c => (c, {})

/-- The registers of STATUS_READ, in order. -/
def statusRegs : List Nat :=
  [R.MGT_START_STATUS, R.MGT_START_CAUSE, R.MGT_SLOT_STATUS 0, R.MGT_SLOT_STATUS 1, R.MGT_SLOT_SEQ 0, R.MGT_SLOT_SEQ 1, R.TMP_START_FAILS,
   R.MGT_HALT, R.MGT_PAIR_STATUS, R.KEY_STATUS, R.TMP_STATUS, R.VLT_STATUS, R.TIM_STATE, R.MGT_FLASH_STATUS, R.MGT_REC_RUN, R.HST_ATTN]

/-- Reads registers as firmware does, RC effects included. -/
def Chip.readRegs : List Nat → Chip → Bytes × Chip
  | [], c => ([], c)
  | a :: as_, c =>
    let (w, c) := c.readWord 0 a
    let (out, c) := Chip.readRegs as_ c
    (toLe w.toNat 4 ++ out, c)

/-- STATUS_READ. (log entry 58, DEDUCED) -/
def execStatusRead (h : Mb) (s : State) : Host.Outcome State Fault Refusal :=
  s.act fun c => c.mbRun h { opcode := 0x0001, pf1 := true, safe := true, halt := true, outLen := 64 } fun c =>
    let (out, c) := Chip.readRegs statusRegs c
    (c, { out := out })

/-! ## ACU_WRITE (R469) -/

/-- The part with another region in a unit. -/
def Chip.setRegion (c : Chip) (u r sizeLog2 sub perm base : Nat) : Chip :=
  let c := (c.wr (F.ACU_REGION_BASE_base u r) base).wr (F.ACU_REGION_CFG_size_log2 u r) sizeLog2
  (c.wr (F.ACU_REGION_CFG_sub_disable u r) sub).wr (F.ACU_REGION_CFG_perm u r) perm

/-- A block of 256 bytes would gain read, write or record-off. (log entry 69, DEDUCED) -/
def Chip.widens (old new : Chip) (u k : Nat) : Bool :=
  let a := old.acuPerm u (256 * k)
  let b := new.acuPerm u (256 * k)
  (bit b 0 && !bit a 0) || (bit b 1 && !bit a 1) || (bit a 2 && !bit b 2)

/-- A region of R466. -/
def regionOk (sizeLog2 sub perm base : Nat) : Bool :=
  sub < 256 && perm < 8 && (sizeLog2 == 0 || (11 ≤ sizeLog2 && sizeLog2 ≤ 20 && base % 2 ^ sizeLog2 == 0 && base + 2 ^ sizeLog2 ≤ 2 ^ 20))

/-- The rule of ACU_WRITE. (log entry 58, DEDUCED) (log entry 69, DEDUCED) -/
def Chip.acuWrite (c : Chip) (u r sizeLog2 sub perm base : Nat) : Chip × Answer :=
  if 2 < u || 15 < r || !regionOk sizeLog2 sub perm base then refuse c Code.range
  else
    let new := c.setRegion u r sizeLog2 sub perm base
    if (List.range 4096).any (fun k => c.widens new u k) then refuse c Code.denied
    else (new.wr (F.ACU_STATUS_narrowed u) 1, {})

/-- ACU_WRITE (R469): The command narrows one region of one access check unit, refusing any change that widens. -/
def execAcuWrite (h : Mb) (unit region sizeLog2 subDisable perm base : Nat) (s : State) : Host.Outcome State Fault Refusal :=
  s.act fun c => c.mbRun h { opcode := 0x0006 } fun c => c.acuWrite unit region sizeLog2 subDisable perm base

/-! ## ATTEST (R314) -/

/-- The program in force of a cluster when an overlay has replaced the image's (R149). -/
def Chip.overlayOf (c : Chip) (k : Nat) : Option Bytes :=
  let o := (Sparse.get ({} : Cluster) c.data.clusters k).overlay
  if o = [] then none else some o

/-- ATTEST commands that wait, in both mailboxes. -/
def Chip.attests (c : Chip) : Nat := ((c.mb0.longs ++ c.mb1.longs).filter (fun l => l.reply.opcode == 0x0406)).length

/-- The rule of ATTEST. (log entry 58, DEDUCED) -/
def Chip.attest (c : Chip) (nonce : Bytes) (nonceLen outLen : Nat) : Chip × Answer :=
  if nonceLen < 16 || 64 < nonceLen then refuse c Code.length
  else if 4 ≤ c.attests then refuse c Code.busy
  else if !c.pkeOk then refuse c Code.fault
  else
    let payload := c.attestPayload c.overlayOf ((nonce ++ fill 64 0).take nonceLen)
    let (rnd, x) := c.random signRnd
    let (st, jobs) := x.attestSign payload rnd
    let x := x.fwJobs none jobs
    match st with
    | none => refuse x Code.fault
    | some st => if outLen < st.length then refuse c Code.length else (x, { out := st })

/-- ATTEST (R314): The command produces a signed Coalmina statement over the verifier's nonce. -/
def execAttest (h : Mb) (nonceLen : Nat) (nonce : Bytes) (s : State) : Host.Outcome State Fault Refusal :=
  s.act fun c => c.mbRun h { opcode := 0x0406, long := true, pf1 := true, halt := true, safe := c.start.blank } fun c => c.attest nonce nonceLen h.outLen

/-! ## DBG_ACCESS (R474) -/

/-- One access through ACU2: its data, and whether it was denied. (log entry 56, DESIGN CHOICE) -/
def Chip.debugAccess (c : Chip) (a : Nat) (write : Bool) (v : W32) : Nat × Bool × Chip :=
  if !c.allowed 4 a write then (if write then v.toNat else 0, true, c.deny 4 a write)
  else if write then (v.toNat, false, c.writeWord 4 a v)
  else
    let (w, c) := c.readWord 4 a
    (w.toNat, false, c)

/-- DBG_ACCESS: the capture holds the data and error of the access before; what it holds in the places of the address and of the write
bit is not stated. (log entry 56, DESIGN CHOICE) -/
def execDbgAccess (scan : Nat) (s : State) : Host.Outcome State Fault Refusal :=
  s.act fun c =>
    let (v, c) := c.freeNat 19
    let c := c.emit (.capture (toLe (c.dbg.data + 2 ^ 32 * v + 2 ^ 51 * b2n c.dbg.error) 7))
    let (data, error, c) := c.debugAccess (4 * bits scan 32 18) (bit scan 50) (BitVec.ofNat 32 scan)
    { c with dbg := { c.dbg with data := data, error := error } }

end Sys2Proof.Machine
end

