-- ==== Sys2Proof/Machine/Clock.lean ====
section
/-! DEFINITION. The passing of time: one cycle of the 1.6 GHz clock (R371, R372, R393), which passes when no command waits (log entry 1, DESIGN CHOICE). -/

namespace Sys2Proof.Machine

/-- A cycle at the nominal rate, 0.625 ns, in the units of the time base. (log entry 1, DESIGN CHOICE) -/
def nominalCycle : Nat := 0xA0000000

/-- The time base advances by its increment; it holds 48 bits of seconds (R371). (log entry 1, DESIGN CHOICE) -/
def Time.tick (t : Time) : Time :=
  if t.running then { t with now := (t.now + t.incr) % (2 ^ 48 * 1000000000 * nsUnit) } else t

/-- The always-on timer passes a whole microsecond in this cycle. -/
def AlwaysOn.usEnds (x : AlwaysOn) : Bool := x.timer / (1000 * nsUnit) != (x.timer + nominalCycle) / (1000 * nsUnit)

/-- One cycle. The real-time counter and the timer of the always-on domain run on main power or on the cell
(R393); the mesh generators step once in a microsecond of main power (R398).
(log entry 1, DESIGN CHOICE) (log entry 61, DESIGN CHOICE) -/
def Chip.tick (c : Chip) : Chip :=
  if c.power then
    let mesh := if c.ao.usEnds then c.ao.mesh.map meshStep else c.ao.mesh
    let ao := { c.ao with rtc := c.ao.rtc + nominalCycle, timer := c.ao.timer + nominalCycle, mesh := mesh }
    { c with ao := ao, time := c.time.tick, cycle := c.cycle + 1 }.pcTick
  else if c.ao.cell then { c with ao := { c.ao with rtc := c.ao.rtc + nominalCycle, timer := c.ao.timer + nominalCycle } }
  else c

end Sys2Proof.Machine
end

