-- ==== Sys2Proof/Machine/Dispatch.lean ====
section
/-! DEFINITION. The meaning of every command: one arm for each constructor of Instr. -/

namespace Sys2Proof.Machine

def exec (i : Instr) (s : State) : Host.Outcome State Fault Refusal :=
  match i with
  | .powerOn straps ref0 ref1 resetHigh railsOk => Sys2Proof.Machine.execPowerOn straps ref0 ref1 resetHigh railsOk s
  | .resetInput lowNs straps => Sys2Proof.Machine.execResetInput lowNs straps s
  | .mainPowerLoss => Sys2Proof.Machine.execMainPowerLoss s
  | .backupCellConnect => Sys2Proof.Machine.execBackupCellConnect s
  | .pciePerst => Sys2Proof.Machine.execPciePerst s
  | .hostDeparture d => Sys2Proof.Machine.execHostDeparture d s
  | .refclkLoss input => Sys2Proof.Machine.execRefclkLoss input s
  | .refclkRecovered input => Sys2Proof.Machine.execRefclkRecovered input s
  | .startStep r => Sys2Proof.Machine.execStartStep r s
  | .startTimeout => Sys2Proof.Machine.execStartTimeout s
  | .startRetryTimer => Sys2Proof.Machine.execStartRetryTimer s
  | .ondieScrubError retained => Sys2Proof.Machine.execOndieScrubError retained s
  | .pairFault ecc => Sys2Proof.Machine.execPairFault ecc s
  | .pairWatchdogExpiry => Sys2Proof.Machine.execPairWatchdogExpiry s
  | .pairStateCheckpoint => Sys2Proof.Machine.execPairStateCheckpoint s
  | .pairSyncComplete passed => Sys2Proof.Machine.execPairSyncComplete passed s
  | .journalCommit => Sys2Proof.Machine.execJournalCommit s
  | .journalCompaction => Sys2Proof.Machine.execJournalCompaction s
  | .flashDeviceFail dev => Sys2Proof.Machine.execFlashDeviceFail dev s
  | .flashRetry dev passed => Sys2Proof.Machine.execFlashRetry dev passed s
  | .signalChange port on => Sys2Proof.Machine.execSignalChange port on s
  | .cdrLockChange port on => Sys2Proof.Machine.execCdrLockChange port on s
  | .alignmentLockChange port on => Sys2Proof.Machine.execAlignmentLockChange port on s
  | .pcsLockChange port on => Sys2Proof.Machine.execPcsLockChange port on s
  | .uplinkAutonegComplete port => Sys2Proof.Machine.execUplinkAutonegComplete port s
  | .uplinkTrainingComplete port => Sys2Proof.Machine.execUplinkTrainingComplete port s
  | .autonegRestart port => Sys2Proof.Machine.execAutonegRestart port s
  | .linkUpHoldExpiry port => Sys2Proof.Machine.execLinkUpHoldExpiry port s
  | .linkDownHoldExpiry port => Sys2Proof.Machine.execLinkDownHoldExpiry port s
  | .defectEntry port d => Sys2Proof.Machine.execDefectEntry port d s
  | .defectExit port d => Sys2Proof.Machine.execDefectExit port d s
  | .denastHeader port header control => Sys2Proof.Machine.execDenastHeader port header control s
  | .denastDataContainer port payload icv => Sys2Proof.Machine.execDenastDataContainer port payload icv s
  | .denastControlContainer port body => Sys2Proof.Machine.execDenastControlContainer port body s
  | .denastMark port body => Sys2Proof.Machine.execDenastMark port body s
  | .denastAisContainer port => Sys2Proof.Machine.execDenastAisContainer port s
  | .hello port body => Sys2Proof.Machine.execHello port body s
  | .helloSend port => Sys2Proof.Machine.execHelloSend port s
  | .partnerTimeout port => Sys2Proof.Machine.execPartnerTimeout port s
  | .containerClose port => Sys2Proof.Machine.execContainerClose port s
  | .denCloseTimeout port => Sys2Proof.Machine.execDenCloseTimeout port s
  | .tfcContainerSlot port => Sys2Proof.Machine.execTfcContainerSlot port s
  | .markSend port => Sys2Proof.Machine.execMarkSend port s
  | .lineFrameReceive port frame cut => Sys2Proof.Machine.execLineFrameReceive port frame cut s
  | .uplinkFrameReceive port frame e => Sys2Proof.Machine.execUplinkFrameReceive port frame e s
  | .icvVerdict frame => Sys2Proof.Machine.execIcvVerdict frame s
  | .frameEligibility port => Sys2Proof.Machine.execFrameEligibility port s
  | .sorrelDispatch port dir r => Sys2Proof.Machine.execSorrelDispatch port dir r s
  | .programOverrun port dir => Sys2Proof.Machine.execProgramOverrun port dir s
  | .sorrelResult port dir => Sys2Proof.Machine.execSorrelResult port dir s
  | .engineFault engine check => Sys2Proof.Machine.execEngineFault engine check s
  | .dequeue port r => Sys2Proof.Machine.execDequeue port r s
  | .commit port => Sys2Proof.Machine.execCommit port s
  | .holdTimeout port => Sys2Proof.Machine.execHoldTimeout port s
  | .icvRelease port => Sys2Proof.Machine.execIcvRelease port s
  | .egressStallTimeout port => Sys2Proof.Machine.execEgressStallTimeout port s
  | .mgmtFrameSend port cls prot frame => Sys2Proof.Machine.execMgmtFrameSend port cls prot frame s
  | .mgmtQueueDrain ecc => Sys2Proof.Machine.execMgmtQueueDrain s ecc
  | .egressSliceFault slice check => Sys2Proof.Machine.execEgressSliceFault slice check s
  | .ingressSliceFault slice check => Sys2Proof.Machine.execIngressSliceFault slice check s
  | .spareSelftest slice passed => Sys2Proof.Machine.execSpareSelftest slice passed s
  | .relocationMove pipe => Sys2Proof.Machine.execRelocationMove pipe s
  | .syncEventApply pipe => Sys2Proof.Machine.execSyncEventApply pipe s
  | .syncRescan pipe => Sys2Proof.Machine.execSyncRescan pipe s
  | .ageSweep entry reading => Sys2Proof.Machine.execAgeSweep entry reading s
  | .servoSample x freq => Sys2Proof.Machine.execServoSample x freq s
  | .sourceLoss => Sys2Proof.Machine.execSourceLoss s
  | .holdoverEstimate => Sys2Proof.Machine.execHoldoverEstimate s
  | .rtcSet => Sys2Proof.Machine.execRtcSet s
  | .ppsInEdge => Sys2Proof.Machine.execPpsInEdge s
  | .captureEdge input falling => Sys2Proof.Machine.execCaptureEdge input falling s
  | .trigStart entry => Sys2Proof.Machine.execTrigStart entry s
  | .trigStop entry => Sys2Proof.Machine.execTrigStop entry s
  | .keyStep entry => Sys2Proof.Machine.execKeyStep entry s
  | .slotExpiry entry => Sys2Proof.Machine.execSlotExpiry entry s
  | .expiryHorizonCheck => Sys2Proof.Machine.execExpiryHorizonCheck s
  | .binBoundary entry => Sys2Proof.Machine.execBinBoundary entry s
  | .binComplete entry => Sys2Proof.Machine.execBinComplete entry s
  | .recCheckpoint entry => Sys2Proof.Machine.execRecCheckpoint entry s
  | .secondEnd blocks => Sys2Proof.Machine.execSecondEnd blocks s
  | .rxReady port msg => Sys2Proof.Machine.execRxReady port msg s
  | .txSwitched port msg => Sys2Proof.Machine.execTxSwitched port msg s
  | .advanceReq port msg => Sys2Proof.Machine.execAdvanceReq port msg s
  | .adopt port msg => Sys2Proof.Machine.execAdopt port msg s
  | .rxReadyRepeat sc => Sys2Proof.Machine.execRxReadyRepeat sc s
  | .txSwitchedRepeat sc => Sys2Proof.Machine.execTxSwitchedRepeat sc s
  | .advanceReqRepeat sc => Sys2Proof.Machine.execAdvanceReqRepeat sc s
  | .confirmLate sc => Sys2Proof.Machine.execConfirmLate sc s
  | .forcedRetire sc => Sys2Proof.Machine.execForcedRetire sc s
  | .kaIntervalExpiry => Sys2Proof.Machine.execKaIntervalExpiry s
  | .kaOffer port body => Sys2Proof.Machine.execKaOffer port body s
  | .kaAccept port body => Sys2Proof.Machine.execKaAccept port body s
  | .kaFinish port msg => Sys2Proof.Machine.execKaFinish port msg s
  | .kaDone port msg => Sys2Proof.Machine.execKaDone port msg s
  | .kaReject port msg => Sys2Proof.Machine.execKaReject port msg s
  | .kaTimeout port => Sys2Proof.Machine.execKaTimeout port s
  | .kaBackoffExpiry port => Sys2Proof.Machine.execKaBackoffExpiry port s
  | .peerHoldExpiry port => Sys2Proof.Machine.execPeerHoldExpiry port s
  | .mkpduReceive port pdu => Sys2Proof.Machine.execMkpduReceive port pdu s
  | .mkaHelloTimer port => Sys2Proof.Machine.execMkaHelloTimer port s
  | .mkaLifeExpiry port => Sys2Proof.Machine.execMkaLifeExpiry port s
  | .modulePoll cage ack => Sys2Proof.Machine.execModulePoll cage ack s
  | .moduleBringupStep cage applicationFound => Sys2Proof.Machine.execModuleBringupStep cage applicationFound s
  | .moduleBringupTimeout cage => Sys2Proof.Machine.execModuleBringupTimeout cage s
  | .moduleMonitorRead cage tempC tempFlag vccFlag losFlag => Sys2Proof.Machine.execModuleMonitorRead cage tempC tempFlag vccFlag losFlag s
  | .i2cStuck master cleared => Sys2Proof.Machine.execI2cStuck master cleared s
  | .i2cRetry master recovered => Sys2Proof.Machine.execI2cRetry master recovered s
  | .vaultRead addr req copy0 copy1 readBackOk => Sys2Proof.Machine.execVaultRead addr req copy0 copy1 readBackOk s
  | .vaultWrite addr req data copy0 copy1 => Sys2Proof.Machine.execVaultWrite addr req data copy0 copy1 s
  | .nodeEviction level index => Sys2Proof.Machine.execNodeEviction level index s
  | .patrolScrub copy0 copy1 readBackOk => Sys2Proof.Machine.execPatrolScrub copy0 copy1 readBackOk s
  | .stackOutOfService stack cause => Sys2Proof.Machine.execStackOutOfService stack cause s
  | .flushLeaf bad => Sys2Proof.Machine.execFlushLeaf bad s
  | .nodeCacheEcc level index => Sys2Proof.Machine.execNodeCacheEcc level index s
  | .tamperSourceFire d => Sys2Proof.Machine.execTamperSourceFire d s
  | .detectorDisagreement source on => Sys2Proof.Machine.execDetectorDisagreement source on s
  | .sourceRearm source => Sys2Proof.Machine.execSourceRearm source s
  | .cellSampleWindow detections => Sys2Proof.Machine.execCellSampleWindow detections s
  | .recorderFlush => Sys2Proof.Machine.execRecorderFlush s
  | .saStoreScrub pipe r => Sys2Proof.Machine.execSaStoreScrub pipe r s
  | .keyStoreEccError => Sys2Proof.Machine.execKeyStoreEccError s
  | .telemetryRefresh region => Sys2Proof.Machine.execTelemetryRefresh region s
  | .registerWrite init addr dwords => Sys2Proof.Machine.execRegisterWrite init addr dwords s
  | .bar2Write fn => Sys2Proof.Machine.execBar2Write fn s
  | .counterLowRead init r => Sys2Proof.Machine.execCounterLowRead init r s
  | .readClear init addr sameClock => Sys2Proof.Machine.execReadClear init addr sameClock s
  | .writeOneClear init addr value setNow => Sys2Proof.Machine.execWriteOneClear init addr value setNow s
  | .tmpLatchedClear init value => Sys2Proof.Machine.execTmpLatchedClear init value s
  | .pmBinCopy init value => Sys2Proof.Machine.execPmBinCopy init value s
  | .pmTcaRead init => Sys2Proof.Machine.execPmTcaRead init s
  | .flwCounterCopy init value => Sys2Proof.Machine.execFlwCounterCopy init value s
  | .fwdSearch init value => Sys2Proof.Machine.execFwdSearch init value s
  | .mcastGroupCopy init value => Sys2Proof.Machine.execMcastGroupCopy init value s
  | .saStateCopy init value => Sys2Proof.Machine.execSaStateCopy init value s
  | .scStateCopy init value => Sys2Proof.Machine.execScStateCopy init value s
  | .slotInfoCopy init value => Sys2Proof.Machine.execSlotInfoCopy init value s
  | .tamperLogCopy init value => Sys2Proof.Machine.execTamperLogCopy init value s
  | .captureRead init input => Sys2Proof.Machine.execCaptureRead init input s
  | .mailboxProduce init fn value => Sys2Proof.Machine.execMailboxProduce init fn value s
  | .mailboxReset init fn value => Sys2Proof.Machine.execMailboxReset init fn value s
  | .longCommandDone fn seq => Sys2Proof.Machine.execLongCommandDone fn seq s
  | .nop h => Sys2Proof.Machine.execNop h s
  | .statusRead h => Sys2Proof.Machine.execStatusRead h s
  | .recRead h place count slot run seq => Sys2Proof.Machine.execRecRead h place count slot run seq s
  | .historyRead h kind source index count start => Sys2Proof.Machine.execHistoryRead h kind source index count start s
  | .tamperLogRead h => Sys2Proof.Machine.execTamperLogRead h s
  | .tamperLogClear h => Sys2Proof.Machine.execTamperLogClear h s
  | .acuWrite h unit region sizeLog2 subDisable perm base => Sys2Proof.Machine.execAcuWrite h unit region sizeLog2 subDisable perm base s
  | .healthReport h => Sys2Proof.Machine.execHealthReport h s
  | .coldStart h => Sys2Proof.Machine.execColdStart h s
  | .warmStart h => Sys2Proof.Machine.execWarmStart h s
  | .mgmtRestart h => Sys2Proof.Machine.execMgmtRestart h s
  | .imageWrite h slot offset => Sys2Proof.Machine.execImageWrite h slot offset s
  | .imageVerify h slot => Sys2Proof.Machine.execImageVerify h slot s
  | .imageActivate h slot => Sys2Proof.Machine.execImageActivate h slot s
  | .startFailClear h => Sys2Proof.Machine.execStartFailClear h s
  | .rollbackAdvance h counter value => Sys2Proof.Machine.execRollbackAdvance h counter value s
  | .sorrelTableWrite h cluster table key mask value => Sys2Proof.Machine.execSorrelTableWrite h cluster table key mask value s
  | .sorrelTableDelete h cluster table key mask => Sys2Proof.Machine.execSorrelTableDelete h cluster table key mask s
  | .sorrelOverlay h cluster => Sys2Proof.Machine.execSorrelOverlay h cluster s
  | .fwdMacWrite h pipes kind fid dest mac => Sys2Proof.Machine.execFwdMacWrite h pipes kind fid dest mac s
  | .fwdMacDelete h pipes fid mac => Sys2Proof.Machine.execFwdMacDelete h pipes fid mac s
  | .fwdFlush h pipes mtch port fid => Sys2Proof.Machine.execFwdFlush h pipes mtch port fid s
  | .fwdLpmWrite h pipes ipv6 len nh pfx => Sys2Proof.Machine.execFwdLpmWrite h pipes ipv6 len nh pfx s
  | .fwdLpmDelete h pipes ipv6 len pfx => Sys2Proof.Machine.execFwdLpmDelete h pipes ipv6 len pfx s
  | .fwdNhWrite h pipes index entry => Sys2Proof.Machine.execFwdNhWrite h pipes index entry s
  | .mcastWrite h group members => Sys2Proof.Machine.execMcastWrite h group members s
  | .mcastDelete h group => Sys2Proof.Machine.execMcastDelete h group s
  | .tmShaperWrite h shaper a => Sys2Proof.Machine.execTmShaperWrite h shaper a s
  | .tmPolicerWrite h entry => Sys2Proof.Machine.execTmPolicerWrite h entry s
  | .tmMapWrite h kind pipe key mode index => Sys2Proof.Machine.execTmMapWrite h kind pipe key mode index s
  | .saInstall h an sc slot w nextPn => Sys2Proof.Machine.execSaInstall h an sc slot w nextPn s
  | .saActivate h an sc instant => Sys2Proof.Machine.execSaActivate h an sc instant s
  | .saRetire h an sc => Sys2Proof.Machine.execSaRetire h an sc s
  | .epochAdvance h sc => Sys2Proof.Machine.execEpochAdvance h sc s
  | .linkRekey h port => Sys2Proof.Machine.execLinkRekey h port s
  | .scStatus h sc => Sys2Proof.Machine.execScStatus h sc s
  | .keyGenerate h slot attrs => Sys2Proof.Machine.execKeyGenerate h slot attrs s
  | .keyImport h form slot attrs => Sys2Proof.Machine.execKeyImport h form slot attrs s
  | .keyExport h slot wrapping => Sys2Proof.Machine.execKeyExport h slot wrapping s
  | .keyClear h slot => Sys2Proof.Machine.execKeyClear h slot s
  | .keyInfo h slot => Sys2Proof.Machine.execKeyInfo h slot s
  | .certRead h selector => Sys2Proof.Machine.execCertRead h selector s
  | .attest h nonceLen nonce => Sys2Proof.Machine.execAttest h nonceLen nonce s
  | .ownerProvision h => Sys2Proof.Machine.execOwnerProvision h s
  | .ownerTransfer h => Sys2Proof.Machine.execOwnerTransfer h s
  | .shareProvision h => Sys2Proof.Machine.execShareProvision h s
  | .pkeSubmit h descriptor => Sys2Proof.Machine.execPkeSubmit h descriptor s
  | .pkeAbort h job => Sys2Proof.Machine.execPkeAbort h job s
  | .vaultRekey h => Sys2Proof.Machine.execVaultRekey h s
  | .timeSet h seconds => Sys2Proof.Machine.execTimeSet h seconds s
  | .wheelAdd h type output dueUs dueS => Sys2Proof.Machine.execWheelAdd h type output dueUs dueS s
  | .wheelDelete h entry => Sys2Proof.Machine.execWheelDelete h entry s
  | .laProduce init ring value => Sys2Proof.Machine.execLaProduce init ring value s
  | .laRingReset init ring value => Sys2Proof.Machine.execLaRingReset init ring value s
  | .laRequestStart ring entry => Sys2Proof.Machine.execLaRequestStart ring entry s
  | .laRequestComplete ring input aux run => Sys2Proof.Machine.execLaRequestComplete ring input aux run s
  | .laDmaFailure ring => Sys2Proof.Machine.execLaDmaFailure ring s
  | .pkeJobStart input => Sys2Proof.Machine.execPkeJobStart input s
  | .pkeJobComplete run => Sys2Proof.Machine.execPkeJobComplete run s
  | .idcode => Sys2Proof.Machine.execIdcode s
  | .samplePreload preload => Sys2Proof.Machine.execSamplePreload preload s
  | .extest => Sys2Proof.Machine.execExtest s
  | .bypass => Sys2Proof.Machine.execBypass s
  | .dbgStatus => Sys2Proof.Machine.execDbgStatus s
  | .dbgChallenge => Sys2Proof.Machine.execDbgChallenge s
  | .dbgUnlock token => Sys2Proof.Machine.execDbgUnlock token s
  | .dbgAccess scan => Sys2Proof.Machine.execDbgAccess scan s
  | .dbgLock => Sys2Proof.Machine.execDbgLock s
  | .debugLockoutExpiry => Sys2Proof.Machine.execDebugLockoutExpiry s
  | .pcRun init run => Sys2Proof.Machine.execPcRun init run s
  | .pcClearAll init => Sys2Proof.Machine.execPcClearAll init s
  | .pcClear init engine => Sys2Proof.Machine.execPcClear init engine s
  | .ageingMeasure degradation => Sys2Proof.Machine.execAgeingMeasure degradation s
  | .replicaMeasure slackPs => Sys2Proof.Machine.execReplicaMeasure slackPs s
  | .voltagePlan mv => Sys2Proof.Machine.execVoltagePlan mv s
  | .tempExcursion high => Sys2Proof.Machine.execTempExcursion high s
  | .railStep => Sys2Proof.Machine.execRailStep s
  | .laneEyeMeasure lane eyeMv eyeWidth => Sys2Proof.Machine.execLaneEyeMeasure lane eyeMv eyeWidth s
  | .healthTableWrite => Sys2Proof.Machine.execHealthTableWrite s
  | .backupCellRemoval => Sys2Proof.Machine.execBackupCellRemoval s
  | .rbgHealthTest passed => Sys2Proof.Machine.execRbgHealthTest passed s
  | .ppsOutPulse => Sys2Proof.Machine.execPpsOutPulse s
  | .triggerPulse output => Sys2Proof.Machine.execTriggerPulse output s
  | .pcieLinkUp width speed pf0 pf1 => Sys2Proof.Machine.execPcieLinkUp width speed pf0 pf1 s

end Sys2Proof.Machine
end

