-- ==== Sys2Proof/Machine/Step.lean ====
section
/-! DEFINITION. One step: the command at the front of the queue is run with the rest of the queue; on an empty queue a cycle of the
clock passes (log entry 1, DESIGN CHOICE). -/

namespace Sys2Proof.Machine

/-- One step of the machine. (log entry 1, DESIGN CHOICE) (log entry 61, DESIGN CHOICE) (log entry 68, DEDUCED) -/
def step (s : State) : Host.Outcome State Fault Refusal :=
  match s.pending with
  | [] => .next { s with chip := s.chip.tick }
  | i :: rest => exec i { s with pending := rest }

/-- The state with the command that a word spells at the front of its queue; unchanged where the word spells none. -/
def State.withFetchWord (s : State) (nbits w : Nat) : State :=
  match Sys2Proof.decodeTableWord nbits w with
  | none => s
  | some i => { s with pending := i :: s.pending }

end Sys2Proof.Machine
end

