-- ==== Sys2Proof/Machine/LineCode.lean ====
section
/-! DEFINITION. The line code of a Denast port (R76, R78): the byte stream that containers and fill make, its 257-bit blocks, and the
alignment markers among them. It is a view of what the part has sent: when a container leaves is no part of the model. -/

namespace Sys2Proof.Machine

/-- The container that fills the line while nothing else is ready: IDLE, or AIS while the port sends it (R78, R107). -/
def fillContainer : Signal → Bytes
  | .idle => denMask (coreHeader 0)
  | .ais => denMask (coreHeader 1) ++ fill 60 0xFF
  | _ => []

/-- The container that a Denast port sends when nothing else is ready. -/
def Chip.fillLine (c : Chip) (p : Nat) : Bytes := fillContainer (c.txSignal p)

/-- The stream bytes of a port, from what the part has sent: each container, and one fill container for each signal it has gone over to.
(log entry 74, DESIGN CHOICE) -/
def lineBytes (p : Nat) : List Out → Bytes
  | [] => []
  | .container q _ bytes :: l => (if q = p then bytes else []) ++ lineBytes p l
  | .signal q s :: l => (if q = p then fillContainer s else []) ++ lineBytes p l
  | _ :: l => lineBytes p l

/-- A 257-bit block: the header bit, which is sent first and is 1, and 32 stream bytes, the least significant bit of each first. Bit `i` is
the bit sent in place `i`. -/
def lineBlock (b : Bytes) : BitVec 257 := BitVec.ofNat 257 (1 + 2 * leNat (b.take 32))

/-- The stream bytes of a block, as a receiver takes them. -/
def blockBytes (x : BitVec 257) : Bytes := toLe (x.toNat / 2) 32

/-- The whole blocks of a stream. -/
def lineBlocks : Nat → Bytes → List (BitVec 257)
  | 0, _ => []
  | n + 1, v => if v.length < 32 then [] else lineBlock v :: lineBlocks n (v.drop 32)

/-- The period of the alignment markers in blocks and how many blocks they take, by the rate in Gb/s (IEEE 802.3 clauses 91, 108
and 134). (log entry 72, PRESUMED) -/
def markerPeriod (rate : Nat) : Nat × Nat := if rate = 100 then (81920, 5) else (20480, 1)

/-- The blocks of a stream with the alignment markers of its rate, where `k` is the place of the next block in the period. -/
def withMarkers (rate : Nat) : Nat → List (BitVec 257) → List (BitVec 257)
  | _, [] => []
  | k, b :: l =>
    let (period, marks) := markerPeriod rate
    let (pre, k) := if k % period = 0 then ((List.range marks).map (Config.alignMarker rate), marks) else ([], k % period)
    pre ++ b :: withMarkers rate (k + 1) l

/-- What a Denast port hands to its RS-FEC sublayer: the blocks of its stream, with a marker first. -/
def Chip.lineSent (c : Chip) (p : Nat) (sent : List Out) : List (BitVec 257) :=
  let v := lineBytes p sent
  withMarkers (rateOf (c.mode p)) 0 (lineBlocks v.length v)

end Sys2Proof.Machine
end

