-- ==== Sys2Proof/WellFormed.lean ====
section
/-! DEFINITION. Which commands are well formed: the unit that a command names exists (R14, R117), a mailbox argument fits the field of
R450 and R460 that carries it, and a register access has the shape that BAR0 accepts (R443, R445). -/

namespace Sys2Proof

/-- A number fits in `n` bytes. -/
def fits (n v : Nat) : Bool := decide (v < 256 ^ n)

/-- A dword of BAR0 (R443). -/
def dwordAddr (a : Nat) : Bool := a % 4 == 0 && decide (a < 2 ^ 20)

/-- A command entry (R449): its mailbox, and the widths of its fields. -/
def Mb.wf (h : Mb) : Bool := h.fn ≤ 1 && fits 8 h.seq && fits 8 h.outAddr && fits 4 h.outLen

/-- A correction names a macro of the SA store (R424). -/
def SaScrub.wf : SaScrub → Bool
  | .clean => true
  | .corrected m _ => m < 18
  | .uncorrectable => true

/-- A departure names a function (R441). -/
def Departure.wf : Departure → Bool
  | .linkDown => true
  | .hotReset => true
  | .flr fn => fn ≤ 1
  | .busMasterClear fn => fn ≤ 1
  | .perst => true

/-- A command is well formed. (log entry 6, DESIGN CHOICE) -/
def Instr.wf : Instr → Bool
  | .powerOn _ _ _ _ _ => true
  | .resetInput _ _ => true
  | .mainPowerLoss => true
  | .backupCellConnect => true
  | .pciePerst => true
  | .hostDeparture d => d.wf
  | .refclkLoss input => input < 2
  | .refclkRecovered input => input < 2
  | .startStep _ => true
  | .startTimeout => true
  | .startRetryTimer => true
  | .ondieScrubError _ => true
  | .pairFault _ => true
  | .pairWatchdogExpiry => true
  | .pairStateCheckpoint => true
  | .pairSyncComplete _ => true
  | .journalCommit => true
  | .journalCompaction => true
  | .flashDeviceFail dev => dev < 2
  | .flashRetry dev _ => dev < 2
  | .signalChange port _ => port < 144
  | .cdrLockChange port _ => port < 144
  | .alignmentLockChange port _ => port < 144
  | .pcsLockChange port _ => port < 144
  | .uplinkAutonegComplete port => 96 ≤ port && port < 144
  | .uplinkTrainingComplete port => 96 ≤ port && port < 144
  | .autonegRestart port => 96 ≤ port && port < 144
  | .linkUpHoldExpiry port => port < 144
  | .linkDownHoldExpiry port => port < 144
  | .defectEntry port _ => port < 144
  | .defectExit port _ => port < 144
  | .denastHeader port header _ => port < 96 && header.length == 4
  | .denastDataContainer port _ icv => port < 96 && icv.length == 16
  | .denastControlContainer port _ => port < 96
  | .denastMark port body => port < 96 && body.length == 16
  | .denastAisContainer port => port < 96
  | .hello port _ => port < 96
  | .helloSend port => port < 96
  | .partnerTimeout port => port < 96
  | .containerClose port => port < 96
  | .denCloseTimeout port => port < 96
  | .tfcContainerSlot port => port < 96
  | .markSend port => port < 96
  | .lineFrameReceive port _ _ => port < 96
  | .uplinkFrameReceive port _ _ => 96 ≤ port && port < 144
  | .icvVerdict _ => true
  | .frameEligibility port => port < 144
  | .sorrelDispatch port dir _ => port < 96 && dir < 2
  | .programOverrun port dir => port < 96 && dir < 2
  | .sorrelResult port dir => port < 96 && dir < 2
  | .engineFault engine _ => engine < 208
  | .dequeue port _ => port < 144
  | .commit port => port < 96
  | .holdTimeout port => port < 96
  | .icvRelease port => port < 96
  | .egressStallTimeout port => port < 144
  | .mgmtFrameSend port cls _ _ => port < 144 && cls < 8
  | .mgmtQueueDrain _ => true
  | .egressSliceFault slice _ => slice < 9
  | .ingressSliceFault slice _ => 9 ≤ slice && slice < 18
  | .spareSelftest slice _ => (slice == 8 || slice == 17)
  | .relocationMove pipe => pipe < 4
  | .syncEventApply pipe => pipe < 4
  | .syncRescan pipe => pipe < 4
  | .ageSweep entry _ => entry < 4096
  | .servoSample x _ => x.source < 4
  | .sourceLoss => true
  | .holdoverEstimate => true
  | .rtcSet => true
  | .ppsInEdge => true
  | .captureEdge input _ => input < 4
  | .trigStart entry => entry < 4096
  | .trigStop entry => entry < 4096
  | .keyStep entry => entry < 4096
  | .slotExpiry entry => entry < 4096
  | .expiryHorizonCheck => true
  | .binBoundary entry => entry < 4096
  | .binComplete entry => entry < 4096
  | .recCheckpoint entry => entry < 4096
  | .secondEnd _ => true
  | .rxReady port _ => port < 96
  | .txSwitched port _ => port < 96
  | .advanceReq port _ => port < 96
  | .adopt port _ => port < 96
  | .rxReadyRepeat _ => true
  | .txSwitchedRepeat _ => true
  | .advanceReqRepeat _ => true
  | .confirmLate _ => true
  | .forcedRetire _ => true
  | .kaIntervalExpiry => true
  | .kaOffer port _ => port < 96
  | .kaAccept port _ => port < 96
  | .kaFinish port _ => port < 96
  | .kaDone port _ => port < 96
  | .kaReject port _ => port < 96
  | .kaTimeout port => port < 96
  | .kaBackoffExpiry port => port < 96
  | .peerHoldExpiry port => port < 96
  | .mkpduReceive port _ => port < 96
  | .mkaHelloTimer port => port < 96
  | .mkaLifeExpiry port => port < 96
  | .modulePoll cage _ => cage < 120
  | .moduleBringupStep cage _ => cage < 120
  | .moduleBringupTimeout cage => cage < 120
  | .moduleMonitorRead cage _ _ _ _ => cage < 120
  | .i2cStuck master _ => master < 8
  | .i2cRetry master _ => master < 8
  | .vaultRead _ _ _ _ _ => true
  | .vaultWrite _ _ _ _ _ => true
  | .nodeEviction level _ => level < 2
  | .patrolScrub _ _ _ => true
  | .stackOutOfService stack _ => stack < 2
  | .flushLeaf _ => true
  | .nodeCacheEcc level _ => level ≤ 4
  | .tamperSourceFire d => d.source < 18
  | .detectorDisagreement source _ => source < 15
  | .sourceRearm source => source < 18
  | .cellSampleWindow _ => true
  | .recorderFlush => true
  | .saStoreScrub pipe r => pipe < 4 && r.wf
  | .keyStoreEccError => true
  | .telemetryRefresh region => region ≤ 8
  | .registerWrite init addr dwords => init ≤ 4 && dwordAddr addr && 1 ≤ dwords.length && dwords.length ≤ 16
  | .bar2Write fn => fn ≤ 1
  | .counterLowRead init r => init ≤ 4 && dwordAddr r.addr
  | .readClear init addr _ => init ≤ 4 && dwordAddr addr
  | .writeOneClear init addr _ _ => init ≤ 4 && dwordAddr addr
  | .tmpLatchedClear init _ => init ≤ 4
  | .pmBinCopy init _ => init ≤ 4
  | .pmTcaRead init => init ≤ 4
  | .flwCounterCopy init _ => init ≤ 4
  | .fwdSearch init _ => init ≤ 4
  | .mcastGroupCopy init _ => init ≤ 4
  | .saStateCopy init _ => init ≤ 4
  | .scStateCopy init _ => init ≤ 4
  | .slotInfoCopy init _ => init ≤ 4
  | .tamperLogCopy init _ => init ≤ 4
  | .captureRead init input => input < 5 && init ≤ 4
  | .mailboxProduce init fn _ => fn ≤ 1 && init ≤ 4
  | .mailboxReset init fn _ => fn ≤ 1 && init ≤ 4
  | .longCommandDone fn _ => fn ≤ 1
  | .nop h => h.wf
  | .statusRead h => h.wf
  | .recRead h place count slot run seq => h.wf && fits 1 place && fits 1 count && fits 1 slot && fits 4 run && fits 4 seq
  | .historyRead h kind source index count start => h.wf && fits 1 kind && fits 1 source && fits 2 index && fits 2 count && fits 8 start
  | .tamperLogRead h => h.wf
  | .tamperLogClear h => h.wf
  | .acuWrite h unit region sizeLog2 subDisable perm base => h.wf && fits 1 unit && fits 1 region && fits 1 sizeLog2 && fits 1 subDisable && fits 1 perm && fits 4 base
  | .healthReport h => h.wf
  | .coldStart h => h.wf
  | .warmStart h => h.wf
  | .mgmtRestart h => h.wf
  | .imageWrite h slot offset => h.wf && fits 1 slot && fits 4 offset
  | .imageVerify h slot => h.wf && fits 1 slot
  | .imageActivate h slot => h.wf && fits 1 slot
  | .startFailClear h => h.wf
  | .rollbackAdvance h counter value => h.wf && fits 1 counter && fits 4 value
  | .sorrelTableWrite h cluster table key mask value => h.wf && fits 1 cluster && fits 1 table && fits 8 key && fits 8 mask && fits 4 value
  | .sorrelTableDelete h cluster table key mask => h.wf && fits 1 cluster && fits 1 table && fits 8 key && fits 8 mask
  | .sorrelOverlay h cluster => h.wf && fits 1 cluster
  | .fwdMacWrite h pipes kind fid dest mac => h.wf && fits 1 pipes && fits 1 kind && fits 2 fid && fits 2 dest && mac.length == 6
  | .fwdMacDelete h pipes fid mac => h.wf && fits 1 pipes && fits 2 fid && mac.length == 6
  | .fwdFlush h pipes mtch port fid => h.wf && fits 1 pipes && fits 1 mtch && fits 2 port && fits 2 fid
  | .fwdLpmWrite h pipes _ len nh pfx => h.wf && fits 1 pipes && fits 1 len && fits 2 nh && pfx.length == 16
  | .fwdLpmDelete h pipes _ len pfx => h.wf && fits 1 pipes && fits 1 len && pfx.length == 16
  | .fwdNhWrite h pipes index entry => h.wf && fits 1 pipes && fits 2 index && entry.length == 16
  | .mcastWrite h group members => h.wf && fits 2 group && members.length == 18
  | .mcastDelete h group => h.wf && fits 2 group
  | .tmShaperWrite h shaper _ => h.wf && fits 2 shaper
  | .tmPolicerWrite h entry => h.wf && entry.length == 24
  | .tmMapWrite h kind pipe key mode index => h.wf && fits 1 kind && fits 1 pipe && fits 2 key && fits 1 mode && fits 2 index
  | .saInstall h an sc slot w nextPn => h.wf && fits 1 an && fits 2 sc && fits 2 slot && fits 4 w && fits 8 nextPn
  | .saActivate h an sc instant => h.wf && fits 1 an && fits 2 sc && fits 8 instant
  | .saRetire h an sc => h.wf && fits 1 an && fits 2 sc
  | .epochAdvance h sc => h.wf && fits 2 sc
  | .linkRekey h port => h.wf && fits 1 port
  | .scStatus h sc => h.wf && fits 2 sc
  | .keyGenerate h slot attrs => h.wf && fits 2 slot && attrs.length == 16
  | .keyImport h form slot attrs => h.wf && fits 1 form && fits 2 slot && attrs.length == 16
  | .keyExport h slot wrapping => h.wf && fits 2 slot && fits 2 wrapping
  | .keyClear h slot => h.wf && fits 2 slot
  | .keyInfo h slot => h.wf && fits 2 slot
  | .certRead h selector => h.wf && fits 1 selector
  | .attest h nonceLen nonce => h.wf && fits 1 nonceLen && nonce.length == 64
  | .ownerProvision h => h.wf
  | .ownerTransfer h => h.wf
  | .shareProvision h => h.wf
  | .pkeSubmit h descriptor => h.wf && descriptor.length == 64
  | .pkeAbort h job => h.wf && fits 4 job
  | .vaultRekey h => h.wf
  | .timeSet h seconds => h.wf && fits 8 seconds
  | .wheelAdd h type output dueUs dueS => h.wf && fits 1 type && fits 1 output && fits 4 dueUs && fits 8 dueS
  | .wheelDelete h entry => h.wf && fits 2 entry
  | .laProduce init ring _ => ring < 8 && init ≤ 4
  | .laRingReset init ring _ => ring < 8 && init ≤ 4
  | .laRequestStart ring entry => ring < 8 && entry.length == 64
  | .laRequestComplete ring _ _ _ => ring < 8
  | .laDmaFailure ring => ring < 8
  | .pkeJobStart _ => true
  | .pkeJobComplete _ => true
  | .idcode => true
  | .samplePreload _ => true
  | .extest => true
  | .bypass => true
  | .dbgStatus => true
  | .dbgChallenge => true
  | .dbgUnlock _ => true
  | .dbgAccess scan => scan < 2 ^ 56
  | .dbgLock => true
  | .debugLockoutExpiry => true
  | .pcRun init _ => init ≤ 4
  | .pcClearAll init => init ≤ 4
  | .pcClear init engine => engine < 208 && init ≤ 4
  | .ageingMeasure _ => true
  | .replicaMeasure _ => true
  | .voltagePlan _ => true
  | .tempExcursion _ => true
  | .railStep => true
  | .laneEyeMeasure lane _ _ => lane < 144
  | .healthTableWrite => true
  | .backupCellRemoval => true
  | .rbgHealthTest _ => true
  | .ppsOutPulse => true
  | .triggerPulse output => output < 4
  | .pcieLinkUp width speed _ _ => 1 ≤ width && width ≤ 8 && 1 ≤ speed && speed ≤ 5

end Sys2Proof
end

