-- ==== Sys2Proof/Safety.lean ====
section
/-! DEFINITION. What counts as a sound state and a sound run, in the terms that the statements use. -/

/-- The commands that act on the part without main power: the board's own and those of the always-on domain (R393, R396, R408, R473,
R499). -/
def Sys2Proof.Instr.ofAlwaysOn : Instr → Bool
  | .powerOn .. | .mainPowerLoss | .backupCellConnect | .backupCellRemoval | .sourceRearm .. | .cellSampleWindow .. | .debugLockoutExpiry
  | .detectorDisagreement .. => true
  | _ => false

namespace Sys2Proof.Machine

/-- The register map in its canonical form. -/
def Chip.regsWf (c : Chip) : Prop := ∀ e ∈ c.regs, e.2 ≠ resetWord e.1

/-- The addressed memories in their canonical form: the image slots of both flash devices, and the lines of the vault. -/
def Chip.memWf (c : Chip) : Bool :=
  Sparse.wf 0xFF c.flash0.slot0 && Sparse.wf 0xFF c.flash0.slot1 && Sparse.wf 0xFF c.flash1.slot0 && Sparse.wf 0xFF c.flash1.slot1 &&
    Sparse.wf none c.vault.lines

/-- Without main power the part holds the always-on domain, the flash devices and the fuses, and nothing else (R393, R433, R434). -/
def Chip.darkInv (c : Chip) : Prop := c.power = true ∨ c = c.unpowered

/-- The same of a state. -/
def State.darkInv (s : State) : Prop := s.chip.darkInv

/-! ## What a statement says of a command that completes -/

/-- Nothing but the registers at the addresses `as` differs between `c` and `c'`. -/
def Chip.onlyRegs (c c' : Chip) (as : List Nat) : Prop := { c' with regs := c.regs } = c ∧ ∀ a, a ∉ as → c'.word a = c.word a

/-- The registers that a record of the Cowslip recorder or an attention changes. -/
def recWords : List Nat := [R.MGT_REC_STATUS, R.MGT_REC_LOST, R.MGT_REC_RUN, R.MGT_REC_SEQ, R.HST_ATTN]

/-- Between `d` and `c` nothing differs but the registers at the addresses `as` and what records and attentions change: their registers,
the recorder, and the ring and run number that the always-on domain and flash keep for it. -/
def Chip.noted (d c : Chip) (as : List Nat) : Prop :=
  { c with regs := d.regs, cow := d.cow, ao := d.ao, flash0 := d.flash0, flash1 := d.flash1 } = d ∧
    { c.ao with ring := d.ao.ring, run := d.ao.run } = d.ao ∧ { c.flash0 with flushRun := d.flash0.flushRun } = d.flash0 ∧
    { c.flash1 with flushRun := d.flash1.flushRun } = d.flash1 ∧ ∀ a, a ∉ as → a ∉ recWords → c.word a = d.word a

/-- A start of a kind has begun for a cause: its steps are all to do, and the part is not configured (R37, R38, R39). -/
def Chip.begun (c : Chip) (kind cause : Nat) : Prop :=
  c.power = true ∧ c.start.busy = true ∧ c.start.retry = false ∧ c.start.todo = stepsOf kind ∧
    c.rd F.MGT_START_STATUS_start_kind = kind ∧ c.configured = false ∧ c.word R.MGT_START_CAUSE = BitVec.ofNat 32 (2 ^ cause)

/-- The command goes on to a next state with the same queue, whose part satisfies `P`. -/
def Goes (i : Instr) (s : State) (P : Chip → Prop) : Prop := ∃ t, exec i s = .next t ∧ t.pending = s.pending ∧ P t.chip

/-- The registers that writing a reply changes: RPROD and STATUS of the mailbox, HST_ATTN, and the pending bits of MSI-X. -/
def replyWords (f : Nat) : List Nat := [R.HST_MB_RPROD f, R.HST_MB_STATUS f, R.HST_ATTN, R.HST_MSIX_PBA 0, R.HST_MSIX_PBA 1]

/-- The registers that serving mailbox `f` changes by itself: also its CONS and LAST_SEQ. -/
def mbWords (f : Nat) : List Nat := [R.HST_MB_CONS f, R.HST_MB_LAST_SEQ f, R.HST_MB_LAST_SEQ f + 4] ++ replyWords f

/-- The part `c` is `d` but for the registers `ws`, what leaves the part, the replies, long commands and completion table of mailbox
`f`, and entries that wait for the journal. -/
def Chip.mbBut (ws : List Nat) (f : Nat) (d c : Chip) : Prop :=
  { c with regs := d.regs, out := d.out, mb0 := d.mb0, mb1 := d.mb1, jseq := d.jseq, jpend := d.jpend } = d ∧
    (∀ a, a ∉ ws → c.word a = d.word a) ∧ (∀ g, g ≤ 1 → g ≠ f → c.mb g = d.mb g)

/-- The part `c` is `d` but for what serving mailbox `f` changes by itself. -/
def Chip.mbSame (f : Nat) (d c : Chip) : Prop := Chip.mbBut (mbWords f) f d c

/-- A mailbox command of class `k` is accepted: the part is under power, the command can start, its entry and input are read, its
sequence number is new, and no general code refuses it (R452, R455, R456, R458, R462). -/
def Chip.mbAccepts (c : Chip) (h : Mb) (k : CmdClass) : Prop :=
  c.power = true ∧ c.mbReady h = true ∧ h.readFail = false ∧ c.num (R.HST_MB_LAST_SEQ h.fn) 2 < h.seq ∧ c.mbRefuse h k = none

/-- The part as a command's own rule finds it: CONS moved by one, and LAST_SEQ the number of the command (R452, R456). -/
def Chip.mbStarted (c : Chip) (h : Mb) : Chip :=
  (c.wr (F.HST_MB_CONS_cons h.fn) (c.rd (F.HST_MB_CONS_cons h.fn) + 1)).setNum (R.HST_MB_LAST_SEQ h.fn) 2 h.seq

/-- The mailbox command `i` of entry `h` is served: it goes on; outside its mailbox the part is then `d`; the command is the newest of
the completion table, with this code (none while it is not final) and result; CONS has moved by one and LAST_SEQ is its sequence
number; and the journal waits for the entries it waited for in `d` and then `ops`. -/
def Served (i : Instr) (s : State) (h : Mb) (d : Chip) (code : Option Nat) (result : Nat) (ops : List JOp) : Prop :=
  ∃ t, exec i s = .next t ∧ t.pending = s.pending ∧ Chip.mbSame h.fn d t.chip ∧
    (t.chip.mb h.fn).table.getLast? = some { seq := h.seq, code := code, result := result } ∧
    t.chip.rd (F.HST_MB_CONS_cons h.fn) = (s.chip.rd (F.HST_MB_CONS_cons h.fn) + 1) % 2 ^ 16 ∧
    t.chip.num (R.HST_MB_LAST_SEQ h.fn) 2 = h.seq % 2 ^ 64 ∧ t.chip.jpend.map (·.op) = d.jpend.map (·.op) ++ ops

/-! ## The mailbox commands (R460, R462) -/

/-- The entry and the class of a mailbox command: its opcode, whether it is long, whether it completes with COMMITTED, where it is
accepted, and the lengths that it takes. -/
def mailboxOf (c : Chip) : Instr → Option (Mb × CmdClass)
  | .nop h => some (h, { opcode := 0x0000, pf1 := true, safe := true, halt := true })
  | .statusRead h => some (h, { opcode := 0x0001, pf1 := true, safe := true, halt := true, outLen := 64 })
  | .recRead h .. => some (h, { opcode := 0x0002, pf1 := true, safe := true, halt := true })
  | .historyRead h _ _ _ n _ => some (h, { opcode := 0x0003, pf1 := true, halt := true, outLen := 56 * n })
  | .tamperLogRead h => some (h, { opcode := 0x0004, pf1 := true, halt := true, outLen := 1024 })
  | .tamperLogClear h => some (h, { opcode := 0x0005 })
  | .acuWrite h .. => some (h, { opcode := 0x0006 })
  | .healthReport h => some (h, { opcode := 0x0007, pf1 := true, outLen := 640 })
  | .imageWrite h .. => some (h, { opcode := 0x0103, long := true, safe := true, inOk := fun n => decide (256 ≤ n && n ≤ 65536) && n % 256 == 0 })
  | .imageVerify h _ => some (h, { opcode := 0x0104, long := true, safe := true })
  | .imageActivate h _ => some (h, { opcode := 0x0105, commit := true, safe := true })
  | .startFailClear h => some (h, { opcode := 0x0106, safe := true, halt := true })
  | .rollbackAdvance h .. => some (h, { opcode := 0x0107, long := true, commit := true })
  | .sorrelTableWrite h .. => some (h, { opcode := 0x0200, commit := true })
  | .sorrelTableDelete h .. => some (h, { opcode := 0x0200, commit := true })
  | .sorrelOverlay h _ => some (h, { opcode := 0x0201, commit := true, long := true, inOk := fun n => 3405 + 168 ≤ n })
  | .fwdMacWrite h .. => some (h, { opcode := 0x0210, commit := true })
  | .fwdMacDelete h .. => some (h, { opcode := 0x0211, commit := true })
  | .fwdFlush h _ m .. => some (h, { opcode := 0x0212, commit := bit m 2 })
  | .fwdLpmWrite h .. => some (h, { opcode := 0x0213, commit := true })
  | .fwdLpmDelete h .. => some (h, { opcode := 0x0214, commit := true })
  | .fwdNhWrite h .. => some (h, { opcode := 0x0215, commit := true })
  | .mcastWrite h .. => some (h, { opcode := 0x0220, commit := true })
  | .mcastDelete h .. => some (h, { opcode := 0x0221, commit := true })
  | .tmShaperWrite h .. => some (h, { opcode := 0x0230, commit := true })
  | .tmPolicerWrite h .. => some (h, { opcode := 0x0231, commit := true })
  | .tmMapWrite h .. => some (h, { opcode := 0x0232, commit := true })
  | .saInstall h .. => some (h, { opcode := 0x0300, commit := true })
  | .saActivate h .. => some (h, { opcode := 0x0301, commit := true })
  | .saRetire h .. => some (h, { opcode := 0x0302, commit := true })
  | .epochAdvance h _ => some (h, { opcode := 0x0303, long := true })
  | .linkRekey h _ => some (h, { opcode := 0x0304, long := true })
  | .scStatus h _ => some (h, { opcode := 0x0305, pf1 := true, outLen := 32 })
  | .keyGenerate h _ a => some (h, { opcode := 0x0400, commit := (slotOf a []).persistent })
  | .keyImport h _ _ a => some (h, { opcode := 0x0401, commit := (slotOf a []).persistent, inOk := fun n => 0 < n })
  | .keyExport h .. => some (h, { opcode := 0x0402 })
  | .keyClear h n => some (h, { opcode := 0x0403, commit := (c.slot n).persistent })
  | .keyInfo h _ => some (h, { opcode := 0x0404, pf1 := true, outLen := 32 })
  | .certRead h _ => some (h, { opcode := 0x0405, pf1 := true, halt := true })
  | .attest h .. => some (h, { opcode := 0x0406, long := true, pf1 := true, halt := true, safe := c.start.blank })
  | .ownerProvision h => some (h, { opcode := 0x0410, long := true, commit := true, safe := c.start.blank, inOk := fun n => n == 5453 })
  | .ownerTransfer h => some (h, { opcode := 0x0411, long := true, commit := true, inOk := fun n => n == 8858 })
  | .shareProvision h => some (h, { opcode := 0x0412, long := true, commit := true, inOk := fun n => n == 3405 })
  | .pkeSubmit h _ => some (h, { opcode := 0x0500 })
  | .pkeAbort h _ => some (h, { opcode := 0x0501 })
  | .vaultRekey h => some (h, { opcode := 0x0600, long := true })
  | .timeSet h _ => some (h, { opcode := 0x0610 })
  | .wheelAdd h .. => some (h, { opcode := 0x0611, commit := true })
  | .wheelDelete h _ => some (h, { opcode := 0x0612, commit := true })
  | _ => none

/-- The mailbox command `i` of entry `h` is accepted. -/
def taken (h : Mb) (i : Instr) (s : State) : Prop := ∃ k, mailboxOf s.chip i = some (h, k) ∧ s.chip.mbAccepts h k

/-- It is served, with a part that satisfies `P` outside its mailbox. -/
def Did (i : Instr) (s : State) (h : Mb) (code : Option Nat) (result : Nat) (ops : List JOp) (P : Chip → Prop) : Prop :=
  ∃ d, Served i s h d code result ops ∧ P d

/-- A mailbox command that reads: it is served with OK, and outside its mailbox the part is then `d`. Where no earlier reply waits, its
reply raises no interrupt and is written without failing, the output data and the 32 bytes of the reply are all that leaves the part
(R450, R451, R452). -/
def Reads (i : Instr) (s : State) (h : Mb) (d : Chip) (data : Bytes) : Prop :=
  Served i s h d (some Code.ok) 0 [] ∧
    ∀ k, mailboxOf s.chip i = some (h, k) → (s.chip.mb h.fn).replies = [] → h.intr = false → h.writeFail = false →
      ∃ t, exec i s = .next t ∧ t.chip.out = d.out ++ (if data = [] then [] else [.hostWrite h.fn h.outAddr data]) ++
        [.hostWrite h.fn (d.num (R.HST_MB_RBASE h.fn) 2 + 32 * (d.rd (F.HST_MB_RPROD_rprod h.fn) % 2 ^ d.rd (F.HST_MB_CFG_log2_entries h.fn)))
          (d.replyEntry h.fn { seq := h.seq, opcode := k.opcode, intr := false, dup := false, answer := some (Code.ok, 0), out := data } Code.ok 0)]

/-- A step goes on: it neither faults nor refuses. -/
def runs (s : State) : Prop := ∃ t, step s = .next t

end Sys2Proof.Machine
end

