-- ==== Sys2Proof/Certificates/Slice0/Obligations.lean ====
section
/-! DEFINITION. The statements for the provers. -/

section

open Sys2Proof Sys2Proof.Machine

/-! ## The machine -/

/-- A step takes the command at the front of the queue and runs it with the rest of the queue. -/
def Obligations.StepRunsFront : Prop :=
  ∀ (i : Instr) (rest : List Instr) (c : Chip), step { pending := i :: rest, chip := c } = exec i { pending := rest, chip := c }

/-- With no command waiting, one cycle of the clock passes (log entry 1): the queue stays empty, no register but the counts of the
performance counters changes, and neither flash, keys, vault nor anything sent is touched. Without main power and without the backup
cell nothing changes at all. -/
def Obligations.IdleCycle : Prop :=
  ∀ c : Chip, ∃ t, step { pending := [], chip := c } = .next t ∧ t.pending = [] ∧ t.chip.power = c.power ∧
    t.chip.flash0 = c.flash0 ∧ t.chip.flash1 = c.flash1 ∧ t.chip.keys = c.keys ∧ t.chip.vault = c.vault ∧ t.chip.data = c.data ∧
    t.chip.out = c.out ∧ t.chip.mb0 = c.mb0 ∧ t.chip.mb1 = c.mb1 ∧
    (∀ a, a < 0x50000 ∨ 0x59000 ≤ a → t.chip.word a = c.word a) ∧
    (c.power = false → c.ao.cell = false → t.chip = c) ∧
    (c.power = true → c.time.running = true →
      t.chip.time.now = (c.time.now + c.time.incr) % (2 ^ 48 * 1000000000 * nsUnit))

/-- No command touches the queue: whatever the command and the state, the queue of the next state is the one it began with. -/
def Obligations.QueueUntouched : Prop := ∀ (i : Instr) (s t : State), exec i s = .next t → t.pending = s.pending

/-- Every command that names only units that the part has goes on: nothing is refused, and nothing else faults. -/
def Sys2Proof.wellFormedGoesOnRule : Prop := ∀ (i : Instr) (s : State), i.wf = true → ∃ t, exec i s = .next t

/-- A command stops only with `noUnit`, and only when it names a unit that the part does not have (log entry 6). -/
def Sys2Proof.stopsOnlyWithoutUnitRule : Prop :=
  ∀ (i : Instr) (s : State), (∀ r, exec i s ≠ .refused r) ∧ (∀ f, exec i s = .fault f → f = .noUnit ∧ i.wf = false)

/-- Every command that names only units that the part has goes on, and a command stops only with `noUnit` when it names one it lacks. -/
def Obligations.CommandsComplete : Prop := wellFormedGoesOnRule ∧ stopsOnlyWithoutUnitRule

/-! ## Power (R393, R433, R434) -/

/-- Without main power no other command changes anything. -/
def Sys2Proof.unpoweredUnmovedRule : Prop :=
  ∀ (i : Instr) (s t : State), s.chip.power = false → i.ofAlwaysOn = false → exec i s = .next t → t = s

/-- Only POWER_ON and MAIN_POWER_LOSS change whether the part has main power. -/
def Sys2Proof.powerKeptRule : Prop :=
  ∀ (i : Instr) (s t : State), exec i s = .next t → (∀ a b c d e, i ≠ .powerOn a b c d e) → i ≠ .mainPowerLoss →
    t.chip.power = s.chip.power

/-- Without main power only the commands of the always-on domain change anything, and only two commands change main power. -/
def Obligations.PowerFrame : Prop := unpoweredUnmovedRule ∧ powerKeptRule

/-- After reset the part is as it is delivered: no command waits, no main power, no cell, an empty register map, so every register
reads its reset value (those of the model's choosing are in log entry 7). -/
def Obligations.ResetAsDelivered : Prop :=
  State.reset.pending = [] ∧ State.reset.chip.power = false ∧ State.reset.chip.ao.cell = false ∧
    (∀ a, State.reset.chip.word a = resetWord a) ∧ State.reset.chip.keys.slots = [] ∧ State.reset.chip.jpend = []

/-- The reset state satisfies the invariant of `DarkKept`. -/
def Obligations.ResetDark : Prop := State.reset.darkInv

/-- Without main power the part is nothing but its always-on domain, its flash devices, its fuses and what it has sent: every step, of
whatever command, keeps this. -/
def Obligations.DarkKept : Prop := ∀ s t : State, s.darkInv → step s = .next t → t.darkInv

/-- Loss of main power: what the always-on domain, the flash devices and the fuses hold stays, with the share only while the cell holds
it; every key slot, SA, link secret, frame, journal entry not yet committed and register outside the always-on domain is lost. -/
def Sys2Proof.mainPowerLossRule : Prop :=
  ∀ s : State, s.chip.power = true → Goes .mainPowerLoss s fun c =>
    c.power = false ∧ c.flash0 = s.chip.flash0 ∧ c.flash1 = s.chip.flash1 ∧
      c.ao = (if s.chip.ao.cell then s.chip.ao else { s.chip.ao with share := fill 32 0 }) ∧
      c.keys.owners = s.chip.keys.owners ∧ c.keys.fwFuses = s.chip.keys.fwFuses ∧ c.keys.cfgFuses = s.chip.keys.cfgFuses ∧
      c.keys.slots = [] ∧ c.keys.e = none ∧ c.data = {} ∧ c.vault = {} ∧ c.jpend = [] ∧ c.mb0 = {} ∧ c.mb1 = {} ∧
      (∀ a, c.word a = if keptCold a then s.chip.word a else resetWord a)

/-- The backup cell: at its first connection the always-on domain takes its first-connection values; a later connection changes
nothing but the charge count; its removal with main power off loses the share and nothing else, and with main power on nothing. -/
def Sys2Proof.backupCellRule : Prop :=
  ∀ s : State,
    (s.chip.ao.cell = false → s.chip.ao.cellEver = false → Goes .backupCellConnect s fun c =>
      c.ao = { cell := true, cellEver := true } ∧ c.power = s.chip.power ∧ c.flash0 = s.chip.flash0 ∧ c.keys = s.chip.keys ∧
        ∀ a, c.word a = if keptCold a && a != R.MGT_STRAPS then resetWord a else s.chip.word a) ∧
    (s.chip.ao.cell = false → s.chip.ao.cellEver = true → Goes .backupCellConnect s fun c =>
      c.ao = { s.chip.ao with cell := true, charge := 0 } ∧ Chip.onlyRegs { s.chip with ao := { s.chip.ao with cell := true, charge := 0 } } c [R.HLT_CELL_USED] ∧
        c.word R.HLT_CELL_USED = 0) ∧
    (s.chip.power = false → Goes .backupCellRemoval s fun c =>
      c = { s.chip with ao := { s.chip.ao with cell := false, share := fill 32 0 } }) ∧
    (s.chip.power = true → Goes .backupCellRemoval s fun c => c = { s.chip with ao := { s.chip.ao with cell := false } })

/-- Loss of main power, and the backup cell. -/
def Obligations.PowerAndCell : Prop := mainPowerLossRule ∧ backupCellRule

/-! ## Starts (R37, R38, R39, R46, R47) -/

/-- What a cold start leaves of the part that it finds: flash but for its run number, the always-on domain but for the recorder's ring and
run number, and the fuses; ERASED_N is released unless the tamper latch is set, and the default classes of the tamper sources are in
force, as are the owner entries that the fuses hold; frames, tables, SAs, key slots, the vault and the mailboxes are empty. -/
def Sys2Proof.coldFrom (d c : Chip) : Prop :=
  { c.flash0 with flushRun := d.flash0.flushRun } = d.flash0 ∧ { c.flash1 with flushRun := d.flash1.flushRun } = d.flash1 ∧
    { c.ao with ring := d.ao.ring, run := d.ao.run, erasedN := d.ao.erasedN } = d.ao ∧
    c.ao.erasedN = (d.ao.erasedN && d.flag F.TMP_STATUS_tamper_latch) ∧
    (∀ n, n < 18 → c.rd (F.TMP_SRC_class n) = tamperFloor.getD n 0) ∧ c.keys.owners = d.keys.owners ∧ c.keys.fwFuses = d.keys.fwFuses ∧
    c.keys.cfgFuses = d.keys.cfgFuses ∧ c.keys.slots = [] ∧ c.keys.e = none ∧ c.data = {} ∧ c.vault = {} ∧ c.mb0 = {} ∧ c.mb1 = {} ∧
    c.jpend = [] ∧ c.img = none ∧ c.start.released = false ∧ c.start.endpoint = false ∧ c.keys.inForce = d.keys.owners.length

/-- POWER_ON with the conditions of R499, a reset input held low for 10 µs, and the retry of a failed start each begin a cold start for
their cause; a shorter reset pulse changes nothing, and a reset pulse during a cold start is ignored and recorded. With STRAP_TEST high
the part is powered without a start and holds HALT_N low. -/
def Sys2Proof.coldStartsBeginRule : Prop :=
  ∀ s : State,
    (∀ straps ref0 ref1, s.chip.power = false → (ref0 || ref1) = true → straps.test = false →
      Goes (.powerOn straps ref0 ref1 true true) s fun c => c.begun 1 0 ∧ coldFrom s.chip c) ∧
    (∀ straps ref0 ref1, s.chip.power = false → (ref0 || ref1) = true → straps.test = true →
      Goes (.powerOn straps ref0 ref1 true true) s fun c => c.power = true ∧ c.start = s.chip.start ∧ c.haltN = true) ∧
    (∀ lowNs straps, s.chip.power = true → 10000 ≤ lowNs → straps.test = false →
      (s.chip.start.busy && s.chip.rd F.MGT_START_STATUS_start_kind == 1) = false →
        Goes (.resetInput lowNs straps) s fun c => c.begun 1 1 ∧ coldFrom s.chip c) ∧
    (∀ lowNs straps, s.chip.power = true → 10000 ≤ lowNs → s.chip.start.busy = true → s.chip.rd F.MGT_START_STATUS_start_kind = 1 →
      Goes (.resetInput lowNs straps) s fun c =>
        c.rd F.MGT_START_CAUSE_ignored_causes = s.chip.rd F.MGT_START_CAUSE_ignored_causes ||| 2 ∧ Chip.noted s.chip c [R.MGT_START_CAUSE]) ∧
    (∀ lowNs straps, s.chip.power = true → lowNs < 10000 → Goes (.resetInput lowNs straps) s fun c => c = s.chip) ∧
    (s.chip.power = true → s.chip.start.retry = true → Goes .startRetryTimer s fun c => c.begun 1 4 ∧ coldFrom s.chip c)

/-- An uncorrectable error in an on-die memory begins a warm start, outside halt, the safe state and a start of its own weight or
more; the warm start keeps tables, SAs, keys, the vault, time and flash. -/
def Sys2Proof.scrubErrorWarmStartRule : Prop :=
  ∀ (s : State) (retained : Bool), s.chip.power = true → s.chip.halted = false → s.chip.safe = false → s.chip.start.busy = false →
    Goes (.ondieScrubError retained) s fun c => c.begun 2 7 ∧ c.data = s.chip.data ∧ c.keys = s.chip.keys ∧ c.vault = s.chip.vault ∧
      c.time = s.chip.time ∧ c.img = s.chip.img ∧ c.start.scrubBad = (retained || s.chip.start.scrubBad)

/-- What begins a cold start, and what begins a warm one. -/
def Obligations.StartsBegin : Prop := coldStartsBeginRule ∧ scrubErrorWarmStartRule

/-- Steps of a start that go on: the step is shown, the next one is at hand, and the last one ends the start. Stated for step 22 of a warm
start, which shows the part as configured, and for the steps that find nothing to do: 4 and 15 of a cold start, 7 with sound memories, 18
and 19 of a management restart, and 24 of the other two kinds. -/
def Sys2Proof.startStepsRule : Prop :=
  ∀ (s : State) (r : StepIn) (n : Nat) (rest : List Nat), s.chip.power = true → s.chip.start.busy = true → s.chip.start.todo = n :: rest →
    r.stepOk = true →
      let kind := s.chip.rd F.MGT_START_STATUS_start_kind
      let done (c : Chip) : Prop := c.rd F.MGT_START_STATUS_step = n ∧ c.start = { s.chip.start with todo := rest, busy := rest != [] } ∧
        Chip.onlyRegs { s.chip with start := c.start } c [R.MGT_START_STATUS]
      (n = 22 → kind = 2 → Goes (.startStep r) s fun c => c.configured = true ∧ done c) ∧
      ((kind = 1 ∧ (n = 4 ∨ n = 15)) ∨ (n = 7 ∧ s.chip.start.scrubBad = false) ∨ (kind = 3 ∧ (n = 18 ∨ n = 19)) ∨ (kind ≠ 3 ∧ n = 24) →
        Goes (.startStep r) s done)

/-- A start that fails, by a step that fails or by the time limit of R46 before the final step: the failure is recorded with the step's
number and put in front of the three that the always-on domain keeps. In halt the part stays in halt; the third failure within 600 s enters
the safe state; else a management restart goes over to a warm start, a warm start to a cold start, and a cold start waits for its retry. -/
def Sys2Proof.startFailsRule : Prop :=
  ∀ (s : State) (n : Nat) (rest : List Nat), s.chip.power = true → s.chip.start.busy = true → s.chip.start.todo = n :: rest → n < 256 →
    let kind := s.chip.rd F.MGT_START_STATUS_start_kind
    let fails := (s.chip.ao.timer :: s.chip.ao.fails).take 3
    let live := ({ s.chip with ao := { s.chip.ao with fails := fails } }).liveFails.length
    let failsAs (i : Instr) : Prop :=
      (s.chip.halted = true → Goes i s fun c => c.rd F.MGT_START_STATUS_last_fail_step = n ∧ c.ao.fails = fails ∧
        c.start = { s.chip.start with busy := false, todo := [], retry := false }) ∧
      (s.chip.halted = false → live < 3 → kind = 1 → Goes i s fun c => c.rd F.MGT_START_STATUS_last_fail_step = n ∧ c.ao.fails = fails ∧
        c.start = { s.chip.start with busy := false, todo := [], retry := true }) ∧
      (s.chip.halted = false → live < 3 → kind = 2 → Goes i s fun c => c.begun 1 3 ∧ c.ao.fails = fails) ∧
      (s.chip.halted = false → live < 3 → kind = 3 → Goes i s fun c => c.begun 2 3 ∧ c.ao.fails = fails) ∧
      (s.chip.halted = false → 3 ≤ live → Goes i s fun c => c.safe = true ∧ c.flag F.TMP_START_FAILS_safe_latched = true ∧
        c.start.busy = false ∧ c.ao.fails = fails)
    (∀ r : StepIn, r.stepOk = false ∨ (n = 7 ∧ s.chip.start.scrubBad = true) → failsAs (.startStep r)) ∧
      ((n :: rest).contains (finalStep kind) = true → failsAs .startTimeout) ∧
      ((n :: rest).contains (finalStep kind) = false → Goes .startTimeout s fun c => c = s.chip)

/-- The steps of a start, and starts that fail. -/
def Obligations.StartSteps : Prop := startStepsRule ∧ startFailsRule

/-! ## Single faults (R417 to R424) -/

/-- A fault of the active pair, or its watchdog, while firmware serves: with the standby ready the standby takes over, counted, and no
start begins; with no standby ready the pair is fenced and a management restart begins, which stops the servo and keeps tables, SAs,
key slots and flash. -/
def Sys2Proof.pairFaultsRule : Prop :=
  ∀ (s : State) (ecc : Bool), s.chip.power = true → s.chip.start.busy = false → s.chip.safe = false → s.chip.configured = true →
    s.chip.halted = false →
    let p := s.chip.rd F.MGT_PAIR_STATUS_active
    (s.chip.pairState (1 - p) = 1 →
      Goes (.pairFault ecc) s (fun c => c.rd F.MGT_PAIR_STATUS_last_cause = (if ecc then 2 else 1) ∧ c.pairState p = 3 ∧
        c.pairState (1 - p) = 0 ∧ c.rd F.MGT_PAIR_STATUS_active = 1 - p ∧ c.start = s.chip.start) ∧
      Goes .pairWatchdogExpiry s (fun c => c.rd F.MGT_PAIR_STATUS_last_cause = 3 ∧ c.pairState p = 3 ∧ c.pairState (1 - p) = 0 ∧
        c.rd F.MGT_PAIR_STATUS_active = 1 - p ∧ c.start = s.chip.start)) ∧
    (s.chip.pairState (1 - p) ≠ 1 →
      Goes (.pairFault ecc) s (fun c => c.begun 3 6 ∧ c.pairState p = 3 ∧ c.data = s.chip.data ∧ c.keys = s.chip.keys ∧
        c.time = { s.chip.time with stopped := true }) ∧
      Goes .pairWatchdogExpiry s (fun c => c.begun 3 6 ∧ c.pairState p = 3 ∧ c.data = s.chip.data ∧ c.keys = s.chip.keys ∧
        c.time = { s.chip.time with stopped := true } ∧ c.cow.flushDue = true))

/-- The standby pair: a checkpoint changes nothing that the part shows; a fenced pair that passes its self-test is ready, and one that
fails stays fenced and is not tried again before a cold start. -/
def Sys2Proof.pairSyncRule : Prop :=
  ∀ s : State, s.chip.power = true →
    Goes .pairStateCheckpoint s (fun c => c = s.chip) ∧
    (let p := 1 - s.chip.rd F.MGT_PAIR_STATUS_active
     s.chip.pairState p = 3 → s.chip.start.badPairs.contains p = false →
      Goes (.pairSyncComplete true) s (fun c => c.pairState p = 1 ∧ Chip.noted s.chip c [R.MGT_PAIR_STATUS]) ∧
      Goes (.pairSyncComplete false) s (fun c => c.start.badPairs = s.chip.start.badPairs ++ [p] ∧
        Chip.noted { s.chip with start := c.start } c []))

/-- Faults and synchronisation of the management pairs. -/
def Obligations.ManagementPairs : Prop := pairFaultsRule ∧ pairSyncRule

/-- Reference clocks: the loss of the selected input selects the other while that is good, and is a holdover when it is not; an input
that has been good again for 10 s is selected out of holdover, and otherwise becomes the standby. -/
def Obligations.ReferenceClocks : Prop :=
  ∀ (s : State) (i : Nat), s.chip.power = true → i < 2 →
    (s.chip.refGood i = true → s.chip.refGood (1 - i) = true → s.chip.rd F.MGT_REFCLK_selected = i →
      Goes (.refclkLoss i) s fun c => c.refGood i = false ∧ c.refGood (1 - i) = true ∧ c.rd F.MGT_REFCLK_selected = 1 - i ∧
        Chip.noted s.chip c [R.MGT_REFCLK]) ∧
    (s.chip.refGood i = true → s.chip.refGood (1 - i) = false →
      Goes (.refclkLoss i) s fun c => c.refGood i = false ∧ c.flag F.MGT_REFCLK_holdover = true ∧ Chip.noted s.chip c [R.MGT_REFCLK]) ∧
    (s.chip.refGood i = false → s.chip.flag F.MGT_REFCLK_holdover = true →
      Goes (.refclkRecovered i) s fun c => c.refGood i = true ∧ c.rd F.MGT_REFCLK_selected = i ∧ c.flag F.MGT_REFCLK_holdover = false ∧
        Chip.noted s.chip c [R.MGT_REFCLK]) ∧
    (s.chip.refGood i = false → s.chip.flag F.MGT_REFCLK_holdover = false →
      Goes (.refclkRecovered i) s fun c => c.refGood i = true ∧ c.rd F.MGT_REFCLK_selected = s.chip.rd F.MGT_REFCLK_selected ∧
        Chip.onlyRegs s.chip c [R.MGT_REFCLK])

/-- Flash devices: a failed device is marked, and persistence is blocked when both have failed; a device that passes its retry is marked
good again and, the other being good, holds what the other holds. -/
def Sys2Proof.flashDevicesRule : Prop :=
  ∀ s : State, s.chip.power = true →
    (s.chip.flashGood 0 = true → Goes (.flashDeviceFail 0) s fun c =>
      c.flashGood 0 = false ∧ c.flashGood 1 = s.chip.flashGood 1 ∧ c.persistBlocked = !s.chip.flashGood 1 ∧
        Chip.noted s.chip c [R.MGT_FLASH_STATUS]) ∧
    (s.chip.flashGood 1 = true → Goes (.flashDeviceFail 1) s fun c =>
      c.flashGood 1 = false ∧ c.flashGood 0 = s.chip.flashGood 0 ∧ c.persistBlocked = !s.chip.flashGood 0 ∧
        Chip.noted s.chip c [R.MGT_FLASH_STATUS]) ∧
    (s.chip.firmware = true → s.chip.flashGood 0 = false → s.chip.flashGood 1 = true → Goes (.flashRetry 0 true) s fun c =>
      c.flashGood 0 = true ∧ c.persistBlocked = false ∧ c.flash0.half0 = s.chip.flash1.half0 ∧ c.flash0.half1 = s.chip.flash1.half1 ∧
        c.flash0.slot0 = s.chip.flash1.slot0 ∧ c.flash0.slot1 = s.chip.flash1.slot1 ∧ c.flash0.history = s.chip.flash1.history ∧
        { c.flash1 with flushRun := s.chip.flash1.flushRun } = s.chip.flash1)

/-- The journal: with a healthy device the oldest waiting entry is programmed on every healthy device and leaves the queue; while both
are failed it leaves it unwritten. A compaction writes the net state into the other half and empties the full one. -/
def Sys2Proof.journalRule : Prop :=
  ∀ (s : State) (e : JEntry) (es : List JEntry), s.chip.power = true → s.chip.start.ordered = 0 →
    (s.chip.jpend = e :: es → 2 ≤ e.fn → (∀ i v, e.op ≠ .pnCeiling i v) →
      Goes .journalCommit s fun c => c.jpend = es ∧ c.regs = s.chip.regs ∧
        c.flash0 = (if !s.chip.persistBlocked && s.chip.flashGood 0 then s.chip.flash0.journal s.chip.jhalf e else s.chip.flash0) ∧
        c.flash1 = (if !s.chip.persistBlocked && s.chip.flashGood 1 then s.chip.flash1.journal s.chip.jhalf e else s.chip.flash1)) ∧
    (s.chip.persistBlocked = false → s.chip.flashGood 0 = true → s.chip.flashGood 1 = true → s.chip.jhalf = 0 →
      Goes .journalCompaction s fun c => c.jhalf = 1 ∧ c.flash0.half1 = netEntries s.chip.flash0.half0 ∧ c.flash0.half0 = [] ∧
        c.flash1.half1 = netEntries s.chip.flash1.half0 ∧ c.flash1.half0 = [] ∧ c.flash0.slot0 = s.chip.flash0.slot0 ∧
        c.jpend = s.chip.jpend ∧ c.regs = s.chip.regs)

/-- Flash devices and the journal. -/
def Obligations.FlashAndJournal : Prop := flashDevicesRule ∧ journalRule

/-! ## Registers (R9 to R12, R443, R465 to R468) -/

/-- An initiator of R445 may touch a dword now. -/
def Sys2Proof.permitted (c : Chip) (init a : Nat) (write : Bool) : Prop := c.served init a = true ∧ c.allowed init a write = true

/-- A permitted write of a register that has no effect of its own changes that register alone: its RW and RWS bits take the bits written,
a 1 clears a W1C bit, and every other bit stays. A W1C bit that the part sets in the clock of the write remains set. -/
def Sys2Proof.registerWritesRule : Prop :=
  ∀ (s : State) (init a : Nat) (v new : W32) (d : RegDesc) (w : Nat), s.chip.power = true → permitted s.chip init a true →
    descOf a = some (d, w) → a < 0x50000 → (∀ c x, Chip.writeSpecial c init a x = none) →
      Goes (.registerWrite init a [{ value := v }]) s (fun c => Chip.onlyRegs s.chip c [a] ∧
        ∀ k, k < 32 → (c.word a).getLsbD k = (if (d.rw ||| d.rws).getLsbD k then v.getLsbD k else (s.chip.word a).getLsbD k) &&
          !(d.w1c.getLsbD k && v.getLsbD k)) ∧
      Goes (.writeOneClear init a v new) s (fun c => Chip.onlyRegs s.chip c [a] ∧
        ∀ k, k < 32 → d.w1c.getLsbD k = true →
          (c.word a).getLsbD k = (new.getLsbD k || (if (d.rw ||| d.rws).getLsbD k then v.getLsbD k else (s.chip.word a).getLsbD k) && !v.getLsbD k))

/-- A write that an access check unit denies changes no register but the unit's count and its record of the oldest unread denial (and
what a recorder entry changes), and is answered with an error. -/
def Sys2Proof.deniedWriteRule : Prop :=
  ∀ (s : State) (init u a : Nat) (v : W32), s.chip.power = true → acuOf init = some u → s.chip.served init a = true →
    s.chip.allowed init a true = false →
      Goes (.registerWrite init a [{ value := v }]) s fun c =>
        c.out = s.chip.out ++ [.regError init a true] ∧ c.word (R.ACU_DENIED u) = s.chip.word (R.ACU_DENIED u) + 1 ∧
          (∀ x, x ≠ R.ACU_DENIED u → x ≠ R.ACU_ERR u → x ∉ recWords → c.word x = s.chip.word x) ∧ c.data = s.chip.data ∧
          c.keys = s.chip.keys ∧ c.mb0 = s.chip.mb0 ∧ c.mb1 = s.chip.mb1

/-- What the access check units deny whatever their regions say: writes by PF1 outside its mailbox window, writes by PF0 inside that window,
writes of the ACU block by anyone, and every access of the debug port without a session. -/
def Sys2Proof.fixedDenialsRule : Prop :=
  ∀ (c : Chip) (a : Nat),
    (a < 0x100 ∨ 0x200 ≤ a → c.allowed 3 a true = false) ∧ (0x100 ≤ a → a < 0x200 → c.allowed 2 a true = false) ∧
      (∀ init, 0x4000 ≤ a → a < 0x8000 → c.allowed init a true = false) ∧
      (∀ w, c.flag F.HST_DEBUG_session = false → c.allowed 4 a w = false)

/-- Three units check: unit 0 the accesses of PF0, unit 1 those of PF1, unit 2 those of the debug port, by the permission that governs the
dword, once the endpoint is enabled and where nothing is denied whatever the regions say. Firmware and the other internal initiators are
checked by none, and the regions of one unit do not bear on an initiator of another. -/
def Sys2Proof.accessUnitsRule : Prop :=
  ∀ (c : Chip) (init a : Nat) (w : Bool),
    (∀ u, acuOf init = some u → c.start.endpoint = true → c.fixedDeny init a w = false →
      c.allowed init a w = bit (c.acuPerm u a) (if w then 1 else 0)) ∧
    (init ≤ 1 → c.allowed init a w = !c.fixedDeny init a w) ∧
    acuOf 2 = some 0 ∧ acuOf 3 = some 1 ∧ acuOf 4 = some 2 ∧
    (∀ v r size sub perm base, v ≤ 2 → r ≤ 15 → acuOf init ≠ some v →
      (c.setRegion v r size sub perm base).allowed init a w = c.allowed init a w)

/-- What a denied write does, what is denied whatever the regions say, and which unit checks whom. -/
def Obligations.AccessDenials : Prop := deniedWriteRule ∧ fixedDenialsRule ∧ accessUnitsRule

/-- A permitted read of a plain register returns it and changes no register: the lowest word of a wide value latches the higher words
for the initiator, and a higher word reads as what was latched for that initiator. A chained pair of an engine's counters is one value of
four words. Where the response carries a bus code that disagrees, the initiator takes zero data with an error and BUS_CODE is active. -/
def Sys2Proof.registerReadsRule : Prop :=
  ∀ (s : State) (init a : Nat) (d : RegDesc), s.chip.power = true → permitted s.chip init a false → a ≠ R.PRT_PM_TCA →
    wordIx a (R.TIM_CAP 0) 5 16 = none → d.rc = 0 →
      (descOf a = some (d, 0) → d.wide = 2 → s.chip.chained a = none → Goes (.counterLowRead init ⟨a, none⟩) s fun c =>
        c.out = s.chip.out ++ [.regRead init [s.chip.view a] false] ∧ c.shadow init (a + 4) = s.chip.view (a + 4) ∧
          c.regs = s.chip.regs ∧ (∀ i x, (i ≤ 1 ∧ 2 ≤ init ∨ 2 ≤ i ∧ i ≠ init) → x < 2 ^ 20 → a + 4 < 2 ^ 20 → c.shadow i x = s.chip.shadow i x)) ∧
      (descOf a = some (d, 0) → s.chip.chained a = some 0 → Goes (.counterLowRead init ⟨a, none⟩) s fun c =>
        c.out = s.chip.out ++ [.regRead init [s.chip.view a] false] ∧ c.shadow init (a + 4) = s.chip.view (a + 4) ∧
          c.shadow init (a + 8) = s.chip.view (a + 8) ∧ c.shadow init (a + 12) = s.chip.view (a + 12) ∧ c.regs = s.chip.regs) ∧
      (∀ k, descOf a = some (d, 0) → s.chip.chained a = some (k + 1) → Goes (.counterLowRead init ⟨a, none⟩) s fun c =>
        c = { s.chip with out := s.chip.out ++ [.regRead init [s.chip.shadow init a] false] }) ∧
      (∀ w, descOf a = some (d, w + 1) → Goes (.counterLowRead init ⟨a, none⟩) s fun c =>
        c = { s.chip with out := s.chip.out ++ [.regRead init [s.chip.shadow init a] false] }) ∧
      (∀ code, descOf a = some (d, 0) → d.wide = 1 → s.chip.chained a = none → codeGood code a init 0 (s.chip.view a) = false →
        s.chip.sourceUsed 15 = true → s.chip.rd (F.TMP_SRC_class 15) < 2 → Goes (.counterLowRead init ⟨a, code⟩) s fun c =>
          c.out = s.chip.out ++ [.regRead init [0] true] ∧ bit (c.rd F.TMP_ACTIVE_active) 15 = true)

/-- A permitted read of a register with RC fields returns it, and the fields take their reset values, or the occupancy for a depth mark;
what was cleared is added to the telemetry total of the register. -/
def Sys2Proof.readClearsRule : Prop :=
  ∀ (s : State) (init a : Nat) (d : RegDesc), s.chip.power = true → permitted s.chip init a false → a ≠ R.PRT_PM_TCA →
    wordIx a (R.TIM_CAP 0) 5 16 = none → descOf a = some (d, 0) → d.wide = 1 → d.rc ≠ 0 →
      Goes (.readClear init a []) s fun c =>
        c.out = s.chip.out ++ [.regRead init [s.chip.view a] false] ∧
          c.word a = ((s.chip.word a &&& ~~~d.rc) ||| (s.chip.restartValue a d &&& d.rc)) ∧ (∀ x, x ≠ a → c.word x = s.chip.word x) ∧
          { c with regs := s.chip.regs, out := s.chip.out, tele := s.chip.tele } = s.chip

/-- Register reads, and the fields that a read clears. -/
def Obligations.RegisterReading : Prop := registerReadsRule ∧ readClearsRule

/-- Copies into data registers that a write with its go bit orders: a multicast group, a slot's
status, a tamper log entry, and a channel's state, each shown in its data registers with nothing else changed. -/
def Sys2Proof.statusCopiesRule : Prop :=
  ∀ (s : State) (init n : Nat), s.chip.power = true →
    (permitted s.chip init R.SWC_MC_SEL true → n < 16384 → Goes (.mcastGroupCopy init (BitVec.ofNat 32 (n + 2 ^ 14))) s fun c =>
      c.rd F.SWC_MC_SEL_group = n ∧ (∀ w, w < 5 → c.word (R.SWC_MC_DATA w) = BitVec.ofNat 32 (s.chip.group n / 2 ^ (32 * w))) ∧
        Chip.onlyRegs s.chip c (R.SWC_MC_SEL :: (List.range 5).map R.SWC_MC_DATA)) ∧
    (permitted s.chip init R.KEY_SLOT_SEL true → n < 1024 → Goes (.slotInfoCopy init (BitVec.ofNat 32 (n + 2 ^ 10))) s fun c =>
      c.rd F.KEY_SLOT_SEL_slot = n ∧ c.word R.KEY_SLOT_INFO = BitVec.ofNat 32 (s.chip.slotInfo n) ∧
        c.num R.KEY_SLOT_EXPIRY 2 = (s.chip.slot n).expiry % 2 ^ 64 ∧ c.num R.KEY_SLOT_USES 2 = (s.chip.slot n).uses % 2 ^ 64 ∧
        Chip.onlyRegs s.chip c [R.KEY_SLOT_SEL, R.KEY_SLOT_INFO, R.KEY_SLOT_EXPIRY, R.KEY_SLOT_EXPIRY + 4, R.KEY_SLOT_USES, R.KEY_SLOT_USES + 4]) ∧
    (permitted s.chip init R.TMP_LOG_SEL true → n < 64 → Goes (.tamperLogCopy init (BitVec.ofNat 32 (n + 2 ^ 6))) s fun c =>
      c.rd F.TMP_LOG_SEL_index = n ∧
        (∀ w, w < 4 → c.word (R.TMP_LOG_DATA w) = BitVec.ofNat 32 (le (Sparse.get [] s.chip.ao.log n) (4 * w) 4)) ∧
        Chip.onlyRegs s.chip c (R.TMP_LOG_SEL :: (List.range 4).map R.TMP_LOG_DATA)) ∧
    (permitted s.chip init R.SAS_SC_SEL true → n < 65536 → Goes (.scStateCopy init (BitVec.ofNat 32 (n + 2 ^ 16))) s fun c =>
      c.rd F.SAS_SC_SEL_sc = n ∧ c.word R.SAS_SC_STATUS = BitVec.ofNat 32 (s.chip.scStatusWord n) ∧
        c.num R.SAS_SC_EPOCH 2 = (if (s.chip.chan n).isSome then (s.chip.scRun n).epoch else 0) % 2 ^ 64 ∧
        Chip.onlyRegs s.chip c
          [R.SAS_SC_SEL, R.SAS_SC_STATUS, R.SAS_SC_EPOCH, R.SAS_SC_EPOCH + 4, R.SAS_SC_SKIP, R.SAS_SC_SKIP + 4])

/-- Copies of counters with and without their clear, and of a bin: an SA's counters are shown and cleared by one write when it asks for
it, as are a program counter's; a bin that exists is shown with `valid`, and one that does not with zeros. -/
def Sys2Proof.counterCopiesRule : Prop :=
  ∀ (s : State) (init n m : Nat) (clear : Bool), s.chip.power = true →
    (permitted s.chip init R.CPH_SA_SEL true → n < 131072 →
      Goes (.saStateCopy init (BitVec.ofNat 32 (n + 2 ^ 17 * b2n clear + 2 ^ 18))) s fun c =>
        c.word R.CPH_SA_STATUS = BitVec.ofNat 32 (s.chip.saStatusWord n) ∧
          (∀ k, k < 6 → c.num (R.CPH_SA_DATA (2 * k)) 2 = (s.chip.sa n).data.getD k 0 % 2 ^ 64) ∧
          c.sa n = (if clear then { s.chip.sa n with frames := 0, octets := 0, fails := 0, replays := 0 } else s.chip.sa n) ∧
          (∀ i, i ≠ n → c.sa i = s.chip.sa i) ∧
          ∀ a, a ∉ R.CPH_SA_SEL :: R.CPH_SA_STATUS :: (List.range 12).map R.CPH_SA_DATA → c.word a = s.chip.word a) ∧
    (permitted s.chip init R.FLW_CNT_SEL true → n < 16 → m < 8192 →
      Goes (.flwCounterCopy init (BitVec.ofNat 32 (n + 2 ^ 4 * m + 2 ^ 17 * b2n clear + 2 ^ 18))) s fun c =>
        c.num (R.FLW_CNT_DATA 0) 2 = (Sparse.get (0, 0) s.chip.data.counts (8192 * n + m)).1 % 2 ^ 64 ∧
          c.num (R.FLW_CNT_DATA 2) 2 = (Sparse.get (0, 0) s.chip.data.counts (8192 * n + m)).2 % 2 ^ 64 ∧
          Sparse.get (0, 0) c.data.counts (8192 * n + m) = (if clear then (0, 0) else Sparse.get (0, 0) s.chip.data.counts (8192 * n + m)) ∧
          (∀ j, j ≠ 8192 * n + m → Sparse.get (0, 0) c.data.counts j = Sparse.get (0, 0) s.chip.data.counts j) ∧
          ∀ a, a ∉ R.FLW_CNT_SEL :: (List.range 4).map R.FLW_CNT_DATA → c.word a = s.chip.word a) ∧
    (permitted s.chip init R.PRT_PM_CTRL true → n < 144 → m < 35 →
      Goes (.pmBinCopy init (BitVec.ofNat 32 (2 * n + 2 ^ 17 * m + 2 ^ 23))) s fun c =>
        c.flag F.PRT_PM_STATUS_valid = (s.chip.binOf n m).isSome ∧ c.flag F.PRT_PM_STATUS_bad_select = false ∧
          (∀ b, s.chip.binOf n m = some b → c.num R.PRT_PM_START 2 = b.start % 2 ^ 48 ∧
            ∀ w, w < 12 → c.word (R.PRT_PM_DATA w) = BitVec.ofNat 32 (le (b.entry true (m == 0 || m == 33)) (4 * w) 4)) ∧
          (s.chip.binOf n m = none → ∀ w, w < 12 → c.word (R.PRT_PM_DATA w) = 0) ∧
          Chip.onlyRegs s.chip c (R.PRT_PM_CTRL :: R.PRT_PM_STATUS :: R.PRT_PM_START :: (R.PRT_PM_START + 4) :: (List.range 12).map R.PRT_PM_DATA))

/-- Copies of status registers and of counters. -/
def Obligations.CopiedStatus : Prop := statusCopiesRule ∧ counterCopiesRule

/-- A search of the forwarding tables shows what it finds in the result words, and whether it found anything: a MAC address while no
entry of the pipeline is being moved, a MAC entry by its place, and a next hop. -/
def Sys2Proof.tableSearchRule : Prop :=
  ∀ (s : State) (init k : Nat), s.chip.power = true → permitted s.chip init R.FWD_SRCH_CTRL true → k < 4 →
    let shown (op : Nat) (found : Option (List Nat)) : Prop :=
      Goes (.fwdSearch init (BitVec.ofNat 32 (k + 4 * op + 16))) s fun c =>
        c.flag F.FWD_SRCH_CTRL_found = found.isSome ∧
          (∀ w, w < 6 → c.word (R.FWD_SRCH_RES w) = BitVec.ofNat 32 ((found.getD []).getD w 0)) ∧
          Chip.onlyRegs s.chip c (R.FWD_SRCH_CTRL :: (List.range 6).map R.FWD_SRCH_RES)
    let a0 := (s.chip.word R.FWD_SRCH_ARG0).toNat
    let a1 := (s.chip.word R.FWD_SRCH_ARG1).toNat
    ((s.chip.pipe k).chain = none →
      shown 0 ((s.chip.macFind k (bits a1 16 12) (bits a1 0 16 * 2 ^ 32 + a0)).map (fun pos => macWords (s.chip.macAt k pos) pos false))) ∧
    ((s.chip.pipe k).chain = none →
      shown 1 (let pos := macPos (bits a0 0 1) (bits a0 1 14) (bits a0 15 2)
               if (s.chip.macAt k pos).valid then some (macWords (s.chip.macAt k pos) pos false) else none)) ∧
    shown 3 (let e := Sparse.get [] (s.chip.pipe k).nh (bits a0 0 12)
             if e = [] then none else some ((List.range 4).map (fun w => le e (4 * w) 4) ++ [0, 0]))

/-- Reads that take the oldest entry of a queue: the alert log, and the capture FIFO of an input, whose level falls by one and whose
higher words are latched for the initiator; an empty one reads as zero. -/
def Sys2Proof.queueReadsRule : Prop :=
  ∀ (s : State) (init : Nat), s.chip.power = true →
    (∀ w ws, permitted s.chip init R.PRT_PM_TCA false → s.chip.pm.tca = w :: ws → Goes (.pmTcaRead init) s fun c =>
      c = { s.chip with pm := { s.chip.pm with tca := ws }, out := s.chip.out ++ [.regRead init [w] false] }) ∧
    (permitted s.chip init R.PRT_PM_TCA false → s.chip.pm.tca = [] → Goes (.pmTcaRead init) s fun c =>
      c = { s.chip with out := s.chip.out ++ [.regRead init [0] false] }) ∧
    (∀ i e es, i < 5 → permitted s.chip init (R.TIM_CAP i) false → Sparse.get [] s.chip.time.caps i = e :: es → es.length < 64 →
      Goes (.captureRead init i) s fun c =>
        Sparse.get [] c.time.caps i = es ∧ c.rd (F.TIM_CAP_STATUS_level i) = es.length ∧
          c.shadow init (R.TIM_CAP i + 4) = BitVec.ofNat 32 (e.time / nsUnit % 1000000000) ∧
          c.out = s.chip.out ++
            [.regRead init [BitVec.ofNat 32 (e.time % nsUnit / 65536 + 65536 * b2n e.falling + 2 ^ 31)] false] ∧
          ∀ a, a ≠ R.TIM_CAP_STATUS i → c.word a = s.chip.word a)

/-- Searches of the forwarding tables, and reads of the queues. -/
def Obligations.SearchAndQueues : Prop := tableSearchRule ∧ queueReadsRule

/-- A write of TMP_LATCHED with ones clears the latched bits of the sources that are not active, and no other; a BAR2 write is dropped and
answered as an Unsupported Request. -/
def Sys2Proof.latchedClearRule : Prop :=
  ∀ (s : State) (init fn : Nat) (v : W32), s.chip.power = true →
    (permitted s.chip init R.TMP_LATCHED true → Goes (.tmpLatchedClear init v) s fun c =>
      Chip.onlyRegs s.chip c [R.TMP_LATCHED] ∧
        ∀ k, k < 18 → (c.word R.TMP_LATCHED).getLsbD k =
          ((s.chip.word R.TMP_LATCHED).getLsbD k && !(v.getLsbD k && !(s.chip.word R.TMP_ACTIVE).getLsbD k))) ∧
    (fn ≤ 1 → Goes (.bar2Write fn) s fun c => c = { s.chip with out := s.chip.out ++ [.unsupported fn] })

/-- At every register: a W1C bit that the part sets in the clock of a permitted write that would clear it remains set. -/
def Sys2Proof.setBitsRemainRule : Prop :=
  ∀ (s : State) (init a k : Nat) (v new : W32) (d : RegDesc) (w : Nat), s.chip.power = true → permitted s.chip init a true →
    descOf a = some (d, w) → k < 32 → d.w1c.getLsbD k = true → new.getLsbD k = true →
      Goes (.writeOneClear init a v new) s fun c => (c.word a).getLsbD k = true

/-- Register writes, and the clearing of bits by writing ones. -/
def Obligations.RegisterWriting : Prop := registerWritesRule ∧ latchedClearRule ∧ setBitsRemainRule

/-- A refresh of a telemetry region, while the endpoint and telemetry are enabled and no cold or warm start runs: the region's generation
rises by two, its period is shown, and nothing but the telemetry window changes; the region of the shapers shows their registers. -/
def Obligations.TelemetryRefresh : Prop :=
  ∀ (s : State) (r : Nat), s.chip.power = true → r ≤ 8 → s.chip.start.endpoint = true → s.chip.teleEnable = true → s.chip.telePaused = false →
    Goes (.telemetryRefresh r) s fun c =>
      { c with tele := s.chip.tele } = s.chip ∧
        c.bar2 (32 * r) = s.chip.bar2 (32 * r) + 2 ∧
        c.bar2 (32 * r + 16) = BitVec.ofNat 32 s.chip.telePeriod ∧
        (r = 4 → ∀ k, k < 16960 → c.bar2 (0x40000 + 4 * k) = s.chip.view (R.TMG_SHAPER_RATE 0 + 4 * k))

/-! ## The host (R441, R448, R452, R458, R463, R464) -/

/-- The link trains on a part whose straps enable it and ask for no board test, from step 3 of a cold start on; nothing but HST_LINK
changes. -/
def Sys2Proof.linkUpRule : Prop :=
  ∀ (s : State) (width speed : Nat) (pf0 pf1 : Bool), s.chip.power = true → s.chip.flag F.MGT_STRAPS_pcie_en = true → s.chip.flag F.MGT_STRAPS_test = false →
    (s.chip.start.busy = true → s.chip.rd F.MGT_START_STATUS_start_kind ≠ 1 ∨ s.chip.start.todo.contains 3 = false) →
    0 < width → width ≤ 8 → 0 < speed → speed ≤ 5 →
      Goes (.pcieLinkUp width speed pf0 pf1) s fun c =>
        c.flag F.HST_LINK_link_up = true ∧ c.rd F.HST_LINK_width = width ∧ c.rd F.HST_LINK_speed = speed ∧ c.flag F.HST_LINK_pf0_bme = pf0 ∧
          c.flag F.HST_LINK_pf1_bme = (pf1 && s.chip.flag F.HST_LINK_pf1_present) ∧ Chip.onlyRegs s.chip c [R.HST_LINK]

/-- What a departure leaves of a function's mailbox: disabled, indices zero, no reply waiting; its last sequence number and completion
table as they were. -/
def Sys2Proof.departed (d c : Chip) (f : Nat) : Prop :=
  c.flag (F.HST_MB_CFG_enable f) = false ∧ c.rd (F.HST_MB_PROD_prod f) = 0 ∧ c.rd (F.HST_MB_CONS_cons f) = 0 ∧
    c.rd (F.HST_MB_RPROD_rprod f) = 0 ∧ (c.mb f).replies = [] ∧ (c.mb f).table = (d.mb f).table ∧
    c.num (R.HST_MB_LAST_SEQ f) 2 = d.num (R.HST_MB_LAST_SEQ f) 2

/-- PERST, a link down, a hot reset, a function level reset and the clearing of Bus Master Enable, with no start ordered: the function or
functions depart, the link is down after those that take it down, and frames, tables, key slots, the vault, time and flash are as they
were. -/
def Sys2Proof.departuresRule : Prop :=
  ∀ s : State, s.chip.power = true → s.chip.start.ordered = 0 →
    let kept (c : Chip) : Prop := c.data = s.chip.data ∧ c.vault = s.chip.vault ∧ c.time = s.chip.time ∧ c.flash0 = s.chip.flash0 ∧
      c.flash1 = s.chip.flash1 ∧ c.ao = s.chip.ao ∧ c.img = s.chip.img ∧ c.start = s.chip.start
    (s.chip.flag F.HST_LINK_link_up = true →
      Goes .pciePerst s (fun c => departed s.chip c 0 ∧ departed s.chip c 1 ∧ c.flag F.HST_LINK_link_up = false ∧ kept c) ∧
      Goes (.hostDeparture .linkDown) s (fun c => departed s.chip c 0 ∧ departed s.chip c 1 ∧ c.flag F.HST_LINK_link_up = false ∧ kept c) ∧
      Goes (.hostDeparture .hotReset) s (fun c => departed s.chip c 0 ∧ departed s.chip c 1 ∧ c.flag F.HST_LINK_link_up = false ∧ kept c) ∧
      Goes (.hostDeparture (.flr 0)) s (fun c => departed s.chip c 0 ∧ c.mb1 = s.chip.mb1 ∧ c.flag F.HST_LINK_link_up = true ∧ kept c)) ∧
    (s.chip.flag F.HST_LINK_pf0_bme = true →
      Goes (.hostDeparture (.busMasterClear 0)) s (fun c => departed s.chip c 0 ∧ c.mb1 = s.chip.mb1 ∧ c.flag F.HST_LINK_pf0_bme = false ∧ kept c)) ∧
    (s.chip.flag F.HST_LINK_pf1_bme = true →
      Goes (.hostDeparture (.busMasterClear 1)) s (fun c => departed s.chip c 1 ∧ c.mb0 = s.chip.mb0 ∧ c.flag F.HST_LINK_pf1_bme = false ∧ kept c))

/-- The PCIe link, and the departure of functions. -/
def Obligations.LinkAndDepartures : Prop := linkUpRule ∧ departuresRule

/-- The rings of a mailbox: a write of PROD that is not further ahead of RPROD than the ring is long is taken, and one that is changes
nothing but the count of overruns; a reset zeroes the indices and clears dma_error, and keeps the last sequence number and the completion
table. -/
def Obligations.MailboxRings : Prop :=
  ∀ (s : State) (init f p m vec : Nat) (enable : Bool), s.chip.power = true → f ≤ 1 →
    (permitted s.chip init (R.HST_MB_PROD f) true → p < 65536 →
      (p + 65536 - s.chip.rd (F.HST_MB_RPROD_rprod f)) % 65536 ≤ 2 ^ s.chip.rd (F.HST_MB_CFG_log2_entries f) →
        Goes (.mailboxProduce init f (BitVec.ofNat 32 p)) s fun c =>
          c.rd (F.HST_MB_PROD_prod f) = p ∧ Chip.onlyRegs s.chip c [R.HST_MB_PROD f]) ∧
    (permitted s.chip init (R.HST_MB_PROD f) true → p < 65536 →
      2 ^ s.chip.rd (F.HST_MB_CFG_log2_entries f) < (p + 65536 - s.chip.rd (F.HST_MB_RPROD_rprod f)) % 65536 →
        Goes (.mailboxProduce init f (BitVec.ofNat 32 p)) s fun c =>
          c.rd (F.HST_MB_STATUS_overruns f) = min (s.chip.rd (F.HST_MB_STATUS_overruns f) + 1) 65535 ∧
            Chip.onlyRegs s.chip c [R.HST_MB_STATUS f]) ∧
    (permitted s.chip init (R.HST_MB_CFG f) true → m < 16 → vec < 64 →
      Goes (.mailboxReset init f (BitVec.ofNat 32 (m + 2 ^ 4 * b2n enable + 2 ^ 5 + 2 ^ 6 * vec))) s fun c =>
        c.rd (F.HST_MB_CFG_log2_entries f) = m ∧ c.flag (F.HST_MB_CFG_enable f) = enable ∧ c.rd (F.HST_MB_PROD_prod f) = 0 ∧
          c.rd (F.HST_MB_CONS_cons f) = 0 ∧ c.rd (F.HST_MB_RPROD_rprod f) = 0 ∧ c.flag (F.HST_MB_STATUS_dma_error f) = false ∧
          (c.mb f).replies = [] ∧ (c.mb f).table = (s.chip.mb f).table ∧
          c.num (R.HST_MB_LAST_SEQ f) 2 = s.chip.num (R.HST_MB_LAST_SEQ f) 2 ∧ (f = 0 → c.rd (F.HST_MB_CFG_vector 0) = vec))

/-- A long command that waits for nothing completes: it leaves the mailbox's list of long commands, its code and result become final in
the completion table, and nothing outside the mailbox changes. -/
def Obligations.LongCommandDone : Prop :=
  ∀ (s : State) (f seq code result : Nat) (l : LongCmd), s.chip.power = true → f ≤ 1 → s.chip.mbServed f = true →
    s.chip.start.ordered = 0 → (s.chip.mb f).longs.find? (fun x => x.reply.seq == seq) = some l → l.wait = .ready →
    l.reply.answer = some (code, result) →
      Goes (.longCommandDone f seq) s fun c =>
        (c.mb f).longs = (s.chip.mb f).longs.filter (fun x => x.reply.seq != seq) ∧
          (c.mb f).table = (s.chip.mb f).table.map (fun d => if d.seq = seq && d.code.isNone then { d with code := some code, result := result } else d) ∧
          Chip.mbBut (replyWords f) f s.chip c

/-! ## Line ports and uplinks (R74, R75, R102, R103) -/

/-- Changes of a released port's signal and locks show in its status word and nowhere else, but that an uplink that loses its signal must
negotiate and train anew, and that a Denast port that gains its alignment begins its hunt at the first byte after the marker and one that
loses it outside SYNC begins its hunt anew; an uplink's
auto-negotiation, training and restart show in what its up condition needs. -/
def Obligations.PortLocks : Prop :=
  ∀ (s : State) (p : Nat) (on : Bool), p < 144 → s.chip.receives p = true →
    (p < 96 → Goes (.signalChange p on) s fun c => c.flag (F.PRT_STATUS_signal p) = on ∧ Chip.onlyRegs s.chip c [R.PRT_STATUS p]) ∧
    (96 ≤ p → Goes (.signalChange p false) s fun c => c.flag (F.PRT_STATUS_signal p) = false ∧ (c.port p).anDone = false ∧
      (c.port p).trained = false ∧ ∀ q, q ≠ p → c.port q = s.chip.port q) ∧
    Goes (.cdrLockChange p on) s (fun c => c.flag (F.PRT_STATUS_cdr_lock p) = on ∧ Chip.onlyRegs s.chip c [R.PRT_STATUS p]) ∧
    (s.chip.isDenast p = false → Goes (.alignmentLockChange p on) s fun c =>
      c.flag (F.PRT_STATUS_am_lock p) = on ∧ Chip.onlyRegs s.chip c [R.PRT_STATUS p]) ∧
    (s.chip.isDenast p = true → Goes (.alignmentLockChange p true) s fun c =>
      c.flag (F.PRT_STATUS_am_lock p) = true ∧
        Chip.onlyRegs (s.chip.setDelin p { s.chip.delin p with pos := 0, due := none, last := false }) c [R.PRT_STATUS p]) ∧
    (s.chip.isDenast p = true → s.chip.rd (F.PRT_DEN_STATUS_state p) ≠ 2 → Goes (.alignmentLockChange p false) s fun c =>
      c.flag (F.PRT_STATUS_am_lock p) = false ∧ c.rd (F.PRT_DEN_STATUS_state p) = 0 ∧
        Chip.onlyRegs (s.chip.setDelin p { s.chip.delin p with due := none, last := false }) c [R.PRT_STATUS p, R.PRT_DEN_STATUS p]) ∧
    (s.chip.isDenast p = false → Goes (.pcsLockChange p on) s fun c =>
      c.flag (F.PRT_STATUS_pcs_ready p) = on ∧ Chip.onlyRegs s.chip c [R.PRT_STATUS p]) ∧
    (96 ≤ p →
      Goes (.uplinkAutonegComplete p) s (fun c => c = s.chip.setPort p { s.chip.port p with anDone := true }) ∧
      ((s.chip.port p).anDone = true →
        Goes (.uplinkTrainingComplete p) s fun c => c = s.chip.setPort p { s.chip.port p with trained := true }) ∧
      ((s.chip.port p).anDone = true → (s.chip.port p).trained = false →
        Goes (.autonegRestart p) s fun c => c = s.chip.setPort p { s.chip.port p with anDone := false }))

/-- A port whose up conditions have held is declared up, and one whose conditions have lapsed down: link_up and link_changed say so, and
link_downs counts the latter up to its limit. -/
def Sys2Proof.linkStateRule : Prop :=
  ∀ (s : State) (p : Nat), p < 144 → s.chip.receives p = true → s.chip.halted = true ∨ p ≥ 96 →
    s.chip.flushOnDown p = false →
    (s.chip.upCond p = true → s.chip.flag (F.PRT_STATUS_link_up p) = false → Goes (.linkUpHoldExpiry p) s fun c =>
      c.flag (F.PRT_STATUS_link_up p) = true ∧ c.flag (F.PRT_STATUS_link_changed p) = true ∧
        ∀ a, a ≠ R.PRT_STATUS p → c.word a = s.chip.word a) ∧
    (s.chip.upCond p = false → s.chip.flag (F.PRT_STATUS_link_up p) = true → Goes (.linkDownHoldExpiry p) s fun c =>
      c.flag (F.PRT_STATUS_link_up p) = false ∧ c.flag (F.PRT_STATUS_link_changed p) = true ∧
        c.rd (F.PRT_STATUS_link_downs p) = min (s.chip.rd (F.PRT_STATUS_link_downs p) + 1) 65535 ∧
        ∀ a, a ≠ R.PRT_STATUS p → c.word a = s.chip.word a)

/-- A defect whose cause holds is entered once, in the current and the latched bits, and is left when its cause has gone; the latched bit
stays. Stated for the defects and ports where no signal fail begins or ends with it. -/
def Sys2Proof.defectsRule : Prop :=
  ∀ (s : State) (p : Nat) (d : Defect), p < 144 → s.chip.watched p = true →
    (s.chip.defectCause p d = true → bit (s.chip.rd (F.PRT_DEFECT_current p)) (defectIx d) = false →
      (if defectIx d < 7 then s.chip.flag (F.PRT_DEFECT_sf p) = true else s.chip.flag (F.PRT_DEFECT_sf p) = false ∨ defectIx d = 8) →
        Goes (.defectEntry p d) s fun c =>
          c.rd (F.PRT_DEFECT_current p) = s.chip.rd (F.PRT_DEFECT_current p) + 2 ^ defectIx d ∧
            c.rd (F.PRT_DEFECT_latched p) = s.chip.rd (F.PRT_DEFECT_latched p) ||| 2 ^ defectIx d ∧
            ∀ a, a ≠ R.PRT_DEFECT p → a ≠ R.PRT_STATUS p → a ∉ recWords → c.word a = s.chip.word a) ∧
    (s.chip.defectGone p d = true → bit (s.chip.rd (F.PRT_DEFECT_current p)) (defectIx d) = true →
      (s.chip.flag (F.PRT_DEFECT_sf p) = false ∨ isSf (s.chip.rd (F.PRT_DEFECT_current p) - 2 ^ defectIx d) = true) →
        Goes (.defectExit p d) s fun c =>
          c.rd (F.PRT_DEFECT_current p) = s.chip.rd (F.PRT_DEFECT_current p) - 2 ^ defectIx d ∧
            c.rd (F.PRT_DEFECT_latched p) = s.chip.rd (F.PRT_DEFECT_latched p) ∧
            ∀ a, a ≠ R.PRT_DEFECT p → a ≠ R.PRT_STATUS p → a ∉ recWords → c.word a = s.chip.word a)

/-- Links of the ports, and their defects. -/
def Obligations.LinksAndDefects : Prop := linkStateRule ∧ defectsRule

/-! ## Denast (R77 to R93) -/

/-- Delineation, at the position that the receiver examines. A header that fits takes the port from HUNT to PRESYNC, counts in PRESYNC, and
is the third to enter SYNC; the next header is looked for where its PLI says. One that does not fit leaves HUNT for the next byte, and
sends PRESYNC back to HUNT one byte after its candidate. In SYNC a header that fits ends a run of bad ones; one with a single-bit error is
corrected, counted and used; one beyond correction ends SYNC (stated in halt, where no defect is evaluated). A header that is used
announces its container. -/
def Sys2Proof.delineationRule : Prop :=
  ∀ (s : State) (p : Nat) (header control : Bytes), p < 96 → header.length = 4 → s.chip.receives p = true → s.chip.isDenast p = true →
    s.chip.flag (F.PRT_STATUS_am_lock p) = true → (s.chip.delin p).last = false →
    let h := denMask header
    let fits := headerFits (s.chip.denMax p) h control
    let st := s.chip.rd (F.PRT_DEN_STATUS_state p)
    let n := s.chip.rd (F.PRT_DEN_STATUS_presync_count p)
    let x := s.chip.delin p
    let next := x.pos + containerLen (be h 0 2) control
    let goes (at_ : Delin) (P : Chip → Prop) : Prop :=
      Goes (.denastHeader p header control) s fun c => P c ∧ Chip.onlyRegs (s.chip.setDelin p at_) c [R.PRT_DEN_STATUS p]
    (st = 0 → fits = true → goes { pos := next, cand := x.pos } fun c =>
      c.rd (F.PRT_DEN_STATUS_state p) = 1 ∧ c.rd (F.PRT_DEN_STATUS_presync_count p) = 0) ∧
    (st = 0 → fits = false → Goes (.denastHeader p header control) s fun c =>
      c = s.chip.setDelin p { x with pos := x.pos + 1, due := none, last := false }) ∧
    (st = 1 → fits = true → n < 2 → goes { x with pos := next, due := none, last := false } fun c =>
      c.rd (F.PRT_DEN_STATUS_state p) = 1 ∧ c.rd (F.PRT_DEN_STATUS_presync_count p) = n + 1) ∧
    (st = 1 → fits = true → n = 2 → (bit (s.chip.rd (F.PRT_DEFECT_current p)) 5 = false ∨ isSf (s.chip.rd (F.PRT_DEFECT_current p) - 2 ^ 5) = true) →
      Goes (.denastHeader p header control) s fun c => c.rd (F.PRT_DEN_STATUS_state p) = 2 ∧ c.flag (F.PRT_STATUS_pcs_ready p) = true ∧
        (c.port p).helloOn = true ∧ c.delin p = { x with pos := next, due := none, last := false }) ∧
    (st = 1 → fits = false → goes { x with pos := x.cand + 1, due := none, last := false } fun c => c.rd (F.PRT_DEN_STATUS_state p) = 0) ∧
    (st = 2 → fits = true → goes { x with pos := next, due := some (be h 0 2) } fun c =>
      c.rd (F.PRT_DEN_STATUS_bad_run p) = 0 ∧ c.rd (F.PRT_DEN_STATUS_state p) = 2) ∧
    (∀ g, st = 2 → coreOk h = false → corrected h = some g → pliOk (s.chip.denMax p) (be g 0 2) control = true →
      s.chip.rd (F.PRT_DEN_STATUS_bad_run p) < 2 → Goes (.denastHeader p header control) s fun c =>
        c.word (R.PRT_DEN_CORR p) = s.chip.word (R.PRT_DEN_CORR p) + 1 ∧
          c.rd (F.PRT_DEN_STATUS_bad_run p) = s.chip.rd (F.PRT_DEN_STATUS_bad_run p) + 1 ∧ c.rd (F.PRT_DEN_STATUS_state p) = 2 ∧
          Chip.onlyRegs (s.chip.setDelin p { x with pos := x.pos + containerLen (be g 0 2) control, due := some (be g 0 2) }) c
            [R.PRT_DEN_STATUS p, R.PRT_DEN_CORR p]) ∧
    (st = 2 → s.chip.halted = true → coreOk h = false → corrected h = none → Goes (.denastHeader p header control) s fun c =>
      c.rd (F.PRT_DEN_STATUS_state p) = 0 ∧ (c.port p).rxSeq = none ∧ c.word (R.PRT_DEN_HUNT p) = s.chip.word (R.PRT_DEN_HUNT p) + 1 ∧
        c.delin p = { x with pos := x.pos + 1, due := none, last := false })

/-- Containers at a Denast port in SYNC, each announced by its header: a data container before any MARK is counted and dropped; after one it
takes the expected sequence, which moves on by one; one that is too short is counted and dropped, and one whose AN names an accepting SA,
whose sequence passes the early replay check and which finds hold store is deciphered under that SA and its sequence and waits for its
verdict; a control container whose CRC fails is counted and dropped, and one whose CRC holds is the message it carries; a MARK sets the
expected sequence, the AN and the remote defect indication; an AIS container is counted toward AIS and shown. -/
def Sys2Proof.containersRule : Prop :=
  ∀ (s : State) (p : Nat) (payload icv body : Bytes), p < 96 → (s.chip.delin p).last = false →
    let came := s.chip.setDelin p { s.chip.delin p with due := none }
    (icv.length = 16 → 4 ≤ payload.length → s.chip.awaits p payload.length = true → (s.chip.port p).rxSeq = none →
      Goes (.denastDataContainer p payload icv) s fun c =>
        c.word (R.PRT_DEN_NOSEQ p) = s.chip.word (R.PRT_DEN_NOSEQ p) + 1 ∧ (c.port p).aisRun = 0 ∧ c.flag (F.PRT_STATUS_ais_rx p) = false ∧
          (c.delin p).due = none ∧ ∀ a, a ≠ R.PRT_DEN_NOSEQ p → a ≠ R.PRT_STATUS p → c.word a = s.chip.word a) ∧
    (∀ seq, icv.length = 16 → 4 ≤ payload.length → payload.length < 512 → s.chip.awaits p payload.length = true →
      (s.chip.port p).rxSeq = some seq → s.chip.boxesWaiting p < 2 → Goes (.denastDataContainer p payload icv) s fun c =>
        (c.port p).rxSeq = some ((seq + 1) % 2 ^ 64) ∧ c.word (R.CPH_RX_DEN_SHORT p) = s.chip.word (R.CPH_RX_DEN_SHORT p) + 1 ∧
          ∀ a, a ≠ R.CPH_RX_DEN_SHORT p → a ≠ R.PRT_STATUS p → c.word a = s.chip.word a) ∧
    (∀ seq h i, icv.length = 16 → 512 ≤ payload.length → s.chip.awaits p payload.length = true → (s.chip.port p).rxSeq = some seq →
      s.chip.boxesWaiting p < 2 → s.chip.chan (s.chip.denRxSc p) = some h → s.chip.rxSa h (s.chip.rd (F.PRT_DEN_STATUS_rx_an p)) = some i →
      max 1 ((s.chip.sa i).nextPn - (s.chip.sa i).w) ≤ seq → s.chip.holdTakes (pipeOf p) = true →
        let x := s.chip.sa i
        let n := s.chip.data.nextId
        Goes (.denastDataContainer p payload icv) s fun c =>
          (c.port p).rxSeq = some ((seq + 1) % 2 ^ 64) ∧ c.data.nextId = n + 1 ∧ c.data.sas = s.chip.data.sas ∧ c.data.frames = s.chip.data.frames ∧
            (∀ q, q ≠ p → c.port q = s.chip.port q) ∧ ∃ b, Sparse.get none c.data.boxes n = some b ∧ b.port = p ∧ b.sa = i ∧ b.seq = seq ∧
              b.payload = gcmCrypt x.key (denNonce x seq) payload ∧
              b.icvOk = (gcmTag x.key (denNonce x seq) (coreHeader payload.length) payload == icv)) ∧
    (s.chip.awaits p 2 = true → controlHeadOk (body.take 4) = true → body.length = be body 0 2 + 8 →
      body.drop (4 + be body 0 2) ≠ toLe (crc32 (body.take (4 + be body 0 2))) 4 →
        Goes (.denastControlContainer p body) s fun c =>
          c.word (R.PRT_DEN_CTRL_ERR p) = s.chip.word (R.PRT_DEN_CTRL_ERR p) + 1 ∧ Chip.onlyRegs came c [R.PRT_DEN_CTRL_ERR p]) ∧
    (s.chip.awaits p 2 = true → s.chip.hears p = true → controlHeadOk (body.take 4) = true → body.length = be body 0 2 + 8 →
      body.drop (4 + be body 0 2) = toLe (crc32 (body.take (4 + be body 0 2))) 4 → byteAt (slice body 4 (be body 0 2)) 0 = 0x01 →
        ∃ t, exec (.hello p (slice body 4 (be body 0 2))) { s with chip := came } = .next t ∧
          exec (.denastControlContainer p body) s = .next { t with chip := t.chip.used p }) ∧
    (s.chip.awaits p 3 = true → body.length = 16 → body.drop 12 = toLe (crc32 (body.take 12)) 4 →
      bit (s.chip.rd (F.PRT_DEFECT_current p)) 8 = bit (byteAt body 0) 2 → Goes (.denastMark p body) s fun c =>
        (c.port p).rxSeq = some (be body 4 8) ∧ c.flag (F.PRT_DEN_STATUS_seq_known p) = true ∧
          c.rd (F.PRT_DEN_STATUS_rx_an p) = byteAt body 0 % 4 ∧ c.flag (F.PRT_DEN_STATUS_rx_rdi p) = bit (byteAt body 0) 2 ∧
          (∀ a, a ≠ R.PRT_DEN_STATUS p → c.word a = s.chip.word a) ∧ ∀ q, q ≠ p → c.port q = s.chip.port q) ∧
    (s.chip.awaits p 1 = true → (s.chip.port p).aisRun < 2 → Goes (.denastAisContainer p) s fun c =>
      (c.port p).aisRun = (s.chip.port p).aisRun + 1 ∧ c.flag (F.PRT_STATUS_ais_rx p) = true ∧
        (∀ a, a ≠ R.PRT_STATUS p → c.word a = s.chip.word a) ∧ ∀ q, q ≠ p → c.port q = s.chip.port q)

/-- Delineation of a Denast stream, and its containers. -/
def Obligations.DenastReceive : Prop := delineationRule ∧ containersRule

/-- HELLO: one that is not well formed is counted as a control error; the first of a new partner on a port without one records the
partner, not yet two-way while it does not name this part; one from a two-way partner renews the largest payload that it takes. A HELLO
sent is a control container, and its sequence number moves on by one. -/
def Sys2Proof.helloRule : Prop :=
  ∀ (s : State) (p : Nat) (m : Bytes), p < 96 → s.chip.isDenast p = true →
    (s.chip.hears p = true → (m.length ≠ 48 ∨ byteAt m 0 ≠ 1 ∨ byteAt m 1 ≠ 1) → Goes (.hello p m) s fun c =>
      c.word (R.PRT_DEN_CTRL_ERR p) = s.chip.word (R.PRT_DEN_CTRL_ERR p) + 1 ∧ Chip.onlyRegs s.chip c [R.PRT_DEN_CTRL_ERR p]) ∧
    (s.chip.hears p = true → m.length = 48 → byteAt m 0 = 1 → byteAt m 1 = 1 → (s.chip.port p).partner = none →
      slice m 24 16 ≠ s.chip.peerId → Goes (.hello p m) s fun c =>
        (c.port p).partner = some { id := slice m 4 16, port := byteAt m 20 } ∧
          (c.port p).heard = some { id := slice m 4 16, port := byteAt m 20 } ∧
          c.rd (F.PRT_PEER_partner_port p) = byteAt m 20 ∧ c.rd (F.PRT_PEER_peer_entry p) = 0xFFFF ∧
          (∀ a, a ≠ R.PRT_PEER p → c.word a = s.chip.word a) ∧ ∀ q, q ≠ p → c.port q = s.chip.port q) ∧
    (s.chip.watched p = true → (s.chip.port p).helloOn = true → Goes (.helloSend p) s fun c =>
      c.out = s.chip.out ++ [.container p 2 (denMask (coreHeader 2) ++ controlBytes (s.chip.helloBody p))] ∧
        (c.port p).helloSeq = ((s.chip.port p).helloSeq + 1) % 65536 ∧ c.regs = s.chip.regs ∧ ∀ q, q ≠ p → c.port q = s.chip.port q)

/-- A partner that has been silent is gone: the port has none, its status says so, and PRT_PEER reads as without one. Stated for a port
that carries no channels. -/
def Sys2Proof.partnerTimeoutRule : Prop :=
  ∀ (s : State) (p : Nat) (q : Partner), p < 96 → s.chip.watched p = true → s.chip.isDenast p = true → (s.chip.port p).partner = some q →
    (∀ h ∈ s.chip.data.chans, h.port ≠ p) → Goes (.partnerTimeout p) s fun c =>
      (c.port p).partner = none ∧ (c.port p).heard = (s.chip.port p).heard ∧ (c.port p).link.step = .idle ∧ c.flag (F.PRT_STATUS_partner_up p) = false ∧
        c.flag (F.PRT_STATUS_partner_changed p) = true ∧ c.word (R.PRT_PEER p) = 0xFFFF0000 ∧
        ∀ r, r ≠ p → c.port r = s.chip.port r

/-- HELLO messages, and a partner that has gone. -/
def Obligations.PartnersKnownAndGone : Prop := helloRule ∧ partnerTimeoutRule

/-- The open container of a port whose transmit channel has no current SA is dropped with its records, which are counted, as are those of
withdrawn containers; with traffic-flow confidentiality and no SA nothing is sent. A MARK sent while no container is on the
wire names the AN and the sequence of the next data container. -/
def Sys2Proof.containerCloseRule : Prop :=
  ∀ (s : State) (p : Nat), p < 96 → s.chip.running = true → s.chip.isDenast p = true →
    (s.chip.denTfc p = 0 → (s.chip.port p).openRecs ≠ [] → s.chip.denSa p = none →
      let gone (c : Chip) : Prop := (c.port p).openRecs = [] ∧ (c.port p).shut = [] ∧
        c.word (R.SAS_TX_NOSA (pipeOf p)) = s.chip.word (R.SAS_TX_NOSA (pipeOf p)) + BitVec.ofNat 32 (s.chip.port p).unsealed ∧
        (∀ a, a ≠ R.SAS_TX_NOSA (pipeOf p) → c.word a = s.chip.word a) ∧ (∀ q, q ≠ p → c.port q = s.chip.port q) ∧ c.out = s.chip.out
      Goes (.containerClose p) s gone ∧ Goes (.denCloseTimeout p) s gone) ∧
    (s.chip.denTfc p ≠ 0 → s.chip.denSa p = none → Goes (.tfcContainerSlot p) s fun c => c = s.chip) ∧
    (∀ h i, s.chip.denSa p = some (h, i) → (s.chip.port p).release = [] → Goes (.markSend p) s fun c =>
      c = s.chip.emit (.container p 3 (denMask (coreHeader 3) ++
        markBody (s.chip.sa i).an (s.chip.flag (F.PRT_DEN_STATUS_tx_rdi p)) (s.chip.sa i).nextPn)))

/-- A container closes under the current SA of the port's transmit channel, for a close, for the time limit and for the slot of
traffic-flow confidentiality alike: the records leave the open container, one PN is taken, and what is sealed waits for release. Stated
where no container withdrawn by a rewind waits and the SA reaches no limit by it. -/
def Sys2Proof.containerSealedRule : Prop :=
  ∀ (s : State) (p i : Nat) (h : Chan), p < 96 → s.chip.running = true → s.chip.isDenast p = true → s.chip.denSa p = some (h, i) →
    s.chip.saHeld h i = false → (s.chip.pickOutLane (pipeOf p)).isSome = true → (s.chip.port p).shut = [] →
    (s.chip.sa i).nextPn + 1 < hardLimit h.suite →
    ((s.chip.sa i).soft = true ∨ ((s.chip.sa i).nextPn + 1 < s.chip.softPn h ∧ s.chip.softOctets h = 0)) →
      let sealed (c : Chip) : Prop := (c.port p).openRecs = [] ∧ (c.sa i).nextPn = (s.chip.sa i).nextPn + 1 ∧
        (c.sa i).frames = (s.chip.sa i).frames + 1 ∧ (c.port p).release.length = (s.chip.port p).release.length + 1
      (s.chip.denTfc p = 0 → (s.chip.port p).openRecs ≠ [] → Goes (.containerClose p) s sealed ∧ Goes (.denCloseTimeout p) s sealed) ∧
      (s.chip.denTfc p ≠ 0 → s.chip.flag (F.PRT_STATUS_ais_tx p) = false → s.chip.flag (F.PRT_STATUS_tfc_mismatch p) = false →
        Goes (.tfcContainerSlot p) s sealed)

/-- The line code of a Denast port: a block is 257 bits, the header bit first and set, and a receiver takes from the blocks of a stream the
bytes that went into them, in order, as far as they make whole blocks; an IDLE container is four bytes and an AIS container 64. -/
def Sys2Proof.lineCodeRule : Prop :=
  ∀ (b v : Bytes), b.length = 32 →
    (lineBlock b).getLsbD 0 = true ∧ blockBytes (lineBlock b) = b ∧
      ((lineBlocks v.length v).map blockBytes).flatten = v.take (32 * (v.length / 32)) ∧
      (fillContainer .idle).length = 4 ∧ (fillContainer .ais).length = 64

/-- The open container, dropped or sealed, and the line code. -/
def Obligations.DenastSend : Prop := containerCloseRule ∧ containerSealedRule ∧ lineCodeRule

/-! ## Pluggable modules (R95 to R98) -/

/-- Polls of a cage count acknowledgements and misses in a row, up to two; the bring-up moves on step by step, fails without an
application at its second step, and fails when its time is over; a monitor read shows the temperature and flags of a present module. -/
def Sys2Proof.modulesRule : Prop :=
  ∀ (s : State) (n : Nat), n < 120 → s.chip.modulesServed = true → s.chip.cageSeen n = true →
    ((s.chip.cage n).acks = 0 → Goes (.modulePoll n true) s fun c =>
      c = s.chip.setCage n { s.chip.cage n with acks := 1, nacks := 0 }) ∧
    ((s.chip.cage n).nacks = 0 → Goes (.modulePoll n false) s fun c =>
      c = s.chip.setCage n { s.chip.cage n with nacks := 1, acks := 0 }) ∧
    (∀ found, s.chip.portOn n = true → 0 < (s.chip.cage n).step → (s.chip.cage n).step < 5 → ((s.chip.cage n).step = 2 → found = true) →
      s.chip.rd (F.PRT_MOD_STATUS_mod_state n) = 1 → Goes (.moduleBringupStep n found) s fun c =>
        c = s.chip.setCage n { s.chip.cage n with step := (s.chip.cage n).step + 1 }) ∧
    ((s.chip.cage n).step ≠ 0 → s.chip.rd (F.PRT_MOD_STATUS_mod_state n) = 1 → Goes (.moduleBringupTimeout n) s fun c =>
      (c.cage n).step = 0 ∧ c.rd (F.PRT_MOD_STATUS_mod_state n) = 4) ∧
    (∀ temp t v l, s.chip.flag (F.PRT_MOD_STATUS_present n) = true → Goes (.moduleMonitorRead n temp t v l) s fun c =>
      c.rd (F.PRT_MOD_STATUS_temperature n) = ofSigned 8 temp ∧ c.flag (F.PRT_MOD_STATUS_temp_flag n) = t ∧
        c.flag (F.PRT_MOD_STATUS_vcc_flag n) = v ∧ c.flag (F.PRT_MOD_STATUS_rx_los_flag n) = l ∧
        Chip.noted s.chip c [R.PRT_MOD_STATUS n])

/-- A stuck bus gets nine clock pulses and a stop. A master whose bus stays stuck has failed, counted, and its cages are marked; a retry
sends the pulses and the stop again, and one that frees the bus clears both and starts their polls anew. -/
def Sys2Proof.i2cMastersRule : Prop :=
  ∀ (s : State) (m : Nat), s.chip.power = true → m < 8 →
    (s.chip.flag (F.PRT_I2C_STATUS_failed m) = false → Goes (.i2cStuck m false) s fun c =>
      c.flag (F.PRT_I2C_STATUS_failed m) = true ∧
        c.rd (F.PRT_I2C_STATUS_stuck_events m) = min (s.chip.rd (F.PRT_I2C_STATUS_stuck_events m) + 1) 65535 ∧
        (∀ n, n < 120 → s.chip.flag (F.PRT_CFG_managed n) = true → s.chip.cageMaster n = m → c.flag (F.PRT_MOD_STATUS_master_failed n) = true) ∧
        Chip.noted (s.chip.emit (.i2cClear m)) c (R.PRT_I2C_STATUS m :: (List.range 120).map R.PRT_MOD_STATUS)) ∧
    Goes (.i2cStuck m true) s (fun c => c = s.chip.emit (.i2cClear m)) ∧
    (s.chip.flag (F.PRT_I2C_STATUS_failed m) = true → Goes (.i2cRetry m false) s fun c => c = s.chip.emit (.i2cClear m)) ∧
    (s.chip.flag (F.PRT_I2C_STATUS_failed m) = true → Goes (.i2cRetry m true) s fun c =>
      c.flag (F.PRT_I2C_STATUS_failed m) = false ∧ c.flag (F.PRT_I2C_STATUS_recovered m) = true ∧ c.out = s.chip.out ++ [.i2cClear m] ∧
        (∀ n, n < 120 → s.chip.flag (F.PRT_CFG_managed n) = true → s.chip.cageMaster n = m → c.flag (F.PRT_MOD_STATUS_master_failed n) = false) ∧
        ∀ n, n < 120 → s.chip.cageMaster n = m → (c.cage n).acks = 0 ∧ (c.cage n).nacks = 0)

/-- Pluggable modules and their masters. -/
def Obligations.ModulesAndMasters : Prop := modulesRule ∧ i2cMastersRule

/-! ## Frames (R18, R21, R174 to R190, R225, R238 to R246) -/

/-- A frame that a port in clear receives while its headroom and the parser have room is stored under the next number, decided by nobody
yet, its failing check known at its end (0 for a cut frame, 1 for a bad FCS), and waits for the parser; a frame that finds its port's
headroom full is dropped and counted, on line ports and uplinks alike. An uplink frame that is stored goes at once to its policer,
forwarding and admission, also before it has ended. -/
def Obligations.FramesArrive : Prop :=
  ∀ (s : State) (p : Nat) (b : Bytes) (cut : Bool), s.chip.running = true → s.chip.portOn p = true → b ≠ [] → b.length ≤ 10240 →
    let n := s.chip.data.nextId
    let fail := if cut then some 0 else if !fcsGood b then some 1 else none
    let full (i : Instr) : Prop := headroomOf p ≤ s.chip.headUsed p → Goes i s fun c =>
      c.word (R.SWC_HEADROOM_DROP (pipeOf p)) = s.chip.word (R.SWC_HEADROOM_DROP (pipeOf p)) + 1 ∧ c.data = { s.chip.data with nextId := n + 1 } ∧
        Chip.onlyRegs { s.chip with data := c.data } c [R.SWC_HEADROOM_DROP (pipeOf p)]
    (p < 96 → s.chip.isDenast p = false → s.chip.isMacsec p = false →
      full (.lineFrameReceive p b cut) ∧
      (s.chip.headUsed p < headroomOf p → (s.chip.flights (2 * p)).length < 32 → Goes (.lineFrameReceive p b cut) s fun c =>
        c.data = { s.chip.data with
          nextId := n + 1
          frames := Sparse.set none s.chip.data.frames n (some { port := p, bytes := b, fail := fail, rx := s.chip.rxStamp p })
          order := Sparse.set [] s.chip.data.order p (Sparse.get [] s.chip.data.order p ++ [n])
          flights := Sparse.set [] s.chip.data.flights (2 * p) (s.chip.flights (2 * p) ++ [{ frame := n, source := p }]) } ∧
        Chip.onlyRegs { s.chip with data := c.data } c [R.SWC_HEADROOM, R.FLW_PD_HWM (2 * p)])) ∧
    (96 ≤ p → p < 144 →
      ∀ ended, full (.uplinkFrameReceive p b ⟨cut, ended⟩) ∧
      (s.chip.headUsed p < headroomOf p → Goes (.uplinkFrameReceive p b ⟨cut, ended⟩) s fun c =>
        c = (s.chip.store { port := p, bytes := b, fail := fail, cls := (s.chip.uplinkClass p b).1, tenant := (s.chip.uplinkClass p b).2,
                            rx := s.chip.rxStamp p }).1.onward n 0 ended))

/-- The pre-classifier of a MACsec port, whose first outcome stands: a frame without a SecTAG passes in clear under the first bypass rule
that matches, and is dropped as untagged where none does; one that ends before its SecTAG is short; a bad tag, no channel, a zero PN of a
32-bit suite, and no accepting SA are dropped and counted; a frame below the window is an early replay of its SA; any other is stored for
its SA under the PN recovered for it. -/
def Obligations.PreClassifier : Prop :=
  ∀ (s : State) (p : Nat) (f : Bytes) (cut : Bool), s.chip.running = true → s.chip.portOn p = true → p < 96 → s.chip.isMacsec p = true →
    s.chip.isDenast p = false → f ≠ [] → f.length ≤ 10240 →
    let dropped (w : Nat) : Prop := Goes (.lineFrameReceive p f cut) s fun c => c.word w = s.chip.word w + 1 ∧ Chip.onlyRegs s.chip c [w]
    let n := s.chip.data.nextId
    let sc := bit (byteAt f 14) 5
    let tagged := be f 12 2 = 0x88E5
    let whole := tagged ∧ 20 ≤ f.length ∧ (sc = true → 28 ≤ f.length)
    let good := whole ∧ bit (byteAt f 14) 7 = false ∧ bit (byteAt f 14) 4 = false ∧ bit (byteAt f 14) 3 = true ∧ bit (byteAt f 14) 2 = true ∧
      byteAt f 15 < 64
    let found := if sc then (s.chip.portChans p false).find? (fun h => h.sci == slice f 20 8) else (s.chip.portChans p false).find? (fun h => h.flag1)
    (¬ tagged → (∀ r, r < 8 → s.chip.bypassHit p r f = false) → dropped (R.CPH_RX_UNTAGGED p)) ∧
    (∀ r, ¬ tagged → r < 8 → s.chip.bypassHit p r f = true → (∀ q, q < r → s.chip.bypassHit p q f = false) →
      Goes (.lineFrameReceive p f cut) s fun c =>
        c.word (R.CPH_BYP_HITS p r) = s.chip.word (R.CPH_BYP_HITS p r) + 1 ∧ c.word (R.CPH_RX_BYPASS p) = s.chip.word (R.CPH_RX_BYPASS p) + 1 ∧
          c.data.nextId = n + 1 ∧ c.data.sas = s.chip.data.sas) ∧
    (tagged → ¬ whole → dropped (R.CPH_RX_SHORT p)) ∧
    (whole → ¬ good → dropped (R.CPH_RX_BAD_TAG p)) ∧
    (good → found = none → dropped (R.CPH_RX_NO_SC p)) ∧
    (∀ h, good → found = some h → isXpn h.suite = false → be f 16 4 = 0 → dropped (R.CPH_RX_BAD_TAG p)) ∧
    (∀ h, good → found = some h → (isXpn h.suite = true ∨ be f 16 4 ≠ 0) →
      (s.chip.rxSa h (byteAt f 14 % 4) = none → dropped (R.CPH_RX_NO_SA p)) ∧
      (∀ i, s.chip.rxSa h (byteAt f 14 % 4) = some i →
        let x := s.chip.sa i
        let pn := recoverPn (isXpn h.suite) x.nextPn x.w (be f 16 4)
        (pn < max 1 (x.nextPn - x.w) → Goes (.lineFrameReceive p f cut) s fun c =>
          c.sa i = { x with replays := x.replays + 1 } ∧ (∀ j, j ≠ i → c.sa j = s.chip.sa j) ∧ c.regs = s.chip.regs ∧ c.data.frames = s.chip.data.frames) ∧
        (max 1 (x.nextPn - x.w) ≤ pn → s.chip.rd (F.CPH_HOLD_used (pipeOf p)) * 64 + 10304 ≤ 8192 * 64 → s.chip.inSlices (pipeOf p) ≠ [] →
          s.chip.headUsed p < headroomOf p → (s.chip.flights (2 * p)).length < 32 → Goes (.lineFrameReceive p f cut) s fun c =>
            c.data.sas = s.chip.data.sas ∧ ∃ g, c.frame n = some g ∧ g.verdict = 1 ∧ g.sc = h.sc ∧ g.sa = i ∧ g.pn = pn ∧ g.port = p)))

/-- The verdict on a protected frame: one whose ICV fails is counted on its SA, whose window stays, and is marked with failing check 3;
one that verifies below the window is counted as replayed and marked; one that verifies in the window moves the window, with its frame
and its plaintext octets counted. No other frame changes. A frame that is not its port's oldest to wait gets no verdict yet. Stated for
channels whose epochs are not at stake, and for ports on which no SA waits for its last frame. -/
def Sys2Proof.verdictsRule : Prop :=
  ∀ (s : State) (n : Nat) (f : Frame), s.chip.power = true → s.chip.halted = false → s.chip.frame n = some f → f.waitIcv = true →
    f.gone = false →
      let x := s.chip.sa f.sa
      let oldest : Prop := s.chip.oldestWaiting f.port = some n ∧
        ∀ h, h ∈ s.chip.data.chans → h.port = f.port → (s.chip.scRun h.sc).loadDue = none ∧ ∀ i, i ∈ h.sas → (s.chip.sa i).retireDue = false
      let after (c : Chip) (fail : Option Nat) : Prop := c.frame n = some { f with waitIcv := false, lane := none, fail := fail } ∧
        (∀ m, m ≠ n → c.frame m = s.chip.frame m) ∧ c.out = s.chip.out ∧ c.keys = s.chip.keys ∧ c.data.queues = s.chip.data.queues
      (s.chip.oldestWaiting f.port ≠ some n → Goes (.icvVerdict n) s fun c => c = s.chip) ∧
      (oldest → f.icvOk = false → Goes (.icvVerdict n) s fun c =>
        after c (f.fail.orElse fun _ => some 3) ∧ (c.sa f.sa).fails = x.fails + 1 ∧ (c.sa f.sa).nextPn = x.nextPn ∧ (c.sa f.sa).frames = x.frames) ∧
      (∀ h, oldest → f.icvOk = true → s.chip.chan f.sc = some h → h.mode ≠ modeEpoch → f.pn < max 1 (x.nextPn - x.w) → Goes (.icvVerdict n) s fun c =>
        after c (f.fail.orElse fun _ => some 3) ∧ (c.sa f.sa).replays = x.replays + 1 ∧ (c.sa f.sa).nextPn = x.nextPn ∧
          (c.sa f.sa).frames = x.frames) ∧
      (∀ h, oldest → f.icvOk = true → s.chip.chan f.sc = some h → h.mode ≠ modeEpoch → max 1 (x.nextPn - x.w) ≤ f.pn → Goes (.icvVerdict n) s fun c =>
        after c f.fail ∧ (c.sa f.sa).nextPn = max x.nextPn (f.pn + 1) ∧ (c.sa f.sa).frames = x.frames + 1 ∧
          (c.sa f.sa).octets = x.octets + f.bytes.length)

/-- Where a frame of ingress port `p` stands in a queue that held `l`: at the end, but ahead of what was linked in this cycle from ports
of higher numbers (R184). -/
def Sys2Proof.linkedIn (c : Chip) (p : Nat) (l : List Queued) (x : Queued) : List Queued :=
  let ahead := l.takeWhile (fun y => !c.linkedAfter p y)
  ahead ++ [x] ++ l.drop ahead.length

/-- The oldest frame of a port, decided and checked: one that passes is linked in the class queue that admitted it, behind all but what
this cycle linked from higher ports; one that fails a check is discarded, counted in the register of that check, and its queues' charges
are released. Nothing happens to a frame that waits for its verdict. Stated for frames that teach nothing. -/
def Sys2Proof.eligibilityRule : Prop :=
  ∀ (s : State) (p n : Nat) (f : Frame) (rest : List Nat), p < 144 → s.chip.running = true → Sparse.get [] s.chip.data.order p = n :: rest →
    s.chip.frame n = some f → f.learn = none → f.hit = none → f.decided = true →
      (f.waitIcv = true → Goes (.frameEligibility p) s fun c => c = s.chip) ∧
      (∀ q, f.waitIcv = false → f.fail = none → f.punt = none → f.queues = [q] → Goes (.frameEligibility p) s fun c =>
        (c.queue (qOf q f.cls)).frames = linkedIn c p (s.chip.queue (qOf q f.cls)).frames { frame := n, linked := s.chip.cycle } ∧
          (∀ k, k ≠ qOf q f.cls → c.queue k = s.chip.queue k) ∧
          Sparse.get [] c.data.order p = rest.filter (· != n) ∧ c.data.frames = s.chip.data.frames ∧ c.regs = s.chip.regs) ∧
      (f.waitIcv = false → f.fail = none → f.punt.isSome = true → Goes (.frameEligibility p) s fun c =>
        c.data.mgmtQ = s.chip.data.mgmtQ ++ [n] ∧ c.data.frames = s.chip.data.frames ∧ c.data.queues = s.chip.data.queues ∧ c.regs = s.chip.regs) ∧
      (∀ k, f.waitIcv = false → f.fail = some k → k < 4 → f.gone = false → f.cls < 8 → f.queues.all (· < 144) = true →
        Goes (.frameEligibility p) s fun c =>
          c.frame n = none ∧ (∀ m, m ≠ n → c.frame m = s.chip.frame m) ∧
            c.word (discReg (pipeOf p) k) = s.chip.word (discReg (pipeOf p) k) + 1 ∧ c.data.queues = s.chip.data.queues)

/-- The verdict on protected frames, and the eligibility of frames. -/
def Obligations.FinalChecks : Prop := verdictsRule ∧ eligibilityRule

/-! ## Sorrel (R120, R136 to R146) -/

/-- The oldest frame of a port and direction that waits for its program goes to the engine that R120 names, which is then running, with
its run and what the dispatcher preloaded kept beside it; corrected and uncorrectable fetches are counted, and one of the latter gives the
frame its default action. An overrun gives it the default action and is counted once for the frame; a drop result on ingress counts and
frees the frame, a bypass result on egress hands it to the commit stage, and either leaves an engine without other work idle. Stated while
no frame of the cluster waits for its re-execution. -/
def Sys2Proof.sorrelEnginesRule : Prop :=
  ∀ (s : State) (p : Nat), p < 96 → s.chip.running = true → s.chip.awaitsAgain (clusterOf p) = none →
    (∀ dir j e ended ecc, dir < 2 → flightIx ((s.chip.flights (2 * p + dir)).take 16) Flight.idle = some j →
      s.chip.pickEngine p dir = some e → Goes (.sorrelDispatch p dir ⟨ended, ecc⟩) s fun c =>
        let y := (s.chip.flights (2 * p + dir)).getD j {}
        let x : Flight := { y with gen := (Sparse.get {} s.chip.data.clusters (clusterOf p)).gen + 1, engine := some e, ended := ended || dir == 1 }
        let r0 := s.chip.runFlight p dir x x.ended
        let r := if (eccFound ecc).2.isSome then s.chip.fetchLost (2 * p + dir) x r0 else r0
        c.engState e = engRunning ∧ c.rd (F.FLW_ENG_STATUS_port_dir e) = portDir p dir ∧
          c.flights (2 * p + dir) = (s.chip.flights (2 * p + dir)).set j
            { x with run := some r, counted := x.counted || r.bad, due := s.chip.cycle + r.cycles - 1 } ∧
          c.rd (F.FLW_CL_ECC_corrected (clusterOf p)) = (s.chip.rd (F.FLW_CL_ECC_corrected (clusterOf p)) + (eccFound ecc).1) % 65536 ∧
          c.rd (F.FLW_CL_ECC_uncorrectable (clusterOf p)) =
            (s.chip.rd (F.FLW_CL_ECC_uncorrectable (clusterOf p)) + b2n (eccFound ecc).2.isSome) % 65536 ∧
          c.data.frames = s.chip.data.frames ∧ ∀ g, g < 208 → g ≠ e → c.engState g = s.chip.engState g) ∧
    (∀ dir j, dir < 2 → flightIx (s.chip.flights (2 * p + dir)) (fun x => (x.run.map (·.overran)).getD false) = some j →
      Goes (.programOverrun p dir) s fun c =>
        c.word (R.FLW_OVERRUN (2 * p + dir)) = s.chip.word (R.FLW_OVERRUN (2 * p + dir)) +
            (if ((s.chip.flights (2 * p + dir)).getD j {}).counted then 0 else 1) ∧
          ((c.flights (2 * p + dir)).getD j {}).run.map (fun r => (r.overran, r.dflt)) = some (false, true) ∧
          ∀ i, i ≠ j → (c.flights (2 * p + dir))[i]? = (s.chip.flights (2 * p + dir))[i]?) ∧
    (∀ x xs r e f, s.chip.flights (2 * p) = x :: xs → x.run = some r → x.engine = some e → e < 208 → r.overran = false →
      r.terminal = some .drop → s.chip.frame x.frame = some f → f.waitIcv = false → Sparse.get [] s.chip.data.inbox p = [] →
      Goes (.sorrelResult p 0) s fun c =>
        c.flights (2 * p) = xs ∧ (s.chip.engState e = engRunning → (s.chip.setFlights (2 * p) xs).workOf e = none → c.engState e = engIdle) ∧
          c.frame x.frame = none ∧
          c.word (R.FLW_DROP (2 * p)) = s.chip.word (R.FLW_DROP (2 * p)) + 1 ∧ ∀ m, m ≠ x.frame → c.frame m = s.chip.frame m) ∧
    (∀ x r e, s.chip.isDenast p = false → s.chip.flights (2 * p + 1) = [x] → x.run = some r → x.engine = some e → e < 208 → r.overran = false →
      r.terminal = some .bypass → Goes (.sorrelResult p 1) s fun c =>
        c.flights (2 * p + 1) = [] ∧
          (s.chip.engState e = engRunning → (s.chip.setFlights (2 * p + 1) []).workOf e = none → c.engState e = engIdle) ∧
          (c.port p).commits = (s.chip.port p).commits ++
            [{ bytes := x.bytes, sc := none, cls := r.cls, rx := x.rx, source := x.source, bad := x.bad }] ∧
          c.data.frames = s.chip.data.frames)

/-- A check that fires on an engine in its place fences it, with the check shown in its status. The ready spare of its cluster takes its
place and re-executes at once the frame that the engine was at work on, and is idle where there was none; without a ready spare the cluster
shows a second fault. A spare in standby is fenced and no longer ready (log entry 33). A fenced
engine stays as it is. -/
def Sys2Proof.engineFaultsRule : Prop :=
  ∀ (s : State) (e : Nat) (k : EngineCheck), s.chip.power = true → e < 208 →
    (s.chip.engState e ≠ engFenced → s.chip.engState e ≠ engSpare → (∀ key j, s.chip.workOf e = some (key, j) → key < 192) →
      Goes (.engineFault e k) s fun c =>
      c.engState e = engFenced ∧
        c.flag (match k with
          | .parity => F.FLW_ENG_STATUS_parity e
          | .residue => F.FLW_ENG_STATUS_residue e
          | .watchdog => F.FLW_ENG_STATUS_watchdog e) = true ∧
        (e < 192 → s.chip.flag (F.FLW_CL_STATUS_spare_ready (e / 12)) = true → s.chip.flag (F.FLW_CL_STATUS_spare_active (e / 12)) = false →
          c.flag (F.FLW_CL_STATUS_spare_active (e / 12)) = true ∧ c.rd (F.FLW_CL_STATUS_replaced (e / 12)) = e % 12 ∧
            (s.chip.workOf e = none → c.engState (192 + e / 12) = engIdle) ∧
            ∀ key j, s.chip.workOf e = some (key, j) → j < (s.chip.flights key).length →
              c.engState (192 + e / 12) = engRunning ∧ ∃ x, (c.flights key)[j]? = some x ∧ x.engine = some (192 + e / 12) ∧ x.run.isSome = true) ∧
        (e < 192 → s.chip.flag (F.FLW_CL_STATUS_spare_ready (e / 12)) = false ∨ s.chip.flag (F.FLW_CL_STATUS_spare_active (e / 12)) = true →
          c.flag (F.FLW_CL_STATUS_second_fault (e / 12)) = true) ∧
        (192 ≤ e → c.flag (F.FLW_CL_STATUS_second_fault (e - 192)) = true) ∧
        c.data.frames = s.chip.data.frames ∧ c.out = s.chip.out) ∧
    (s.chip.engState e = engSpare → Goes (.engineFault e k) s fun c =>
      c.engState e = engFenced ∧ (192 ≤ e → c.flag (F.FLW_CL_STATUS_spare_ready (e - 192)) = false ∧
        c.flag (F.FLW_CL_STATUS_second_fault (e - 192)) = s.chip.flag (F.FLW_CL_STATUS_second_fault (e - 192)))) ∧
    (s.chip.engState e = engFenced → Goes (.engineFault e k) s fun c => c = s.chip)

/-- Sorrel engines, and their faults. -/
def Obligations.SorrelEngines : Prop := sorrelEnginesRule ∧ engineFaultsRule

/-! ## Egress (R25 to R29, R182, R190, R198, R241 to R246, R255) -/

/-- Dequeues and what the management cores send and take. A dequeue of an uplink puts the copy on the wire, counts it, and frees a
frame that no other queue holds; a dequeue of a line port hands the copy to the egress parser; corrected cells are counted; a copy with an
uncorrectable cell found before its commit is discarded, and one found after it is aborted on the wire, or marked to be. -/
def Sys2Proof.dequeuesRule : Prop :=
  ∀ (s : State) (p k n : Nat) (room : Bool) (ecc : Ecc) (x : Queued) (f : Frame), p < 144 → s.chip.mayDequeue p room = true → s.chip.pickClass p = some k →
    s.chip.headOf p k = some x → n = x.frame → s.chip.frame n = some f → f.cls = k → f.queues = [p] → f.waitIcv = false → f.nextHop = none →
      f.marked = false →
      let taken (c : Chip) : Prop := (c.queue (qOf p k)).frames = (s.chip.queue (qOf p k)).frames.drop 1 ∧ c.frame n = none ∧
        (∀ m, m ≠ n → c.frame m = s.chip.frame m) ∧ c.word (R.TMG_Q_TX (qOf p k)) = s.chip.word (R.TMG_Q_TX (qOf p k)) + 1 ∧
        (∀ j, j ≠ qOf p k → c.queue j = s.chip.queue j) ∧
        c.word (R.SWC_CELL_CORR (pipeOf p)) = s.chip.word (R.SWC_CELL_CORR (pipeOf p)) + BitVec.ofNat 32 (eccFound ecc).1 ∧
        c.word (R.SWC_CELL_UNCORR (pipeOf p)) = s.chip.word (R.SWC_CELL_UNCORR (pipeOf p)) + (if (eccFound ecc).2.isSome then 1 else 0)
      (96 ≤ p → s.chip.tcPort p = false → f.port ≠ 144 → (eccFound ecc).2 ≠ some false → Goes (.dequeue p ⟨room, ecc⟩) s fun c =>
        taken c ∧ ((eccFound ecc).2 = none → c.out = s.chip.out ++ [.frame p f.bytes true]) ∧
          ((eccFound ecc).2 = some true → ∃ v, 0 < v ∧ c.out = s.chip.out ++ [.frame p (abortedFrame f.bytes v) false])) ∧
      (p < 96 → f.prot = none → f.port ≠ 144 → s.chip.flights (2 * p + 1) = [] → (eccFound ecc).2 ≠ some false →
        Goes (.dequeue p ⟨room, ecc⟩) s fun c => taken c ∧ c.out = s.chip.out ∧ c.flights (2 * p + 1) =
          [{ bytes := f.bytes, cls := k, tenant := f.tenant, metadata := f.metadata, source := f.port, copy := f.copies, rx := f.rx,
             bad := (eccFound ecc).2 == some true }]) ∧
      ((eccFound ecc).2 = some false → Goes (.dequeue p ⟨room, ecc⟩) s fun c =>
        taken c ∧ c.out = s.chip.out ∧ c.data.flights = s.chip.data.flights)

/-- The management cores: a frame that firmware sends takes the next number and an FCS after padding, and where the minimum of its queue
holds it, is linked there; a queue over its maximum refuses it, which is reported; one that 40 cells do not hold goes nowhere. A drain
hands the oldest punted frame to firmware and frees it; one with an uncorrectable cell is only counted and freed. -/
def Sys2Proof.managementFramesRule : Prop :=
  ∀ s : State, s.chip.running = true → s.chip.firmware = true →
    (∀ p k prot b, p < 144 → k < 8 → (s.chip.port p).stallOut = false →
      let n := s.chip.data.nextId
      let g := withFcs (b ++ fill (60 - b.length) 0)
      let occ := s.chip.rd (F.SWC_Q_OCC_occ (qOf p k)) + cellsOf g
      (40 < cellsOf g → Goes (.mgmtFrameSend p k prot b) s fun c => c = s.chip) ∧
      (cellsOf g ≤ 40 → s.chip.maxCells (qOf p k) < occ → Goes (.mgmtFrameSend p k prot b) s fun c =>
        c.out = s.chip.out ++ [.sendRefused p k] ∧ c.word (R.SWC_Q_DROP (qOf p k)) = s.chip.word (R.SWC_Q_DROP (qOf p k)) + 1 ∧
          c.data = { s.chip.data with nextId := n + 1 }) ∧
      (cellsOf g ≤ 40 → occ ≤ s.chip.minCells (qOf p k) → occ ≤ s.chip.maxCells (qOf p k) → Goes (.mgmtFrameSend p k prot b) s fun c =>
          c.data.nextId = n + 1 ∧ (c.frame n).map (fun f => (f.port, f.bytes, f.queues, f.prot)) = some (144, g, [p], some prot) ∧
            (c.queue (qOf p k)).frames = linkedIn c 144 (s.chip.queue (qOf p k)).frames { frame := n, linked := s.chip.cycle } ∧
            (∀ m, m ≠ n → c.frame m = s.chip.frame m) ∧ c.out = s.chip.out)) ∧
    (∀ n ns f ecc, s.chip.data.mgmtQ = n :: ns → s.chip.frame n = some f → f.port < 144 → f.waitIcv = false → Goes (.mgmtQueueDrain ecc) s fun c =>
      c.data.mgmtQ = ns ∧ c.frame n = none ∧ (∀ m, m ≠ n → c.frame m = s.chip.frame m) ∧
        c.word (R.SWC_CELL_CORR (pipeOf f.port)) = s.chip.word (R.SWC_CELL_CORR (pipeOf f.port)) + BitVec.ofNat 32 (eccFound ecc).1 ∧
        c.word (R.SWC_CELL_UNCORR (pipeOf f.port)) = s.chip.word (R.SWC_CELL_UNCORR (pipeOf f.port)) + (if (eccFound ecc).2.isSome then 1 else 0) ∧
        c.out = if (eccFound ecc).2.isSome then s.chip.out else s.chip.out ++ [.toFirmware f.port f.bytes f.rx])

/-- Dequeuing of frames, and the management cores' own frames. -/
def Obligations.QueuesOut : Prop := dequeuesRule ∧ managementFramesRule

/-- Commit and release on an Ethernet port. The head of the commit stage in clear leaves padded, behind nothing; one on a channel that can
supply a PN takes one and waits for its ICV; the first held frame's time-out drops every frame of the channel there, counted, and blocks
it, on a Denast port with the records that wait for a sequence. An ICV that passes lets the frame in release go. A port that has stalled
for its limit loses what its queues hold. -/
def Obligations.CommitAndRelease : Prop :=
  ∀ (s : State) (p : Nat), p < 96 →
    (∀ q qs, s.chip.running = true → s.chip.stalled p = false → s.chip.isDenast p = false → s.chip.tcPort p = false →
      (s.chip.port p).release = [] → (s.chip.port p).commits = q :: qs → q.sc = none → q.source ≠ 144 → q.bad = false → Goes (.commit p) s fun c =>
        (c.port p).commits = qs ∧ (c.port p).release = [] ∧ c.out = s.chip.out ++ [.frame p (padFrame q.bytes) true] ∧
          ∀ j, j ≠ p → c.port j = s.chip.port j) ∧
    (∀ q qs n h i lane, s.chip.running = true → s.chip.stalled p = false → s.chip.isDenast p = false → (s.chip.port p).commits = q :: qs →
      q.sc = some n → q.bytes.length ≤ 10000 → s.chip.commitBar p n = .go h i → s.chip.pickOutLane (pipeOf p) = some lane →
      (h.mode = modeHost ∨ ((s.chip.sa i).nextPn + 1 < s.chip.softPn h ∧ (s.chip.sa i).nextPn + 1 < hardLimit h.suite ∧ s.chip.softOctets h = 0)) →
        Goes (.commit p) s fun c =>
          (c.port p).commits = qs ∧ (c.sa i).nextPn = (s.chip.sa i).nextPn + 1 ∧ (c.sa i).frames = (s.chip.sa i).frames + 1) ∧
    (∀ q qs n, s.chip.power = true → (s.chip.port p).commits = q :: qs → q.sc = some n → q.held = true → s.chip.commitBar p n = .hold →
      Goes (.holdTimeout p) s fun c =>
        (c.port p).commits = qs.filter (fun y => y.sc != some n) ∧ (c.scRun n).blocked = true ∧
          c.word (R.SAS_HOLD_DROP (pipeOf p)) = s.chip.word (R.SAS_HOLD_DROP (pipeOf p)) +
            BitVec.ofNat 32 (1 + (qs.filter (fun y => y.sc == some n)).length + if s.chip.isDenast p then (s.chip.port p).unsealed else 0) ∧
          (∀ a, a ≠ R.SAS_HOLD_DROP (pipeOf p) → c.word a = s.chip.word a) ∧ c.data.sas = s.chip.data.sas ∧ c.out = s.chip.out) ∧
    (s.chip.power = true → s.chip.isDenast p = true → (s.chip.port p).commits = [] → (s.chip.port p).openHeld = true →
      s.chip.commitBar p (s.chip.denTxSc p) = .hold → Goes (.holdTimeout p) s fun c =>
        (c.scRun (s.chip.denTxSc p)).blocked = true ∧ (c.port p).openRecs = [] ∧ (c.port p).shut = [] ∧
          c.word (R.SAS_HOLD_DROP (pipeOf p)) = s.chip.word (R.SAS_HOLD_DROP (pipeOf p)) + BitVec.ofNat 32 (s.chip.port p).unsealed) ∧
    (∀ r, s.chip.power = true → s.chip.halted = false → s.chip.isDenast p = false → (s.chip.port p).release = [r] → r.bad = false →
      Goes (.icvRelease p) s fun c => (c.port p).release = [] ∧ c.out = s.chip.out ++ [.frame p r.bytes true]) ∧
    (s.chip.running = true → s.chip.stalled p = true → Goes (.egressStallTimeout p) s fun c =>
      (∀ k, k < 8 → (c.queue (qOf p k)).frames = []) ∧ (c.port p).stallOut = true ∧
        (∀ q, q / 8 ≠ p → c.queue q = s.chip.queue q) ∧ c.out = s.chip.out)

/-- A check that fires on a cipher slice that carries traffic fences it for good and, with the spare of its direction standing by ready,
attaches the spare to its pipeline; one on a spare that stands by, or a failed self-test, takes its readiness; a fenced slice stays as it
is. -/
def Obligations.SliceFaults : Prop :=
  ∀ (s : State) (k : SliceCheck), s.chip.power = true → s.chip.data.chans.all (fun h => h.port < 144) = true →
    let fences (i : Instr) (slice sp : Nat) : Prop :=
      (s.chip.rd (F.CPH_SLICE_STATUS_state slice) = 3 → Goes i s fun c => c = s.chip) ∧
      (s.chip.rd (F.CPH_SLICE_STATUS_state slice) = 1 → Goes i s fun c =>
        c.flag (F.CPH_SLICE_STATUS_spare_ready slice) = false ∧ c.flag (F.CPH_SLICE_STATUS_selftest_fail slice) = true ∧
          Chip.noted s.chip c [R.CPH_SLICE_STATUS slice]) ∧
      (s.chip.rd (F.CPH_SLICE_STATUS_state slice) ≠ 3 → s.chip.rd (F.CPH_SLICE_STATUS_state slice) ≠ 1 → Goes i s fun c =>
        c.rd (F.CPH_SLICE_STATUS_state slice) = 3 ∧
          (s.chip.rd (F.CPH_SLICE_STATUS_state sp) = 1 → s.chip.flag (F.CPH_SLICE_STATUS_spare_ready sp) = true →
            c.rd (F.CPH_SLICE_STATUS_state sp) = 2 ∧ c.rd (F.CPH_SLICE_STATUS_pipeline sp) = s.chip.rd (F.CPH_SLICE_STATUS_pipeline slice)))
    (∀ slice, slice < 9 → fences (.egressSliceFault slice k) slice 8) ∧
    (∀ slice, 9 ≤ slice → slice < 18 → fences (.ingressSliceFault slice k) slice 17) ∧
    (∀ slice, slice = 8 ∨ slice = 17 → s.chip.rd (F.CPH_SLICE_STATUS_state slice) = 1 →
      Goes (.spareSelftest slice true) s (fun c => c.flag (F.CPH_SLICE_STATUS_spare_ready slice) = true ∧
        c.flag (F.CPH_SLICE_STATUS_selftest_fail slice) = false ∧ Chip.onlyRegs s.chip c [R.CPH_SLICE_STATUS slice]) ∧
      Goes (.spareSelftest slice false) s (fun c => c.flag (F.CPH_SLICE_STATUS_spare_ready slice) = false ∧
        c.flag (F.CPH_SLICE_STATUS_selftest_fail slice) = true ∧ Chip.noted s.chip c [R.CPH_SLICE_STATUS slice]))

/-! ## Forwarding (R155, R160 to R162) -/

/-- Upkeep of the MAC tables. A relocation copies an entry to its new place before the old place is cleared, and the new entry enters
last; the oldest change leaves a pipeline's list and is applied to the entry of every other pipeline that takes changes; a rescan is done
once. An ageing sweep, at its due time, clears the mark of a used learned entry, marks one that was not used, removes one that was
marked and is not being read, and leaves static, pending and applied entries alone. -/
def Obligations.ForwardingUpkeep : Prop :=
  ∀ (s : State) (k : Nat), s.chip.power = true → k < 4 →
    ((s.chip.pipe k).chain = none → Goes (.relocationMove k) s fun c => c = s.chip) ∧
    (∀ ch, (s.chip.pipe k).chain = some ch → ch.moves = [] → Goes (.relocationMove k) s fun c =>
      (c.pipe k).chain = none ∧ c.macAt k ch.target = ch.entry ∧ c.flag (F.FWD_MAC_STATUS_move_busy k) = false ∧
        (∀ pos, pos ≠ ch.target → c.macAt k pos = s.chip.macAt k pos) ∧ ∀ j, j ≠ k → c.pipe j = s.chip.pipe j) ∧
    (∀ ch a b rest, (s.chip.pipe k).chain = some ch → ch.moves = (a, b) :: rest → Goes (.relocationMove k) s fun c =>
      c.macAt k (if ch.copied then a else b) = (if ch.copied then {} else s.chip.macAt k a) ∧
        (c.pipe k).chain = some { ch with moves := if ch.copied then rest else (a, b) :: rest, copied := !ch.copied } ∧
        (∀ pos, pos ≠ (if ch.copied then a else b) → c.macAt k pos = s.chip.macAt k pos) ∧ ∀ j, j ≠ k → c.pipe j = s.chip.pipe j) ∧
    (∀ e es, s.chip.firmware = true → (s.chip.pipe k).events = e :: es → Goes (.syncEventApply k) s fun c =>
      (c.pipe k).events = es ∧ (c.pipe k).mac = (s.chip.pipe k).mac ∧
        ∀ j pos, j < 4 → j ≠ k → s.chip.learnSync j = true → (s.chip.pipe j).chain = none → s.chip.macFind j e.fid e.mac = some pos →
          (e.removal = true → (s.chip.macAt j pos).sync = true → (s.chip.macAt j pos).dest = e.port → c.macAt j pos = {}) ∧
          (e.removal = false → (s.chip.macAt j pos).static = false → (s.chip.macAt j pos).pending = false →
            c.macAt j pos = { valid := true, sync := true, dest := e.port, fid := e.fid, mac := e.mac })) ∧
    (s.chip.firmware = true → (s.chip.pipe k).rescan = true → Goes (.syncRescan k) s fun c =>
      (c.pipe k).rescan = false ∧ (c.pipe k).mac = (s.chip.pipe k).mac ∧ ∀ j, s.chip.learnSync j = false → j ≠ k → c.pipe j = s.chip.pipe j) ∧
    (∀ n w reading, n < 4096 → s.chip.wheelDue n = some w → w.type = 7 → w.arg = k → s.chip.restarting = false → (s.chip.pipe k).chain = none →
      Sparse.wf {} (s.chip.pipe k).mac = true → Goes (.ageSweep n reading) s fun c =>
        ∀ pos, let e := s.chip.macAt k pos
          c.macAt k pos = if !e.valid || e.static || e.sync || e.pending then e
            else if e.hit then { e with hit := false, stale := false }
            else if !e.stale then { e with stale := true }
            else if reading.contains pos then e else {})

/-! ## Network time (R372 to R376, R383 to R390) -/

/-- The servo. A sample within the step threshold slews: the time base stays, and the increment follows the estimate within max_slew_ppm;
the first one, or one beyond the threshold, steps the time base by it, counted; under PTP the port that it comes from is shown. Sixteen
small offsets in a row lock, four large ones unlock. A lost source leads to holdover from a servo that has been locked, and to free
running from one that has not. The estimate and the time in holdover are shown; the real-time counter is set only while locked. -/
def Sys2Proof.servoRule : Prop :=
  ∀ (s : State) (src : Nat) (off f : Int), s.chip.power = true →
    let st := s.chip.rd F.TIM_STATE_state
    let t := s.chip.time
    (s.chip.firmware = true → t.stopped = false → s.chip.timeSource ≠ 0 → t.running = true → src < 4 →
      (s.chip.timeSource = 1 → s.chip.ptpPort src ≠ 255) →
      (t.first = false → off.natAbs ≤ s.chip.stepThreshold → Goes (.servoSample ⟨src, off⟩ f) s fun c =>
        (s.chip.timeSource = 1 → c.rd F.TIM_STATE_ptp_port = s.chip.ptpPort src) ∧ c.time.now = t.now ∧ c.time.offsets = (off :: t.offsets).take 64 ∧ c.time.freqs = (f :: t.freqs).take 64 ∧
          (∃ r : Nat, r ≤ s.chip.maxSlewPpm * 100000 ∧ c.time.incr = incrementFor (f - off.sign * r)) ∧
          c.word R.TIM_OFFSET = BitVec.ofInt 32 (max (-(2 ^ 31)) (min (2 ^ 31 - 1) off)) ∧
          (st = servoAcquiring → t.lowRun = 15 → off.natAbs < 1000 → c.rd F.TIM_STATE_state = servoLocked ∧ c.flag F.TIM_STATE_acquired = true) ∧
          (st = servoLocked → t.highRun = 3 → 1000 < off.natAbs → c.rd F.TIM_STATE_state = servoAcquiring) ∧
          (st = servoFree ∨ st = servoHoldover → c.rd F.TIM_STATE_state = servoAcquiring) ∧
          Chip.onlyRegs { s.chip with time := c.time, free := c.free } c [R.TIM_OFFSET, R.TIM_FREQ, R.TIM_STATE]) ∧
      (t.first = true ∨ s.chip.stepThreshold < off.natAbs → Goes (.servoSample ⟨src, off⟩ f) s fun c =>
        c.time.now = ((t.now : Int) - off * nsUnit).toNat % (2 ^ 48 * 1000000000 * nsUnit) ∧ c.time.first = false ∧
          c.word R.TIM_STEPS = s.chip.word R.TIM_STEPS + 1 ∧ c.flag F.TIM_STATE_stepped = true ∧ c.time.incr = t.incr)) ∧
    (st = servoAcquiring → s.chip.flag F.TIM_STATE_acquired = false → Goes .sourceLoss s fun c =>
      c.rd F.TIM_STATE_state = servoFree ∧ c.time.incr = incrementFor s.chip.freqTrim ∧ c.time.now = t.now) ∧
    (st = servoAcquiring ∧ s.chip.flag F.TIM_STATE_acquired = true ∨ st = servoLocked → Goes .sourceLoss s fun c =>
      c.rd F.TIM_STATE_state = servoHoldover ∧ c.time.incr = incrementFor (meanFreq t.freqs) ∧ c.time.entered = t.now ∧ c.time.now = t.now) ∧
    Goes .holdoverEstimate s (fun c => c.num R.TIM_EST 2 = s.chip.estimate ∧
      (st ≠ servoHoldover → c.word R.TIM_HOLD_S = 0) ∧
      (st = servoHoldover → c.word R.TIM_HOLD_S = BitVec.ofNat 32 ((t.now - t.entered) / nsUnit / 1000000000)) ∧
      Chip.onlyRegs s.chip c [R.TIM_EST, R.TIM_EST + 4, R.TIM_HOLD_S]) ∧
    (st = servoLocked → Goes .rtcSet s fun c => c = { s.chip with ao := { s.chip.ao with rtc := t.now, rtcSet := true, rtcBase := t.now } }) ∧
    (st ≠ servoLocked → Goes .rtcSet s fun c => c = s.chip)

/-- Edges and pulses. A selected edge on a capture input, and every edge on PPS_IN less its trim, enters its FIFO with the time base, or
is lost and counted when the FIFO is full; one that is not selected does nothing. A due pulse of PPS_OUT or of a running train goes out,
the train's next one is a period later, and a single pulse ends it; PPS_OUT is held low by its gate. -/
def Sys2Proof.edgesAndPulsesRule : Prop :=
  ∀ (s : State) (i : Nat) (fall : Bool), s.chip.power = true → i < 4 →
    let t := s.chip.time
    let apart (n : Nat) : Prop := Sparse.get 0 t.lastEdge n = 0 ∨ Sparse.get 0 t.lastEdge n + 20 * nsUnit ≤ t.now
    let taken (n at_ : Nat) (falling : Bool) (c : Chip) : Prop :=
      Sparse.get [] c.time.caps n = Sparse.get [] t.caps n ++ [⟨at_, falling⟩] ∧
        c.rd (F.TIM_CAP_STATUS_level n) = (Sparse.get [] t.caps n).length + 1 ∧ (∀ m, m ≠ n → Sparse.get [] c.time.caps m = Sparse.get [] t.caps m) ∧
        Chip.onlyRegs { s.chip with time := c.time } c [R.TIM_CAP_STATUS n, R.TIM_STATE]
    (bit (s.chip.capEdges i) (if fall then 1 else 0) = false → Goes (.captureEdge i fall) s fun c => c = s.chip) ∧
    (bit (s.chip.capEdges i) (if fall then 1 else 0) = true → apart i → (Sparse.get [] t.caps i).length < 64 →
      Goes (.captureEdge i fall) s (taken i t.now fall)) ∧
    (bit (s.chip.capEdges i) (if fall then 1 else 0) = true → apart i → 64 ≤ (Sparse.get [] t.caps i).length →
      Goes (.captureEdge i fall) s fun c =>
        c.time.caps = t.caps ∧ c.rd (F.TIM_CAP_STATUS_lost i) = min (s.chip.rd (F.TIM_CAP_STATUS_lost i) + 1) 65535 ∧
          Chip.onlyRegs { s.chip with time := c.time } c [R.TIM_CAP_STATUS i]) ∧
    (apart 4 → (Sparse.get [] t.caps 4).length < 64 → Goes .ppsInEdge s fun c =>
      taken 4 ((t.now : Int) - s.chip.ppsInTrim * nsUnit).toNat false c ∧ c.flag F.TIM_STATE_pps_in_present = true) ∧
    (t.running = true → s.chip.safe = false → (t.ppsNext : Int) * 1000000000 + s.chip.ppsOutTrim ≤ s.chip.ns →
      (s.chip.ppsGate = false → Goes .ppsOutPulse s fun c =>
        c = { s.chip with time := { t with ppsNext := s.chip.ppsAfter s.chip.ns }, out := s.chip.out ++ [.pulse 4 (s.chip.ppsWidthMs * 1000000) false] }) ∧
      (s.chip.ppsGate = true → s.chip.rd F.TIM_STATE_state = servoFree → Goes .ppsOutPulse s fun c =>
        c = { s.chip with time := { t with ppsNext := s.chip.ppsAfter s.chip.ns } })) ∧
    (t.running = true → s.chip.safe = false → s.chip.flag (F.TIM_TRIG_STATUS_running i) = true → (Sparse.get {} t.trig i).next ≤ t.now →
      Goes (.triggerPulse i) s fun c =>
        c.out = s.chip.out ++ [.pulse i (Sparse.get {} t.trig i).width (Sparse.get {} t.trig i).activeLow] ∧ c.flag (F.TIM_TRIG_STATUS_running i) = decide ((Sparse.get {} t.trig i).period ≠ 0) ∧
          (Sparse.get {} c.time.trig i).next = (Sparse.get {} t.trig i).next + (Sparse.get {} t.trig i).period * nsUnit ∧
          ∀ a, a ≠ R.TIM_TRIG_STATUS i → c.word a = s.chip.word a)

/-- The time servo, and edges and pulses. -/
def Obligations.PulsesAndServo : Prop := servoRule ∧ edgesAndPulsesRule

/-- Entries of the wheel at their due time: the earliest due entry of its number and type acts, is free again unless it is periodic, and
otherwise takes its next due time. A train starts or stops, and a pulse that a step has passed is
counted and not emitted; a key slot that no request uses is empty; the open fifteen-minute bin closes,
its completion due 10 s later; a completion puts the closed bin in front of the history; a recorder checkpoint seals what is unsealed.
Firmware places what it holds beyond the horizon once it lies within. -/
def Sys2Proof.wheelEventsRule : Prop :=
  ∀ (s : State) (n : Nat) (w : WheelEntry), s.chip.power = true → n < 4096 → s.chip.wheelDue n = some w →
    let again : Option WheelEntry := if w.period = 0 then none
      else some { w with due := w.due + w.period * ((s.chip.us - w.due) / w.period + 1) }
    (w.type = 1 → s.chip.time.passed < w.due * 1000 → Goes (.trigStart n) s fun c =>
      c.wheelAt n = again ∧ c.flag (F.TIM_TRIG_STATUS_running (w.arg % 4)) = true ∧
        (Sparse.get {} c.time.trig (w.arg % 4)).next = w.due * 1000 * nsUnit ∧
        Chip.onlyRegs { s.chip with time := c.time } c [R.TIM_WHEEL, R.TIM_TRIG_STATUS (w.arg % 4)]) ∧
    (w.type = 1 → 0 < w.due → w.due * 1000 ≤ s.chip.time.passed → (Sparse.get {} s.chip.time.trig (w.arg % 4)).period = 0 →
      Goes (.trigStart n) s fun c =>
        c.wheelAt n = again ∧ c.flag (F.TIM_TRIG_STATUS_running (w.arg % 4)) = false ∧ c.out = s.chip.out ∧
          c.word (R.TIM_TRIG_MISSED (w.arg % 4)) = s.chip.word (R.TIM_TRIG_MISSED (w.arg % 4)) + 1) ∧
    (w.type = 2 → Goes (.trigStop n) s fun c =>
      c.wheelAt n = again ∧ c.flag (F.TIM_TRIG_STATUS_running (w.arg % 4)) = false ∧ c.time.trig = s.chip.time.trig ∧
        Chip.onlyRegs { s.chip with time := c.time } c [R.TIM_WHEEL, R.TIM_TRIG_STATUS (w.arg % 4)]) ∧
    (w.type = 4 → w.period = 0 → s.chip.restarting = false → s.chip.slotInUse (w.arg % 1024) = false → Goes (.slotExpiry n) s fun c =>
      c.wheelAt n = none ∧ c.slot (w.arg % 1024) = {} ∧ (∀ j, j ≠ w.arg % 1024 → c.slot j = s.chip.slot j) ∧
        ((s.chip.slot (w.arg % 1024)).persistent = false → c.jpend = s.chip.jpend) ∧ ∀ a, a ≠ R.TIM_WHEEL → c.word a = s.chip.word a) ∧
    (w.type = 5 → s.chip.pm.on = true → s.chip.pm.crossed15 = false → s.chip.pm.crossedDay = false →
      s.chip.pm.start15 + 900 ≤ s.chip.seconds → s.chip.seconds < s.chip.pm.startDay + 86400 → (s.chip.perf 0).old15 = none →
      (s.chip.wheelFree 0 512).isSome = true → Goes (.binBoundary n) s fun c =>
        (∀ e, e < 144 → (c.perf e).old15 =
            some { (s.chip.perf e).cur15 with
                     start := s.chip.pm.start15
                     suspect := s.chip.pm.suspect15
                     disabled := (s.chip.perf e).cur15.disabled && !s.chip.entityOn e } ∧ (c.perf e).cur15 = {} ∧
            (c.perf e).curDay = (s.chip.perf e).curDay) ∧
          c.pm.start15 = s.chip.binStart 900 s.chip.seconds ∧ c.pm.dur15 = 900 ∧
          ∃ m, m < 512 ∧ c.wheelAt m = some { due := w.due + 10000000, type := 6, arg := 0 }) ∧
    (w.type = 6 → s.chip.mgmtRestarting = false → s.chip.persistBlocked = false → ∀ b, (s.chip.perf 0).old15 = some b →
      Goes (.binComplete n) s fun c =>
        (∀ e x, e < 144 → (s.chip.perf e).old15 = some x → (c.perf e).old15 = none ∧ (c.perf e).done15 = (x :: (s.chip.perf e).done15).take 32) ∧
          c.pm.binSeq = s.chip.pm.binSeq + 1) ∧
    (w.type = 8 → s.chip.restarting = false → Goes (.recCheckpoint n) s fun c =>
      c.wheelAt n = again ∧ c.cow.unsealed = [] ∧ Chip.noted { s.chip with time := c.time } c [R.TIM_WHEEL]) ∧
    (s.chip.firmware = true → Goes .expiryHorizonCheck s fun c =>
      c.time.held = s.chip.time.held.filter (fun x => !(x.2.due ≤ s.chip.us + wheelHorizon)) ∧
        (∀ m v, s.chip.time.held = [(m, v)] → v.due ≤ s.chip.us + wheelHorizon → c.wheelAt m = some v) ∧
        Chip.onlyRegs { s.chip with time := c.time } c [R.TIM_WHEEL])

/-- A second ends on a released part that counts performance: the FEC counters of an enabled port with FEC take what its blocks report. -/
def Sys2Proof.secondEndsRule : Prop :=
  ∀ (s : State) (b : Blocks), s.chip.running = true → s.chip.pm.on = true → b.port < 144 → s.chip.portOn b.port = true →
    s.chip.portFec b.port = true → Goes (.secondEnd [b]) s fun c =>
      c.num (R.PRT_FEC_CORR b.port) 2 = (s.chip.num (R.PRT_FEC_CORR b.port) 2 + b.corrected) % 2 ^ 64 ∧
        c.num (R.PRT_FEC_UNCORR b.port) 2 = (s.chip.num (R.PRT_FEC_UNCORR b.port) 2 + b.errored) % 2 ^ 64 ∧
        c.keys = s.chip.keys ∧ c.vault = s.chip.vault ∧ c.mb0 = s.chip.mb0 ∧ c.mb1 = s.chip.mb1

/-- Events of the wheel, and the end of a second. -/
def Obligations.WheelAndSeconds : Prop := wheelEventsRule ∧ secondEndsRule

/-! ## Keys (R252 to R279) -/

/-- The key schedule on the wheel. At its step the transmit side loads the next epoch's SA neither current nor accepting; the receive side
accepts the new epoch and has the one before it due to retire; the transmit side switches at the instant, or waits for RX_READY under
confirmed switching; the mode is chosen and an outstanding advance abandoned at the first step; the overlap's end brings the receive epoch
up; a timed activation makes its SA current, and the others that wait for their instants stay. An SA that is current is not loaded over;
the end of an early advance's overlap retires the old epoch once the sender is known to have switched. -/
def Sys2Proof.keyStepsRule : Prop :=
  ∀ (s : State) (n : Nat) (w : WheelEntry) (h : Chan), s.chip.power = true → n < 4096 → s.chip.wheelDue n = some w → w.type = 3 →
    s.chip.restarting = false → s.chip.chan w.arg = some h →
      let x := s.chip.scRun h.sc
      let e := x.epochAt w.epoch
      let i := h.sa (e % 4)
      (h.mode = modeEpoch → x.on = true → s.chip.secretAt h.port w.epoch ≠ [] → s.chip.time.stepped.contains h.sc = false →
        (w.step = 1 → Goes (.keyStep n) s fun c =>
          (c.scRun h.sc).confirmed = (s.chip.confirmAt h w.epoch).1 ∧ (c.scRun h.sc).advance = none ∧ (c.scRun h.sc).epoch = x.epoch) ∧
        (w.step = 2 → (s.chip.sa i).installed = false → Goes (.keyStep n) s fun c =>
          (c.sa i).installed = true ∧ (c.sa i).epoch = e ∧ (c.sa i).current = false ∧ (c.sa i).accepting = false ∧
            (∀ j, j ≠ i → c.sa j = s.chip.sa j)) ∧
        (w.step = 2 → (s.chip.sa i).installed = true → (s.chip.sa i).current = true → Goes (.keyStep n) s fun c => c.data.sas = s.chip.data.sas) ∧
        (w.step = 3 → Goes (.keyStep n) s fun c =>
          (c.sa i).installed = true ∧ (c.sa i).epoch = e ∧ (c.sa i).accepting = true ∧
            (c.scRun h.sc).retire = if e = 0 then none else some (e - 1)) ∧
        (w.step = 4 → x.epoch < e → x.confirmed = false → Goes (.keyStep n) s fun c =>
          (c.sa i).installed = true ∧ (c.sa i).current = true ∧ (c.sa i).epoch = e ∧ (c.scRun h.sc).epoch = e) ∧
        (w.step = 4 → x.epoch < e → x.confirmed = true → Goes (.keyStep n) s fun c =>
          (c.scRun h.sc).await = some w.epoch ∧ c.data.sas = s.chip.data.sas) ∧
        (w.step = 5 → Goes (.keyStep n) s fun c => (c.scRun h.sc).epoch = max x.epoch e)) ∧
      (w.step = 7 → x.retire.isSome = true → x.proof = true → x.retireAt ≤ s.chip.us → Goes (.keyStep n) s fun c =>
        (c.scRun h.sc).retire = none ∧ (c.scRun h.sc).epoch = x.epoch) ∧
      (∀ an inst, w.step = 6 → w.epoch = an → x.active.find? (fun a => a.1 == an && ceilDiv a.2 1000 == w.due) = some (an, inst) →
        (s.chip.sa (h.sa an)).installed = true → (s.chip.sa (h.sa an)).an = an → Goes (.keyStep n) s fun c =>
          (c.sa (h.sa an)).current = true ∧ (c.scRun h.sc).active = x.active.erase (an, inst) ∧ (c.scRun h.sc).blocked = false)

/-- The messages between the ends of a channel. One that is not the partner's, or whose tag does not verify under the secret of the
channel's current SA, is discarded and counted, with nothing else changed. RX_READY under confirmed switching switches the transmit side
to its epoch; TX_SWITCHED is proof for the receive side; ADVANCE_REQ has the next epoch accepted. Each is repeated as its row says, and an
RX_READY that does not come in time is reported once. Without proof the old receive SA is retired anyway. -/
def Sys2Proof.controlMessagesRule : Prop :=
  ∀ (s : State) (p : Nat) (m : Bytes), s.chip.power = true → p < 96 → s.chip.hears p = true →
    let e := be m 28 8
    let dropped (i : Instr) : Prop := Goes i s fun c =>
      c.word (R.SAS_CTL_AUTH p) = s.chip.word (R.SAS_CTL_AUTH p) + 1 ∧ Chip.onlyRegs s.chip c [R.SAS_CTL_AUTH p]
    (s.chip.ctlOk p msgRxReady m = false → dropped (.rxReady p m)) ∧
    (s.chip.ctlOk p msgTxSwitched m = false → dropped (.txSwitched p m)) ∧
    (s.chip.ctlOk p msgAdvanceReq m = false → dropped (.advanceReq p m)) ∧
    (s.chip.isDenast p = true → dropped (.adopt p m)) ∧
    (∀ h, (s.chip.epochChans p).find? (fun h => h.tx == true) = some h →
      let x := s.chip.scRun h.sc
      s.chip.ctlOk p msgRxReady m = true → x.on = true → x.epoch < e → x.await.isSome = true →
        s.chip.secretAt p ((e : Int) - x.skip).toNat ≠ [] → Goes (.rxReady p m) s fun c =>
          (c.sa (h.sa (e % 4))).installed = true ∧ (c.sa (h.sa (e % 4))).current = true ∧ (c.scRun h.sc).epoch = e ∧
            (c.scRun h.sc).await = none) ∧
    (∀ h, (s.chip.epochChans p).find? (fun h => h.tx == false) = some h →
      let x := s.chip.scRun h.sc
      (∀ old, s.chip.ctlOk p msgTxSwitched m = true → x.retire = some old → old < e → Goes (.txSwitched p m) s fun c =>
        (c.scRun h.sc).epoch = max x.epoch e ∧ (c.scRun h.sc).skipDue = false) ∧
      (s.chip.ctlOk p msgAdvanceReq m = true → x.on = true → e = x.epoch + 1 → x.skipDue = false →
        s.chip.secretAt p ((e : Int) - x.skip).toNat ≠ [] → Goes (.advanceReq p m) s fun c =>
          (c.sa (h.sa (e % 4))).accepting = true ∧ (c.scRun h.sc).retire = some x.epoch ∧ (c.scRun h.sc).skipDue = true ∧
            (c.scRun h.sc).epoch = x.epoch)) ∧
    (s.chip.isDenast p = false → m.length = 56 → byteAt m 0 = msgAdopt → byteAt m 1 = 1 → s.chip.fromPartner p m = true →
      (s.chip.port p).link.fresh ≠ [] → kmac (s.chip.port p).link.fresh (m.take 40) 128 "GLEORN-ADOPT" = m.drop 40 → e = 0 →
      (s.chip.port p).mka.mine = false → s.chip.epochChans p ≠ [] → Goes (.adopt p m) s fun c =>
        (c.port p).link.current = (s.chip.port p).link.fresh ∧ (c.port p).link.pending = []) ∧
    (∀ h, s.chip.chan h.sc = some h → h.port = p →
      let x := s.chip.scRun h.sc
      (∀ k, h.tx = false → x.await = some k → x.loadDue = none → s.chip.firmware = true → Goes (.rxReadyRepeat h.sc) s fun c =>
        c = s.chip.sendCtl h msgRxReady k (s.chip.ctlSecret h)) ∧
      (h.tx = true → x.switched ≠ 0 → s.chip.firmware = true → Goes (.txSwitchedRepeat h.sc) s fun c =>
        (c.scRun h.sc).switched = x.switched - 1 ∧ c.data.sas = s.chip.data.sas ∧
          c = (s.chip.setSc h.sc { x with switched := x.switched - 1 }).sendCtl h msgTxSwitched x.epoch (s.chip.ctlSecret h)) ∧
      (∀ k, h.tx = true → x.advance = some k → s.chip.firmware = true → Goes (.advanceReqRepeat h.sc) s fun c =>
        c = s.chip.sendCtl h msgAdvanceReq k (s.chip.ctlSecret h)) ∧
      (x.lateFor = x.await → Goes (.confirmLate h.sc) s fun c => c = s.chip) ∧
      (h.tx = true → x.await.isSome = true → x.lateFor ≠ x.await → Goes (.confirmLate h.sc) s fun c =>
        (c.scRun h.sc).late = true ∧ (c.scRun h.sc).lateFor = x.await ∧ c.word (R.SAS_LATE (pipeOf p)) = s.chip.word (R.SAS_LATE (pipeOf p)) + 1 ∧ c.data.sas = s.chip.data.sas ∧
          ∀ a, a ≠ R.SAS_LATE (pipeOf p) → a ≠ R.HST_ATTN → c.word a = s.chip.word a) ∧
      (∀ old, h.tx = false → x.proof = false → x.retire = some old → Goes (.forcedRetire h.sc) s fun c =>
        (c.scRun h.sc).retire = none ∧
          c.word (R.SAS_RETIRE_FORCED (pipeOf p)) = s.chip.word (R.SAS_RETIRE_FORCED (pipeOf p)) + 1))

/-- Steps of the key schedule, and its control messages. -/
def Obligations.KeyScheduleSteps : Prop := keyStepsRule ∧ controlMessagesRule

/-- Key agreement on a Denast port whose messages are heard. A well-formed offer at the responder is answered with KA_ACCEPT, the
agreement then accepted, when its checks pass and the jobs that the answer takes give results; a KA_ACCEPT that passes its checks is
answered by the initiator with KA_FINISH; either one that fails a check, or whose jobs give none, stops the agreement, which is counted as
a failure and shown with its reason; a KA_FINISH at the responder and a KA_DONE at the initiator, with good tags and an adoption index of
0, adopt the agreed secret at once and are counted; a KA_REJECT shows its reason and is counted as a failure, as is the third time-out in
a row; messages out of place are discarded and counted. -/
def Obligations.Agreements : Prop :=
  ∀ (s : State) (p : Nat) (m : Bytes), s.chip.power = true → p < 96 → s.chip.hears p = true → s.chip.isDenast p = true →
    let l := (s.chip.port p).link
    let dropped (i : Instr) : Prop := Goes i s fun c =>
      c.word (R.SAS_CTL_AUTH p) = s.chip.word (R.SAS_CTL_AUTH p) + 1 ∧ Chip.onlyRegs s.chip c [R.SAS_CTL_AUTH p]
    let stopped (c : Chip) : Prop := (c.port p).link.step = (if s.chip.initiates p then .backoff else .idle) ∧
      (c.port p).link.fails = l.fails + 1 ∧ c.word (R.SAS_KA_FAIL p) = s.chip.word (R.SAS_KA_FAIL p) + 1 ∧
      c.flag (F.SAS_LINK_STATUS_agreeing p) = false
    let agreed (c : Chip) : Prop := (c.port p).link.step = .idle ∧ (c.port p).link.current = l.fresh ∧ (c.port p).link.fails = 0 ∧
      c.word (R.SAS_KA_OK p) = s.chip.word (R.SAS_KA_OK p) + 1
    (m.length ≠ 7177 → dropped (.kaOffer p m) ∧ dropped (.kaAccept p m)) ∧
    (m.length = 7177 → s.chip.initiates p = false → s.chip.pkeOk = true →
      let bar := s.chip.agreeBar p m (ascii "GLEORN-KA-OFFER" ++ Config.sha384 (m.take 3772))
      let r := (s.chip.random 1314).1
      let d := (s.chip.ephemeral p (be m 20 8) (slice r 32 48)).2
      let point := jobOut (fwJob PkeOp.ecPubkey none (toBe d 48) (slice r 502 390))
      let zec := jobOut (fwJob PkeOp.ecdh none (toBe d 48 ++ slice m 60 96) (slice r 924 390))
      let enc := (jobOut (fwJob PkeOp.mlkemEncaps none (slice m 156 1568) (slice r 892 32))).getD []
      let head := s.chip.agreeHead p 0x11 (be m 20 8) (l.current == []) (r.take 32) (point.getD []) (enc.take 1568)
      let sig := (s.chip.agreeSign (ascii "GLEORN-KA-ACCEPT" ++ Config.sha384 (m ++ head)) (slice r 80 signRnd)).1
      if bar = 0 ∧ Config.mlkemEkOk (slice m 156 1568) = true then
        (∀ b, point.isSome = true → zec.isSome = true → sig = some b → Goes (.kaOffer p m) s fun c =>
          (c.port p).link.step = .accepted ∧ (c.port p).link.session = be m 20 8 ∧ c.flag (F.SAS_LINK_STATUS_agreeing p) = true ∧
            c.flag (F.SAS_LINK_STATUS_initiator p) = false ∧ c.out = (s.chip.sendControl p (head ++ b)).out) ∧
        (point = none ∨ zec = none ∨ sig = none → Goes (.kaOffer p m) s stopped)
      else Goes (.kaOffer p m) s fun c => stopped c ∧ c.rd (F.SAS_LINK_STATUS_last_reject p) = if bar = 0 then 5 else bar) ∧
    (m.length = 7177 → s.chip.initiates p = false → byteAt m 1 ≠ 1 → Goes (.kaOffer p m) s fun c =>
      stopped c ∧ c.rd (F.SAS_LINK_STATUS_last_reject p) = 4) ∧
    (m.length = 7177 → l.step = .offered → be m 20 8 = l.session → s.chip.pkeOk = true →
      let bar := s.chip.agreeBar p m (ascii "GLEORN-KA-ACCEPT" ++ Config.sha384 (l.offer ++ m.take 3772))
      let zec := jobOut (fwJob PkeOp.ecdh none (toBe l.ecKey 48 ++ slice m 60 96) (s.chip.random 390).1)
      if bar = 0 then
        (zec.isSome = true → Goes (.kaAccept p m) s fun c =>
          (c.port p).link.step = .finished ∧ (c.port p).link.ecKey = 0 ∧ (c.port p).link.kemSeed = [] ∧
            c.flag (F.SAS_LINK_STATUS_agreeing p) = true ∧ c.out.length = s.chip.out.length + 1) ∧
        (zec = none → Goes (.kaAccept p m) s stopped)
      else Goes (.kaAccept p m) s fun c => stopped c ∧ c.rd (F.SAS_LINK_STATUS_last_reject p) = bar) ∧
    (s.chip.kaShape p 0x12 m = false ∨ l.step ≠ .accepted → dropped (.kaFinish p m)) ∧
    (s.chip.kaShape p 0x12 m = true → l.step = .accepted → be m 20 8 = l.session → be m 28 8 = 0 → s.chip.epochChans p ≠ [] →
      finTag l.fresh l.digest (m.take 40) "GLEORN-FIN-I" = m.drop 40 → Goes (.kaFinish p m) s agreed) ∧
    (s.chip.kaShape p 0x13 m = false ∨ l.step ≠ .finished → dropped (.kaDone p m)) ∧
    (s.chip.kaShape p 0x13 m = true → l.step = .finished → be m 20 8 = l.session → l.adopt = 0 → s.chip.epochChans p ≠ [] →
      finTag l.fresh l.digest (m.take 40) "GLEORN-FIN-R" = m.drop 40 → Goes (.kaDone p m) s agreed) ∧
    (s.chip.kaShape p 0x14 m = false → dropped (.kaReject p m)) ∧
    (s.chip.kaShape p 0x14 m = true → Goes (.kaReject p m) s fun c =>
      stopped c ∧ c.rd (F.SAS_LINK_STATUS_last_reject p) = byteAt m 3) ∧
    (l.step = .offered ∨ l.step = .accepted ∨ l.step = .finished → 2 ≤ l.fails → Goes (.kaTimeout p) s stopped) ∧
    (l.step = .backoff → Goes (.kaBackoffExpiry p) s fun c => c = (s.chip.kaStep p .idle).kaStart p) ∧
    (s.chip.cfgNat T.keySchedule 16 4 0 ≠ 0 → Goes .kaIntervalExpiry s fun c => c = (List.range 96).foldl (fun c p => c.agreeAnew p) s.chip) ∧
    (s.chip.cfgNat T.keySchedule 16 4 0 = 0 → Goes .kaIntervalExpiry s fun c => c = s.chip) ∧
    (s.chip.flag (F.SAS_LINK_STATUS_holding p) = true → Goes (.peerHoldExpiry p) s fun c =>
      (c.port p).link.current = [] ∧ (c.port p).link.pending = [] ∧ c.flag (F.SAS_LINK_STATUS_holding p) = false ∧
        ∀ h ∈ s.chip.epochChans p, c.scRun h.sc = {})

/-- MKA on a MACsec port whose session runs: an MKPDU whose ICV fails changes nothing, and one that names this part makes its sender a
live peer; the hello timer sends an MKPDU with the next message number, as a frame of firmware on the highest class (log entry 17); with
no live peer left the session forgets its SAK and runs on. -/
def Obligations.MkaSessions : Prop :=
  ∀ (s : State) (p : Nat) (d : Mkpdu), s.chip.power = true → p < 96 → s.chip.hears p = true → s.chip.isMacsec p = true →
    (s.chip.port p).mka.running = true →
    let k := (s.chip.port p).mka
    (d.icvOk = false → Goes (.mkpduReceive p d) s fun c => c = s.chip) ∧
    (∀ i, d.icvOk = true → d.liveMe = true → d.retire = none → d.sak = none → d.allRx = false → k.peers.any (fun q => q.mi == d.mi) = false →
      s.chip.peerIx d.sci = some i → Goes (.mkpduReceive p d) s fun c =>
        (c.port p).mka.peers = k.peers ++ [{ mi := d.mi, sci := d.sci, priority := d.priority, fresh := d.fresh }] ∧
          (c.port p).partner.isSome = true) ∧
    (∀ e, s.chip.mkaEntry p = some e → s.chip.keyServer p = false → Goes (.mkaHelloTimer p) s fun c =>
      (c.port p).mka = { k with mn := k.mn + 1 } ∧ c.data.sas = s.chip.data.sas ∧ ∃ f, f.take 6 = toBe 0x0180C2000003 6 ∧
        c = (s.chip.setMka p (fun k => { k with mn := k.mn + 1 })).mgmtSend p 7 .clear f) ∧
    Goes (.mkaLifeExpiry p) s (fun c => (c.port p).mka.peers = [] ∧ (c.port p).mka.key = [] ∧ (c.port p).mka.rx = false ∧
      (c.port p).mka.tx = false ∧ (c.port p).mka.wait = none ∧ (c.port p).mka.mine = false ∧ (c.port p).mka.running = true)

/-! ## The vault (R353 to R364, R366, R368) -/

/-- Data lines of an open vault. A read that both copies answer cleanly gives the line when its stored tag verifies, and halts the part
with cause 1 when the tag verifies on neither stack, however the copies come; a whole-line write gives the line its new content,
raises the line's counter by one and leaves what every other line decrypts to alone; a closed vault, or a requester outside its area, is
refused with nothing changed. Stated for leaves that are cached, and away from the limits of the majors and of the mismatches. -/
def Sys2Proof.vaultLinesRule : Prop :=
  ∀ (s : State) (addr : Nat) (req : VaultReq) (data : Bytes) (a b : Copy) (ok : Bool), s.chip.power = true →
    let line := addr / 64
    let leaf := line / 64
    (s.chip.vaultOpen = false ∨ s.chip.vaultMay req (64 * line) 64 = false → Goes (.vaultRead addr req a b ok) s fun c =>
      c = { s.chip with out := s.chip.out ++ [.vault req none] }) ∧
    (s.chip.vaultOpen = false ∨ data = [] ∨ s.chip.vaultMay req addr data.length = false → Goes (.vaultWrite addr req data a b) s fun c =>
      c = { s.chip with out := s.chip.out ++ [.vault req none] }) ∧
    (s.chip.vaultOpen = true → s.chip.vaultMay req (64 * line) 64 = true → s.chip.vault.cache.contains (nodeKey 0 leaf) = true →
      (s.chip.tagGood line = true → Goes (.vaultRead addr req .clean .clean ok) s fun c =>
        c.out = s.chip.out ++ [.vault req (some (s.chip.vaultLine line))] ∧ c.vault.lines = s.chip.vault.lines ∧
          c.vault.nodes = s.chip.vault.nodes ∧ c.regs = s.chip.regs) ∧
      (s.chip.tagGood line = false → s.chip.stackOn 0 = true → s.chip.stackOn 1 = true →
        s.chip.mismatchesNow + 2 < s.chip.mismatchLimit → Goes (.vaultRead addr req a b ok) s fun c =>
          c.halted = true ∧ c.rd F.VLT_HALT_CAUSE_cause = 1 ∧ c.word R.VLT_HALT_LINE = BitVec.ofNat 32 line ∧
            c.vault.lines = s.chip.vault.lines)) ∧
    (s.chip.vaultOpen = true → data.length = 64 → s.chip.vaultMay req addr 64 = true → s.chip.vault.cache.contains (nodeKey 0 leaf) = true →
      (s.chip.node 0 leaf).major + 1 < 2 ^ 56 → Goes (.vaultWrite addr req data a b) s fun c =>
        c.vaultLine line = data ∧ (∀ l, l ≠ line → c.vaultLine l = s.chip.vaultLine l) ∧
          (c.node 0 leaf).counter (line % 64) = (s.chip.node 0 leaf).counter (line % 64) + 1 ∧
          c.vault.dirty.contains (nodeKey 0 leaf) = true ∧ c.out = s.chip.out)

/-- Upkeep of the vault. A node that leaves the cache is cached and dirty no more; a scrub moves on and, at the end, begins anew, counted;
a leaf that is cached is flushed under the new key with its major raised and its minors zero, every line still decrypting to what it
held, and the last one ends the change, neither
while a warm start is short of step 23; a stack that goes out of
service ends mirroring, and with the other one out already the part halts; an error in the node cache halts the part when it is in a
dirty node or a root. -/
def Sys2Proof.vaultUpkeepRule : Prop :=
  ∀ s : State, s.chip.power = true →
    (∀ lv i, lv < 2 → i < 2 ^ 22 → s.chip.vaultOpen = true → s.chip.vault.cache.contains (nodeKey lv i) = true → Goes (.nodeEviction lv i) s fun c =>
      c.vault.cache.contains (nodeKey lv i) = false ∧ c.vault.dirty.contains (nodeKey lv i) = false ∧ c.vault.lines = s.chip.vault.lines) ∧
    (∀ ok, s.chip.vaultOpen = true → s.chip.warmHeld = false →
      (s.chip.scrubItem = none → s.chip.tagGood s.chip.vault.scrubAt = true) → Goes (.patrolScrub .clean .clean ok) s fun c =>
      c.vault = { s.chip.vault with scrubAt := if s.chip.vault.scrubAt + 1 < s.chip.scrubTotal then s.chip.vault.scrubAt + 1 else 0 } ∧
        (s.chip.scrubTotal ≤ s.chip.vault.scrubAt + 1 → c.word R.VLT_SCRUB_PASS = s.chip.word R.VLT_SCRUB_PASS + 1) ∧
        ∀ x, x ≠ R.VLT_SCRUB_PASS → c.word x = s.chip.word x) ∧
    (let leaf := s.chip.rd F.VLT_FLUSH_next_leaf
     let id := s.chip.rd F.VLT_STATUS_key_id
     s.chip.flag F.VLT_STATUS_flush_active = true → s.chip.vaultOpen = true → s.chip.warmHeld = false → leaf + 1 < 2 ^ 21 →
      s.chip.vault.cache.contains (nodeKey 0 leaf) = true →
      (leaf + 1 < s.chip.vaultLeaves → Goes (.flushLeaf false) s fun c =>
        c.node 0 leaf = { major := (s.chip.node 0 leaf).major + 1, minors := 0, keyId := id } ∧ c.rd F.VLT_FLUSH_next_leaf = leaf + 1 ∧
          Chip.onlyRegs { s.chip with vault := c.vault } c [R.VLT_FLUSH, R.VLT_OVERFLOW] ∧ ∀ l, c.vaultLine l = s.chip.vaultLine l) ∧
      (s.chip.vaultLeaves ≤ leaf + 1 → Goes (.flushLeaf false) s fun c =>
        c.node 0 leaf = { major := (s.chip.node 0 leaf).major + 1, minors := 0, keyId := id } ∧ c.flag F.VLT_STATUS_flush_active = false ∧
          c.rd F.VLT_FLUSH_next_leaf = 0 ∧ c.rd F.VLT_KEYID_live = 2 ^ id ∧ c.word R.VLT_REKEYS = s.chip.word R.VLT_REKEYS + 1)) ∧
    (∀ k cause, k < 2 → s.chip.stackOn k = true → s.chip.stackOn (1 - k) = true → Goes (.stackOutOfService k cause) s fun c =>
      c.stackOn k = false ∧ c.stackOn (1 - k) = true ∧ c.flag F.VLT_STATUS_mirrored = false ∧
        Chip.noted s.chip c [R.VLT_STACK_STATUS k, R.VLT_STATUS]) ∧
    (∀ lv i, lv < 4 → s.chip.vault.dirty.contains (nodeKey lv i) = false → Goes (.nodeCacheEcc lv i) s fun c =>
      c.word R.VLT_CACHE_MISS = s.chip.word R.VLT_CACHE_MISS + 1 ∧ Chip.onlyRegs s.chip c [R.VLT_CACHE_MISS]) ∧
    (s.chip.halted = false →
      (∀ lv i, lv ≤ 4 → lv = 4 ∨ s.chip.vault.dirty.contains (nodeKey lv i) = true → Goes (.nodeCacheEcc lv i) s fun c =>
        c.halted = true ∧ c.rd F.MGT_HALT_cause = 2 ∧ c.rd F.VLT_HALT_CAUSE_cause = 5) ∧
      (∀ k cause, k < 2 → s.chip.stackOn k = true → s.chip.stackOn (1 - k) = false → Goes (.stackOutOfService k cause) s fun c =>
        c.halted = true ∧ c.rd F.MGT_HALT_cause = 2 ∧ c.rd F.VLT_HALT_CAUSE_cause = 4))

/-- Lines of the vault, and its upkeep. -/
def Obligations.VaultLinesAndNodes : Prop := vaultLinesRule ∧ vaultUpkeepRule

/-! ## Tamper, halts, the recorder (R396, R401 to R410, R414, R430, R439) -/

/-- What a halt for a cause leaves: the part halted, the cause shown, no start in progress, nothing in release, and the recorder due to be
flushed. -/
def Sys2Proof.haltedFor (d c : Chip) (cause : Nat) : Prop :=
  c.halted = true ∧ c.rd F.MGT_HALT_cause = cause ∧ c.rd F.MGT_HALT_halts = min (d.rd F.MGT_HALT_halts + 1) 65535 ∧
    c.start = { d.start with busy := false, todo := [], retry := false, deferred := [] } ∧ c.cow.flushDue = true ∧
    ∀ p, p < 96 → (c.port p).release = []

/-- A tamper source that is used fires once until it re-arms: it is latched and active, its fires are counted up to their limit, and a log
entry is written. Class 1 goes no further; class 2 halts the part; class 3 erases the share, every slot but K4 to K6, every SA and the
vault, sets the latch, and halts the part. An unused source does nothing. -/
def Sys2Proof.tamperFiresRule : Prop :=
  ∀ (s : State) (d : Detection), s.chip.power = true → d.source < 18 →
    let n := d.source
    (s.chip.sourceUsed n = false → Goes (.tamperSourceFire d) s fun c => c = s.chip) ∧
    (s.chip.sourceUsed n = true → s.chip.ao.armed.contains n = false → s.chip.halted = false →
      let fired (c : Chip) : Prop := c.ao.armed = s.chip.ao.armed ++ [n] ∧ bit (c.rd F.TMP_LATCHED_latched) n = true ∧
        bit (c.rd F.TMP_ACTIVE_active) n = true ∧ c.rd (F.TMP_SRC_fires n) = min (s.chip.rd (F.TMP_SRC_fires n) + 1) (2 ^ (F.TMP_SRC_fires n).w - 1) ∧
        c.ao.logSeq = (s.chip.ao.logSeq + 1) % 65536
      let cls := s.chip.rd (F.TMP_SRC_class n)
      (cls ≤ 1 → Goes (.tamperSourceFire d) s fun c =>
        fired c ∧ c.halted = false ∧ c.keys = s.chip.keys ∧ c.vault = s.chip.vault ∧ c.data = s.chip.data ∧ c.ao.share = s.chip.ao.share) ∧
      (cls = 2 → s.chip.rd F.TMP_STATUS_response < 2 → Goes (.tamperSourceFire d) s fun c =>
        fired c ∧ haltedFor s.chip c 1 ∧ c.rd F.MGT_HALT_tamper_source = n ∧ c.ao.share = s.chip.ao.share ∧ c.keys.slots = s.chip.keys.slots) ∧
      (cls = 3 → s.chip.rd F.TMP_STATUS_response < 3 → Goes (.tamperSourceFire d) s fun c =>
        fired c ∧ haltedFor s.chip c 1 ∧ c.flag F.MGT_HALT_erased = true ∧ c.flag F.TMP_STATUS_tamper_latch = true ∧
          c.ao.share = fill 32 0 ∧ c.keys.e = none ∧ c.keys.slots = s.chip.keys.slots.filter (fun e => 4 ≤ e.1 && e.1 ≤ 6) ∧
          (∀ i, (c.sa i).installed = false ∧ (c.sa i).key = []) ∧ c.vault.keys = [] ∧ c.vault.roots = [] ∧ c.vault.nodes = [] ∧ c.vault.salt = []))

/-- The detectors and the cell. A pair's disagreement sets its bit and fires DETECTOR_FAULT, on the cell too, and agreement clears it; a
source re-arms with its activity cleared, and MESH with the failures of its pairs; each window on the cell moves the clocks and the charge
on, and samples nothing else when no source has fired. -/
def Sys2Proof.detectorsRule : Prop :=
  ∀ (s : State) (n : Nat),
    (s.chip.power = true → n < 15 → s.chip.sourceUsed 17 = true → s.chip.rd (F.TMP_SRC_class 17) = 1 → Goes (.detectorDisagreement n true) s fun c =>
      bit (c.rd F.TMP_DISAGREE_disagree) n = true ∧ bit (c.rd F.TMP_ACTIVE_active) 17 = true ∧ c.ao.armed.contains 17 = true) ∧
    (s.chip.power = true → n < 15 → Goes (.detectorDisagreement n false) s fun c =>
      bit (c.rd F.TMP_DISAGREE_disagree) n = false ∧ Chip.onlyRegs s.chip c [R.TMP_DISAGREE]) ∧
    (s.chip.power = false → s.chip.ao.cell = true → n < 15 → tamperOnCell n = true → s.chip.sourceUsed 17 = true →
      s.chip.ao.armed.contains 17 = false → s.chip.ao.classes.getD 17 1 ≤ 1 → Goes (.detectorDisagreement n true) s fun c =>
        bit (c.rd F.TMP_DISAGREE_disagree) n = true ∧ bit (c.rd F.TMP_ACTIVE_active) 17 = true ∧ c.ao.armed = s.chip.ao.armed ++ [17] ∧
          c.ao.logSeq = (s.chip.ao.logSeq + 1) % 65536 ∧ c.ao.share = s.chip.ao.share ∧ c.power = false) ∧
    (Goes (.sourceRearm 10) s fun c => c.ao = { s.chip.ao with armed := s.chip.ao.armed.filter (· != 10) } ∧
      bit (c.rd F.TMP_ACTIVE_active) 10 = false ∧ (∀ m, m < 4 → c.flag (F.TMP_MESH_seq_fail m) = false ∧ c.flag (F.TMP_MESH_res_fail m) = false) ∧
      Chip.onlyRegs { s.chip with ao := c.ao } c ([R.TMP_ACTIVE] ++ (List.range 4).map R.TMP_MESH)) ∧
    (n < 18 → n ≠ 4 → n ≠ 10 → Goes (.sourceRearm n) s fun c =>
      c.ao = { s.chip.ao with armed := s.chip.ao.armed.filter (· != n) } ∧ bit (c.rd F.TMP_ACTIVE_active) n = false ∧
        Chip.onlyRegs { s.chip with ao := c.ao } c [R.TMP_ACTIVE]) ∧
    (s.chip.power = true → ∀ ds, Goes (.cellSampleWindow ds) s fun c => c = s.chip) ∧
    (s.chip.power = false → s.chip.ao.cell = true → Goes (.cellSampleWindow []) s fun c =>
      c.ao = { s.chip.ao with
        rtc := s.chip.ao.rtc + cellWindow, timer := s.chip.ao.timer + cellWindow, charge := s.chip.ao.charge + cellDraw,
        mesh := s.chip.ao.mesh.map (meshSteps 256) } ∧
        c.word R.HLT_CELL_USED = BitVec.ofNat 32 (c.ao.charge / 3600000) ∧ Chip.onlyRegs { s.chip with ao := c.ao } c [R.HLT_CELL_USED])

/-- What a tamper source does, and the detectors. -/
def Obligations.TamperResponses : Prop := tamperFiresRule ∧ detectorsRule

/-- Errors in the key store and the SA store, the random-bit generator, and the recorder's flush. A key-store error halts the part, as
does an uncorrectable SA-store error; a corrected one is counted and its address noted, and fails its macro at the sixteenth; a failed
health test shows a fault, and a passed one health, with the certificates of the alias keys made when a start could not make them; a flush
that is due leaves a healthy device with the recorder's records in the next slot. -/
def Obligations.StoresAndRecorder : Prop :=
  ∀ s : State, s.chip.power = true →
    (s.chip.halted = false → Goes .keyStoreEccError s (fun c => haltedFor s.chip c 4) ∧
      ∀ k, k < 4 → Goes (.saStoreScrub k .uncorrectable) s fun c => haltedFor s.chip c 3) ∧
    (∀ k, k < 4 → Goes (.saStoreScrub k .clean) s fun c => c = s.chip) ∧
    (∀ k m a, k < 4 → m < 18 → (Sparse.get [] s.chip.data.saErrs (18 * k + m)).contains a = false →
      (Sparse.get [] s.chip.data.saErrs (18 * k + m)).length < 15 → Goes (.saStoreScrub k (.corrected m a)) s fun c =>
        c.rd (F.MGT_MACRO_CORR_corrected k) = min (s.chip.rd (F.MGT_MACRO_CORR_corrected k) + 1) 65535 ∧
          Sparse.get [] c.data.saErrs (18 * k + m) = Sparse.get [] s.chip.data.saErrs (18 * k + m) ++ [a] ∧
          Chip.onlyRegs { s.chip with data := c.data } c [R.MGT_MACRO_CORR k] ∧ c.data.sas = s.chip.data.sas) ∧
    (s.chip.configured = false ∨ s.chip.keys.aliasCerts ≠ [] → Goes (.rbgHealthTest true) s fun c =>
      c.flag F.KEY_STATUS_rbg_ok = true ∧ Chip.onlyRegs s.chip c [R.KEY_STATUS]) ∧
    (s.chip.configured = true → s.chip.keys.aliasCerts = [] → Goes (.rbgHealthTest true) s fun c =>
      c = (s.chip.wr F.KEY_STATUS_rbg_ok 1).makeAliasCerts) ∧
    Goes (.rbgHealthTest false) s (fun c => c.flag F.KEY_STATUS_rbg_ok = false ∧ c.flag F.KEY_STATUS_rbg_fault = true ∧
      Chip.noted s.chip c [R.KEY_STATUS]) ∧
    (s.chip.cow.flushDue = false → Goes .recorderFlush s fun c => c = s.chip) ∧
    (s.chip.cow.flushDue = true → s.chip.flashGood 0 = true → s.chip.flashGood 1 = true → s.chip.rd F.MGT_REC_STATUS_next_slot < 7 →
      Goes .recorderFlush s fun c =>
        c.cow.flushDue = false ∧ c.word R.MGT_REC_FLUSHES = s.chip.word R.MGT_REC_FLUSHES + 1 ∧
          c.rd F.MGT_REC_STATUS_next_slot = (s.chip.rd F.MGT_REC_STATUS_next_slot + 1) % 7 ∧
          (Sparse.get none c.flash0.flush (s.chip.rd F.MGT_REC_STATUS_next_slot)).isSome = true ∧
          Sparse.get none c.flash0.flush (s.chip.rd F.MGT_REC_STATUS_next_slot) = Sparse.get none c.flash1.flush (s.chip.rd F.MGT_REC_STATUS_next_slot))

/-! ## Mailbox commands (R448 to R463) -/

/-- Every mailbox command that is no start command. One that cannot start changes nothing. One with sequence number 0, or below the
highest started and no longer in the completion table, is not performed, and so is a duplicate: all but its own mailbox stays, and so do
the completion table and the journal. One that a general code refuses has no effect of its own: it is recorded with that code. -/
def Obligations.MailboxRules : Prop :=
  ∀ (i : Instr) (s : State) (h : Mb) (k : CmdClass), mailboxOf s.chip i = some (h, k) → s.chip.power = true →
    (s.chip.mbReady h = false → exec i s = .next s) ∧
    (s.chip.mbReady h = true → h.readFail = false → h.seq ≤ s.chip.num (R.HST_MB_LAST_SEQ h.fn) 2 → Goes i s fun c =>
      Chip.mbSame h.fn s.chip c ∧ (c.mb h.fn).table = (s.chip.mb h.fn).table ∧ c.jpend = s.chip.jpend ∧
        c.rd (F.HST_MB_CONS_cons h.fn) = (s.chip.rd (F.HST_MB_CONS_cons h.fn) + 1) % 2 ^ 16) ∧
    (s.chip.mbReady h = true → h.readFail = true → Goes i s fun c =>
      Chip.mbSame h.fn s.chip c ∧ (c.mb h.fn).table = (s.chip.mb h.fn).table ∧ c.jpend = s.chip.jpend ∧
        c.flag (F.HST_MB_STATUS_dma_error h.fn) = true) ∧
    (∀ code, s.chip.mbReady h = true → h.readFail = false → s.chip.num (R.HST_MB_LAST_SEQ h.fn) 2 < h.seq →
      s.chip.mbRefuse h k = some code → Served i s h (s.chip.mbStarted h) (some code) 0 [])

/-- The commands that read: NOP, STATUS_READ, REC_READ of a place, HISTORY_READ, TAMPER_LOG_READ, HEALTH_REPORT, SC_STATUS,
KEY_INFO and CERT_READ each answer OK with their output, and change nothing but their mailbox (STATUS_READ: as the reading of its
sixteen registers does; REC_READ takes a fresh free value). ATTEST takes random bytes and gives firmware's signing jobs to the public-key
engine; it begins a long command when both signatures are made and fit, and answers FAULT when one is not. -/
def Obligations.MailboxReads : Prop :=
  ∀ (s : State) (h : Mb),
    let c := s.chip.mbStarted h
    (taken h (.nop h) s → Reads (.nop h) s h c []) ∧
    (taken h (.statusRead h) s → Reads (.statusRead h) s h (Chip.readRegs statusRegs c).2 (Chip.readRegs statusRegs c).1) ∧
    (∀ place count slot run seq, place ≤ 2 → 0 < count → count ≤ 64 → (place = 1 → slot ≤ 6) → 36 * count ≤ h.outLen →
      taken h (.recRead h place count slot run seq) s →
        ∃ v, let rs := s.chip.recPlace place slot
             let sts := (sealStatuses s.chip.keys.recKey rs).map (fun st => if st = 3 then 2 * (v % 2) else st)
             Reads (.recRead h place count slot run seq) s h { c with free := c.free + 1 }
               ((recChosen (rs.zip sts) count run seq).map (fun o => o.elim recAbsent (fun x => recOut s.chip.keys.recKey x.1 x.2))).flatten) ∧
    (∀ kind source index count start, 0 < count → count ≤ 672 → (source = 0 → s.chip.vaultOpen = true) →
      ((kind = 0 ∧ source ≤ 1 ∧ index ≤ 143) ∨ (kind = 1 ∧ source = 0 ∧ s.chip.data.chans.any (fun h => h.sc == index && !h.tx) = true)) →
        taken h (.historyRead h kind source index count start) s →
          let e := if kind = 0 then index else scEntity index
          let v := (((c.historyBins e (source == 1) start).take count).map (fun b => toLe b.start 8 ++ b.entry (kind == 0) false)).flatten
          Reads (.historyRead h kind source index count start) s h c (v ++ fill (56 * count - v.length) 0)) ∧
    (taken h (.tamperLogRead h) s → Reads (.tamperLogRead h) s h c
      ((List.range 64).map (fun p => (Sparse.get [] s.chip.ao.log p ++ fill 16 0).take 16)).flatten) ∧
    (taken h (.healthReport h) s → Reads (.healthReport h) s h c c.healthBytes) ∧
    (∀ sc, sc ≤ 65535 → taken h (.scStatus h sc) s →
      let on := (s.chip.chan sc).isSome
      Reads (.scStatus h sc) s h c (toLe (c.scStatusWord sc) 4 ++ fill 4 0 ++ toLe (if on then (s.chip.scRun sc).epoch else 0) 8 ++
        toLe (if on then c.scSkip sc else 0) 8 ++ fill 8 0)) ∧
    (∀ n, n < 1024 → taken h (.keyInfo h n) s → Reads (.keyInfo h n) s h c
      (toLe (s.chip.slotInfo n) 4 ++ fill 4 0 ++ toLe (s.chip.slot n).expiry 8 ++ toLe (s.chip.slot n).uses 8 ++ fill 8 0)) ∧
    (∀ sel item, c.certItem sel = .ok item → item.length ≤ h.outLen → taken h (.certRead h sel) s → Reads (.certRead h sel) s h c item) ∧
    (∀ n nonce, 16 ≤ n → n ≤ 64 → s.chip.attests < 4 → s.chip.pkeOk = true → taken h (.attest h n nonce) s →
      let r := c.random signRnd
      let made := r.2.attestSign (c.attestPayload c.overlayOf ((nonce ++ fill 64 0).take n)) r.1
      (∀ st, made.1 = some st → st.length ≤ h.outLen →
        Served (.attest h n nonce) s h { c with free := c.free + 1, pke := (c.fwJobs none made.2).pke } none 0 []) ∧
      (made.1 = none →
        Served (.attest h n nonce) s h { c with free := c.free + 1, pke := (c.fwJobs none made.2).pke } (some Code.fault) 0 []))

/-- Commands of the always-on domain, the access units and the starts. TAMPER_LOG_CLEAR empties the log unless a tamper is latched,
when it is BUSY. ACU_WRITE sets a region that widens no access, and one that would is DENIED. START_FAIL_CLEAR asks for the clearing of
the failed starts. COLD_START, WARM_START and MGMT_RESTART begin a start of their kind with the host as its cause once no reply waits. -/
def Obligations.MailboxStarts : Prop :=
  ∀ (s : State) (h : Mb),
    let c := s.chip.mbStarted h
    (taken h (.tamperLogClear h) s → s.chip.flag F.TMP_STATUS_tamper_latch = true → Served (.tamperLogClear h) s h c (some Code.busy) 0 []) ∧
    (taken h (.tamperLogClear h) s → s.chip.flag F.TMP_STATUS_tamper_latch = false → Did (.tamperLogClear h) s h (some Code.ok) 0 [] fun d =>
      d.ao = { s.chip.ao with log := [], pinned := none } ∧ d.rd F.TMP_STATUS_log_count = 0 ∧ d.rd F.TMP_STATUS_log_newest = 0 ∧
        Chip.onlyRegs { c with ao := d.ao } d [R.TMP_STATUS]) ∧
    (∀ u r size sub perm base, u ≤ 2 → r ≤ 15 → regionOk size sub perm base = true → taken h (.acuWrite h u r size sub perm base) s →
      ((List.range 4096).any (fun k => c.widens (c.setRegion u r size sub perm base) u k) = false →
        Did (.acuWrite h u r size sub perm base) s h (some Code.ok) 0 [] fun d =>
          d.rd (F.ACU_REGION_BASE_base u r) = base % 2 ^ 32 ∧ d.rd (F.ACU_REGION_CFG_size_log2 u r) = size ∧
            d.rd (F.ACU_REGION_CFG_sub_disable u r) = sub ∧ d.rd (F.ACU_REGION_CFG_perm u r) = perm ∧
            d.flag (F.ACU_STATUS_narrowed u) = true ∧
            Chip.onlyRegs c d [R.ACU_REGION_BASE u r, R.ACU_REGION_CFG u r, R.ACU_STATUS u]) ∧
      ((List.range 4096).any (fun k => c.widens (c.setRegion u r size sub perm base) u k) = true →
        Served (.acuWrite h u r size sub perm base) s h c (some Code.denied) 0 [])) ∧
    (taken h (.startFailClear h) s → Did (.startFailClear h) s h (some Code.ok) 0 [] fun d => d = { c with ao := { c.ao with failClear := true } }) ∧
    (s.chip.start.ordered = 0 → s.chip.mb0.replies = [] →
      (s.chip.mbAccepts h { opcode := 0x0100, safe := true, halt := true } → Goes (.coldStart h) s fun d => d.begun 1 2 ∧ d.data = {} ∧ d.vault = {}) ∧
      (s.chip.halted = false → s.chip.mbAccepts h { opcode := 0x0101, safe := true, halt := true } →
        Goes (.warmStart h) s fun d => d.begun 2 2 ∧ d.data = s.chip.data ∧ d.keys = s.chip.keys ∧ d.vault = s.chip.vault ∧ d.time = s.chip.time) ∧
      (s.chip.mbAccepts h { opcode := 0x0102, safe := true, halt := true } →
        Goes (.mgmtRestart h) s fun d => d.begun 3 2 ∧ d.data = s.chip.data ∧ d.keys = s.chip.keys ∧ d.vault = s.chip.vault))

/-- Image commands. IMAGE_WRITE puts its bytes into the slot on every healthy device, changes no sector that it does not reach, and marks
the slot as not verified. IMAGE_VERIFY marks a slot that the first healthy device holds whole as valid, copies back one that only device 1
holds, and rejects one that no device holds, with the code of the check that fails, READ when no device can be read. IMAGE_ACTIVATE makes
a verified slot the preferred one. ROLLBACK_ADVANCE blows one fuse with the value. -/
def Obligations.MailboxImages : Prop :=
  ∀ (s : State) (h : Mb),
    let c := s.chip.mbStarted h
    (∀ n off, n ≤ 1 → off % 256 = 0 → off + h.inData.length ≤ 12582912 → s.chip.img.map (·.slot) ≠ some n → s.chip.persistBlocked = false →
      taken h (.imageWrite h n off) s → Did (.imageWrite h n off) s h none 0 [] fun d =>
        d.flag (F.MGT_SLOT_STATUS_valid n) = false ∧
          (∀ f, f ≤ 1 → s.chip.flashGood f = true →
            (∀ k b, h.inData[k]? = some b → Sparse.get 0xFF ((d.flash f).slot n) (off + k) = b) ∧
            (∀ a, a / 65536 < off / 65536 ∨ (off + h.inData.length - 1) / 65536 < a / 65536 →
              Sparse.get 0xFF ((d.flash f).slot n) a = Sparse.get 0xFF ((s.chip.flash f).slot n) a) ∧
            (d.flash f).slot (1 - n) = (s.chip.flash f).slot (1 - n)) ∧
          (∀ f, f ≤ 1 → s.chip.flashGood f = false → d.flash f = s.chip.flash f) ∧
          d.data = s.chip.data ∧ d.keys = s.chip.keys ∧ d.vault = s.chip.vault) ∧
    (∀ n, n ≤ 1 → s.chip.flashGood 0 = true → s.chip.flag F.PKE_STATUS_fenced = false → taken h (.imageVerify h n) s →
      match checkSlot s.chip.keys s.chip.flash0 n, checkSlot s.chip.keys s.chip.flash1 n with
      | .ok _, _ => Did (.imageVerify h n) s h none 0 [] fun d =>
          d.flag (F.MGT_SLOT_STATUS_valid n) = true ∧ d.rd (F.MGT_SLOT_STATUS_reject_code n) = 0 ∧ d.word (R.MGT_SLOT_FAIL_OFFSET n) = 0 ∧
            d.flash0 = s.chip.flash0 ∧ d.flash1 = s.chip.flash1
      | .error _, .ok _ => s.chip.flashGood 1 = true → Did (.imageVerify h n) s h none 0 [] fun d =>
          d.flag (F.MGT_SLOT_STATUS_valid n) = true ∧ d.flag (F.MGT_SLOT_STATUS_device1_only n) = true ∧ d.flash0.slot n = s.chip.flash1.slot n ∧
            d.flash0.slot (1 - n) = s.chip.flash0.slot (1 - n) ∧ d.flash1.slot0 = s.chip.flash1.slot0 ∧ d.flash1.slot1 = s.chip.flash1.slot1
      | .error e, .error _ => Did (.imageVerify h n) s h (some Code.rejected) e.1 [] fun d =>
          d.flag (F.MGT_SLOT_STATUS_valid n) = (e.1 == 0) ∧ d.rd (F.MGT_SLOT_STATUS_reject_code n) = e.1 % 256 ∧
            d.word (R.MGT_SLOT_FAIL_OFFSET n) = BitVec.ofNat 32 e.2 ∧ d.flash0 = s.chip.flash0 ∧ d.flash1 = s.chip.flash1) ∧
    (∀ n, n ≤ 1 → s.chip.flag (F.MGT_SLOT_STATUS_valid n) = true → taken h (.imageActivate h n) s →
      Did (.imageActivate h n) s h none 0 [.cmd (.imageActivate h n)] fun d =>
        d.flag (F.MGT_SLOT_STATUS_preferred n) = true ∧ d.flag (F.MGT_SLOT_STATUS_preferred (1 - n)) = false ∧
          d.descriptor.map (·.preferred) = some n ∧ d.flash0.slot0 = s.chip.flash0.slot0 ∧ d.flash0.slot1 = s.chip.flash0.slot1) ∧
    (∀ n, n ≤ 1 → s.chip.flashGood 0 = false → s.chip.flashGood 1 = false → taken h (.imageVerify h n) s →
      Did (.imageVerify h n) s h (some Code.rejected) Reject.read [] fun d =>
        d.flag (F.MGT_SLOT_STATUS_valid n) = false ∧ d.rd (F.MGT_SLOT_STATUS_reject_code n) = Reject.read ∧ { d with regs := c.regs } = c) ∧
    (∀ m v, s.chip.img = some m → v < 2 ^ 32 → v ≤ m.fwVer → s.chip.keys.fwFuses.length < 64 → s.chip.keys.fwFuses.getLast?.getD 0 ≤ v →
      taken h (.rollbackAdvance h 0 v) s → Did (.rollbackAdvance h 0 v) s h none 0 [.cmd (.rollbackAdvance h 0 v)] fun d =>
        d.keys = { s.chip.keys with fwFuses := s.chip.keys.fwFuses ++ [v] } ∧ d.rd F.MGT_ROLLBACK_FW_value = v ∧
          d.rd F.MGT_ROLLBACK_LEFT_fw = 63 - s.chip.keys.fwFuses.length ∧ d.flash0 = s.chip.flash0 ∧ d.data = s.chip.data) ∧
    (∀ m v, s.chip.img = some m → v < 2 ^ 32 → v ≤ m.sequence → s.chip.keys.cfgFuses.length < 64 → s.chip.keys.cfgFuses.getLast?.getD 0 ≤ v →
      taken h (.rollbackAdvance h 1 v) s → Did (.rollbackAdvance h 1 v) s h none 0 [.cmd (.rollbackAdvance h 1 v)] fun d =>
        d.keys = { s.chip.keys with cfgFuses := s.chip.keys.cfgFuses ++ [v] } ∧ d.rd F.MGT_ROLLBACK_CFG_value = v ∧
          d.rd F.MGT_ROLLBACK_LEFT_cfg = 63 - s.chip.keys.cfgFuses.length ∧ d.flash0 = s.chip.flash0 ∧ d.data = s.chip.data)

/-- What an owner command leaves of a part `x`: a fresh 32-byte share, shown as present unless it is zero, and the rest of the always-on
domain and of what the part holds as they were. -/
def Sys2Proof.ownerFrame (x d : Chip) : Prop :=
  d.ao.share.length = 32 ∧ { d.ao with share := x.ao.share } = x.ao ∧ d.free = x.free + 1 ∧
    d.flag F.KEY_STATUS_share_present = (d.ao.share != fill 32 0)

/-- Time, the wheel, the owner and the vault. TIME_SET is DENIED while PTP is the source; with the host as the source the time base is
the start of the second given. WHEEL_ADD takes the first free host entry, WHEEL_DELETE frees a host entry. OWNER_PROVISION and
OWNER_TRANSFER blow the owner's fuse and draw a new share, and SHARE_PROVISION draws a new share and clears the latch; each is journaled,
gives its verification jobs to the public-key engine, and is DENIED with no other effect when a signature fails. What they blow counts from
the next cold start: until then OWNER_PROVISION is BUSY a second time. VAULT_REKEY takes the lowest ID not yet taken, derives its keys, and
begins the flush. -/
def Obligations.MailboxOwner : Prop :=
  ∀ (s : State) (h : Mb),
    let c := s.chip.mbStarted h
    (∀ t, s.chip.timeSource = 1 → taken h (.timeSet h t) s → Served (.timeSet h t) s h c (some Code.denied) 0 []) ∧
    (∀ t, s.chip.timeSource ≠ 1 → s.chip.timeSource ≠ 2 → t < 2 ^ 48 → taken h (.timeSet h t) s →
      Did (.timeSet h t) s h (some Code.ok) 0 [] fun d =>
        d.time.now = t * 1000000000 * nsUnit ∧ d.flag F.TIM_STATE_stepped = true ∧ d.word R.TIM_STEPS = s.chip.word R.TIM_STEPS + 1 ∧
          d.data = s.chip.data ∧ d.keys = s.chip.keys ∧ d.vault = s.chip.vault ∧ d.flash0.slot0 = s.chip.flash0.slot0) ∧
    (∀ type out us sec n, type = 1 ∨ type = 2 → out ≤ 3 → us < 1000000 → sec * 1000000 + us ≤ s.chip.us + wheelHorizon →
      s.chip.wheelFree 1536 4096 = some n → taken h (.wheelAdd h type out us sec) s →
        Did (.wheelAdd h type out us sec) s h none 0 [.cmd (.wheelAdd h type out us sec)] fun d =>
          d.wheelAt n = some { due := sec * 1000000 + us, type := type, arg := out, host := true } ∧
            (∀ m, m ≠ n → d.wheelAt m = s.chip.wheelAt m) ∧ { d with time := c.time, regs := c.regs } = c) ∧
    (∀ n w, s.chip.wheelAt n = some w → 1536 ≤ n → n < 4096 → w.host = true → taken h (.wheelDelete h n) s →
      Did (.wheelDelete h n) s h none 0 [.cmd (.wheelDelete h n)] fun d =>
        d.wheelAt n = none ∧ (∀ m, m ≠ n → d.wheelAt m = s.chip.wheelAt m) ∧ { d with time := c.time, regs := c.regs } = c) ∧
    (s.chip.keys.owners ≠ [] → taken h (.ownerProvision h) s → Served (.ownerProvision h) s h c (some Code.busy) 0 []) ∧
    (c.lifecycle = 0 → s.chip.keys.owners = [] → c.pkeOk = true → taken h (.ownerProvision h) s →
      let id := h.inData.take 2048
      let m := ascii "GLEORN-OWNER" ++ c.peerId ++ Config.sha384 id
      let x := c.fwJobs none (verifyJobs id m (h.inData.drop 2048))
      (verifyPair id m (h.inData.drop 2048) = true → Did (.ownerProvision h) s h none 0 [.cmd (.ownerProvision h)] fun d =>
        d.keys = { s.chip.keys with owners := [Config.sha384 id] } ∧ ownerFrame x d ∧ Chip.onlyRegs x { d with keys := x.keys, ao := x.ao, free := x.free } [R.KEY_STATUS]) ∧
      (verifyPair id m (h.inData.drop 2048) = false → Served (.ownerProvision h) s h x (some Code.denied) 0 [])) ∧
    (c.lifecycle = 1 → c.pkeOk = true → s.chip.keys.owners.length < 4 → taken h (.ownerTransfer h) s →
      let id := h.inData.take 2048
      let cur := (c.rec1 T.ownerId).getD []
      let m := ascii "GLEORN-OWNER-XFER" ++ c.peerId ++ toLe s.chip.keys.owners.length 1 ++ Config.sha384 id
      let x := c.fwJobs none (verifyJobs cur m (slice h.inData 2048 3405) ++ verifyJobs id m (h.inData.drop 5453))
      let ok := verifyPair cur m (slice h.inData 2048 3405) && verifyPair id m (h.inData.drop 5453)
      (ok = true → Did (.ownerTransfer h) s h none 0 [.cmd (.ownerTransfer h)] fun d =>
        d.keys = { s.chip.keys with owners := s.chip.keys.owners ++ [Config.sha384 id] } ∧ ownerFrame x d ∧
          Chip.onlyRegs x { d with keys := x.keys, ao := x.ao, free := x.free } [R.KEY_STATUS]) ∧
      (ok = false → Served (.ownerTransfer h) s h x (some Code.denied) 0 [])) ∧
    (c.lifecycle = 2 → c.pkeOk = true → taken h (.shareProvision h) s →
      let cur := (c.rec1 T.ownerId).getD []
      let m := ascii "GLEORN-SHARE" ++ c.peerId ++ toBe (s.chip.word R.KEY_ERASE_COUNT).toNat 4
      let x := c.fwJobs none (verifyJobs cur m h.inData)
      (verifyPair cur m h.inData = true → Did (.shareProvision h) s h none 0 [.cmd (.shareProvision h)] fun d =>
        d.flag F.TMP_STATUS_tamper_latch = false ∧ d.ao.pinned = none ∧ ownerFrame x { d with ao := { d.ao with pinned := s.chip.ao.pinned } } ∧
          Chip.onlyRegs x { d with ao := x.ao, free := x.free } [R.KEY_STATUS, R.TMP_STATUS]) ∧
      (verifyPair cur m h.inData = false → Served (.shareProvision h) s h x (some Code.denied) 0 [])) ∧
    (∀ n, n < 16 → (∀ m, m < n → bit (s.chip.rd F.VLT_KEYID_taken) m = true) → bit (s.chip.rd F.VLT_KEYID_taken) n = false →
      s.chip.flag F.VLT_STATUS_flush_active = false → s.chip.vaultOpen = true → taken h (.vaultRekey h) s →
        Did (.vaultRekey h) s h none 0 [] fun d =>
          d.rd F.VLT_STATUS_key_id = n ∧ d.flag F.VLT_STATUS_flush_active = true ∧ d.rd F.VLT_KEYID_taken = s.chip.rd F.VLT_KEYID_taken ||| 2 ^ n ∧
            bit (d.rd F.VLT_KEYID_live) n = true ∧ d.word R.VLT_FLUSH = 0 ∧ (∀ m, m ≠ n → d.vaultKeys m = s.chip.vaultKeys m) ∧
            (∀ e, s.chip.keys.e = some e → d.vaultKeys n = kmac (epkaiNode e ["vault", "mem", toString n]) s.chip.vault.salt 768 "GLEORN-VAULT-KEY") ∧
            Chip.onlyRegs { c with vault := { c.vault with keys := d.vault.keys } } d [R.VLT_STATUS, R.VLT_KEYID, R.VLT_FLUSH])

/-- Sorrel tables and overlays. A write and a delete of an index table change the entry at the index; a write to a ternary or exact table
puts the entry in place of the one with the same key, or in a free place; a delete of those takes out the entry with that key. A legal
overlay whose signature verifies becomes the program of its cluster, and one whose signature fails has no effect. All are journaled, and
no other table changes. -/
def Obligations.MailboxSorrel : Prop :=
  ∀ (s : State) (h : Mb) (cl t key mask value : Nat), cl ≤ 15 → t ≤ 6 →
    let kind := (progTable (s.chip.program cl) t).1
    let l := s.chip.table cl t
    let writes (l' : List (Option TabEntry)) : Prop := taken h (.sorrelTableWrite h cl t key mask value) s →
      Did (.sorrelTableWrite h cl t key mask value) s h none 0 [.cmd (.sorrelTableWrite h cl t key mask value)] fun d =>
        d = (s.chip.mbStarted h).setTable cl t l' ∧ d.table cl t = l' ∧ ∀ cl' t', t' ≤ 6 → (cl', t') ≠ (cl, t) → d.table cl' t' = s.chip.table cl' t'
    let deletes (l' : List (Option TabEntry)) : Prop := taken h (.sorrelTableDelete h cl t key mask) s →
      Did (.sorrelTableDelete h cl t key mask) s h none 0 [.cmd (.sorrelTableDelete h cl t key mask)] fun d =>
        d = (s.chip.mbStarted h).setTable cl t l' ∧ d.table cl t = l' ∧ ∀ cl' t', t' ≤ 6 → (cl', t') ≠ (cl, t) → d.table cl' t' = s.chip.table cl' t'
    (kind = 3 → key % 2 ^ 32 < (progTable (s.chip.program cl) t).2.1 →
      writes (l.set (key % 2 ^ 32) (some { value := value })) ∧ deletes (l.set (key % 2 ^ 32) none)) ∧
    (kind = 4 → ((l.filterMap id).any (fun e => e.key == key && e.mask == mask) = true ∨ (l.filterMap id).length < 256) →
      writes (putEntry l (fun e => e.key == key && e.mask == mask) { key := key, mask := mask, value := value })) ∧
    (kind = 1 ∨ kind = 2 → (kind = 1 → key < 2 ^ 32) → ((l.filterMap id).any (fun e => e.key == key) = true ∨ s.chip.exactUsed cl < 4096) →
      writes (putEntry l (fun e => e.key == key) { key := key, value := value })) ∧
    (∀ j, kind = 4 → l.findIdx? (fun x => (x.map (fun e => e.key == key && e.mask == mask)).getD false) = some j → deletes (l.set j none)) ∧
    (∀ j, kind = 1 ∨ kind = 2 → (kind = 1 → key < 2 ^ 32) → l.findIdx? (fun x => (x.map (fun e => e.key == key)).getD false) = some j →
      deletes (l.set j none)) ∧
    (let v := h.inData.take (h.inData.length - 3405)
     let sg := h.inData.drop (h.inData.length - 3405)
     byteAt v 0 = cl → s.chip.programOk v = true → sameTables v (s.chip.program cl) = true → progN v + progN (s.chip.program cl) ≤ 2048 →
      taken h (.sorrelOverlay h cl) s →
        if sigOk ((s.chip.rec1 T.ownerId).getD []) (ascii "UNESQUE-SORREL" ++ Config.sha384 v) sg = true then
          Did (.sorrelOverlay h cl) s h none 0 [.cmd (.sorrelOverlay h cl)] fun d =>
            d.program cl = v ∧ (∀ k, k ≠ cl → d.program k = s.chip.program k) ∧ d.data.tables = s.chip.data.tables ∧
              d.flag (F.FLW_CL_STATUS_overlay_active cl) = true
        else Served (.sorrelOverlay h cl) s h (s.chip.mbStarted h) (some Code.authFailure) 0 [])

/-- Forwarding tables of one pipeline in which no relocation and no learning is at work. A MAC entry written is static and replaces the
entry of its key, or takes the first free way; a delete removes it; a flush removes the entries that match and keeps the others; a route
written replaces the route of its prefix, or takes a free row of its length; a delete removes it; a next hop is written whole. Flushes of
dynamic entries alone are OK, the others are journaled. -/
def Obligations.MailboxForwarding : Prop :=
  ∀ (s : State) (h : Mb) (k : Nat), k < 4 → (s.chip.pipe k).chain = none → s.chip.pendingOps k = [] →
    let c := s.chip.mbStarted h
    (∀ kind fid dest mac pos, fid ≤ 4095 → s.chip.badDest kind dest = false →
      (s.chip.macFind k fid (be mac 0 6) = some pos ∨
        (s.chip.macFind k fid (be mac 0 6) = none ∧ s.chip.freeWay k (s.chip.candidates k fid (be mac 0 6)) = some pos)) →
      taken h (.fwdMacWrite h (2 ^ k) kind fid dest mac) s →
        Did (.fwdMacWrite h (2 ^ k) kind fid dest mac) s h none 0 [.cmd (.fwdMacWrite h (2 ^ k) kind fid dest mac)] fun d =>
          d.macAt k pos = { valid := true, static := true, kind := kind, dest := dest, fid := fid, mac := be mac 0 6 } ∧
            (∀ q, q ≠ pos → d.macAt k q = s.chip.macAt k q) ∧ (∀ j, j ≠ k → d.pipe j = s.chip.pipe j) ∧
            { d with data := { d.data with pipes := c.data.pipes }, regs := c.regs } = c) ∧
    (∀ fid mac pos, fid ≤ 4095 → s.chip.macFind k fid (be mac 0 6) = some pos → taken h (.fwdMacDelete h (2 ^ k) fid mac) s →
      Did (.fwdMacDelete h (2 ^ k) fid mac) s h none 0 [.cmd (.fwdMacDelete h (2 ^ k) fid mac)] fun d =>
        d.macAt k pos = {} ∧ ∀ q, q ≠ pos → d.macAt k q = s.chip.macAt k q) ∧
    (∀ mtch port fid, mtch ≤ 7 → mtch % 4 ≠ 0 → (bit mtch 0 = true → port ≤ 143) → (bit mtch 1 = true → fid ≤ 4095) →
      taken h (.fwdFlush h (2 ^ k) mtch port fid) s →
        Did (.fwdFlush h (2 ^ k) mtch port fid) s h (if bit mtch 2 then none else some Code.ok) 0
          (if bit mtch 2 then [.cmd (.fwdFlush h (2 ^ k) mtch port fid)] else []) fun d =>
            ∀ pos, d.macAt k pos =
              (let e := s.chip.macAt k pos
               if e.valid && !e.pending && (bit mtch 2 || !e.static) && (!bit mtch 0 || (e.kind == 0 && e.dest == port)) &&
                 (!bit mtch 1 || e.fid == fid) then {} else e)) ∧
    (∀ v6 len nh pfx r, (prefixOf v6 len pfx).2 = false → nh < 4096 →
      let n := (prefixOf v6 len pfx).1
      let found := (s.chip.regionUsed k v6 (famBits v6 - len)).find? (fun r => (s.chip.lpmAt k v6 r).pfx == n)
      ((found = some r ∨ (found = none ∧ s.chip.regionFree k v6 (famBits v6 - len) = some r)) → taken h (.fwdLpmWrite h (2 ^ k) v6 len nh pfx) s →
        Did (.fwdLpmWrite h (2 ^ k) v6 len nh pfx) s h none 0 [.cmd (.fwdLpmWrite h (2 ^ k) v6 len nh pfx)] fun d =>
          d.lpmAt k v6 r = { valid := true, len := len, pfx := n, nh := nh } ∧ (∀ q, q ≠ r → d.lpmAt k v6 q = s.chip.lpmAt k v6 q) ∧
            ∀ j, j ≠ k → d.pipe j = s.chip.pipe j) ∧
      (found = some r → taken h (.fwdLpmDelete h (2 ^ k) v6 len pfx) s →
        Did (.fwdLpmDelete h (2 ^ k) v6 len pfx) s h none 0 [.cmd (.fwdLpmDelete h (2 ^ k) v6 len pfx)] fun d =>
          d.lpmAt k v6 r = {} ∧ (∀ q, q ≠ r → d.lpmAt k v6 q = s.chip.lpmAt k v6 q) ∧ ∀ j, j ≠ k → d.pipe j = s.chip.pipe j)) ∧
    (∀ ix entry, ix < 4096 → entry.length = 16 → s.chip.badDest (hopOf entry).kind (hopOf entry).dest = false → (hopOf entry).rmac ≤ 7 →
      (hopOf entry).vact ≤ 3 → (hopOf entry).vid ≤ 4095 → taken h (.fwdNhWrite h (2 ^ k) ix entry) s →
        Did (.fwdNhWrite h (2 ^ k) ix entry) s h none 0 [.cmd (.fwdNhWrite h (2 ^ k) ix entry)] fun d =>
          (d.pipe k).nh = Sparse.set [] (s.chip.pipe k).nh ix entry ∧ d = c.setPipe k { s.chip.pipe k with nh := (d.pipe k).nh })

/-- Multicast groups, shapers, policers and maps. A group takes its member mask and loses it when deleted; a shaper takes its rate, burst,
enable and overhead, its bucket beginning full or empty as asked; a policer takes its rates and bursts with full buckets and is enabled;
a port's and a tenant's map entries take what is written, and mode 0 takes them out. All are journaled. -/
def Obligations.MailboxTraffic : Prop :=
  ∀ (s : State) (h : Mb),
    let c := s.chip.mbStarted h
    (∀ g members, g < 16384 → members.length ≤ 18 → (List.range 96).any (fun p => bit (le members 0 18) p && s.chip.paired p) = false →
      taken h (.mcastWrite h g members) s → Did (.mcastWrite h g members) s h none 0 [.cmd (.mcastWrite h g members)] fun d =>
        d = c.setGroup g (le members 0 18) ∧ d.group g = le members 0 18 ∧ ∀ k, k ≠ g → d.group k = s.chip.group k) ∧
    (∀ g, g < 16384 → taken h (.mcastDelete h g) s → Did (.mcastDelete h g) s h none 0 [.cmd (.mcastDelete h g)] fun d =>
      d = c.setGroup g 0 ∧ d.group g = 0 ∧ ∀ k, k ≠ g → d.group k = s.chip.group k) ∧
    (∀ n a, n ≤ 4239 → shaperArgsOk a = true → a.enable = true → taken h (.tmShaperWrite h n a) s →
      Did (.tmShaperWrite h n a) s h none 0 [.cmd (.tmShaperWrite h n a)] fun d =>
        d.rd (F.TMG_SHAPER_RATE_rate_kbps n) = a.rate ∧ d.rd (F.TMG_SHAPER_CFG_burst n) = a.burst ∧ d.flag (F.TMG_SHAPER_CFG_enable n) = true ∧
          d.flag (F.TMG_SHAPER_CFG_len_mode n) = a.lenMode ∧ d.rd (F.TMG_SHAPER_OVH_overhead n) = ofSigned 8 a.overhead ∧
          (Sparse.get {} d.data.shapers n).a = (if a.reset then (a.burst : Int) * tokUnit else 0) - (s.chip.shaper n).b ∧
          Chip.onlyRegs { c with data := { c.data with shapers := d.data.shapers } } d [R.TMG_SHAPER_RATE n, R.TMG_SHAPER_CFG n, R.TMG_SHAPER_OVH n] ∧
          ∀ m, m ≠ n → Sparse.get {} d.data.shapers m = Sparse.get ({} : Tokens) s.chip.data.shapers m) ∧
    (∀ n a, n ≤ 4239 → shaperArgsOk a = true → a.enable = false → taken h (.tmShaperWrite h n a) s →
      Did (.tmShaperWrite h n a) s h none 0 [.cmd (.tmShaperWrite h n a)] fun d => d.flag (F.TMG_SHAPER_CFG_enable n) = false) ∧
    (∀ e, polOk e = true → le e 4 2 ≤ 8191 → taken h (.tmPolicerWrite h e) s →
      Did (.tmPolicerWrite h e) s h none 0 [.cmd (.tmPolicerWrite h e)] fun d =>
        let m := le e 4 2
        d.word (R.TMG_POL_CIR m) = BitVec.ofNat 32 (polOf e).cir ∧ d.word (R.TMG_POL_CBS m) = BitVec.ofNat 32 (polOf e).cbs ∧
          d.word (R.TMG_POL_EBS m) = BitVec.ofNat 32 (polOf e).ebs ∧ d.flag (F.TMG_POL_MODE_enabled m) = true ∧
          Sparse.get {} d.data.policers m = { a := ((polOf e).cbs : Int) * tokUnit, b := ((polOf e).ebs : Int) * tokUnit, cycle := s.chip.cycle } ∧
          Chip.onlyRegs { c with data := { c.data with policers := d.data.policers } } d
            [R.TMG_POL_CIR m, R.TMG_POL_PIR m, R.TMG_POL_CBS m, R.TMG_POL_EBS m, R.TMG_POL_MODE m]) ∧
    (∀ k key mode ix, key ≤ 143 → mode ≤ 3 → s.chip.polListed (pipeOf key) mode ix = true → taken h (.tmMapWrite h 0 k key mode ix) s →
      Did (.tmMapWrite h 0 k key mode ix) s h none 0 [.cmd (.tmMapWrite h 0 k key mode ix)] fun d =>
        Sparse.get [] d.data.polMap key = (if mode = 0 then [] else toLe mode 1 ++ fill 1 0 ++ toLe ix 2) ∧
          ∀ q, q ≠ key → Sparse.get [] d.data.polMap q = Sparse.get [] s.chip.data.polMap q) ∧
    (∀ k key mode ix, k ≤ 3 → key ≤ 4095 → mode ≤ 3 → (mode = 0 ∨ s.chip.polListed k 1 ix = true) → taken h (.tmMapWrite h 1 k key mode ix) s →
      Did (.tmMapWrite h 1 k key mode ix) s h none 0 [.cmd (.tmMapWrite h 1 k key mode ix)] fun d =>
        Sparse.get none d.data.tenMap (4096 * k + key) = (if mode = 0 then none else some ix) ∧
          ∀ q, q ≠ 4096 * k + key → Sparse.get none d.data.tenMap q = Sparse.get none s.chip.data.tenMap q)

/-- SAs of HOST channels and the orders to the key schedule. An SA installed holds the key of its slot and the PN given, and is accepting
when it receives; an SA activated at once is current and the one before it is not, and one activated later waits in the wheel; an SA
retired is gone at once when no frame or container uses it. EPOCH_ADVANCE asks for the next epoch; LINK_REKEY begins an agreement where this
part can begin one, and waits for the initiator's where it responds: both are long. A port without EPOCH channels has no agreement. -/
def Obligations.MailboxAssociations : Prop :=
  ∀ (s : State) (h : Mb) (sc : Nat) (ch : Chan), s.chip.chan sc = some ch →
    let c := s.chip.mbStarted h
    (∀ an n w pn, an ≤ 3 → n ≤ 1023 → w ≤ 2 ^ 30 → 0 < pn → pn < 2 ^ 64 → ch.mode = modeHost → (s.chip.slot n).filled = true →
      slotFits (s.chip.slot n) ch = true → (s.chip.sa (ch.sa an)).installed = false → taken h (.saInstall h an sc n w pn) s →
        Did (.saInstall h an sc n w pn) s h none 0 [.cmd (.saInstall h an sc n w pn)] fun d =>
          (d.sa (ch.sa an)).installed = true ∧ (d.sa (ch.sa an)).tx = ch.tx ∧ (d.sa (ch.sa an)).accepting = !ch.tx ∧
            (d.sa (ch.sa an)).current = false ∧ (d.sa (ch.sa an)).nextPn = pn ∧ (d.sa (ch.sa an)).an = an ∧ (d.sa (ch.sa an)).sc = ch.sc ∧
            (d.sa (ch.sa an)).w = (if ch.tx then 0 else w) ∧
            (d.sa (ch.sa an)).key = keyOf ch.suite ((s.chip.slot n).value.take (if ch.suite = 2 then 16 else 32)) ∧
            (d.sa (ch.sa an)).subkey = Config.ctr (d.sa (ch.sa an)).key (fill 16 0) 16 ∧ (d.sa (ch.sa an)).ceiling = pn + 2 ^ 40 ∧
            (∀ j, j ≠ ch.sa an → d.sa j = s.chip.sa j) ∧ { d with data := { d.data with sas := c.data.sas } } = c) ∧
    (∀ an instant, an ≤ 3 → ch.mode = modeHost → ch.tx = true → (s.chip.sa (ch.sa an)).installed = true → (s.chip.sa (ch.sa an)).an = an →
      taken h (.saActivate h an sc instant) s →
        (instant = 0 → Did (.saActivate h an sc instant) s h none 0 [.cmd (.saActivate h an sc instant)] fun d =>
          (d.sa (ch.sa an)).current = true ∧ ∀ j, s.chip.currentSa ch = some j → j ≠ ch.sa an → (d.sa j).current = false) ∧
        (∀ n, instant ≠ 0 → ceilDiv instant 1000 ≤ s.chip.us + wheelHorizon → s.chip.wheelFree 1536 4096 = some n →
          Did (.saActivate h an sc instant) s h none 0 [.cmd (.saActivate h an sc instant)] fun d =>
            d.wheelAt n = some { due := ceilDiv instant 1000, type := 3, arg := sc, step := 6, epoch := an } ∧
              (d.scRun sc).active = (s.chip.scRun sc).active ++ [(an, instant)] ∧ d.data.sas = s.chip.data.sas)) ∧
    (∀ an, an ≤ 3 → ch.mode = modeHost → (s.chip.sa (ch.sa an)).installed = true → (s.chip.sa (ch.sa an)).an = an →
      (s.chip.sa (ch.sa an)).current = false → taken h (.saRetire h an sc) s →
        Did (.saRetire h an sc) s h none 0 [.cmd (.saRetire h an sc)] fun d =>
          let used := if (s.chip.sa (ch.sa an)).tx then s.chip.inRelease ch.port (ch.sa an) else s.chip.inCheck (ch.sa an)
          (d.sa (ch.sa an)).installed = used ∧ (d.sa (ch.sa an)).accepting = false ∧ (d.sa (ch.sa an)).retireDue = used ∧
            ∀ j, j ≠ ch.sa an → d.sa j = s.chip.sa j) ∧
    (s.chip.advanceOk ch = true → ch.sc = sc → taken h (.epochAdvance h sc) s → Did (.epochAdvance h sc) s h none 0 [] fun d =>
      (d.scRun sc).advance = some ((s.chip.scRun sc).epoch + 1) ∧ (d.scRun sc).epoch = (s.chip.scRun sc).epoch ∧ d.data.sas = s.chip.data.sas ∧
        d.keys = s.chip.keys) ∧
    (∀ p, p ≤ 95 → s.chip.epochChans p = [] → taken h (.linkRekey h p) s → Served (.linkRekey h p) s h c (some Code.denied) 0 []) ∧
    (∀ p q, p ≤ 95 → s.chip.isDenast p = true → s.chip.epochChans p ≠ [] → (s.chip.port p).partner = some q → q.twoWay = true → q.id ≠ s.chip.peerId →
      (s.chip.port p).link.step = .idle → s.chip.peerBar p q.id = 0 → s.chip.pkeOk = true → taken h (.linkRekey h p) s →
        let l := (s.chip.port p).link
        let r := (s.chip.random 892).1
        let e := s.chip.ephemeral p (l.session + 1) (slice r 32 48)
        let point := jobOut (fwJob PkeOp.ecPubkey none (toBe e.2 48) (slice r 502 390))
        let kem := jobOut (fwJob PkeOp.mlkemKeygen none [] e.1)
        let head := s.chip.agreeHead p 0x10 (l.session + 1) (l.current == []) (r.take 32) (point.getD []) (kem.getD [])
        let sig := (s.chip.agreeSign (ascii "GLEORN-KA-OFFER" ++ Config.sha384 head) (slice r 80 signRnd)).1
        (∀ b, s.chip.initiates p = true → point.isSome = true → sig = some b → Did (.linkRekey h p) s h none 0 [] fun d =>
          (d.port p).link.step = .offered ∧ (d.port p).link.session = l.session + 1 ∧ (d.port p).link.offer = head ++ b ∧
            (d.port p).link.current = l.current ∧ d.flag (F.SAS_LINK_STATUS_agreeing p) = true) ∧
        (s.chip.initiates p = true → point = none ∨ sig = none → Did (.linkRekey h p) s h none 0 [] fun d =>
          (d.port p).link.step = .backoff ∧ (d.port p).link.fails = l.fails + 1 ∧ d.word (R.SAS_KA_FAIL p) = s.chip.word (R.SAS_KA_FAIL p) + 1) ∧
        (s.chip.initiates p = false → Did (.linkRekey h p) s h none 0 [] fun d =>
          d = c.wr (F.SAS_LINK_STATUS_initiator p) 0)) ∧
    (∀ p, p ≤ 95 → s.chip.isDenast p = false → s.chip.epochChans p ≠ [] → s.chip.keyServer p = true → s.chip.rbgOk = true →
      taken h (.linkRekey h p) s → Did (.linkRekey h p) s h none 0 [] fun d =>
        ((d.port p).mka.kn = (s.chip.port p).mka.kn + 1 ∨ (d.port p).mka.wait.map (·.kn) = some ((s.chip.port p).mka.kn + 1)) ∧
          (d.port p).mka.mine = true ∧ d.free = s.chip.free + 1)

/-- Key slots and the host's public-key jobs. A generated key and an imported one fill a free slot with the attributes asked for, its IV
counter at 1, and a persistent one is journaled with attributes and value wrapped under K1; an import that does not open, or opens to
other attributes, has no effect but the jobs of its key agreement; an export answers with the wrapped key; a clear empties a slot that
nothing uses; a job submitted waits under the next number; one aborted while it waits is counted and gone, one that runs is stopped and
wiped. -/
def Obligations.MailboxKeys : Prop :=
  ∀ (s : State) (h : Mb) (n : Nat),
    let c := s.chip.mbStarted h
    let filled (i : Instr) (attrs v : Bytes) : Prop :=
      Did i s h (if (slotOf attrs []).persistent then none else some Code.ok) 0
        (if (slotOf attrs []).persistent then [.slot n attrs (Config.kwWrap (s.chip.slot 1).value (attrs ++ v))] else []) fun d =>
          d.slot n = { slotOf attrs v with iv := 1, ivCeil := if (slotOf attrs []).persistent then 1 + 2 ^ 32 else 0 } ∧
            (∀ m, m ≠ n → d.slot m = s.chip.slot m) ∧ d.data = s.chip.data ∧ d.flash0 = s.chip.flash0 ∧ d.vault = s.chip.vault
    (∀ attrs, c.fillRefuse n 2 attrs = none → s.chip.rbgOk = true → taken h (.keyGenerate h n attrs) s →
      ∃ v, v.length = slotBytes (slotOf attrs []).length ∧ filled (.keyGenerate h n attrs) attrs v) ∧
    (∀ form attrs, c.fillRefuse n 3 attrs = none → taken h (.keyImport h form n attrs) s →
      match c.importOpen form n h.inData (c.random 390).1 with
      | .error code => Served (.keyImport h form n attrs) s h (c.importTakes form h.inData) (some code) 0 []
      | .ok p =>
        if p.take 16 = attrs ∧ (p.drop 16).length = slotBytes (slotOf attrs []).length then filled (.keyImport h form n attrs) attrs (p.drop 16)
        else Served (.keyImport h form n attrs) s h (c.importTakes form h.inData) (some Code.denied) 0 []) ∧
    (∀ w, 8 ≤ n → n < 1024 → w < 1024 → (s.chip.slot n).filled = true → (s.chip.slot w).filled = true → bit (s.chip.slot n).ops 8 = true →
      bit (s.chip.slot w).ops 7 = true → (s.chip.slot n).value.length + 24 ≤ h.outLen → taken h (.keyExport h n w) s →
        Reads (.keyExport h n w) s h c (Config.kwWrap (s.chip.slot w).value ((s.chip.slot n).attrs ++ (s.chip.slot n).value))) ∧
    (8 ≤ n → n < 1024 → (s.chip.slot n).filled = true → taken h (.keyClear h n) s →
      Did (.keyClear h n) s h (if (s.chip.slot n).persistent then none else some Code.ok) 0
        (if (s.chip.slot n).persistent then [.slotClear n] else []) fun d =>
          d.slot n = (if s.chip.slotInUse n then { s.chip.slot n with clearDue := true } else {}) ∧ (∀ m, m ≠ n → d.slot m = s.chip.slot m) ∧
            d.wheelAt (slotWheel n) = none) ∧
    (∀ desc, s.chip.flag F.PKE_HOST_CFG_host_enable = true → s.chip.rd F.PKE_STATUS_host_queued < s.chip.rd F.PKE_HOST_CFG_host_depth →
      desc.length = 64 → le desc 40 8 % 32 = 0 → s.chip.flag F.PKE_STATUS_fenced = false → taken h (.pkeSubmit h desc) s →
        Did (.pkeSubmit h desc) s h (some Code.ok) s.chip.pke.next [] fun d =>
          d.pke = { s.chip.pke with next := (s.chip.pke.next + 1) % 2 ^ 32, queue := s.chip.pke.queue ++ [{ num := s.chip.pke.next, desc := desc }] } ∧
            { d with pke := c.pke, regs := c.regs } = c) ∧
    (∀ j, s.chip.pke.queue.find? (fun j => j.num == n) = some j → taken h (.pkeAbort h n) s →
      Did (.pkeAbort h n) s h (some Code.ok) 0 [] fun d =>
        d.pke = { s.chip.pke with queue := s.chip.pke.queue.filter (fun x => x.num != n) } ∧
          d.word R.PKE_ABORTS = s.chip.word R.PKE_ABORTS + 1 ∧ d.word R.PKE_JOBS_ERR = s.chip.word R.PKE_JOBS_ERR + 1 ∧
          d.keys = s.chip.keys ∧ d.data = s.chip.data) ∧
    (∀ j v, (∀ j ∈ s.chip.pke.queue, j.num ≠ n) → s.chip.pke.running = some (j, v) → j.num = n → j.fw = false → taken h (.pkeAbort h n) s →
      Did (.pkeAbort h n) s h (some Code.ok) 0 [] fun d =>
        d.pke.running = none ∧ d.pke.queue = s.chip.pke.queue ∧ d.word R.PKE_ABORTS = s.chip.word R.PKE_ABORTS + 1 ∧
          d.flag F.PKE_STATUS_clean = true ∧ d.flag F.PKE_STATUS_busy = false) ∧
    ((∀ j ∈ s.chip.pke.queue, j.num ≠ n) → (∀ j v, s.chip.pke.running = some (j, v) → j.fw = true ∨ j.num ≠ n) → taken h (.pkeAbort h n) s →
      Served (.pkeAbort h n) s h c (some Code.range) 0 [])

/-! ## Lookaside and public-key engines (R305 to R313, R326 to R344) -/

/-- A lookaside ring. PROD moves to what is written, unless that is more than the ring's size ahead of CPROD, which is only counted; a
reset drops the started requests and clears dma_error; an initiator that may not write the ring's registers changes nothing. A request
whose fence is not satisfied waits, and the turn passes on; one that starts is numbered by CONS and joins the ring with the code of its
checks; one that runs counts a use of its slot and takes its IV. A request completes in the order of starting: with a code it is a
failure, after a good run of the engine it is done and its output leaves first, and an engine check fences the engine. A failed host
access halts the ring. -/
def Obligations.LookasideRings : Prop :=
  ∀ (s : State) (r : Nat), s.chip.power = true → r < 8 →
    (∀ init v, s.chip.served init (R.KEY_LA_PROD r) = true → s.chip.allowed init (R.KEY_LA_PROD r) true = true →
      let p := bits v.toNat 0 16
      let far := decide (2 ^ s.chip.rd (F.KEY_LA_CFG_log2_entries r) < (p + 65536 - s.chip.rd (F.KEY_LA_CPROD_cprod r)) % 65536)
      (laMay init r = false → Goes (.laProduce init r v) s fun c => c = s.chip) ∧
      (laMay init r = true → far = false → Goes (.laProduce init r v) s fun c =>
        c.rd (F.KEY_LA_PROD_prod r) = p ∧ Chip.onlyRegs s.chip c [R.KEY_LA_PROD r]) ∧
      (laMay init r = true → far = true → Goes (.laProduce init r v) s fun c =>
        c.word (R.KEY_LA_OVERRUN r) = s.chip.word (R.KEY_LA_OVERRUN r) + 1 ∧ Chip.onlyRegs s.chip c [R.KEY_LA_OVERRUN r])) ∧
    (∀ init v, s.chip.served init (R.KEY_LA_CFG r) = true → s.chip.allowed init (R.KEY_LA_CFG r) true = true → laMay init r = true →
      bit v.toNat 5 = true → Goes (.laRingReset init r v) s fun c =>
        c.laRing r = [] ∧ c.rd (F.KEY_LA_CONS_cons r) = s.chip.rd (F.KEY_LA_CPROD_cprod r) ∧ c.flag (F.KEY_LA_STATUS_dma_error r) = false ∧
          c.rd (F.KEY_LA_STATUS_in_flight r) = 0 ∧ c.flag (F.KEY_LA_CFG_enable r) = bit v.toNat 4 ∧ ∀ q, q ≠ r → c.laRing q = s.chip.laRing q) ∧
    (∀ e, s.chip.laReady r = false → Goes (.laRequestStart r e) s fun c => c = s.chip) ∧
    (∀ e, s.chip.laReady r = true → bit (byteAt e 1) 0 = true → s.chip.laRing r ≠ [] → Goes (.laRequestStart r e) s fun c =>
      c = { s.chip with keys := { s.chip.keys with fenced := r :: s.chip.keys.fenced.erase r } }) ∧
    (∀ e, s.chip.laReady r = true → bit (byteAt e 1) 0 = false ∨ s.chip.laRing r = [] →
      let n := le e 2 2
      let x := s.chip.slot n
      let auto := bit (byteAt e 1) 2
      let joined (c : Chip) : Prop := c.rd (F.KEY_LA_CONS_cons r) = (s.chip.rd (F.KEY_LA_CONS_cons r) + 1) % 2 ^ 16 ∧
        (∃ q, c.laRing r = s.chip.laRing r ++ [q] ∧ q.entry = e ∧ q.index = s.chip.rd (F.KEY_LA_CONS_cons r) ∧ q.code = s.chip.laCheck r e ∧
          q.key = x.value ∧ q.slot = n) ∧ (∀ q, q ≠ r → c.laRing q = s.chip.laRing q) ∧ (∀ m, m ≠ n → c.slot m = s.chip.slot m) ∧
        (r ≠ 0 → c.keys.turn = r) ∧ (r = 0 → c.keys.turn = s.chip.keys.turn ∧ c.keys.credit = s.chip.keys.credit)
      ((s.chip.laCheck r e).isSome = true → Goes (.laRequestStart r e) s fun c => joined c ∧ c.slot n = x ∧ c.jpend = s.chip.jpend) ∧
      (s.chip.laCheck r e = none → auto = false ∨ x.persistent = false ∨ x.iv + 1 + 2 ^ 31 ≤ x.ivCeil → Goes (.laRequestStart r e) s fun c =>
        joined c ∧ c.slot n = { x with uses := x.uses + 1, iv := if auto then x.iv + 1 else x.iv } ∧ c.jpend = s.chip.jpend) ∧
      (s.chip.laCheck r e = none → auto = true → x.persistent = true → x.ivCeil < x.iv + 1 + 2 ^ 31 → Goes (.laRequestStart r e) s fun c =>
        joined c ∧ c.slot n = { x with uses := x.uses + 1, iv := x.iv + 1, ivCeil := x.iv + 1 + 2 ^ 32 } ∧
          c.jpend.map (·.op) = s.chip.jpend.map (·.op) ++ [.ivCeiling n (x.iv + 1 + 2 ^ 32)])) ∧
    (∀ q rest input aux, s.chip.laRing r = q :: rest →
      let ended (c : Chip) (code : Nat) : Prop := c.laRing r = rest ∧
        c.rd (F.KEY_LA_CPROD_cprod r) = (s.chip.rd (F.KEY_LA_CPROD_cprod r) + 1) % 2 ^ 16 ∧
        c.word (R.KEY_LA_DONE r) = s.chip.word (R.KEY_LA_DONE r) + (if code = La.ok then 1 else 0) ∧
        c.word (R.KEY_LA_FAIL r) = s.chip.word (R.KEY_LA_FAIL r) + (if code = La.ok then 0 else 1) ∧ ∀ p, p ≠ r → c.laRing p = s.chip.laRing p
      (∀ code run, q.code = some code → code ≠ La.ok → Goes (.laRequestComplete r input aux run) s fun c => ended c code) ∧
      (q.code = none → (s.chip.flag F.KEY_STATUS_la_engine0_fenced && s.chip.flag F.KEY_STATUS_la_engine1_fenced) = false →
        (∀ out, laRun q input aux = .ok out → (bit (byteAt q.entry 1) 1 = false ∨ r < 6) → Goes (.laRequestComplete r input aux .good) s fun c =>
          ended c La.ok ∧ c.out = s.chip.out ++
            (if out = [] then [] else [.hostWrite (if 6 ≤ r then 0 else 2) (le q.entry 24 8) out]) ++
            [.hostWrite (if 6 ≤ r then 0 else 2) (s.chip.num (R.KEY_LA_CBASE r) 2 +
              32 * (s.chip.rd (F.KEY_LA_CPROD_cprod r) % 2 ^ s.chip.rd (F.KEY_LA_CFG_log2_entries r)))
              (s.chip.laCompletion r q La.ok out.length)]) ∧
        (∀ code, laRun q input aux = .error code → code ≠ La.ok → Goes (.laRequestComplete r input aux .good) s fun c => ended c code)) ∧
      (q.code = none → s.chip.flag F.KEY_STATUS_la_engine0_fenced = true → s.chip.flag F.KEY_STATUS_la_engine1_fenced = true →
        Goes (.laRequestComplete r input aux .good) s fun c => ended c La.fault) ∧
      (q.code = none → Goes (.laRequestComplete r input aux (.check 0)) s (fun c => ended c La.fault ∧ c.flag F.KEY_STATUS_la_engine0_fenced = true) ∧
        Goes (.laRequestComplete r input aux (.check 1)) s fun c => ended c La.fault ∧ c.flag F.KEY_STATUS_la_engine1_fenced = true)) ∧
    (s.chip.laRunning r = true → Goes (.laDmaFailure r) s fun c =>
      c.flag (F.KEY_LA_STATUS_dma_error r) = true ∧ c.flag (F.KEY_LA_STATUS_running r) = false ∧ c.laRing r = [] ∧
        c.word (R.KEY_LA_DMA_ERR r) = s.chip.word (R.KEY_LA_DMA_ERR r) + 1 ∧ c.rd (F.KEY_LA_CONS_cons r) = s.chip.rd (F.KEY_LA_CPROD_cprod r))

/-- Public-key jobs. The engine takes the oldest job of a context: of host jobs while the part serves them, of firmware jobs otherwise, and
with both waiting up to fw_weight firmware jobs and then up to host_weight host jobs. A job whose context did not run last finds a wiped
memory; it runs with its input, or, where a check bars it, ends at once as an error. A running host job ends with the result that its
operation gives: done and counted, or an error and counted; a check counts a fault,
and the third within a second fences the engine and ends every queued job; a failed host read ends it with a wiped engine; a record that
cannot be written is counted. A firmware job's record goes to management memory alone, and a failed one fails its key agreement. -/
def Obligations.PublicKeyJobs : Prop :=
  ∀ s : State, s.chip.power = true → s.chip.halted = false →
    let k := s.chip.pke
    let recent := (k.faults.filter (fun t => decide (s.chip.ns < t + 1000000000))).length
    let waits := k.queue ≠ [] ∧ s.chip.pkeServes = true
    let hostNext := waits ∧ (k.fwQueue = [] ∨
      (if k.hostTurn then k.taken < s.chip.rd F.PKE_HOST_CFG_host_weight else s.chip.rd F.PKE_HOST_CFG_fw_weight ≤ k.taken))
    let begun (j : PkeJob) (input : Bytes) (host : Bool) (q f : List PkeJob) : Prop :=
      (s.chip.djBar j.fw j.desc = none → Goes (.pkeJobStart input) s fun c =>
        c.pke.queue = q ∧ c.pke.fwQueue = f ∧ c.pke.hostTurn = host ∧
          c.pke.running = some ({ j with key := if djSlotKey j.desc then some (s.chip.slot (djSlot j.desc)).value else none },
            fit (djIn j.desc) (if host then input else j.input)) ∧
          c.flag F.PKE_STATUS_context = host ∧ c.flag F.PKE_STATUS_clean = false ∧ c.flag F.PKE_STATUS_busy = true ∧
          c.word R.PKE_WIPES = s.chip.word R.PKE_WIPES +
            (if s.chip.flag F.PKE_STATUS_context = host ∨ s.chip.flag F.PKE_STATUS_clean = true then 0 else 1) ∧
          c.keys = s.chip.keys ∧ c.data = s.chip.data) ∧
      (∀ b, s.chip.djBar j.fw j.desc = some b → Goes (.pkeJobStart input) s fun c =>
        c.pke.queue = q ∧ c.pke.fwQueue = f ∧ c.pke.running = none ∧ c.word R.PKE_JOBS_ERR = s.chip.word R.PKE_JOBS_ERR + 1 ∧
          c.keys = s.chip.keys)
    (∀ j js input, hostNext → k.queue = j :: js → j.fw = false → k.running = none → begun j input true js k.fwQueue) ∧
    (∀ j js input, ¬ hostNext → k.fwQueue = j :: js → j.fw = true → k.running = none → begun j input false k.queue js) ∧
    (∀ input, (¬ waits ∧ k.fwQueue = []) ∨ k.running.isSome = true → Goes (.pkeJobStart input) s fun c => c = s.chip) ∧
    (∀ j v, k.running = some (j, v) → j.fw = false →
      let failed (c : Chip) : Prop := c.pke.running = none ∧ c.word R.PKE_JOBS_ERR = s.chip.word R.PKE_JOBS_ERR + 1 ∧
        c.word R.PKE_JOBS_OK = s.chip.word R.PKE_JOBS_OK ∧ c.keys = s.chip.keys ∧ c.data = s.chip.data
      (djRandom j.desc = false → (pkeCompute j v []).2 ≤ 200 → bit (byteAt j.desc 1) 0 = false →
        (∀ out, (pkeCompute j v []).1 = .out out → Goes (.pkeJobComplete .good) s fun c =>
          c.pke.running = none ∧ c.pke.queue = k.queue ∧ c.pke.fwQueue = k.fwQueue ∧ c.word R.PKE_JOBS_OK = s.chip.word R.PKE_JOBS_OK + 1 ∧
            c.word R.PKE_JOBS_ERR = s.chip.word R.PKE_JOBS_ERR ∧ ∃ done, c.out = s.chip.out ++
              (if out = [] then [] else [.hostWrite 0 (le j.desc 24 8) out]) ++ [.hostWrite 0 (le j.desc 40 8) done]) ∧
        (∀ code, (pkeCompute j v []).1 = .early code ∨ (pkeCompute j v []).1 = .late code → code ≠ PkeCode.ok →
          Goes (.pkeJobComplete .good) s fun c => failed c ∧ ∃ done, c.out = s.chip.out ++ [.hostWrite 0 (le j.desc 40 8) done])) ∧
      (djRandom j.desc = true → Goes (.pkeJobComplete .good) s fun c => c.pke.running = none ∧ c.free = s.chip.free + 1) ∧
      Goes (.pkeJobComplete .dmaError) s (fun c => failed c ∧ c.flag F.PKE_STATUS_clean = true ∧ (s.chip.flag F.PKE_STATUS_clean = false → c.pke.opmem = [])) ∧
      (djRandom j.desc = false → (pkeCompute j v []).2 ≤ 200 → (pkeCompute j v []).1 ≠ .offCurve → Goes (.pkeJobComplete .recordError) s fun c =>
        c.pke.running = none ∧ c.word R.PKE_DMA_ERR = s.chip.word R.PKE_DMA_ERR + 1) ∧
      (∀ b, recent < 2 → Goes (.pkeJobComplete (.check b)) s fun c =>
        failed c ∧ c.word R.PKE_FAULTS = s.chip.word R.PKE_FAULTS + 1 ∧ c.flag F.PKE_STATUS_fenced = s.chip.flag F.PKE_STATUS_fenced) ∧
      (∀ b, 2 ≤ recent → Goes (.pkeJobComplete (.check b)) s fun c =>
        c.pke.running = none ∧ c.pke.queue = [] ∧ c.pke.fwQueue = [] ∧ c.flag F.PKE_STATUS_fenced = true ∧
          c.word R.PKE_FAULTS = s.chip.word R.PKE_FAULTS + BitVec.ofNat 32 (1 + k.fwQueue.length + k.queue.length))) ∧
    (∀ j v, k.running = some (j, v) → j.fw = true →
      (∀ out, (pkeCompute j v j.rnd).2 ≤ 200 → (pkeCompute j v j.rnd).1 = .out out → Goes (.pkeJobComplete .good) s fun c =>
        c.pke.running = none ∧ c.pke.queue = k.queue ∧ c.pke.fwQueue = k.fwQueue ∧ c.word R.PKE_JOBS_OK = s.chip.word R.PKE_JOBS_OK + 1 ∧
          c.keys = s.chip.keys ∧ c.data = s.chip.data ∧ ∃ done, c.out = s.chip.out ++ [.fwJob done]) ∧
      (∀ b p, p < 96 → recent < 2 → j.port = some p → (s.chip.port p).link.step = .offered → Goes (.pkeJobComplete (.check b)) s fun c =>
        (c.port p).link.fails = (s.chip.port p).link.fails + 1 ∧ c.word (R.SAS_KA_FAIL p) = s.chip.word (R.SAS_KA_FAIL p) + 1 ∧
          c.word R.PKE_FAULTS = s.chip.word R.PKE_FAULTS + 1))

/-! ## The lifecycle (R319) -/

/-- The lifecycle that the part reports: the first that applies of SAFE (4), DEBUG (3), BLANK (0), QUARANTINED (2), and OWNED (1) when
none does; and a part without an owner rejects every image with OWNER_KEY. The owner entries are those in force, which a cold start takes
from the fuses (R320). -/
def Obligations.LifecycleStates : Prop :=
  ∀ c : Chip,
    (c.safe = true → c.lifecycle = 4) ∧
    (c.safe = false → c.debugRoot = true → c.lifecycle = 3) ∧
    (c.safe = false → c.debugRoot = false → c.owners = [] → c.lifecycle = 0) ∧
    (c.safe = false → c.debugRoot = false → c.owners ≠ [] → c.quarantined = true → c.lifecycle = 2) ∧
    (c.safe = false → c.debugRoot = false → c.owners ≠ [] → c.quarantined = false → c.lifecycle = 1) ∧
    (c.keys.owners = [] → c.owners = [] ∧ ∀ i, ∃ off, ownerCheck c.keys i = some (Reject.ownerKey, off)) ∧
    (c.keys.inForce = c.keys.owners.length → c.owners = c.keys.owners)

/-! ## Debug port (R466, R471 to R474) -/

/-- The debug port. IDCODE, BYPASS, DBG_STATUS and, without a session, EXTEST capture fixed data; a preload is kept. A challenge names the
part, 32 random bytes, its erase count and its lifecycle; while the port is locked out it is zero, and an unlock is refused without
counting towards another lockout. An unlock without a challenge fails and counts; with a token that the challenge's signers accept it
opens the session, empties every SA and request, and changes to the debug root. An access reads or writes a register that the units allow,
and is an error otherwise. Locking ends the session, and the lockout ends in its time, with or without main power. -/
def Obligations.DebugPort : Prop :=
  ∀ s : State,
    (s.chip.power = true →
      Goes .idcode s (fun c => c = s.chip.emit (.capture (toLe idcodeWord 4))) ∧ Goes .bypass s (fun c => c = s.chip.emit (.capture [0])) ∧
      (∀ v, Goes (.samplePreload v) s fun c => c.dbg = { s.chip.dbg with preload := v } ∧ c.regs = s.chip.regs ∧
        ∃ b, b.length = v.length ∧ c.out = s.chip.out ++ [.capture b]) ∧
      Goes .extest s (fun c => c = s.chip.emit (.capture (if s.chip.flag F.HST_DEBUG_session then s.chip.dbg.preload else [0]))) ∧
      Goes .dbgStatus s (fun c => c = s.chip.emit (.capture (toLe (s.chip.word R.HST_DEBUG).toNat 4))) ∧
      (s.chip.ao.lockout = true → Goes .dbgChallenge s (fun c => c = s.chip.emit (.capture (fill 64 0))) ∧
        ∀ token, Goes (.dbgUnlock token) s fun c => c.rd F.HST_DEBUG_last_result = 3 ∧ c.dbg.challenge = none ∧ c.keys = s.chip.keys ∧
          c.data = s.chip.data ∧ c.ao.lockout = true ∧ c.ao.dbgFails = s.chip.ao.dbgFails ∧
          c.flag F.HST_DEBUG_session = s.chip.flag F.HST_DEBUG_session) ∧
      (s.chip.ao.lockout = false → Goes .dbgChallenge s fun c =>
        ∃ rnd, rnd.length = 32 ∧
          let ch := s.chip.peerId ++ rnd ++ toBe (s.chip.word R.KEY_ERASE_COUNT).toNat 4 ++ toLe s.chip.lifecycle 1 ++ fill 11 0
          c.dbg = { s.chip.dbg with challenge := some ch, issued := s.chip.ao.timer } ∧ c.out = s.chip.out ++ [.capture ch] ∧ c.regs = s.chip.regs) ∧
      (∀ token, s.chip.ao.lockout = false → s.chip.dbg.challenge = none → Goes (.dbgUnlock token) s fun c =>
        c.rd F.HST_DEBUG_last_result = 3 ∧ c.flag F.HST_DEBUG_session = s.chip.flag F.HST_DEBUG_session ∧ c.ao.dbgFails = s.chip.ao.dbgFails + 1 ∧
          c.ao.lockout = decide (2 ≤ s.chip.ao.dbgFails) ∧ c.keys = s.chip.keys ∧ c.data = s.chip.data) ∧
      (∀ token ch, s.chip.ao.lockout = false → s.chip.dbg.challenge = some ch → s.chip.debugEnable = true →
        s.chip.flag F.PKE_STATUS_fenced = false → s.chip.ao.timer ≤ s.chip.dbg.issued + 60 * 1000000000 * nsUnit →
          (s.chip.tokenOk ch token = true → Goes (.dbgUnlock token) s fun c =>
            c.rd F.HST_DEBUG_last_result = 1 ∧ c.flag F.HST_DEBUG_unlocked = true ∧ c.flag F.HST_DEBUG_session = true ∧ c.debugRoot = true ∧
              c.ao.dbgFails = 0 ∧ c.dbg.challenge = none ∧ c.keys.rings = [] ∧ (∀ i, (c.sa i).installed = false) ∧
              ∀ p, (c.port p).link.current = [] ∧ (c.port p).link.pending = []) ∧
          (s.chip.tokenOk ch token = false → Goes (.dbgUnlock token) s fun c =>
            c.rd F.HST_DEBUG_last_result = 2 ∧ c.ao.dbgFails = s.chip.ao.dbgFails + 1 ∧ c.dbg.challenge = none ∧ c.keys = s.chip.keys ∧
              c.flag F.HST_DEBUG_session = s.chip.flag F.HST_DEBUG_session)) ∧
      (∀ scan, let a := 4 * bits scan 32 18
        (s.chip.allowed 4 a (bit scan 50) = false → Goes (.dbgAccess scan) s fun c =>
          c.dbg.error = true ∧ c.word R.HST_DEBUG = s.chip.word R.HST_DEBUG ∧ c.data = s.chip.data ∧ c.keys = s.chip.keys) ∧
        (s.chip.allowed 4 a (bit scan 50) = true → Goes (.dbgAccess scan) s fun c =>
          c.dbg.error = false ∧ (bit scan 50 = true → c.dbg.data = (BitVec.ofNat 32 scan).toNat) ∧
            (bit scan 50 = false → c.dbg.data = (({ s.chip with free := s.chip.free + 1 }).readWord 4 a).1.toNat))) ∧
      Goes .dbgLock s (fun c => c.flag F.HST_DEBUG_session = false ∧ Chip.onlyRegs s.chip c [R.HST_DEBUG])) ∧
    (s.chip.ao.lockout = true → Goes .debugLockoutExpiry s fun c => c.ao = { s.chip.ao with lockout := false, dbgFails := 0 } ∧
      (s.chip.power = true → c.flag F.HST_DEBUG_lockout = false) ∧ Chip.onlyRegs { s.chip with ao := c.ao } c [R.HST_DEBUG]) ∧
    (s.chip.ao.lockout = false → Goes .debugLockoutExpiry s fun c => c = s.chip)

/-! ## Health and performance counters (R476 to R498) -/

/-- The processor counters: a write that the units allow runs or stops them all, clears all, or clears those of one engine. -/
def Sys2Proof.processorCountersRule : Prop :=
  ∀ (s : State) (init : Nat), s.chip.power = true →
    (s.chip.served init R.HLT_PC_GLOBAL = true → s.chip.allowed init R.HLT_PC_GLOBAL true = true →
      (∀ run, Goes (.pcRun init run) s fun c => c.flag F.HLT_PC_GLOBAL_run = run ∧ Chip.onlyRegs s.chip c [R.HLT_PC_GLOBAL]) ∧
      Goes (.pcClearAll init) s fun c =>
        (∀ e j, e < 208 → j < 6 → c.num (R.HLT_PC_CNT e j) 2 = 0) ∧ (∀ e, e < 208 → c.word (R.HLT_PC_FILT e) = s.chip.word (R.HLT_PC_FILT e)) ∧
          { c with regs := s.chip.regs } = s.chip) ∧
    (∀ e, e < 208 → s.chip.served init (R.HLT_PC_FILT e) = true → s.chip.allowed init (R.HLT_PC_FILT e) true = true →
      Goes (.pcClear init e) s fun c =>
        (∀ j, j < 6 → c.num (R.HLT_PC_CNT e j) 2 = 0) ∧ c.word (R.HLT_PC_FILT e) = s.chip.word (R.HLT_PC_FILT e) ∧
          (∀ f j, f < 208 → f ≠ e → j < 6 → c.num (R.HLT_PC_CNT f j) 2 = s.chip.num (R.HLT_PC_CNT f j) 2) ∧ { c with regs := s.chip.regs } = s.chip)

/-- Health. Measurements of ageing, replicas and lane eyes show what was measured; a replica short of slack raises the rail by one
code; a plan is shown between 680 and 800 mV, with the cap marked; an excursion orders a plan; a rail step moves one code towards the
plan; a lane with fewer than seven days is not valid; a write of the health table puts the next copy on both devices. -/
def Sys2Proof.healthMonitorsRule : Prop :=
  ∀ s : State, s.chip.power = true →
    (∀ d, s.chip.firmware = true → Goes (.ageingMeasure d) s fun c => ∀ i, i < 128 → c.rd (F.HLT_AGE_MON_degradation i) = min 65535 (d.getD i 0)) ∧
    (∀ d, Goes (.replicaMeasure d) s fun c =>
      (∀ r, r < 32 → c.rd (F.HLT_AGE_REPL_slack_ps r) = min 1023 (d.getD r 1023) ∧
        c.rd (F.HLT_AGE_REPL_min_ps r) = min (min 1023 (d.getD r 1023)) (s.chip.rd (F.HLT_AGE_REPL_min_ps r))) ∧
        c.flag F.HLT_AVS_STATUS_guard_active = (d.take 32).any (fun v => decide (v < 15)) ∧
        (35 ≤ s.chip.health.vid → c.health.vid =
          (if (d.take 32).any (fun v => decide (v < 15)) && decide (s.chip.health.vid < 60) then s.chip.health.vid + 1 else s.chip.health.vid))) ∧
    (∀ mv, s.chip.firmware = true → Goes (.voltagePlan mv) s fun c =>
      let p := max (max 680 (min 800 (5 * ceilDiv mv 5))) (if s.chip.health.raised then railMv s.chip.health.vid else 0)
      c.rd F.HLT_AVS_STATUS_plan_mv = p % 1024 ∧ c.flag F.HLT_AVS_STATUS_at_cap = decide (800 < 5 * ceilDiv mv 5) ∧
        c.health.plans = (s.chip.health.plans ++ [(s.chip.seconds, p)]).drop (s.chip.health.plans.length + 1 - 1024) ∧ c.health.ordered = false ∧
        c.num R.HLT_AVS_LAST 2 = s.chip.seconds % 2 ^ 64 ∧ c.data = s.chip.data) ∧
    (∀ high, (∀ t, s.chip.health.excursionAt = some t → t + 86400 ≤ s.chip.seconds) →
      Goes (.tempExcursion high) s fun c => c = { s.chip with health := { s.chip.health with ordered := true } }) ∧
    (∀ high t, s.chip.health.excursionAt = some t → s.chip.seconds < t + 86400 → Goes (.tempExcursion high) s fun c => c = s.chip) ∧
    (let plan := s.chip.rd F.HLT_AVS_STATUS_plan_mv
     let v := s.chip.health.vid
     plan ≠ 0 → s.chip.health.vidLe = false → s.chip.health.raised = false → 36 ≤ v → v ≤ 60 → Goes .railStep s fun c =>
      c.health.vid = (if plan < railMv v then max 36 (v - 1) else if railMv v < plan then min 60 (v + 1) else v) ∧
        (railMv v ≠ plan → c.rd F.HLT_AVS_STATUS_rail_mv = railMv c.health.vid) ∧
        Chip.onlyRegs { s.chip with health := c.health } c [R.HLT_AVS_STATUS]) ∧
    (∀ lane mv width, lane < 144 → s.chip.firmware = true → s.chip.portOn (s.chip.lanePort lane) = true → Goes (.laneEyeMeasure lane mv width) s fun c =>
      c.rd (F.HLT_LANE_eye_mv lane) = min 255 mv ∧ c.rd (F.HLT_LANE_eye_width lane) = min 63 width ∧
        c.flag (F.HLT_LANE_valid lane) = decide (7 ≤ (Sparse.get [] c.health.lanes lane).length) ∧
        (∀ l, l ≠ lane → Sparse.get [] c.health.lanes l = Sparse.get [] s.chip.health.lanes l)) ∧
    (s.chip.firmware = true → s.chip.flashGood 0 = true → s.chip.flashGood 1 = true → Goes .healthTableWrite s fun c =>
      let k := (s.chip.health.copy + 1) % 4
      c.health.copy = k ∧ c.health.seq = s.chip.health.seq + 1 ∧ c.health.plans = s.chip.health.plans ∧
        (∃ t, Sparse.get none c.flash0.health k = some t ∧ Sparse.get none c.flash1.health k = some t ∧ t.seq = s.chip.health.seq + 1 ∧
          t.plans = s.chip.health.plans ∧ t.counts = c.health.counts) ∧ c.flash0.slot0 = s.chip.flash0.slot0 ∧ c.flash0.half0 = s.chip.flash0.half0)

/-- Processor counters and health monitors. -/
def Obligations.HealthAndCounters : Prop := processorCountersRule ∧ healthMonitorsRule

end
end

