-- ==== Sys2Proof/Laws/Exec.lean ====
section
/-! SUPPORT. What running any command can be, said once: a step under main power, guarded by the units the command names; or one of the
seven commands of the board and the always-on domain. -/

namespace Sys2Proof.Machine

/-- A command that is not of the always-on domain runs a step under main power when the part has the units that it names. -/
theorem exec_shape (i : Instr) (h : i.ofAlwaysOn = false) (s : State) :
    ∃ ok f, (i.wf = true → ok = true) ∧ exec i s = s.actOn ok f := by
  cases i <;> first
    | (cases h; done)
    | exact ⟨_, _, fun w => w, rfl⟩
    | exact ⟨true, _, fun _ => rfl, rfl⟩
    | (refine ⟨_, _, fun w => ?_, rfl⟩
       revert w
       simp only [Instr.wf, Bool.and_eq_true, decide_eq_true_eq, beq_iff_eq]
       first
       | tauto
       | (rintro ⟨a, b⟩
          refine ⟨a, ?_⟩
          revert b
          unfold SaScrub.wf
          split <;> simp_all))

theorem act_next {s t : State} {f : Chip → Chip} (h : s.act f = .next t) :
    t = { s with chip := if s.chip.power then { f s.chip with power := true } else s.chip } := by
  simpa [State.act] using h.symm

theorem actOn_next {s t : State} {ok : Bool} {f : Chip → Chip} (h : s.actOn ok f = .next t) :
    t = { s with chip := if s.chip.power then { f s.chip with power := true } else s.chip } := by
  unfold State.actOn at h
  split at h
  · exact act_next h
  · cases h

/-- What a command that is not of the always-on domain leaves: without main power the state as it was; else a part under main power. -/
theorem exec_next {i : Instr} {s t : State} (h : i.ofAlwaysOn = false) (hx : exec i s = .next t) :
    ∃ f : Chip → Chip, t = { s with chip := if s.chip.power then { f s.chip with power := true } else s.chip } := by
  obtain ⟨ok, f, _, he⟩ := exec_shape i h s
  exact ⟨f, actOn_next (he ▸ hx)⟩

/-- Under main power a step that leaves power alone goes on to what it makes of the part. -/
theorem goes_act {i : Instr} {s : State} {f : Chip → Chip} {P : Chip → Prop} (hx : exec i s = s.act f) (hp : s.chip.power = true)
    (hf : (f s.chip).power = true) (h : P (f s.chip)) : Goes i s P := by
  refine ⟨{ s with chip := f s.chip }, ?_, rfl, h⟩
  rw [hx, State.act, if_pos hp]
  congr 2
  generalize f s.chip = c at hf
  cases c
  simp_all

/-- The same of a command whose units the part has. -/
theorem goes_actOn {i : Instr} {s : State} {ok : Bool} {f : Chip → Chip} {P : Chip → Prop} (hx : exec i s = s.actOn ok f) (ho : ok = true)
    (hp : s.chip.power = true) (hf : (f s.chip).power = true) (h : P (f s.chip)) : Goes i s P :=
  goes_act (by rw [hx, State.actOn, if_pos ho]) hp hf h

end Sys2Proof.Machine
end

