-- ==== Sys2Proof/Laws/Sparse.lean ====
section
/-! SUPPORT. Laws of the sparse tables: a read after a write, and the canonical form, which every write keeps. -/

namespace Sys2Proof.Sparse

variable {α : Type}

theorem get_insert_same (d v : α) (m : Sparse α) (k : Nat) : get d (insert m k v) k = v := by
  induction m with
  | nil => simp [insert, get]
  | cons e m ih =>
    obtain ⟨k', v'⟩ := e
    simp only [insert]
    split
    · simp [get]
    · split
      · simp [get]
      · simp only [get]
        rw [if_neg (by omega)]
        exact ih

theorem get_insert_other (d v : α) (m : Sparse α) (k j : Nat) (h : j ≠ k) : get d (insert m k v) j = get d m j := by
  induction m with
  | nil => simp [insert, get, h.symm]
  | cons e m ih =>
    obtain ⟨k', v'⟩ := e
    simp only [insert]
    split
    · simp [get, h.symm]
    · split
      · next h1 h2 => subst h2; simp [get, h.symm]
      · simp only [get, ih]

theorem get_erase_same (d : α) (m : Sparse α) (k : Nat) : get d (erase m k) k = d := by
  induction m with
  | nil => simp [erase, get]
  | cons e m ih =>
    obtain ⟨k', v'⟩ := e
    by_cases h : k' = k
    · simpa [erase, h] using ih
    · simpa [erase, get, h] using ih

theorem get_erase_other (d : α) (m : Sparse α) (k j : Nat) (h : j ≠ k) : get d (erase m k) j = get d m j := by
  induction m with
  | nil => simp [erase, get]
  | cons e m ih =>
    obtain ⟨k', v'⟩ := e
    by_cases h' : k' = k
    · subst h'
      simp only [erase, List.filter_cons, bne_self_eq_false, Bool.false_eq_true, if_false]
      rw [get, if_neg (Ne.symm h)]
      exact ih
    · have : (k' != k) = true := by simpa using h'
      simp only [erase, List.filter_cons, this, if_true, get]
      split
      · rfl
      · exact ih

variable [DecidableEq α]

/-- A read of the place just written. -/
@[simp] theorem get_set_same (d v : α) (m : Sparse α) (k : Nat) : get d (set d m k v) k = v := by
  unfold set
  split
  · next h => rw [h, get_erase_same]
  · exact get_insert_same d v m k

/-- A read of any other place. -/
@[simp] theorem get_set_other (d v : α) (m : Sparse α) (k j : Nat) (h : j ≠ k) : get d (set d m k v) j = get d m j := by
  unfold set
  split
  · exact get_erase_other d m k j h
  · exact get_insert_other d v m k j h

/-- The same when the read takes another default for its own key. -/
theorem get_set_other' (d d' v : α) (m : Sparse α) (k j : Nat) (h : j ≠ k) : get d' (set d m k v) j = get d' m j := by
  unfold set
  split
  · exact get_erase_other d' m k j h
  · exact get_insert_other d' v m k j h

theorem get_set (d v : α) (m : Sparse α) (k j : Nat) : get d (set d m k v) j = if j = k then v else get d m j := by
  by_cases h : j = k
  · subst h; simp
  · simp [h]

/-- The canonical form as a property of the list: keys strictly rising, no entry equal to the default. -/
theorem wf_iff (d : α) (m : Sparse α) : wf d m = true ↔ m.Pairwise (fun a b => a.1 < b.1) ∧ ∀ e ∈ m, e.2 ≠ d := by
  induction m with
  | nil => simp [wf]
  | cons e m ih =>
    obtain ⟨k, v⟩ := e
    cases m with
    | nil => simp [wf]
    | cons e' m =>
      obtain ⟨k', v'⟩ := e'
      simp only [wf, Bool.and_eq_true, decide_eq_true_eq, ih, List.pairwise_cons, List.mem_cons, forall_eq_or_imp]
      constructor
      · rintro ⟨⟨h1, h2⟩, ⟨h3, h4⟩, h5, h6⟩
        exact ⟨⟨⟨h1, fun a ha => Nat.lt_trans h1 (h3 a ha)⟩, h3, h4⟩, h2, h5, h6⟩
      · rintro ⟨⟨⟨h1, _⟩, h3, h4⟩, h2, h5, h6⟩
        exact ⟨⟨h1, h2⟩, ⟨h3, h4⟩, h5, h6⟩

theorem mem_insert (m : Sparse α) (k : Nat) (v : α) (e : Nat × α) (h : e ∈ insert m k v) : e = (k, v) ∨ e ∈ m := by
  induction m with
  | nil => simpa [insert] using h
  | cons x m ih =>
    obtain ⟨k', v'⟩ := x
    simp only [insert] at h
    split at h
    · simpa using h
    · split at h
      · simp only [List.mem_cons] at h ⊢
        tauto
      · simp only [List.mem_cons] at h ⊢
        rcases h with h | h
        · exact .inr (.inl h)
        · rcases ih h with h | h <;> tauto

theorem sorted_insert (m : Sparse α) (k : Nat) (v : α) (h : m.Pairwise (fun a b => a.1 < b.1)) :
    (insert m k v).Pairwise (fun a b => a.1 < b.1) := by
  induction m with
  | nil => simp [insert]
  | cons x m ih =>
    obtain ⟨k', v'⟩ := x
    obtain ⟨h1, h2⟩ := List.pairwise_cons.mp h
    simp only [insert]
    split
    · next hk =>
      refine List.pairwise_cons.mpr ⟨?_, h⟩
      intro a ha
      rcases List.mem_cons.mp ha with rfl | ha
      · exact hk
      · exact Nat.lt_trans hk (h1 a ha)
    · split
      · next hk hk' => subst hk'; exact List.pairwise_cons.mpr ⟨h1, h2⟩
      · refine List.pairwise_cons.mpr ⟨?_, ih h2⟩
        intro a ha
        rcases mem_insert m k v a ha with rfl | ha
        · show k' < k; omega
        · exact h1 a ha

/-- Every write keeps the canonical form. -/
theorem wf_set (d v : α) (m : Sparse α) (k : Nat) (h : wf d m = true) : wf d (set d m k v) = true := by
  rw [wf_iff] at h ⊢
  unfold set
  split
  · exact ⟨h.1.filter _, fun e he => h.2 e (List.mem_of_mem_filter he)⟩
  · next hv =>
    refine ⟨sorted_insert m k v h.1, fun e he => ?_⟩
    rcases mem_insert m k v e he with rfl | he
    · exact hv
    · exact h.2 e he

/-- So does leaving entries out. -/
theorem wf_filter (d : α) (m : Sparse α) (p : Nat × α → Bool) (h : wf d m = true) : wf d (m.filter p) = true := by
  rw [wf_iff] at h ⊢
  exact ⟨h.1.filter _, fun e he => h.2 e (List.mem_of_mem_filter he)⟩

end Sys2Proof.Sparse
end

