-- ==== Sys2Proof/Laws/State.lean ====
section
/-! SUPPORT. What each update of the part leaves alone, one lemma for each field and update; and what an attention leaves alone. -/

namespace Sys2Proof.Machine

/-! ## setWord -/

@[simp] theorem Chip.setWord_power (c : Chip) (a : Nat) (w : W32) : (c.setWord a w).power = c.power := rfl
@[simp] theorem Chip.setWord_shadows (c : Chip) (a : Nat) (w : W32) : (c.setWord a w).shadows = c.shadows := rfl
@[simp] theorem Chip.setWord_free (c : Chip) (a : Nat) (w : W32) : (c.setWord a w).free = c.free := rfl
@[simp] theorem Chip.setWord_out (c : Chip) (a : Nat) (w : W32) : (c.setWord a w).out = c.out := rfl
@[simp] theorem Chip.setWord_ao (c : Chip) (a : Nat) (w : W32) : (c.setWord a w).ao = c.ao := rfl
@[simp] theorem Chip.setWord_flash0 (c : Chip) (a : Nat) (w : W32) : (c.setWord a w).flash0 = c.flash0 := rfl
@[simp] theorem Chip.setWord_flash1 (c : Chip) (a : Nat) (w : W32) : (c.setWord a w).flash1 = c.flash1 := rfl
@[simp] theorem Chip.setWord_jpend (c : Chip) (a : Nat) (w : W32) : (c.setWord a w).jpend = c.jpend := rfl
@[simp] theorem Chip.setWord_jseq (c : Chip) (a : Nat) (w : W32) : (c.setWord a w).jseq = c.jseq := rfl
@[simp] theorem Chip.setWord_jhalf (c : Chip) (a : Nat) (w : W32) : (c.setWord a w).jhalf = c.jhalf := rfl
@[simp] theorem Chip.setWord_img (c : Chip) (a : Nat) (w : W32) : (c.setWord a w).img = c.img := rfl
@[simp] theorem Chip.setWord_start (c : Chip) (a : Nat) (w : W32) : (c.setWord a w).start = c.start := rfl
@[simp] theorem Chip.setWord_time (c : Chip) (a : Nat) (w : W32) : (c.setWord a w).time = c.time := rfl
@[simp] theorem Chip.setWord_mb0 (c : Chip) (a : Nat) (w : W32) : (c.setWord a w).mb0 = c.mb0 := rfl
@[simp] theorem Chip.setWord_mb1 (c : Chip) (a : Nat) (w : W32) : (c.setWord a w).mb1 = c.mb1 := rfl
@[simp] theorem Chip.setWord_denTime (c : Chip) (a : Nat) (w : W32) : (c.setWord a w).denTime = c.denTime := rfl
@[simp] theorem Chip.setWord_dbg (c : Chip) (a : Nat) (w : W32) : (c.setWord a w).dbg = c.dbg := rfl
@[simp] theorem Chip.setWord_tele (c : Chip) (a : Nat) (w : W32) : (c.setWord a w).tele = c.tele := rfl
@[simp] theorem Chip.setWord_cow (c : Chip) (a : Nat) (w : W32) : (c.setWord a w).cow = c.cow := rfl
@[simp] theorem Chip.setWord_keys (c : Chip) (a : Nat) (w : W32) : (c.setWord a w).keys = c.keys := rfl
@[simp] theorem Chip.setWord_pke (c : Chip) (a : Nat) (w : W32) : (c.setWord a w).pke = c.pke := rfl
@[simp] theorem Chip.setWord_vault (c : Chip) (a : Nat) (w : W32) : (c.setWord a w).vault = c.vault := rfl
@[simp] theorem Chip.setWord_cycle (c : Chip) (a : Nat) (w : W32) : (c.setWord a w).cycle = c.cycle := rfl
@[simp] theorem Chip.setWord_data (c : Chip) (a : Nat) (w : W32) : (c.setWord a w).data = c.data := rfl
@[simp] theorem Chip.setWord_pm (c : Chip) (a : Nat) (w : W32) : (c.setWord a w).pm = c.pm := rfl
@[simp] theorem Chip.setWord_health (c : Chip) (a : Nat) (w : W32) : (c.setWord a w).health = c.health := rfl
@[simp] theorem Chip.setWord_reached (c : Chip) (a : Nat) (w : W32) : (c.setWord a w).reached = c.reached := rfl

/-! ## wr -/

@[simp] theorem Chip.wr_power (c : Chip) (f : Fld) (v : Nat) : (c.wr f v).power = c.power := rfl
@[simp] theorem Chip.wr_shadows (c : Chip) (f : Fld) (v : Nat) : (c.wr f v).shadows = c.shadows := rfl
@[simp] theorem Chip.wr_free (c : Chip) (f : Fld) (v : Nat) : (c.wr f v).free = c.free := rfl
@[simp] theorem Chip.wr_out (c : Chip) (f : Fld) (v : Nat) : (c.wr f v).out = c.out := rfl
@[simp] theorem Chip.wr_ao (c : Chip) (f : Fld) (v : Nat) : (c.wr f v).ao = c.ao := rfl
@[simp] theorem Chip.wr_flash0 (c : Chip) (f : Fld) (v : Nat) : (c.wr f v).flash0 = c.flash0 := rfl
@[simp] theorem Chip.wr_flash1 (c : Chip) (f : Fld) (v : Nat) : (c.wr f v).flash1 = c.flash1 := rfl
@[simp] theorem Chip.wr_jpend (c : Chip) (f : Fld) (v : Nat) : (c.wr f v).jpend = c.jpend := rfl
@[simp] theorem Chip.wr_jseq (c : Chip) (f : Fld) (v : Nat) : (c.wr f v).jseq = c.jseq := rfl
@[simp] theorem Chip.wr_jhalf (c : Chip) (f : Fld) (v : Nat) : (c.wr f v).jhalf = c.jhalf := rfl
@[simp] theorem Chip.wr_img (c : Chip) (f : Fld) (v : Nat) : (c.wr f v).img = c.img := rfl
@[simp] theorem Chip.wr_start (c : Chip) (f : Fld) (v : Nat) : (c.wr f v).start = c.start := rfl
@[simp] theorem Chip.wr_time (c : Chip) (f : Fld) (v : Nat) : (c.wr f v).time = c.time := rfl
@[simp] theorem Chip.wr_mb0 (c : Chip) (f : Fld) (v : Nat) : (c.wr f v).mb0 = c.mb0 := rfl
@[simp] theorem Chip.wr_mb1 (c : Chip) (f : Fld) (v : Nat) : (c.wr f v).mb1 = c.mb1 := rfl
@[simp] theorem Chip.wr_denTime (c : Chip) (f : Fld) (v : Nat) : (c.wr f v).denTime = c.denTime := rfl
@[simp] theorem Chip.wr_dbg (c : Chip) (f : Fld) (v : Nat) : (c.wr f v).dbg = c.dbg := rfl
@[simp] theorem Chip.wr_tele (c : Chip) (f : Fld) (v : Nat) : (c.wr f v).tele = c.tele := rfl
@[simp] theorem Chip.wr_cow (c : Chip) (f : Fld) (v : Nat) : (c.wr f v).cow = c.cow := rfl
@[simp] theorem Chip.wr_keys (c : Chip) (f : Fld) (v : Nat) : (c.wr f v).keys = c.keys := rfl
@[simp] theorem Chip.wr_pke (c : Chip) (f : Fld) (v : Nat) : (c.wr f v).pke = c.pke := rfl
@[simp] theorem Chip.wr_vault (c : Chip) (f : Fld) (v : Nat) : (c.wr f v).vault = c.vault := rfl
@[simp] theorem Chip.wr_cycle (c : Chip) (f : Fld) (v : Nat) : (c.wr f v).cycle = c.cycle := rfl
@[simp] theorem Chip.wr_data (c : Chip) (f : Fld) (v : Nat) : (c.wr f v).data = c.data := rfl
@[simp] theorem Chip.wr_pm (c : Chip) (f : Fld) (v : Nat) : (c.wr f v).pm = c.pm := rfl
@[simp] theorem Chip.wr_health (c : Chip) (f : Fld) (v : Nat) : (c.wr f v).health = c.health := rfl
@[simp] theorem Chip.wr_reached (c : Chip) (f : Fld) (v : Nat) : (c.wr f v).reached = c.reached := rfl

/-! ## wrb -/

@[simp] theorem Chip.wrb_power (c : Chip) (f : Fld) (b : Bool) : (c.wrb f b).power = c.power := rfl
@[simp] theorem Chip.wrb_shadows (c : Chip) (f : Fld) (b : Bool) : (c.wrb f b).shadows = c.shadows := rfl
@[simp] theorem Chip.wrb_free (c : Chip) (f : Fld) (b : Bool) : (c.wrb f b).free = c.free := rfl
@[simp] theorem Chip.wrb_out (c : Chip) (f : Fld) (b : Bool) : (c.wrb f b).out = c.out := rfl
@[simp] theorem Chip.wrb_ao (c : Chip) (f : Fld) (b : Bool) : (c.wrb f b).ao = c.ao := rfl
@[simp] theorem Chip.wrb_flash0 (c : Chip) (f : Fld) (b : Bool) : (c.wrb f b).flash0 = c.flash0 := rfl
@[simp] theorem Chip.wrb_flash1 (c : Chip) (f : Fld) (b : Bool) : (c.wrb f b).flash1 = c.flash1 := rfl
@[simp] theorem Chip.wrb_jpend (c : Chip) (f : Fld) (b : Bool) : (c.wrb f b).jpend = c.jpend := rfl
@[simp] theorem Chip.wrb_jseq (c : Chip) (f : Fld) (b : Bool) : (c.wrb f b).jseq = c.jseq := rfl
@[simp] theorem Chip.wrb_jhalf (c : Chip) (f : Fld) (b : Bool) : (c.wrb f b).jhalf = c.jhalf := rfl
@[simp] theorem Chip.wrb_img (c : Chip) (f : Fld) (b : Bool) : (c.wrb f b).img = c.img := rfl
@[simp] theorem Chip.wrb_start (c : Chip) (f : Fld) (b : Bool) : (c.wrb f b).start = c.start := rfl
@[simp] theorem Chip.wrb_time (c : Chip) (f : Fld) (b : Bool) : (c.wrb f b).time = c.time := rfl
@[simp] theorem Chip.wrb_mb0 (c : Chip) (f : Fld) (b : Bool) : (c.wrb f b).mb0 = c.mb0 := rfl
@[simp] theorem Chip.wrb_mb1 (c : Chip) (f : Fld) (b : Bool) : (c.wrb f b).mb1 = c.mb1 := rfl
@[simp] theorem Chip.wrb_denTime (c : Chip) (f : Fld) (b : Bool) : (c.wrb f b).denTime = c.denTime := rfl
@[simp] theorem Chip.wrb_dbg (c : Chip) (f : Fld) (b : Bool) : (c.wrb f b).dbg = c.dbg := rfl
@[simp] theorem Chip.wrb_tele (c : Chip) (f : Fld) (b : Bool) : (c.wrb f b).tele = c.tele := rfl
@[simp] theorem Chip.wrb_cow (c : Chip) (f : Fld) (b : Bool) : (c.wrb f b).cow = c.cow := rfl
@[simp] theorem Chip.wrb_keys (c : Chip) (f : Fld) (b : Bool) : (c.wrb f b).keys = c.keys := rfl
@[simp] theorem Chip.wrb_pke (c : Chip) (f : Fld) (b : Bool) : (c.wrb f b).pke = c.pke := rfl
@[simp] theorem Chip.wrb_vault (c : Chip) (f : Fld) (b : Bool) : (c.wrb f b).vault = c.vault := rfl
@[simp] theorem Chip.wrb_cycle (c : Chip) (f : Fld) (b : Bool) : (c.wrb f b).cycle = c.cycle := rfl
@[simp] theorem Chip.wrb_data (c : Chip) (f : Fld) (b : Bool) : (c.wrb f b).data = c.data := rfl
@[simp] theorem Chip.wrb_pm (c : Chip) (f : Fld) (b : Bool) : (c.wrb f b).pm = c.pm := rfl
@[simp] theorem Chip.wrb_health (c : Chip) (f : Fld) (b : Bool) : (c.wrb f b).health = c.health := rfl
@[simp] theorem Chip.wrb_reached (c : Chip) (f : Fld) (b : Bool) : (c.wrb f b).reached = c.reached := rfl

/-! ## add -/

@[simp] theorem Chip.add_power (c : Chip) (a n : Nat) : (c.add a n).power = c.power := rfl
@[simp] theorem Chip.add_shadows (c : Chip) (a n : Nat) : (c.add a n).shadows = c.shadows := rfl
@[simp] theorem Chip.add_free (c : Chip) (a n : Nat) : (c.add a n).free = c.free := rfl
@[simp] theorem Chip.add_out (c : Chip) (a n : Nat) : (c.add a n).out = c.out := rfl
@[simp] theorem Chip.add_ao (c : Chip) (a n : Nat) : (c.add a n).ao = c.ao := rfl
@[simp] theorem Chip.add_flash0 (c : Chip) (a n : Nat) : (c.add a n).flash0 = c.flash0 := rfl
@[simp] theorem Chip.add_flash1 (c : Chip) (a n : Nat) : (c.add a n).flash1 = c.flash1 := rfl
@[simp] theorem Chip.add_jpend (c : Chip) (a n : Nat) : (c.add a n).jpend = c.jpend := rfl
@[simp] theorem Chip.add_jseq (c : Chip) (a n : Nat) : (c.add a n).jseq = c.jseq := rfl
@[simp] theorem Chip.add_jhalf (c : Chip) (a n : Nat) : (c.add a n).jhalf = c.jhalf := rfl
@[simp] theorem Chip.add_img (c : Chip) (a n : Nat) : (c.add a n).img = c.img := rfl
@[simp] theorem Chip.add_start (c : Chip) (a n : Nat) : (c.add a n).start = c.start := rfl
@[simp] theorem Chip.add_time (c : Chip) (a n : Nat) : (c.add a n).time = c.time := rfl
@[simp] theorem Chip.add_mb0 (c : Chip) (a n : Nat) : (c.add a n).mb0 = c.mb0 := rfl
@[simp] theorem Chip.add_mb1 (c : Chip) (a n : Nat) : (c.add a n).mb1 = c.mb1 := rfl
@[simp] theorem Chip.add_denTime (c : Chip) (a n : Nat) : (c.add a n).denTime = c.denTime := rfl
@[simp] theorem Chip.add_dbg (c : Chip) (a n : Nat) : (c.add a n).dbg = c.dbg := rfl
@[simp] theorem Chip.add_tele (c : Chip) (a n : Nat) : (c.add a n).tele = c.tele := rfl
@[simp] theorem Chip.add_cow (c : Chip) (a n : Nat) : (c.add a n).cow = c.cow := rfl
@[simp] theorem Chip.add_keys (c : Chip) (a n : Nat) : (c.add a n).keys = c.keys := rfl
@[simp] theorem Chip.add_pke (c : Chip) (a n : Nat) : (c.add a n).pke = c.pke := rfl
@[simp] theorem Chip.add_vault (c : Chip) (a n : Nat) : (c.add a n).vault = c.vault := rfl
@[simp] theorem Chip.add_cycle (c : Chip) (a n : Nat) : (c.add a n).cycle = c.cycle := rfl
@[simp] theorem Chip.add_data (c : Chip) (a n : Nat) : (c.add a n).data = c.data := rfl
@[simp] theorem Chip.add_pm (c : Chip) (a n : Nat) : (c.add a n).pm = c.pm := rfl
@[simp] theorem Chip.add_health (c : Chip) (a n : Nat) : (c.add a n).health = c.health := rfl
@[simp] theorem Chip.add_reached (c : Chip) (a n : Nat) : (c.add a n).reached = c.reached := rfl

/-! ## bump -/

@[simp] theorem Chip.bump_power (c : Chip) (a : Nat) : (c.bump a).power = c.power := rfl
@[simp] theorem Chip.bump_shadows (c : Chip) (a : Nat) : (c.bump a).shadows = c.shadows := rfl
@[simp] theorem Chip.bump_free (c : Chip) (a : Nat) : (c.bump a).free = c.free := rfl
@[simp] theorem Chip.bump_out (c : Chip) (a : Nat) : (c.bump a).out = c.out := rfl
@[simp] theorem Chip.bump_ao (c : Chip) (a : Nat) : (c.bump a).ao = c.ao := rfl
@[simp] theorem Chip.bump_flash0 (c : Chip) (a : Nat) : (c.bump a).flash0 = c.flash0 := rfl
@[simp] theorem Chip.bump_flash1 (c : Chip) (a : Nat) : (c.bump a).flash1 = c.flash1 := rfl
@[simp] theorem Chip.bump_jpend (c : Chip) (a : Nat) : (c.bump a).jpend = c.jpend := rfl
@[simp] theorem Chip.bump_jseq (c : Chip) (a : Nat) : (c.bump a).jseq = c.jseq := rfl
@[simp] theorem Chip.bump_jhalf (c : Chip) (a : Nat) : (c.bump a).jhalf = c.jhalf := rfl
@[simp] theorem Chip.bump_img (c : Chip) (a : Nat) : (c.bump a).img = c.img := rfl
@[simp] theorem Chip.bump_start (c : Chip) (a : Nat) : (c.bump a).start = c.start := rfl
@[simp] theorem Chip.bump_time (c : Chip) (a : Nat) : (c.bump a).time = c.time := rfl
@[simp] theorem Chip.bump_mb0 (c : Chip) (a : Nat) : (c.bump a).mb0 = c.mb0 := rfl
@[simp] theorem Chip.bump_mb1 (c : Chip) (a : Nat) : (c.bump a).mb1 = c.mb1 := rfl
@[simp] theorem Chip.bump_denTime (c : Chip) (a : Nat) : (c.bump a).denTime = c.denTime := rfl
@[simp] theorem Chip.bump_dbg (c : Chip) (a : Nat) : (c.bump a).dbg = c.dbg := rfl
@[simp] theorem Chip.bump_tele (c : Chip) (a : Nat) : (c.bump a).tele = c.tele := rfl
@[simp] theorem Chip.bump_cow (c : Chip) (a : Nat) : (c.bump a).cow = c.cow := rfl
@[simp] theorem Chip.bump_keys (c : Chip) (a : Nat) : (c.bump a).keys = c.keys := rfl
@[simp] theorem Chip.bump_pke (c : Chip) (a : Nat) : (c.bump a).pke = c.pke := rfl
@[simp] theorem Chip.bump_vault (c : Chip) (a : Nat) : (c.bump a).vault = c.vault := rfl
@[simp] theorem Chip.bump_cycle (c : Chip) (a : Nat) : (c.bump a).cycle = c.cycle := rfl
@[simp] theorem Chip.bump_data (c : Chip) (a : Nat) : (c.bump a).data = c.data := rfl
@[simp] theorem Chip.bump_pm (c : Chip) (a : Nat) : (c.bump a).pm = c.pm := rfl
@[simp] theorem Chip.bump_health (c : Chip) (a : Nat) : (c.bump a).health = c.health := rfl
@[simp] theorem Chip.bump_reached (c : Chip) (a : Nat) : (c.bump a).reached = c.reached := rfl

/-! ## sat -/

@[simp] theorem Chip.sat_power (c : Chip) (f : Fld) (n : Nat) : (c.sat f n).power = c.power := rfl
@[simp] theorem Chip.sat_shadows (c : Chip) (f : Fld) (n : Nat) : (c.sat f n).shadows = c.shadows := rfl
@[simp] theorem Chip.sat_free (c : Chip) (f : Fld) (n : Nat) : (c.sat f n).free = c.free := rfl
@[simp] theorem Chip.sat_out (c : Chip) (f : Fld) (n : Nat) : (c.sat f n).out = c.out := rfl
@[simp] theorem Chip.sat_ao (c : Chip) (f : Fld) (n : Nat) : (c.sat f n).ao = c.ao := rfl
@[simp] theorem Chip.sat_flash0 (c : Chip) (f : Fld) (n : Nat) : (c.sat f n).flash0 = c.flash0 := rfl
@[simp] theorem Chip.sat_flash1 (c : Chip) (f : Fld) (n : Nat) : (c.sat f n).flash1 = c.flash1 := rfl
@[simp] theorem Chip.sat_jpend (c : Chip) (f : Fld) (n : Nat) : (c.sat f n).jpend = c.jpend := rfl
@[simp] theorem Chip.sat_jseq (c : Chip) (f : Fld) (n : Nat) : (c.sat f n).jseq = c.jseq := rfl
@[simp] theorem Chip.sat_jhalf (c : Chip) (f : Fld) (n : Nat) : (c.sat f n).jhalf = c.jhalf := rfl
@[simp] theorem Chip.sat_img (c : Chip) (f : Fld) (n : Nat) : (c.sat f n).img = c.img := rfl
@[simp] theorem Chip.sat_start (c : Chip) (f : Fld) (n : Nat) : (c.sat f n).start = c.start := rfl
@[simp] theorem Chip.sat_time (c : Chip) (f : Fld) (n : Nat) : (c.sat f n).time = c.time := rfl
@[simp] theorem Chip.sat_mb0 (c : Chip) (f : Fld) (n : Nat) : (c.sat f n).mb0 = c.mb0 := rfl
@[simp] theorem Chip.sat_mb1 (c : Chip) (f : Fld) (n : Nat) : (c.sat f n).mb1 = c.mb1 := rfl
@[simp] theorem Chip.sat_denTime (c : Chip) (f : Fld) (n : Nat) : (c.sat f n).denTime = c.denTime := rfl
@[simp] theorem Chip.sat_dbg (c : Chip) (f : Fld) (n : Nat) : (c.sat f n).dbg = c.dbg := rfl
@[simp] theorem Chip.sat_tele (c : Chip) (f : Fld) (n : Nat) : (c.sat f n).tele = c.tele := rfl
@[simp] theorem Chip.sat_cow (c : Chip) (f : Fld) (n : Nat) : (c.sat f n).cow = c.cow := rfl
@[simp] theorem Chip.sat_keys (c : Chip) (f : Fld) (n : Nat) : (c.sat f n).keys = c.keys := rfl
@[simp] theorem Chip.sat_pke (c : Chip) (f : Fld) (n : Nat) : (c.sat f n).pke = c.pke := rfl
@[simp] theorem Chip.sat_vault (c : Chip) (f : Fld) (n : Nat) : (c.sat f n).vault = c.vault := rfl
@[simp] theorem Chip.sat_cycle (c : Chip) (f : Fld) (n : Nat) : (c.sat f n).cycle = c.cycle := rfl
@[simp] theorem Chip.sat_data (c : Chip) (f : Fld) (n : Nat) : (c.sat f n).data = c.data := rfl
@[simp] theorem Chip.sat_pm (c : Chip) (f : Fld) (n : Nat) : (c.sat f n).pm = c.pm := rfl
@[simp] theorem Chip.sat_health (c : Chip) (f : Fld) (n : Nat) : (c.sat f n).health = c.health := rfl
@[simp] theorem Chip.sat_reached (c : Chip) (f : Fld) (n : Nat) : (c.sat f n).reached = c.reached := rfl

/-! ## mark -/

@[simp] theorem Chip.mark_power (c : Chip) (f : Fld) (v : Nat) : (c.mark f v).power = c.power := rfl
@[simp] theorem Chip.mark_shadows (c : Chip) (f : Fld) (v : Nat) : (c.mark f v).shadows = c.shadows := rfl
@[simp] theorem Chip.mark_free (c : Chip) (f : Fld) (v : Nat) : (c.mark f v).free = c.free := rfl
@[simp] theorem Chip.mark_out (c : Chip) (f : Fld) (v : Nat) : (c.mark f v).out = c.out := rfl
@[simp] theorem Chip.mark_ao (c : Chip) (f : Fld) (v : Nat) : (c.mark f v).ao = c.ao := rfl
@[simp] theorem Chip.mark_flash0 (c : Chip) (f : Fld) (v : Nat) : (c.mark f v).flash0 = c.flash0 := rfl
@[simp] theorem Chip.mark_flash1 (c : Chip) (f : Fld) (v : Nat) : (c.mark f v).flash1 = c.flash1 := rfl
@[simp] theorem Chip.mark_jpend (c : Chip) (f : Fld) (v : Nat) : (c.mark f v).jpend = c.jpend := rfl
@[simp] theorem Chip.mark_jseq (c : Chip) (f : Fld) (v : Nat) : (c.mark f v).jseq = c.jseq := rfl
@[simp] theorem Chip.mark_jhalf (c : Chip) (f : Fld) (v : Nat) : (c.mark f v).jhalf = c.jhalf := rfl
@[simp] theorem Chip.mark_img (c : Chip) (f : Fld) (v : Nat) : (c.mark f v).img = c.img := rfl
@[simp] theorem Chip.mark_start (c : Chip) (f : Fld) (v : Nat) : (c.mark f v).start = c.start := rfl
@[simp] theorem Chip.mark_time (c : Chip) (f : Fld) (v : Nat) : (c.mark f v).time = c.time := rfl
@[simp] theorem Chip.mark_mb0 (c : Chip) (f : Fld) (v : Nat) : (c.mark f v).mb0 = c.mb0 := rfl
@[simp] theorem Chip.mark_mb1 (c : Chip) (f : Fld) (v : Nat) : (c.mark f v).mb1 = c.mb1 := rfl
@[simp] theorem Chip.mark_denTime (c : Chip) (f : Fld) (v : Nat) : (c.mark f v).denTime = c.denTime := rfl
@[simp] theorem Chip.mark_dbg (c : Chip) (f : Fld) (v : Nat) : (c.mark f v).dbg = c.dbg := rfl
@[simp] theorem Chip.mark_tele (c : Chip) (f : Fld) (v : Nat) : (c.mark f v).tele = c.tele := rfl
@[simp] theorem Chip.mark_cow (c : Chip) (f : Fld) (v : Nat) : (c.mark f v).cow = c.cow := rfl
@[simp] theorem Chip.mark_keys (c : Chip) (f : Fld) (v : Nat) : (c.mark f v).keys = c.keys := rfl
@[simp] theorem Chip.mark_pke (c : Chip) (f : Fld) (v : Nat) : (c.mark f v).pke = c.pke := rfl
@[simp] theorem Chip.mark_vault (c : Chip) (f : Fld) (v : Nat) : (c.mark f v).vault = c.vault := rfl
@[simp] theorem Chip.mark_cycle (c : Chip) (f : Fld) (v : Nat) : (c.mark f v).cycle = c.cycle := rfl
@[simp] theorem Chip.mark_data (c : Chip) (f : Fld) (v : Nat) : (c.mark f v).data = c.data := rfl
@[simp] theorem Chip.mark_pm (c : Chip) (f : Fld) (v : Nat) : (c.mark f v).pm = c.pm := rfl
@[simp] theorem Chip.mark_health (c : Chip) (f : Fld) (v : Nat) : (c.mark f v).health = c.health := rfl
@[simp] theorem Chip.mark_reached (c : Chip) (f : Fld) (v : Nat) : (c.mark f v).reached = c.reached := rfl

/-! ## sat32 -/

@[simp] theorem Chip.sat32_power (c : Chip) (a n : Nat) : (c.sat32 a n).power = c.power := rfl
@[simp] theorem Chip.sat32_shadows (c : Chip) (a n : Nat) : (c.sat32 a n).shadows = c.shadows := rfl
@[simp] theorem Chip.sat32_free (c : Chip) (a n : Nat) : (c.sat32 a n).free = c.free := rfl
@[simp] theorem Chip.sat32_out (c : Chip) (a n : Nat) : (c.sat32 a n).out = c.out := rfl
@[simp] theorem Chip.sat32_ao (c : Chip) (a n : Nat) : (c.sat32 a n).ao = c.ao := rfl
@[simp] theorem Chip.sat32_flash0 (c : Chip) (a n : Nat) : (c.sat32 a n).flash0 = c.flash0 := rfl
@[simp] theorem Chip.sat32_flash1 (c : Chip) (a n : Nat) : (c.sat32 a n).flash1 = c.flash1 := rfl
@[simp] theorem Chip.sat32_jpend (c : Chip) (a n : Nat) : (c.sat32 a n).jpend = c.jpend := rfl
@[simp] theorem Chip.sat32_jseq (c : Chip) (a n : Nat) : (c.sat32 a n).jseq = c.jseq := rfl
@[simp] theorem Chip.sat32_jhalf (c : Chip) (a n : Nat) : (c.sat32 a n).jhalf = c.jhalf := rfl
@[simp] theorem Chip.sat32_img (c : Chip) (a n : Nat) : (c.sat32 a n).img = c.img := rfl
@[simp] theorem Chip.sat32_start (c : Chip) (a n : Nat) : (c.sat32 a n).start = c.start := rfl
@[simp] theorem Chip.sat32_time (c : Chip) (a n : Nat) : (c.sat32 a n).time = c.time := rfl
@[simp] theorem Chip.sat32_mb0 (c : Chip) (a n : Nat) : (c.sat32 a n).mb0 = c.mb0 := rfl
@[simp] theorem Chip.sat32_mb1 (c : Chip) (a n : Nat) : (c.sat32 a n).mb1 = c.mb1 := rfl
@[simp] theorem Chip.sat32_denTime (c : Chip) (a n : Nat) : (c.sat32 a n).denTime = c.denTime := rfl
@[simp] theorem Chip.sat32_dbg (c : Chip) (a n : Nat) : (c.sat32 a n).dbg = c.dbg := rfl
@[simp] theorem Chip.sat32_tele (c : Chip) (a n : Nat) : (c.sat32 a n).tele = c.tele := rfl
@[simp] theorem Chip.sat32_cow (c : Chip) (a n : Nat) : (c.sat32 a n).cow = c.cow := rfl
@[simp] theorem Chip.sat32_keys (c : Chip) (a n : Nat) : (c.sat32 a n).keys = c.keys := rfl
@[simp] theorem Chip.sat32_pke (c : Chip) (a n : Nat) : (c.sat32 a n).pke = c.pke := rfl
@[simp] theorem Chip.sat32_vault (c : Chip) (a n : Nat) : (c.sat32 a n).vault = c.vault := rfl
@[simp] theorem Chip.sat32_cycle (c : Chip) (a n : Nat) : (c.sat32 a n).cycle = c.cycle := rfl
@[simp] theorem Chip.sat32_data (c : Chip) (a n : Nat) : (c.sat32 a n).data = c.data := rfl
@[simp] theorem Chip.sat32_pm (c : Chip) (a n : Nat) : (c.sat32 a n).pm = c.pm := rfl
@[simp] theorem Chip.sat32_health (c : Chip) (a n : Nat) : (c.sat32 a n).health = c.health := rfl
@[simp] theorem Chip.sat32_reached (c : Chip) (a n : Nat) : (c.sat32 a n).reached = c.reached := rfl

/-! ## emit -/

@[simp] theorem Chip.emit_power (c : Chip) (o : Out) : (c.emit o).power = c.power := rfl
@[simp] theorem Chip.emit_regs (c : Chip) (o : Out) : (c.emit o).regs = c.regs := rfl
@[simp] theorem Chip.emit_shadows (c : Chip) (o : Out) : (c.emit o).shadows = c.shadows := rfl
@[simp] theorem Chip.emit_free (c : Chip) (o : Out) : (c.emit o).free = c.free := rfl
@[simp] theorem Chip.emit_ao (c : Chip) (o : Out) : (c.emit o).ao = c.ao := rfl
@[simp] theorem Chip.emit_flash0 (c : Chip) (o : Out) : (c.emit o).flash0 = c.flash0 := rfl
@[simp] theorem Chip.emit_flash1 (c : Chip) (o : Out) : (c.emit o).flash1 = c.flash1 := rfl
@[simp] theorem Chip.emit_jpend (c : Chip) (o : Out) : (c.emit o).jpend = c.jpend := rfl
@[simp] theorem Chip.emit_jseq (c : Chip) (o : Out) : (c.emit o).jseq = c.jseq := rfl
@[simp] theorem Chip.emit_jhalf (c : Chip) (o : Out) : (c.emit o).jhalf = c.jhalf := rfl
@[simp] theorem Chip.emit_img (c : Chip) (o : Out) : (c.emit o).img = c.img := rfl
@[simp] theorem Chip.emit_start (c : Chip) (o : Out) : (c.emit o).start = c.start := rfl
@[simp] theorem Chip.emit_time (c : Chip) (o : Out) : (c.emit o).time = c.time := rfl
@[simp] theorem Chip.emit_mb0 (c : Chip) (o : Out) : (c.emit o).mb0 = c.mb0 := rfl
@[simp] theorem Chip.emit_mb1 (c : Chip) (o : Out) : (c.emit o).mb1 = c.mb1 := rfl
@[simp] theorem Chip.emit_denTime (c : Chip) (o : Out) : (c.emit o).denTime = c.denTime := rfl
@[simp] theorem Chip.emit_dbg (c : Chip) (o : Out) : (c.emit o).dbg = c.dbg := rfl
@[simp] theorem Chip.emit_tele (c : Chip) (o : Out) : (c.emit o).tele = c.tele := rfl
@[simp] theorem Chip.emit_cow (c : Chip) (o : Out) : (c.emit o).cow = c.cow := rfl
@[simp] theorem Chip.emit_keys (c : Chip) (o : Out) : (c.emit o).keys = c.keys := rfl
@[simp] theorem Chip.emit_pke (c : Chip) (o : Out) : (c.emit o).pke = c.pke := rfl
@[simp] theorem Chip.emit_vault (c : Chip) (o : Out) : (c.emit o).vault = c.vault := rfl
@[simp] theorem Chip.emit_cycle (c : Chip) (o : Out) : (c.emit o).cycle = c.cycle := rfl
@[simp] theorem Chip.emit_data (c : Chip) (o : Out) : (c.emit o).data = c.data := rfl
@[simp] theorem Chip.emit_pm (c : Chip) (o : Out) : (c.emit o).pm = c.pm := rfl
@[simp] theorem Chip.emit_health (c : Chip) (o : Out) : (c.emit o).health = c.health := rfl
@[simp] theorem Chip.emit_reached (c : Chip) (o : Out) : (c.emit o).reached = c.reached := rfl

@[simp] theorem Chip.emit_out (c : Chip) (o : Out) : (c.emit o).out = c.out ++ [o] := rfl

/-! ## Writes across words, and attentions -/

@[simp] theorem Chip.setNum_power (c : Chip) (a k v : Nat) : (c.setNum a k v).power = c.power := by
  induction k generalizing c a v with
  | zero => rfl
  | succ k ih => simp [Chip.setNum, ih]
@[simp] theorem Chip.attn_power (c : Chip) (cls : Nat) : (c.attn cls).power = c.power := by
  unfold Chip.attn; split <;> rfl
@[simp] theorem Chip.addWide_power (c : Chip) (a k w n : Nat) : (c.addWide a k w n).power = c.power := by simp [Chip.addWide]
@[simp] theorem Chip.setNum_shadows (c : Chip) (a k v : Nat) : (c.setNum a k v).shadows = c.shadows := by
  induction k generalizing c a v with
  | zero => rfl
  | succ k ih => simp [Chip.setNum, ih]
@[simp] theorem Chip.attn_shadows (c : Chip) (cls : Nat) : (c.attn cls).shadows = c.shadows := by
  unfold Chip.attn; split <;> rfl
@[simp] theorem Chip.addWide_shadows (c : Chip) (a k w n : Nat) : (c.addWide a k w n).shadows = c.shadows := by simp [Chip.addWide]
@[simp] theorem Chip.setNum_free (c : Chip) (a k v : Nat) : (c.setNum a k v).free = c.free := by
  induction k generalizing c a v with
  | zero => rfl
  | succ k ih => simp [Chip.setNum, ih]
@[simp] theorem Chip.attn_free (c : Chip) (cls : Nat) : (c.attn cls).free = c.free := by
  unfold Chip.attn; split <;> rfl
@[simp] theorem Chip.addWide_free (c : Chip) (a k w n : Nat) : (c.addWide a k w n).free = c.free := by simp [Chip.addWide]
@[simp] theorem Chip.setNum_out (c : Chip) (a k v : Nat) : (c.setNum a k v).out = c.out := by
  induction k generalizing c a v with
  | zero => rfl
  | succ k ih => simp [Chip.setNum, ih]
@[simp] theorem Chip.attn_out (c : Chip) (cls : Nat) : (c.attn cls).out = c.out := by
  unfold Chip.attn; split <;> rfl
@[simp] theorem Chip.addWide_out (c : Chip) (a k w n : Nat) : (c.addWide a k w n).out = c.out := by simp [Chip.addWide]
@[simp] theorem Chip.setNum_ao (c : Chip) (a k v : Nat) : (c.setNum a k v).ao = c.ao := by
  induction k generalizing c a v with
  | zero => rfl
  | succ k ih => simp [Chip.setNum, ih]
@[simp] theorem Chip.attn_ao (c : Chip) (cls : Nat) : (c.attn cls).ao = c.ao := by
  unfold Chip.attn; split <;> rfl
@[simp] theorem Chip.addWide_ao (c : Chip) (a k w n : Nat) : (c.addWide a k w n).ao = c.ao := by simp [Chip.addWide]
@[simp] theorem Chip.setNum_flash0 (c : Chip) (a k v : Nat) : (c.setNum a k v).flash0 = c.flash0 := by
  induction k generalizing c a v with
  | zero => rfl
  | succ k ih => simp [Chip.setNum, ih]
@[simp] theorem Chip.attn_flash0 (c : Chip) (cls : Nat) : (c.attn cls).flash0 = c.flash0 := by
  unfold Chip.attn; split <;> rfl
@[simp] theorem Chip.addWide_flash0 (c : Chip) (a k w n : Nat) : (c.addWide a k w n).flash0 = c.flash0 := by simp [Chip.addWide]
@[simp] theorem Chip.setNum_flash1 (c : Chip) (a k v : Nat) : (c.setNum a k v).flash1 = c.flash1 := by
  induction k generalizing c a v with
  | zero => rfl
  | succ k ih => simp [Chip.setNum, ih]
@[simp] theorem Chip.attn_flash1 (c : Chip) (cls : Nat) : (c.attn cls).flash1 = c.flash1 := by
  unfold Chip.attn; split <;> rfl
@[simp] theorem Chip.addWide_flash1 (c : Chip) (a k w n : Nat) : (c.addWide a k w n).flash1 = c.flash1 := by simp [Chip.addWide]
@[simp] theorem Chip.setNum_jpend (c : Chip) (a k v : Nat) : (c.setNum a k v).jpend = c.jpend := by
  induction k generalizing c a v with
  | zero => rfl
  | succ k ih => simp [Chip.setNum, ih]
@[simp] theorem Chip.attn_jpend (c : Chip) (cls : Nat) : (c.attn cls).jpend = c.jpend := by
  unfold Chip.attn; split <;> rfl
@[simp] theorem Chip.addWide_jpend (c : Chip) (a k w n : Nat) : (c.addWide a k w n).jpend = c.jpend := by simp [Chip.addWide]
@[simp] theorem Chip.setNum_jseq (c : Chip) (a k v : Nat) : (c.setNum a k v).jseq = c.jseq := by
  induction k generalizing c a v with
  | zero => rfl
  | succ k ih => simp [Chip.setNum, ih]
@[simp] theorem Chip.attn_jseq (c : Chip) (cls : Nat) : (c.attn cls).jseq = c.jseq := by
  unfold Chip.attn; split <;> rfl
@[simp] theorem Chip.addWide_jseq (c : Chip) (a k w n : Nat) : (c.addWide a k w n).jseq = c.jseq := by simp [Chip.addWide]
@[simp] theorem Chip.setNum_jhalf (c : Chip) (a k v : Nat) : (c.setNum a k v).jhalf = c.jhalf := by
  induction k generalizing c a v with
  | zero => rfl
  | succ k ih => simp [Chip.setNum, ih]
@[simp] theorem Chip.attn_jhalf (c : Chip) (cls : Nat) : (c.attn cls).jhalf = c.jhalf := by
  unfold Chip.attn; split <;> rfl
@[simp] theorem Chip.addWide_jhalf (c : Chip) (a k w n : Nat) : (c.addWide a k w n).jhalf = c.jhalf := by simp [Chip.addWide]
@[simp] theorem Chip.setNum_img (c : Chip) (a k v : Nat) : (c.setNum a k v).img = c.img := by
  induction k generalizing c a v with
  | zero => rfl
  | succ k ih => simp [Chip.setNum, ih]
@[simp] theorem Chip.attn_img (c : Chip) (cls : Nat) : (c.attn cls).img = c.img := by
  unfold Chip.attn; split <;> rfl
@[simp] theorem Chip.addWide_img (c : Chip) (a k w n : Nat) : (c.addWide a k w n).img = c.img := by simp [Chip.addWide]
@[simp] theorem Chip.setNum_start (c : Chip) (a k v : Nat) : (c.setNum a k v).start = c.start := by
  induction k generalizing c a v with
  | zero => rfl
  | succ k ih => simp [Chip.setNum, ih]
@[simp] theorem Chip.attn_start (c : Chip) (cls : Nat) : (c.attn cls).start = c.start := by
  unfold Chip.attn; split <;> rfl
@[simp] theorem Chip.addWide_start (c : Chip) (a k w n : Nat) : (c.addWide a k w n).start = c.start := by simp [Chip.addWide]
@[simp] theorem Chip.setNum_time (c : Chip) (a k v : Nat) : (c.setNum a k v).time = c.time := by
  induction k generalizing c a v with
  | zero => rfl
  | succ k ih => simp [Chip.setNum, ih]
@[simp] theorem Chip.attn_time (c : Chip) (cls : Nat) : (c.attn cls).time = c.time := by
  unfold Chip.attn; split <;> rfl
@[simp] theorem Chip.addWide_time (c : Chip) (a k w n : Nat) : (c.addWide a k w n).time = c.time := by simp [Chip.addWide]
@[simp] theorem Chip.setNum_mb0 (c : Chip) (a k v : Nat) : (c.setNum a k v).mb0 = c.mb0 := by
  induction k generalizing c a v with
  | zero => rfl
  | succ k ih => simp [Chip.setNum, ih]
@[simp] theorem Chip.attn_mb0 (c : Chip) (cls : Nat) : (c.attn cls).mb0 = c.mb0 := by
  unfold Chip.attn; split <;> rfl
@[simp] theorem Chip.addWide_mb0 (c : Chip) (a k w n : Nat) : (c.addWide a k w n).mb0 = c.mb0 := by simp [Chip.addWide]
@[simp] theorem Chip.setNum_mb1 (c : Chip) (a k v : Nat) : (c.setNum a k v).mb1 = c.mb1 := by
  induction k generalizing c a v with
  | zero => rfl
  | succ k ih => simp [Chip.setNum, ih]
@[simp] theorem Chip.attn_mb1 (c : Chip) (cls : Nat) : (c.attn cls).mb1 = c.mb1 := by
  unfold Chip.attn; split <;> rfl
@[simp] theorem Chip.addWide_mb1 (c : Chip) (a k w n : Nat) : (c.addWide a k w n).mb1 = c.mb1 := by simp [Chip.addWide]
@[simp] theorem Chip.setNum_denTime (c : Chip) (a k v : Nat) : (c.setNum a k v).denTime = c.denTime := by
  induction k generalizing c a v with
  | zero => rfl
  | succ k ih => simp [Chip.setNum, ih]
@[simp] theorem Chip.attn_denTime (c : Chip) (cls : Nat) : (c.attn cls).denTime = c.denTime := by
  unfold Chip.attn; split <;> rfl
@[simp] theorem Chip.addWide_denTime (c : Chip) (a k w n : Nat) : (c.addWide a k w n).denTime = c.denTime := by simp [Chip.addWide]
@[simp] theorem Chip.setNum_dbg (c : Chip) (a k v : Nat) : (c.setNum a k v).dbg = c.dbg := by
  induction k generalizing c a v with
  | zero => rfl
  | succ k ih => simp [Chip.setNum, ih]
@[simp] theorem Chip.attn_dbg (c : Chip) (cls : Nat) : (c.attn cls).dbg = c.dbg := by
  unfold Chip.attn; split <;> rfl
@[simp] theorem Chip.addWide_dbg (c : Chip) (a k w n : Nat) : (c.addWide a k w n).dbg = c.dbg := by simp [Chip.addWide]
@[simp] theorem Chip.setNum_tele (c : Chip) (a k v : Nat) : (c.setNum a k v).tele = c.tele := by
  induction k generalizing c a v with
  | zero => rfl
  | succ k ih => simp [Chip.setNum, ih]
@[simp] theorem Chip.attn_tele (c : Chip) (cls : Nat) : (c.attn cls).tele = c.tele := by
  unfold Chip.attn; split <;> rfl
@[simp] theorem Chip.addWide_tele (c : Chip) (a k w n : Nat) : (c.addWide a k w n).tele = c.tele := by simp [Chip.addWide]
@[simp] theorem Chip.setNum_cow (c : Chip) (a k v : Nat) : (c.setNum a k v).cow = c.cow := by
  induction k generalizing c a v with
  | zero => rfl
  | succ k ih => simp [Chip.setNum, ih]
@[simp] theorem Chip.attn_cow (c : Chip) (cls : Nat) : (c.attn cls).cow = c.cow := by
  unfold Chip.attn; split <;> rfl
@[simp] theorem Chip.addWide_cow (c : Chip) (a k w n : Nat) : (c.addWide a k w n).cow = c.cow := by simp [Chip.addWide]
@[simp] theorem Chip.setNum_keys (c : Chip) (a k v : Nat) : (c.setNum a k v).keys = c.keys := by
  induction k generalizing c a v with
  | zero => rfl
  | succ k ih => simp [Chip.setNum, ih]
@[simp] theorem Chip.attn_keys (c : Chip) (cls : Nat) : (c.attn cls).keys = c.keys := by
  unfold Chip.attn; split <;> rfl
@[simp] theorem Chip.addWide_keys (c : Chip) (a k w n : Nat) : (c.addWide a k w n).keys = c.keys := by simp [Chip.addWide]
@[simp] theorem Chip.setNum_pke (c : Chip) (a k v : Nat) : (c.setNum a k v).pke = c.pke := by
  induction k generalizing c a v with
  | zero => rfl
  | succ k ih => simp [Chip.setNum, ih]
@[simp] theorem Chip.attn_pke (c : Chip) (cls : Nat) : (c.attn cls).pke = c.pke := by
  unfold Chip.attn; split <;> rfl
@[simp] theorem Chip.addWide_pke (c : Chip) (a k w n : Nat) : (c.addWide a k w n).pke = c.pke := by simp [Chip.addWide]
@[simp] theorem Chip.setNum_vault (c : Chip) (a k v : Nat) : (c.setNum a k v).vault = c.vault := by
  induction k generalizing c a v with
  | zero => rfl
  | succ k ih => simp [Chip.setNum, ih]
@[simp] theorem Chip.attn_vault (c : Chip) (cls : Nat) : (c.attn cls).vault = c.vault := by
  unfold Chip.attn; split <;> rfl
@[simp] theorem Chip.addWide_vault (c : Chip) (a k w n : Nat) : (c.addWide a k w n).vault = c.vault := by simp [Chip.addWide]
@[simp] theorem Chip.setNum_cycle (c : Chip) (a k v : Nat) : (c.setNum a k v).cycle = c.cycle := by
  induction k generalizing c a v with
  | zero => rfl
  | succ k ih => simp [Chip.setNum, ih]
@[simp] theorem Chip.attn_cycle (c : Chip) (cls : Nat) : (c.attn cls).cycle = c.cycle := by
  unfold Chip.attn; split <;> rfl
@[simp] theorem Chip.addWide_cycle (c : Chip) (a k w n : Nat) : (c.addWide a k w n).cycle = c.cycle := by simp [Chip.addWide]
@[simp] theorem Chip.setNum_data (c : Chip) (a k v : Nat) : (c.setNum a k v).data = c.data := by
  induction k generalizing c a v with
  | zero => rfl
  | succ k ih => simp [Chip.setNum, ih]
@[simp] theorem Chip.attn_data (c : Chip) (cls : Nat) : (c.attn cls).data = c.data := by
  unfold Chip.attn; split <;> rfl
@[simp] theorem Chip.addWide_data (c : Chip) (a k w n : Nat) : (c.addWide a k w n).data = c.data := by simp [Chip.addWide]
@[simp] theorem Chip.setNum_pm (c : Chip) (a k v : Nat) : (c.setNum a k v).pm = c.pm := by
  induction k generalizing c a v with
  | zero => rfl
  | succ k ih => simp [Chip.setNum, ih]
@[simp] theorem Chip.attn_pm (c : Chip) (cls : Nat) : (c.attn cls).pm = c.pm := by
  unfold Chip.attn; split <;> rfl
@[simp] theorem Chip.addWide_pm (c : Chip) (a k w n : Nat) : (c.addWide a k w n).pm = c.pm := by simp [Chip.addWide]
@[simp] theorem Chip.setNum_health (c : Chip) (a k v : Nat) : (c.setNum a k v).health = c.health := by
  induction k generalizing c a v with
  | zero => rfl
  | succ k ih => simp [Chip.setNum, ih]
@[simp] theorem Chip.attn_health (c : Chip) (cls : Nat) : (c.attn cls).health = c.health := by
  unfold Chip.attn; split <;> rfl
@[simp] theorem Chip.addWide_health (c : Chip) (a k w n : Nat) : (c.addWide a k w n).health = c.health := by simp [Chip.addWide]
@[simp] theorem Chip.setNum_reached (c : Chip) (a k v : Nat) : (c.setNum a k v).reached = c.reached := by
  induction k generalizing c a v with
  | zero => rfl
  | succ k ih => simp [Chip.setNum, ih]
@[simp] theorem Chip.attn_reached (c : Chip) (cls : Nat) : (c.attn cls).reached = c.reached := by
  unfold Chip.attn; split <;> rfl
@[simp] theorem Chip.addWide_reached (c : Chip) (a k w n : Nat) : (c.addWide a k w n).reached = c.reached := by simp [Chip.addWide]

end Sys2Proof.Machine
end

