-- ==== Sys2Proof/Laws/Registers.lean ====
section
/-! SUPPORT. Laws of the register map and of register fields: a read after a write to the same word or field gives the value
written, and a write leaves every other word and every other field alone. -/

namespace Sys2Proof.Machine

/-! ## Words -/

@[simp] theorem Chip.word_setWord_same (c : Chip) (a : Nat) (w : W32) : (c.setWord a w).word a = w := by
  simp [Chip.word, Chip.setWord]

theorem Chip.word_setWord_other (c : Chip) (a b : Nat) (w : W32) (h : b ≠ a) : (c.setWord a w).word b = c.word b :=
  Sparse.get_set_other' _ _ _ _ _ _ h

theorem Chip.word_setWord (c : Chip) (a b : Nat) (w : W32) : (c.setWord a w).word b = if b = a then w else c.word b := by
  by_cases h : b = a
  · subst h; simp
  · rw [if_neg h, Chip.word_setWord_other _ _ _ _ h]

/-- The word at an address depends on the register map alone. -/
theorem Chip.word_regs (c d : Chip) (h : c.regs = d.regs) (a : Nat) : c.word a = d.word a := by simp [Chip.word, h]

theorem Chip.rd_regs (c d : Chip) (h : c.regs = d.regs) (f : Fld) : c.rd f = d.rd f := by simp [Chip.rd, Chip.word_regs c d h]

@[simp] theorem Chip.word_emit (c : Chip) (o : Out) (a : Nat) : (c.emit o).word a = c.word a := rfl

@[simp] theorem Chip.rd_emit (c : Chip) (o : Out) (f : Fld) : (c.emit o).rd f = c.rd f := rfl

theorem Chip.word_wr (c : Chip) (f : Fld) (v a : Nat) : (c.wr f v).word a = if a = f.reg then f.put (c.word f.reg) v else c.word a :=
  Chip.word_setWord _ _ _ _

theorem Chip.word_wr_other (c : Chip) (f : Fld) (v a : Nat) (h : a ≠ f.reg) : (c.wr f v).word a = c.word a :=
  Chip.word_setWord_other _ _ _ _ h

theorem Chip.word_add (c : Chip) (a n b : Nat) : (c.add a n).word b = if b = a then c.word a + BitVec.ofNat 32 n else c.word b :=
  Chip.word_setWord _ _ _ _

@[simp] theorem Chip.word_bump_same (c : Chip) (a : Nat) : (c.bump a).word a = c.word a + 1 := Chip.word_setWord_same _ _ _

theorem Chip.word_bump_other (c : Chip) (a b : Nat) (h : b ≠ a) : (c.bump a).word b = c.word b :=
  Chip.word_setWord_other _ _ _ _ h

/-! ## Fields -/

/-- A field lies inside its word. -/
def Fld.inWord (f : Fld) : Bool := decide (f.lo + f.w ≤ 32)

/-- Two fields share no bit. -/
def Fld.apart (f g : Fld) : Bool := f.reg != g.reg || decide (f.lo + f.w ≤ g.lo) || decide (g.lo + g.w ≤ f.lo)

theorem Fld.testBit_mask (f : Fld) (h : f.inWord) (i : Nat) :
    f.mask.toNat.testBit i = (decide (f.lo ≤ i) && decide (i < f.lo + f.w)) := by
  have h : f.lo + f.w ≤ 32 := by simpa [Fld.inWord] using h
  have hm : (2 ^ f.w - 1) * 2 ^ f.lo < 2 ^ 32 := by
    calc (2 ^ f.w - 1) * 2 ^ f.lo < 2 ^ f.w * 2 ^ f.lo := by
          apply Nat.mul_lt_mul_of_pos_right _ (Nat.two_pow_pos _)
          have := Nat.two_pow_pos f.w; omega
      _ = 2 ^ (f.lo + f.w) := by rw [← Nat.pow_add, Nat.add_comm]
      _ ≤ 2 ^ 32 := Nat.pow_le_pow_right (by omega) h
  rw [Fld.mask, BitVec.toNat_ofNat, Nat.mod_eq_of_lt hm, ← Nat.shiftLeft_eq, Nat.testBit_shiftLeft, Nat.testBit_two_pow_sub_one]
  by_cases hl : f.lo ≤ i <;> simp [hl]
  omega

theorem Fld.testBit_put (f : Fld) (h : f.inWord) (x : W32) (v i : Nat) :
    (f.put x v).toNat.testBit i =
      if f.lo ≤ i ∧ i < f.lo + f.w then v.testBit (i - f.lo) else x.toNat.testBit i := by
  have hw : f.lo + f.w ≤ 32 := by simpa [Fld.inWord] using h
  have hv : v % 2 ^ f.w * 2 ^ f.lo < 2 ^ 32 := by
    calc v % 2 ^ f.w * 2 ^ f.lo < 2 ^ f.w * 2 ^ f.lo := Nat.mul_lt_mul_of_pos_right (Nat.mod_lt _ (Nat.two_pow_pos _)) (Nat.two_pow_pos _)
      _ = 2 ^ (f.lo + f.w) := by rw [← Nat.pow_add, Nat.add_comm]
      _ ≤ 2 ^ 32 := Nat.pow_le_pow_right (by omega) hw
  rw [Fld.put, BitVec.toNat_or, BitVec.toNat_and, Nat.testBit_or, Nat.testBit_and, BitVec.toNat_ofNat, Nat.mod_eq_of_lt hv,
    ← Nat.shiftLeft_eq, Nat.testBit_shiftLeft, Nat.testBit_mod_two_pow]
  by_cases hi : i < 32
  · have hn : (~~~f.mask).toNat.testBit i = !(f.mask.toNat.testBit i) := by
      simp only [BitVec.testBit_toNat, BitVec.getLsbD_not, hi, decide_true, Bool.true_and]
    rw [hn, Fld.testBit_mask f h]
    by_cases h1 : f.lo ≤ i
    · by_cases h2 : i < f.lo + f.w
      · have : i - f.lo < f.w := by omega
        simp [h1, h2, this]
      · have : ¬ i - f.lo < f.w := by omega
        simp [h1, h2, this]
    · simp [h1]
  · have hx : x.toNat.testBit i = false := by
      simp only [BitVec.testBit_toNat]; exact BitVec.getLsbD_of_ge _ _ (by omega)
    have h2 : ¬ i < f.lo + f.w := by omega
    by_cases h1 : f.lo ≤ i
    · have : ¬ i - f.lo < f.w := by omega
      simp [hx, h2, this]
    · simp [hx, h2, h1]

theorem Fld.testBit_get (f : Fld) (x : W32) (i : Nat) :
    (f.get x).testBit i = (decide (i < f.w) && x.toNat.testBit (f.lo + i)) := by
  rw [Fld.get, bits, Nat.testBit_mod_two_pow, ← Nat.shiftRight_eq_div_pow, Nat.testBit_shiftRight]

/-- A field reads back the value put into it, reduced to its width. -/
theorem Fld.get_put_same (f : Fld) (h : f.inWord) (x : W32) (v : Nat) : f.get (f.put x v) = v % 2 ^ f.w := by
  apply Nat.eq_of_testBit_eq
  intro i
  rw [Fld.testBit_get, Fld.testBit_put f h, Nat.testBit_mod_two_pow]
  by_cases hi : i < f.w
  · have : f.lo + i < f.lo + f.w := by omega
    simp [hi]
  · simp [hi]

/-- A field that shares no bit with the one written keeps its value. -/
theorem Fld.get_put_apart (f g : Fld) (h : f.inWord) (hd : f.lo + f.w ≤ g.lo ∨ g.lo + g.w ≤ f.lo) (x : W32) (v : Nat) :
    g.get (f.put x v) = g.get x := by
  apply Nat.eq_of_testBit_eq
  intro i
  rw [Fld.testBit_get, Fld.testBit_get, Fld.testBit_put f h]
  by_cases hi : i < g.w
  · rw [if_neg (by omega)]
  · simp [hi]

/-- A field reads back the value written, reduced to its width. -/
theorem Chip.rd_wr_same (c : Chip) (f : Fld) (v : Nat) (h : f.inWord = true) : (c.wr f v).rd f = v % 2 ^ f.w := by
  rw [Chip.rd, Chip.word_wr, if_pos rfl, Fld.get_put_same f h]

/-- A write of a field leaves every field that shares no bit with it alone. -/
theorem Chip.rd_wr_apart (c : Chip) (f g : Fld) (v : Nat) (h : f.inWord = true) (hd : f.apart g = true) : (c.wr f v).rd g = c.rd g := by
  by_cases hr : g.reg = f.reg
  · have hd' : f.lo + f.w ≤ g.lo ∨ g.lo + g.w ≤ f.lo := by simpa [Fld.apart, hr] using hd
    rw [Chip.rd, Chip.word_wr, if_pos hr, Fld.get_put_apart f g h hd', Chip.rd, hr]
  · rw [Chip.rd, Chip.word_wr_other _ _ _ _ hr, Chip.rd]

/-- A field of another register. -/
theorem Chip.rd_wr_other (c : Chip) (f g : Fld) (v : Nat) (h : g.reg ≠ f.reg) : (c.wr f v).rd g = c.rd g := by
  rw [Chip.rd, Chip.word_wr_other _ _ _ _ h, Chip.rd]

theorem Chip.rd_setWord_other (c : Chip) (a : Nat) (w : W32) (g : Fld) (h : g.reg ≠ a) : (c.setWord a w).rd g = c.rd g := by
  rw [Chip.rd, Chip.word_setWord_other _ _ _ _ h, Chip.rd]

theorem Chip.rd_bump_other (c : Chip) (a : Nat) (g : Fld) (h : g.reg ≠ a) : (c.bump a).rd g = c.rd g :=
  Chip.rd_setWord_other _ _ _ _ h

/-- A one-bit field that is set reads as set. -/
theorem Chip.flag_wrb_same (c : Chip) (f : Fld) (b : Bool) (h : f.inWord = true) (hw : f.w = 1) : (c.wrb f b).flag f = b := by
  rw [Chip.flag, Chip.wrb, Chip.rd_wr_same _ _ _ h, hw]
  cases b <;> rfl

/-- The value of a field fits its width. -/
theorem Chip.rd_lt (c : Chip) (f : Fld) : c.rd f < 2 ^ f.w := Nat.mod_lt _ (Nat.two_pow_pos _)

/-! ## Wide values -/

theorem Chip.word_setNum_other (c : Chip) (a k v b : Nat) (h : b < a ∨ a + 4 * k ≤ b) : (c.setNum a k v).word b = c.word b := by
  induction k generalizing c a v with
  | zero => rfl
  | succ k ih =>
    rw [Chip.setNum, ih _ _ _ (by omega), Chip.word_setWord_other _ _ _ _ (by omega)]

/-- A value written across words reads back, reduced to their width. -/
theorem Chip.num_setNum (c : Chip) (a k v : Nat) : (c.setNum a k v).num a k = v % 2 ^ (32 * k) := by
  induction k generalizing c a v with
  | zero => simp [Chip.num, Nat.mod_one]
  | succ k ih =>
    rw [Chip.num, Chip.setNum, ih, Chip.word_setNum_other _ _ _ _ _ (by omega), Chip.word_setWord_same, BitVec.toNat_ofNat,
      Nat.mul_succ, Nat.add_comm (32 * k) 32, Nat.pow_add, Nat.mod_mul]

/-! ## The canonical form -/

/-- Every write of the register map keeps its keys rising. -/
theorem Chip.sorted_setWord (c : Chip) (a : Nat) (w : W32) (h : c.regs.Pairwise (fun x y => x.1 < y.1)) :
    (c.setWord a w).regs.Pairwise (fun x y => x.1 < y.1) := by
  simp only [Chip.setWord, Sparse.set]
  split
  · exact h.filter _
  · exact Sparse.sorted_insert _ _ _ h

end Sys2Proof.Machine
end

