-- ==== Sys2Proof/Laws/Ops.lean ====
section
/-! SUPPORT. What a record of the Cowslip recorder and an alert can change, said once: the registers MGT_REC_STATUS, MGT_REC_LOST,
MGT_REC_RUN, MGT_REC_SEQ and HST_ATTN, the recorder, the ring and run number of the always-on domain, and the run number in flash. -/

namespace Sys2Proof.Machine

/-! ## storeRec -/

@[simp] theorem Chip.storeRec_power (c : Chip) (r : Bytes) : (c.storeRec r).power = c.power := by
  unfold Chip.storeRec; dsimp only; split; · rfl
  · split <;> rfl
@[simp] theorem Chip.storeRec_shadows (c : Chip) (r : Bytes) : (c.storeRec r).shadows = c.shadows := by
  unfold Chip.storeRec; dsimp only; split; · rfl
  · split <;> rfl
@[simp] theorem Chip.storeRec_free (c : Chip) (r : Bytes) : (c.storeRec r).free = c.free := by
  unfold Chip.storeRec; dsimp only; split; · rfl
  · split <;> rfl
@[simp] theorem Chip.storeRec_out (c : Chip) (r : Bytes) : (c.storeRec r).out = c.out := by
  unfold Chip.storeRec; dsimp only; split; · rfl
  · split <;> rfl
@[simp] theorem Chip.storeRec_jpend (c : Chip) (r : Bytes) : (c.storeRec r).jpend = c.jpend := by
  unfold Chip.storeRec; dsimp only; split; · rfl
  · split <;> rfl
@[simp] theorem Chip.storeRec_jseq (c : Chip) (r : Bytes) : (c.storeRec r).jseq = c.jseq := by
  unfold Chip.storeRec; dsimp only; split; · rfl
  · split <;> rfl
@[simp] theorem Chip.storeRec_jhalf (c : Chip) (r : Bytes) : (c.storeRec r).jhalf = c.jhalf := by
  unfold Chip.storeRec; dsimp only; split; · rfl
  · split <;> rfl
@[simp] theorem Chip.storeRec_img (c : Chip) (r : Bytes) : (c.storeRec r).img = c.img := by
  unfold Chip.storeRec; dsimp only; split; · rfl
  · split <;> rfl
@[simp] theorem Chip.storeRec_start (c : Chip) (r : Bytes) : (c.storeRec r).start = c.start := by
  unfold Chip.storeRec; dsimp only; split; · rfl
  · split <;> rfl
@[simp] theorem Chip.storeRec_time (c : Chip) (r : Bytes) : (c.storeRec r).time = c.time := by
  unfold Chip.storeRec; dsimp only; split; · rfl
  · split <;> rfl
@[simp] theorem Chip.storeRec_mb0 (c : Chip) (r : Bytes) : (c.storeRec r).mb0 = c.mb0 := by
  unfold Chip.storeRec; dsimp only; split; · rfl
  · split <;> rfl
@[simp] theorem Chip.storeRec_mb1 (c : Chip) (r : Bytes) : (c.storeRec r).mb1 = c.mb1 := by
  unfold Chip.storeRec; dsimp only; split; · rfl
  · split <;> rfl
@[simp] theorem Chip.storeRec_denTime (c : Chip) (r : Bytes) : (c.storeRec r).denTime = c.denTime := by
  unfold Chip.storeRec; dsimp only; split; · rfl
  · split <;> rfl
@[simp] theorem Chip.storeRec_dbg (c : Chip) (r : Bytes) : (c.storeRec r).dbg = c.dbg := by
  unfold Chip.storeRec; dsimp only; split; · rfl
  · split <;> rfl
@[simp] theorem Chip.storeRec_tele (c : Chip) (r : Bytes) : (c.storeRec r).tele = c.tele := by
  unfold Chip.storeRec; dsimp only; split; · rfl
  · split <;> rfl
@[simp] theorem Chip.storeRec_keys (c : Chip) (r : Bytes) : (c.storeRec r).keys = c.keys := by
  unfold Chip.storeRec; dsimp only; split; · rfl
  · split <;> rfl
@[simp] theorem Chip.storeRec_pke (c : Chip) (r : Bytes) : (c.storeRec r).pke = c.pke := by
  unfold Chip.storeRec; dsimp only; split; · rfl
  · split <;> rfl
@[simp] theorem Chip.storeRec_vault (c : Chip) (r : Bytes) : (c.storeRec r).vault = c.vault := by
  unfold Chip.storeRec; dsimp only; split; · rfl
  · split <;> rfl
@[simp] theorem Chip.storeRec_cycle (c : Chip) (r : Bytes) : (c.storeRec r).cycle = c.cycle := by
  unfold Chip.storeRec; dsimp only; split; · rfl
  · split <;> rfl
@[simp] theorem Chip.storeRec_data (c : Chip) (r : Bytes) : (c.storeRec r).data = c.data := by
  unfold Chip.storeRec; dsimp only; split; · rfl
  · split <;> rfl
@[simp] theorem Chip.storeRec_pm (c : Chip) (r : Bytes) : (c.storeRec r).pm = c.pm := by
  unfold Chip.storeRec; dsimp only; split; · rfl
  · split <;> rfl
@[simp] theorem Chip.storeRec_health (c : Chip) (r : Bytes) : (c.storeRec r).health = c.health := by
  unfold Chip.storeRec; dsimp only; split; · rfl
  · split <;> rfl
@[simp] theorem Chip.storeRec_reached (c : Chip) (r : Bytes) : (c.storeRec r).reached = c.reached := by
  unfold Chip.storeRec; dsimp only; split; · rfl
  · split <;> rfl
@[simp] theorem Chip.storeRec_ao_cell (c : Chip) (r : Bytes) : (c.storeRec r).ao.cell = c.ao.cell := by
  unfold Chip.storeRec; dsimp only; split; · rfl
  · split <;> rfl
@[simp] theorem Chip.storeRec_ao_share (c : Chip) (r : Bytes) : (c.storeRec r).ao.share = c.ao.share := by
  unfold Chip.storeRec; dsimp only; split; · rfl
  · split <;> rfl
@[simp] theorem Chip.storeRec_ao_erasedN (c : Chip) (r : Bytes) : (c.storeRec r).ao.erasedN = c.ao.erasedN := by
  unfold Chip.storeRec; dsimp only; split; · rfl
  · split <;> rfl
@[simp] theorem Chip.storeRec_ao_rtc (c : Chip) (r : Bytes) : (c.storeRec r).ao.rtc = c.ao.rtc := by
  unfold Chip.storeRec; dsimp only; split; · rfl
  · split <;> rfl
@[simp] theorem Chip.storeRec_ao_rtcSet (c : Chip) (r : Bytes) : (c.storeRec r).ao.rtcSet = c.ao.rtcSet := by
  unfold Chip.storeRec; dsimp only; split; · rfl
  · split <;> rfl
@[simp] theorem Chip.storeRec_ao_rtcBase (c : Chip) (r : Bytes) : (c.storeRec r).ao.rtcBase = c.ao.rtcBase := by
  unfold Chip.storeRec; dsimp only; split; · rfl
  · split <;> rfl
@[simp] theorem Chip.storeRec_ao_timer (c : Chip) (r : Bytes) : (c.storeRec r).ao.timer = c.ao.timer := by
  unfold Chip.storeRec; dsimp only; split; · rfl
  · split <;> rfl
@[simp] theorem Chip.storeRec_ao_fails (c : Chip) (r : Bytes) : (c.storeRec r).ao.fails = c.ao.fails := by
  unfold Chip.storeRec; dsimp only; split; · rfl
  · split <;> rfl
@[simp] theorem Chip.storeRec_ao_failClear (c : Chip) (r : Bytes) : (c.storeRec r).ao.failClear = c.ao.failClear := by
  unfold Chip.storeRec; dsimp only; split; · rfl
  · split <;> rfl
@[simp] theorem Chip.storeRec_ao_mesh (c : Chip) (r : Bytes) : (c.storeRec r).ao.mesh = c.ao.mesh := by
  unfold Chip.storeRec; dsimp only; split; · rfl
  · split <;> rfl
@[simp] theorem Chip.storeRec_ao_cellEver (c : Chip) (r : Bytes) : (c.storeRec r).ao.cellEver = c.ao.cellEver := by
  unfold Chip.storeRec; dsimp only; split; · rfl
  · split <;> rfl
@[simp] theorem Chip.storeRec_ao_log (c : Chip) (r : Bytes) : (c.storeRec r).ao.log = c.ao.log := by
  unfold Chip.storeRec; dsimp only; split; · rfl
  · split <;> rfl
@[simp] theorem Chip.storeRec_ao_logSeq (c : Chip) (r : Bytes) : (c.storeRec r).ao.logSeq = c.ao.logSeq := by
  unfold Chip.storeRec; dsimp only; split; · rfl
  · split <;> rfl
@[simp] theorem Chip.storeRec_ao_cellLog (c : Chip) (r : Bytes) : (c.storeRec r).ao.cellLog = c.ao.cellLog := by
  unfold Chip.storeRec; dsimp only; split; · rfl
  · split <;> rfl
@[simp] theorem Chip.storeRec_ao_pinned (c : Chip) (r : Bytes) : (c.storeRec r).ao.pinned = c.ao.pinned := by
  unfold Chip.storeRec; dsimp only; split; · rfl
  · split <;> rfl
@[simp] theorem Chip.storeRec_ao_classes (c : Chip) (r : Bytes) : (c.storeRec r).ao.classes = c.ao.classes := by
  unfold Chip.storeRec; dsimp only; split; · rfl
  · split <;> rfl
@[simp] theorem Chip.storeRec_ao_armed (c : Chip) (r : Bytes) : (c.storeRec r).ao.armed = c.ao.armed := by
  unfold Chip.storeRec; dsimp only; split; · rfl
  · split <;> rfl
@[simp] theorem Chip.storeRec_ao_lockout (c : Chip) (r : Bytes) : (c.storeRec r).ao.lockout = c.ao.lockout := by
  unfold Chip.storeRec; dsimp only; split; · rfl
  · split <;> rfl
@[simp] theorem Chip.storeRec_ao_dbgFails (c : Chip) (r : Bytes) : (c.storeRec r).ao.dbgFails = c.ao.dbgFails := by
  unfold Chip.storeRec; dsimp only; split; · rfl
  · split <;> rfl
@[simp] theorem Chip.storeRec_ao_charge (c : Chip) (r : Bytes) : (c.storeRec r).ao.charge = c.ao.charge := by
  unfold Chip.storeRec; dsimp only; split; · rfl
  · split <;> rfl
@[simp] theorem Chip.storeRec_flash0_slot0 (c : Chip) (r : Bytes) : (c.storeRec r).flash0.slot0 = c.flash0.slot0 := by
  unfold Chip.storeRec; dsimp only; split; · rfl
  · split <;> rfl
@[simp] theorem Chip.storeRec_flash0_slot1 (c : Chip) (r : Bytes) : (c.storeRec r).flash0.slot1 = c.flash0.slot1 := by
  unfold Chip.storeRec; dsimp only; split; · rfl
  · split <;> rfl
@[simp] theorem Chip.storeRec_flash0_desc0 (c : Chip) (r : Bytes) : (c.storeRec r).flash0.desc0 = c.flash0.desc0 := by
  unfold Chip.storeRec; dsimp only; split; · rfl
  · split <;> rfl
@[simp] theorem Chip.storeRec_flash0_desc1 (c : Chip) (r : Bytes) : (c.storeRec r).flash0.desc1 = c.flash0.desc1 := by
  unfold Chip.storeRec; dsimp only; split; · rfl
  · split <;> rfl
@[simp] theorem Chip.storeRec_flash0_half0 (c : Chip) (r : Bytes) : (c.storeRec r).flash0.half0 = c.flash0.half0 := by
  unfold Chip.storeRec; dsimp only; split; · rfl
  · split <;> rfl
@[simp] theorem Chip.storeRec_flash0_half1 (c : Chip) (r : Bytes) : (c.storeRec r).flash0.half1 = c.flash0.half1 := by
  unfold Chip.storeRec; dsimp only; split; · rfl
  · split <;> rfl
@[simp] theorem Chip.storeRec_flash0_history (c : Chip) (r : Bytes) : (c.storeRec r).flash0.history = c.flash0.history := by
  unfold Chip.storeRec; dsimp only; split; · rfl
  · split <;> rfl
@[simp] theorem Chip.storeRec_flash0_certs (c : Chip) (r : Bytes) : (c.storeRec r).flash0.certs = c.flash0.certs := by
  unfold Chip.storeRec; dsimp only; split; · rfl
  · split <;> rfl
@[simp] theorem Chip.storeRec_flash0_flush (c : Chip) (r : Bytes) : (c.storeRec r).flash0.flush = c.flash0.flush := by
  unfold Chip.storeRec; dsimp only; split; · rfl
  · split <;> rfl
@[simp] theorem Chip.storeRec_flash0_health (c : Chip) (r : Bytes) : (c.storeRec r).flash0.health = c.flash0.health := by
  unfold Chip.storeRec; dsimp only; split; · rfl
  · split <;> rfl
@[simp] theorem Chip.storeRec_flash1_slot0 (c : Chip) (r : Bytes) : (c.storeRec r).flash1.slot0 = c.flash1.slot0 := by
  unfold Chip.storeRec; dsimp only; split; · rfl
  · split <;> rfl
@[simp] theorem Chip.storeRec_flash1_slot1 (c : Chip) (r : Bytes) : (c.storeRec r).flash1.slot1 = c.flash1.slot1 := by
  unfold Chip.storeRec; dsimp only; split; · rfl
  · split <;> rfl
@[simp] theorem Chip.storeRec_flash1_desc0 (c : Chip) (r : Bytes) : (c.storeRec r).flash1.desc0 = c.flash1.desc0 := by
  unfold Chip.storeRec; dsimp only; split; · rfl
  · split <;> rfl
@[simp] theorem Chip.storeRec_flash1_desc1 (c : Chip) (r : Bytes) : (c.storeRec r).flash1.desc1 = c.flash1.desc1 := by
  unfold Chip.storeRec; dsimp only; split; · rfl
  · split <;> rfl
@[simp] theorem Chip.storeRec_flash1_half0 (c : Chip) (r : Bytes) : (c.storeRec r).flash1.half0 = c.flash1.half0 := by
  unfold Chip.storeRec; dsimp only; split; · rfl
  · split <;> rfl
@[simp] theorem Chip.storeRec_flash1_half1 (c : Chip) (r : Bytes) : (c.storeRec r).flash1.half1 = c.flash1.half1 := by
  unfold Chip.storeRec; dsimp only; split; · rfl
  · split <;> rfl
@[simp] theorem Chip.storeRec_flash1_history (c : Chip) (r : Bytes) : (c.storeRec r).flash1.history = c.flash1.history := by
  unfold Chip.storeRec; dsimp only; split; · rfl
  · split <;> rfl
@[simp] theorem Chip.storeRec_flash1_certs (c : Chip) (r : Bytes) : (c.storeRec r).flash1.certs = c.flash1.certs := by
  unfold Chip.storeRec; dsimp only; split; · rfl
  · split <;> rfl
@[simp] theorem Chip.storeRec_flash1_flush (c : Chip) (r : Bytes) : (c.storeRec r).flash1.flush = c.flash1.flush := by
  unfold Chip.storeRec; dsimp only; split; · rfl
  · split <;> rfl
@[simp] theorem Chip.storeRec_flash1_health (c : Chip) (r : Bytes) : (c.storeRec r).flash1.health = c.flash1.health := by
  unfold Chip.storeRec; dsimp only; split; · rfl
  · split <;> rfl

/-! ## seal -/

@[simp] theorem Chip.seal_power (c : Chip) : (c.seal).power = c.power := by
  unfold Chip.seal; split; · rfl
  · dsimp only; simp
@[simp] theorem Chip.seal_shadows (c : Chip) : (c.seal).shadows = c.shadows := by
  unfold Chip.seal; split; · rfl
  · dsimp only; simp
@[simp] theorem Chip.seal_free (c : Chip) : (c.seal).free = c.free := by
  unfold Chip.seal; split; · rfl
  · dsimp only; simp
@[simp] theorem Chip.seal_out (c : Chip) : (c.seal).out = c.out := by
  unfold Chip.seal; split; · rfl
  · dsimp only; simp
@[simp] theorem Chip.seal_jpend (c : Chip) : (c.seal).jpend = c.jpend := by
  unfold Chip.seal; split; · rfl
  · dsimp only; simp
@[simp] theorem Chip.seal_jseq (c : Chip) : (c.seal).jseq = c.jseq := by
  unfold Chip.seal; split; · rfl
  · dsimp only; simp
@[simp] theorem Chip.seal_jhalf (c : Chip) : (c.seal).jhalf = c.jhalf := by
  unfold Chip.seal; split; · rfl
  · dsimp only; simp
@[simp] theorem Chip.seal_img (c : Chip) : (c.seal).img = c.img := by
  unfold Chip.seal; split; · rfl
  · dsimp only; simp
@[simp] theorem Chip.seal_start (c : Chip) : (c.seal).start = c.start := by
  unfold Chip.seal; split; · rfl
  · dsimp only; simp
@[simp] theorem Chip.seal_time (c : Chip) : (c.seal).time = c.time := by
  unfold Chip.seal; split; · rfl
  · dsimp only; simp
@[simp] theorem Chip.seal_mb0 (c : Chip) : (c.seal).mb0 = c.mb0 := by
  unfold Chip.seal; split; · rfl
  · dsimp only; simp
@[simp] theorem Chip.seal_mb1 (c : Chip) : (c.seal).mb1 = c.mb1 := by
  unfold Chip.seal; split; · rfl
  · dsimp only; simp
@[simp] theorem Chip.seal_denTime (c : Chip) : (c.seal).denTime = c.denTime := by
  unfold Chip.seal; split; · rfl
  · dsimp only; simp
@[simp] theorem Chip.seal_dbg (c : Chip) : (c.seal).dbg = c.dbg := by
  unfold Chip.seal; split; · rfl
  · dsimp only; simp
@[simp] theorem Chip.seal_tele (c : Chip) : (c.seal).tele = c.tele := by
  unfold Chip.seal; split; · rfl
  · dsimp only; simp
@[simp] theorem Chip.seal_keys (c : Chip) : (c.seal).keys = c.keys := by
  unfold Chip.seal; split; · rfl
  · dsimp only; simp
@[simp] theorem Chip.seal_pke (c : Chip) : (c.seal).pke = c.pke := by
  unfold Chip.seal; split; · rfl
  · dsimp only; simp
@[simp] theorem Chip.seal_vault (c : Chip) : (c.seal).vault = c.vault := by
  unfold Chip.seal; split; · rfl
  · dsimp only; simp
@[simp] theorem Chip.seal_cycle (c : Chip) : (c.seal).cycle = c.cycle := by
  unfold Chip.seal; split; · rfl
  · dsimp only; simp
@[simp] theorem Chip.seal_data (c : Chip) : (c.seal).data = c.data := by
  unfold Chip.seal; split; · rfl
  · dsimp only; simp
@[simp] theorem Chip.seal_pm (c : Chip) : (c.seal).pm = c.pm := by
  unfold Chip.seal; split; · rfl
  · dsimp only; simp
@[simp] theorem Chip.seal_health (c : Chip) : (c.seal).health = c.health := by
  unfold Chip.seal; split; · rfl
  · dsimp only; simp
@[simp] theorem Chip.seal_reached (c : Chip) : (c.seal).reached = c.reached := by
  unfold Chip.seal; split; · rfl
  · dsimp only; simp
@[simp] theorem Chip.seal_ao_cell (c : Chip) : (c.seal).ao.cell = c.ao.cell := by
  unfold Chip.seal; split; · rfl
  · dsimp only; simp
@[simp] theorem Chip.seal_ao_share (c : Chip) : (c.seal).ao.share = c.ao.share := by
  unfold Chip.seal; split; · rfl
  · dsimp only; simp
@[simp] theorem Chip.seal_ao_erasedN (c : Chip) : (c.seal).ao.erasedN = c.ao.erasedN := by
  unfold Chip.seal; split; · rfl
  · dsimp only; simp
@[simp] theorem Chip.seal_ao_rtc (c : Chip) : (c.seal).ao.rtc = c.ao.rtc := by
  unfold Chip.seal; split; · rfl
  · dsimp only; simp
@[simp] theorem Chip.seal_ao_rtcSet (c : Chip) : (c.seal).ao.rtcSet = c.ao.rtcSet := by
  unfold Chip.seal; split; · rfl
  · dsimp only; simp
@[simp] theorem Chip.seal_ao_rtcBase (c : Chip) : (c.seal).ao.rtcBase = c.ao.rtcBase := by
  unfold Chip.seal; split; · rfl
  · dsimp only; simp
@[simp] theorem Chip.seal_ao_timer (c : Chip) : (c.seal).ao.timer = c.ao.timer := by
  unfold Chip.seal; split; · rfl
  · dsimp only; simp
@[simp] theorem Chip.seal_ao_fails (c : Chip) : (c.seal).ao.fails = c.ao.fails := by
  unfold Chip.seal; split; · rfl
  · dsimp only; simp
@[simp] theorem Chip.seal_ao_failClear (c : Chip) : (c.seal).ao.failClear = c.ao.failClear := by
  unfold Chip.seal; split; · rfl
  · dsimp only; simp
@[simp] theorem Chip.seal_ao_mesh (c : Chip) : (c.seal).ao.mesh = c.ao.mesh := by
  unfold Chip.seal; split; · rfl
  · dsimp only; simp
@[simp] theorem Chip.seal_ao_cellEver (c : Chip) : (c.seal).ao.cellEver = c.ao.cellEver := by
  unfold Chip.seal; split; · rfl
  · dsimp only; simp
@[simp] theorem Chip.seal_ao_log (c : Chip) : (c.seal).ao.log = c.ao.log := by
  unfold Chip.seal; split; · rfl
  · dsimp only; simp
@[simp] theorem Chip.seal_ao_logSeq (c : Chip) : (c.seal).ao.logSeq = c.ao.logSeq := by
  unfold Chip.seal; split; · rfl
  · dsimp only; simp
@[simp] theorem Chip.seal_ao_cellLog (c : Chip) : (c.seal).ao.cellLog = c.ao.cellLog := by
  unfold Chip.seal; split; · rfl
  · dsimp only; simp
@[simp] theorem Chip.seal_ao_pinned (c : Chip) : (c.seal).ao.pinned = c.ao.pinned := by
  unfold Chip.seal; split; · rfl
  · dsimp only; simp
@[simp] theorem Chip.seal_ao_classes (c : Chip) : (c.seal).ao.classes = c.ao.classes := by
  unfold Chip.seal; split; · rfl
  · dsimp only; simp
@[simp] theorem Chip.seal_ao_armed (c : Chip) : (c.seal).ao.armed = c.ao.armed := by
  unfold Chip.seal; split; · rfl
  · dsimp only; simp
@[simp] theorem Chip.seal_ao_lockout (c : Chip) : (c.seal).ao.lockout = c.ao.lockout := by
  unfold Chip.seal; split; · rfl
  · dsimp only; simp
@[simp] theorem Chip.seal_ao_dbgFails (c : Chip) : (c.seal).ao.dbgFails = c.ao.dbgFails := by
  unfold Chip.seal; split; · rfl
  · dsimp only; simp
@[simp] theorem Chip.seal_ao_charge (c : Chip) : (c.seal).ao.charge = c.ao.charge := by
  unfold Chip.seal; split; · rfl
  · dsimp only; simp
@[simp] theorem Chip.seal_flash0_slot0 (c : Chip) : (c.seal).flash0.slot0 = c.flash0.slot0 := by
  unfold Chip.seal; split; · rfl
  · dsimp only; simp
@[simp] theorem Chip.seal_flash0_slot1 (c : Chip) : (c.seal).flash0.slot1 = c.flash0.slot1 := by
  unfold Chip.seal; split; · rfl
  · dsimp only; simp
@[simp] theorem Chip.seal_flash0_desc0 (c : Chip) : (c.seal).flash0.desc0 = c.flash0.desc0 := by
  unfold Chip.seal; split; · rfl
  · dsimp only; simp
@[simp] theorem Chip.seal_flash0_desc1 (c : Chip) : (c.seal).flash0.desc1 = c.flash0.desc1 := by
  unfold Chip.seal; split; · rfl
  · dsimp only; simp
@[simp] theorem Chip.seal_flash0_half0 (c : Chip) : (c.seal).flash0.half0 = c.flash0.half0 := by
  unfold Chip.seal; split; · rfl
  · dsimp only; simp
@[simp] theorem Chip.seal_flash0_half1 (c : Chip) : (c.seal).flash0.half1 = c.flash0.half1 := by
  unfold Chip.seal; split; · rfl
  · dsimp only; simp
@[simp] theorem Chip.seal_flash0_history (c : Chip) : (c.seal).flash0.history = c.flash0.history := by
  unfold Chip.seal; split; · rfl
  · dsimp only; simp
@[simp] theorem Chip.seal_flash0_certs (c : Chip) : (c.seal).flash0.certs = c.flash0.certs := by
  unfold Chip.seal; split; · rfl
  · dsimp only; simp
@[simp] theorem Chip.seal_flash0_flush (c : Chip) : (c.seal).flash0.flush = c.flash0.flush := by
  unfold Chip.seal; split; · rfl
  · dsimp only; simp
@[simp] theorem Chip.seal_flash0_health (c : Chip) : (c.seal).flash0.health = c.flash0.health := by
  unfold Chip.seal; split; · rfl
  · dsimp only; simp
@[simp] theorem Chip.seal_flash1_slot0 (c : Chip) : (c.seal).flash1.slot0 = c.flash1.slot0 := by
  unfold Chip.seal; split; · rfl
  · dsimp only; simp
@[simp] theorem Chip.seal_flash1_slot1 (c : Chip) : (c.seal).flash1.slot1 = c.flash1.slot1 := by
  unfold Chip.seal; split; · rfl
  · dsimp only; simp
@[simp] theorem Chip.seal_flash1_desc0 (c : Chip) : (c.seal).flash1.desc0 = c.flash1.desc0 := by
  unfold Chip.seal; split; · rfl
  · dsimp only; simp
@[simp] theorem Chip.seal_flash1_desc1 (c : Chip) : (c.seal).flash1.desc1 = c.flash1.desc1 := by
  unfold Chip.seal; split; · rfl
  · dsimp only; simp
@[simp] theorem Chip.seal_flash1_half0 (c : Chip) : (c.seal).flash1.half0 = c.flash1.half0 := by
  unfold Chip.seal; split; · rfl
  · dsimp only; simp
@[simp] theorem Chip.seal_flash1_half1 (c : Chip) : (c.seal).flash1.half1 = c.flash1.half1 := by
  unfold Chip.seal; split; · rfl
  · dsimp only; simp
@[simp] theorem Chip.seal_flash1_history (c : Chip) : (c.seal).flash1.history = c.flash1.history := by
  unfold Chip.seal; split; · rfl
  · dsimp only; simp
@[simp] theorem Chip.seal_flash1_certs (c : Chip) : (c.seal).flash1.certs = c.flash1.certs := by
  unfold Chip.seal; split; · rfl
  · dsimp only; simp
@[simp] theorem Chip.seal_flash1_flush (c : Chip) : (c.seal).flash1.flush = c.flash1.flush := by
  unfold Chip.seal; split; · rfl
  · dsimp only; simp
@[simp] theorem Chip.seal_flash1_health (c : Chip) : (c.seal).flash1.health = c.flash1.health := by
  unfold Chip.seal; split; · rfl
  · dsimp only; simp

/-! ## newRun -/

@[simp] theorem Chip.newRun_power (c : Chip) : (c.newRun).power = c.power := by
  unfold Chip.newRun; rfl
@[simp] theorem Chip.newRun_shadows (c : Chip) : (c.newRun).shadows = c.shadows := by
  unfold Chip.newRun; rfl
@[simp] theorem Chip.newRun_free (c : Chip) : (c.newRun).free = c.free := by
  unfold Chip.newRun; rfl
@[simp] theorem Chip.newRun_out (c : Chip) : (c.newRun).out = c.out := by
  unfold Chip.newRun; rfl
@[simp] theorem Chip.newRun_jpend (c : Chip) : (c.newRun).jpend = c.jpend := by
  unfold Chip.newRun; rfl
@[simp] theorem Chip.newRun_jseq (c : Chip) : (c.newRun).jseq = c.jseq := by
  unfold Chip.newRun; rfl
@[simp] theorem Chip.newRun_jhalf (c : Chip) : (c.newRun).jhalf = c.jhalf := by
  unfold Chip.newRun; rfl
@[simp] theorem Chip.newRun_img (c : Chip) : (c.newRun).img = c.img := by
  unfold Chip.newRun; rfl
@[simp] theorem Chip.newRun_start (c : Chip) : (c.newRun).start = c.start := by
  unfold Chip.newRun; rfl
@[simp] theorem Chip.newRun_time (c : Chip) : (c.newRun).time = c.time := by
  unfold Chip.newRun; rfl
@[simp] theorem Chip.newRun_mb0 (c : Chip) : (c.newRun).mb0 = c.mb0 := by
  unfold Chip.newRun; rfl
@[simp] theorem Chip.newRun_mb1 (c : Chip) : (c.newRun).mb1 = c.mb1 := by
  unfold Chip.newRun; rfl
@[simp] theorem Chip.newRun_denTime (c : Chip) : (c.newRun).denTime = c.denTime := by
  unfold Chip.newRun; rfl
@[simp] theorem Chip.newRun_dbg (c : Chip) : (c.newRun).dbg = c.dbg := by
  unfold Chip.newRun; rfl
@[simp] theorem Chip.newRun_tele (c : Chip) : (c.newRun).tele = c.tele := by
  unfold Chip.newRun; rfl
@[simp] theorem Chip.newRun_keys (c : Chip) : (c.newRun).keys = c.keys := by
  unfold Chip.newRun; rfl
@[simp] theorem Chip.newRun_pke (c : Chip) : (c.newRun).pke = c.pke := by
  unfold Chip.newRun; rfl
@[simp] theorem Chip.newRun_vault (c : Chip) : (c.newRun).vault = c.vault := by
  unfold Chip.newRun; rfl
@[simp] theorem Chip.newRun_cycle (c : Chip) : (c.newRun).cycle = c.cycle := by
  unfold Chip.newRun; rfl
@[simp] theorem Chip.newRun_data (c : Chip) : (c.newRun).data = c.data := by
  unfold Chip.newRun; rfl
@[simp] theorem Chip.newRun_pm (c : Chip) : (c.newRun).pm = c.pm := by
  unfold Chip.newRun; rfl
@[simp] theorem Chip.newRun_health (c : Chip) : (c.newRun).health = c.health := by
  unfold Chip.newRun; rfl
@[simp] theorem Chip.newRun_reached (c : Chip) : (c.newRun).reached = c.reached := by
  unfold Chip.newRun; rfl
@[simp] theorem Chip.newRun_ao_cell (c : Chip) : (c.newRun).ao.cell = c.ao.cell := by
  unfold Chip.newRun; rfl
@[simp] theorem Chip.newRun_ao_share (c : Chip) : (c.newRun).ao.share = c.ao.share := by
  unfold Chip.newRun; rfl
@[simp] theorem Chip.newRun_ao_erasedN (c : Chip) : (c.newRun).ao.erasedN = c.ao.erasedN := by
  unfold Chip.newRun; rfl
@[simp] theorem Chip.newRun_ao_rtc (c : Chip) : (c.newRun).ao.rtc = c.ao.rtc := by
  unfold Chip.newRun; rfl
@[simp] theorem Chip.newRun_ao_rtcSet (c : Chip) : (c.newRun).ao.rtcSet = c.ao.rtcSet := by
  unfold Chip.newRun; rfl
@[simp] theorem Chip.newRun_ao_rtcBase (c : Chip) : (c.newRun).ao.rtcBase = c.ao.rtcBase := by
  unfold Chip.newRun; rfl
@[simp] theorem Chip.newRun_ao_timer (c : Chip) : (c.newRun).ao.timer = c.ao.timer := by
  unfold Chip.newRun; rfl
@[simp] theorem Chip.newRun_ao_fails (c : Chip) : (c.newRun).ao.fails = c.ao.fails := by
  unfold Chip.newRun; rfl
@[simp] theorem Chip.newRun_ao_failClear (c : Chip) : (c.newRun).ao.failClear = c.ao.failClear := by
  unfold Chip.newRun; rfl
@[simp] theorem Chip.newRun_ao_mesh (c : Chip) : (c.newRun).ao.mesh = c.ao.mesh := by
  unfold Chip.newRun; rfl
@[simp] theorem Chip.newRun_ao_cellEver (c : Chip) : (c.newRun).ao.cellEver = c.ao.cellEver := by
  unfold Chip.newRun; rfl
@[simp] theorem Chip.newRun_ao_log (c : Chip) : (c.newRun).ao.log = c.ao.log := by
  unfold Chip.newRun; rfl
@[simp] theorem Chip.newRun_ao_logSeq (c : Chip) : (c.newRun).ao.logSeq = c.ao.logSeq := by
  unfold Chip.newRun; rfl
@[simp] theorem Chip.newRun_ao_cellLog (c : Chip) : (c.newRun).ao.cellLog = c.ao.cellLog := by
  unfold Chip.newRun; rfl
@[simp] theorem Chip.newRun_ao_pinned (c : Chip) : (c.newRun).ao.pinned = c.ao.pinned := by
  unfold Chip.newRun; rfl
@[simp] theorem Chip.newRun_ao_classes (c : Chip) : (c.newRun).ao.classes = c.ao.classes := by
  unfold Chip.newRun; rfl
@[simp] theorem Chip.newRun_ao_armed (c : Chip) : (c.newRun).ao.armed = c.ao.armed := by
  unfold Chip.newRun; rfl
@[simp] theorem Chip.newRun_ao_lockout (c : Chip) : (c.newRun).ao.lockout = c.ao.lockout := by
  unfold Chip.newRun; rfl
@[simp] theorem Chip.newRun_ao_dbgFails (c : Chip) : (c.newRun).ao.dbgFails = c.ao.dbgFails := by
  unfold Chip.newRun; rfl
@[simp] theorem Chip.newRun_ao_charge (c : Chip) : (c.newRun).ao.charge = c.ao.charge := by
  unfold Chip.newRun; rfl
@[simp] theorem Chip.newRun_flash0_slot0 (c : Chip) : (c.newRun).flash0.slot0 = c.flash0.slot0 := by
  unfold Chip.newRun; rfl
@[simp] theorem Chip.newRun_flash0_slot1 (c : Chip) : (c.newRun).flash0.slot1 = c.flash0.slot1 := by
  unfold Chip.newRun; rfl
@[simp] theorem Chip.newRun_flash0_desc0 (c : Chip) : (c.newRun).flash0.desc0 = c.flash0.desc0 := by
  unfold Chip.newRun; rfl
@[simp] theorem Chip.newRun_flash0_desc1 (c : Chip) : (c.newRun).flash0.desc1 = c.flash0.desc1 := by
  unfold Chip.newRun; rfl
@[simp] theorem Chip.newRun_flash0_half0 (c : Chip) : (c.newRun).flash0.half0 = c.flash0.half0 := by
  unfold Chip.newRun; rfl
@[simp] theorem Chip.newRun_flash0_half1 (c : Chip) : (c.newRun).flash0.half1 = c.flash0.half1 := by
  unfold Chip.newRun; rfl
@[simp] theorem Chip.newRun_flash0_history (c : Chip) : (c.newRun).flash0.history = c.flash0.history := by
  unfold Chip.newRun; rfl
@[simp] theorem Chip.newRun_flash0_certs (c : Chip) : (c.newRun).flash0.certs = c.flash0.certs := by
  unfold Chip.newRun; rfl
@[simp] theorem Chip.newRun_flash0_flush (c : Chip) : (c.newRun).flash0.flush = c.flash0.flush := by
  unfold Chip.newRun; rfl
@[simp] theorem Chip.newRun_flash0_health (c : Chip) : (c.newRun).flash0.health = c.flash0.health := by
  unfold Chip.newRun; rfl
@[simp] theorem Chip.newRun_flash1_slot0 (c : Chip) : (c.newRun).flash1.slot0 = c.flash1.slot0 := by
  unfold Chip.newRun; rfl
@[simp] theorem Chip.newRun_flash1_slot1 (c : Chip) : (c.newRun).flash1.slot1 = c.flash1.slot1 := by
  unfold Chip.newRun; rfl
@[simp] theorem Chip.newRun_flash1_desc0 (c : Chip) : (c.newRun).flash1.desc0 = c.flash1.desc0 := by
  unfold Chip.newRun; rfl
@[simp] theorem Chip.newRun_flash1_desc1 (c : Chip) : (c.newRun).flash1.desc1 = c.flash1.desc1 := by
  unfold Chip.newRun; rfl
@[simp] theorem Chip.newRun_flash1_half0 (c : Chip) : (c.newRun).flash1.half0 = c.flash1.half0 := by
  unfold Chip.newRun; rfl
@[simp] theorem Chip.newRun_flash1_half1 (c : Chip) : (c.newRun).flash1.half1 = c.flash1.half1 := by
  unfold Chip.newRun; rfl
@[simp] theorem Chip.newRun_flash1_history (c : Chip) : (c.newRun).flash1.history = c.flash1.history := by
  unfold Chip.newRun; rfl
@[simp] theorem Chip.newRun_flash1_certs (c : Chip) : (c.newRun).flash1.certs = c.flash1.certs := by
  unfold Chip.newRun; rfl
@[simp] theorem Chip.newRun_flash1_flush (c : Chip) : (c.newRun).flash1.flush = c.flash1.flush := by
  unfold Chip.newRun; rfl
@[simp] theorem Chip.newRun_flash1_health (c : Chip) : (c.newRun).flash1.health = c.flash1.health := by
  unfold Chip.newRun; rfl

/-! ## record -/

@[simp] theorem Chip.record_power (c : Chip) (sub ev sev unit detail : Nat) : (c.record sub ev sev unit detail).power = c.power := by
  unfold Chip.record; dsimp only; split <;> split <;> split <;> simp
@[simp] theorem Chip.record_shadows (c : Chip) (sub ev sev unit detail : Nat) : (c.record sub ev sev unit detail).shadows = c.shadows := by
  unfold Chip.record; dsimp only; split <;> split <;> split <;> simp
@[simp] theorem Chip.record_free (c : Chip) (sub ev sev unit detail : Nat) : (c.record sub ev sev unit detail).free = c.free := by
  unfold Chip.record; dsimp only; split <;> split <;> split <;> simp
@[simp] theorem Chip.record_out (c : Chip) (sub ev sev unit detail : Nat) : (c.record sub ev sev unit detail).out = c.out := by
  unfold Chip.record; dsimp only; split <;> split <;> split <;> simp
@[simp] theorem Chip.record_jpend (c : Chip) (sub ev sev unit detail : Nat) : (c.record sub ev sev unit detail).jpend = c.jpend := by
  unfold Chip.record; dsimp only; split <;> split <;> split <;> simp
@[simp] theorem Chip.record_jseq (c : Chip) (sub ev sev unit detail : Nat) : (c.record sub ev sev unit detail).jseq = c.jseq := by
  unfold Chip.record; dsimp only; split <;> split <;> split <;> simp
@[simp] theorem Chip.record_jhalf (c : Chip) (sub ev sev unit detail : Nat) : (c.record sub ev sev unit detail).jhalf = c.jhalf := by
  unfold Chip.record; dsimp only; split <;> split <;> split <;> simp
@[simp] theorem Chip.record_img (c : Chip) (sub ev sev unit detail : Nat) : (c.record sub ev sev unit detail).img = c.img := by
  unfold Chip.record; dsimp only; split <;> split <;> split <;> simp
@[simp] theorem Chip.record_start (c : Chip) (sub ev sev unit detail : Nat) : (c.record sub ev sev unit detail).start = c.start := by
  unfold Chip.record; dsimp only; split <;> split <;> split <;> simp
@[simp] theorem Chip.record_time (c : Chip) (sub ev sev unit detail : Nat) : (c.record sub ev sev unit detail).time = c.time := by
  unfold Chip.record; dsimp only; split <;> split <;> split <;> simp
@[simp] theorem Chip.record_mb0 (c : Chip) (sub ev sev unit detail : Nat) : (c.record sub ev sev unit detail).mb0 = c.mb0 := by
  unfold Chip.record; dsimp only; split <;> split <;> split <;> simp
@[simp] theorem Chip.record_mb1 (c : Chip) (sub ev sev unit detail : Nat) : (c.record sub ev sev unit detail).mb1 = c.mb1 := by
  unfold Chip.record; dsimp only; split <;> split <;> split <;> simp
@[simp] theorem Chip.record_denTime (c : Chip) (sub ev sev unit detail : Nat) : (c.record sub ev sev unit detail).denTime = c.denTime := by
  unfold Chip.record; dsimp only; split <;> split <;> split <;> simp
@[simp] theorem Chip.record_dbg (c : Chip) (sub ev sev unit detail : Nat) : (c.record sub ev sev unit detail).dbg = c.dbg := by
  unfold Chip.record; dsimp only; split <;> split <;> split <;> simp
@[simp] theorem Chip.record_tele (c : Chip) (sub ev sev unit detail : Nat) : (c.record sub ev sev unit detail).tele = c.tele := by
  unfold Chip.record; dsimp only; split <;> split <;> split <;> simp
@[simp] theorem Chip.record_keys (c : Chip) (sub ev sev unit detail : Nat) : (c.record sub ev sev unit detail).keys = c.keys := by
  unfold Chip.record; dsimp only; split <;> split <;> split <;> simp
@[simp] theorem Chip.record_pke (c : Chip) (sub ev sev unit detail : Nat) : (c.record sub ev sev unit detail).pke = c.pke := by
  unfold Chip.record; dsimp only; split <;> split <;> split <;> simp
@[simp] theorem Chip.record_vault (c : Chip) (sub ev sev unit detail : Nat) : (c.record sub ev sev unit detail).vault = c.vault := by
  unfold Chip.record; dsimp only; split <;> split <;> split <;> simp
@[simp] theorem Chip.record_cycle (c : Chip) (sub ev sev unit detail : Nat) : (c.record sub ev sev unit detail).cycle = c.cycle := by
  unfold Chip.record; dsimp only; split <;> split <;> split <;> simp
@[simp] theorem Chip.record_data (c : Chip) (sub ev sev unit detail : Nat) : (c.record sub ev sev unit detail).data = c.data := by
  unfold Chip.record; dsimp only; split <;> split <;> split <;> simp
@[simp] theorem Chip.record_pm (c : Chip) (sub ev sev unit detail : Nat) : (c.record sub ev sev unit detail).pm = c.pm := by
  unfold Chip.record; dsimp only; split <;> split <;> split <;> simp
@[simp] theorem Chip.record_health (c : Chip) (sub ev sev unit detail : Nat) : (c.record sub ev sev unit detail).health = c.health := by
  unfold Chip.record; dsimp only; split <;> split <;> split <;> simp
@[simp] theorem Chip.record_reached (c : Chip) (sub ev sev unit detail : Nat) : (c.record sub ev sev unit detail).reached = c.reached := by
  unfold Chip.record; dsimp only; split <;> split <;> split <;> simp
@[simp] theorem Chip.record_ao_cell (c : Chip) (sub ev sev unit detail : Nat) : (c.record sub ev sev unit detail).ao.cell = c.ao.cell := by
  unfold Chip.record; dsimp only; split <;> split <;> split <;> simp
@[simp] theorem Chip.record_ao_share (c : Chip) (sub ev sev unit detail : Nat) : (c.record sub ev sev unit detail).ao.share = c.ao.share := by
  unfold Chip.record; dsimp only; split <;> split <;> split <;> simp
@[simp] theorem Chip.record_ao_erasedN (c : Chip) (sub ev sev unit detail : Nat) : (c.record sub ev sev unit detail).ao.erasedN = c.ao.erasedN := by
  unfold Chip.record; dsimp only; split <;> split <;> split <;> simp
@[simp] theorem Chip.record_ao_rtc (c : Chip) (sub ev sev unit detail : Nat) : (c.record sub ev sev unit detail).ao.rtc = c.ao.rtc := by
  unfold Chip.record; dsimp only; split <;> split <;> split <;> simp
@[simp] theorem Chip.record_ao_rtcSet (c : Chip) (sub ev sev unit detail : Nat) : (c.record sub ev sev unit detail).ao.rtcSet = c.ao.rtcSet := by
  unfold Chip.record; dsimp only; split <;> split <;> split <;> simp
@[simp] theorem Chip.record_ao_rtcBase (c : Chip) (sub ev sev unit detail : Nat) : (c.record sub ev sev unit detail).ao.rtcBase = c.ao.rtcBase := by
  unfold Chip.record; dsimp only; split <;> split <;> split <;> simp
@[simp] theorem Chip.record_ao_timer (c : Chip) (sub ev sev unit detail : Nat) : (c.record sub ev sev unit detail).ao.timer = c.ao.timer := by
  unfold Chip.record; dsimp only; split <;> split <;> split <;> simp
@[simp] theorem Chip.record_ao_fails (c : Chip) (sub ev sev unit detail : Nat) : (c.record sub ev sev unit detail).ao.fails = c.ao.fails := by
  unfold Chip.record; dsimp only; split <;> split <;> split <;> simp
@[simp] theorem Chip.record_ao_failClear (c : Chip) (sub ev sev unit detail : Nat) : (c.record sub ev sev unit detail).ao.failClear = c.ao.failClear := by
  unfold Chip.record; dsimp only; split <;> split <;> split <;> simp
@[simp] theorem Chip.record_ao_mesh (c : Chip) (sub ev sev unit detail : Nat) : (c.record sub ev sev unit detail).ao.mesh = c.ao.mesh := by
  unfold Chip.record; dsimp only; split <;> split <;> split <;> simp
@[simp] theorem Chip.record_ao_cellEver (c : Chip) (sub ev sev unit detail : Nat) : (c.record sub ev sev unit detail).ao.cellEver = c.ao.cellEver := by
  unfold Chip.record; dsimp only; split <;> split <;> split <;> simp
@[simp] theorem Chip.record_ao_log (c : Chip) (sub ev sev unit detail : Nat) : (c.record sub ev sev unit detail).ao.log = c.ao.log := by
  unfold Chip.record; dsimp only; split <;> split <;> split <;> simp
@[simp] theorem Chip.record_ao_logSeq (c : Chip) (sub ev sev unit detail : Nat) : (c.record sub ev sev unit detail).ao.logSeq = c.ao.logSeq := by
  unfold Chip.record; dsimp only; split <;> split <;> split <;> simp
@[simp] theorem Chip.record_ao_cellLog (c : Chip) (sub ev sev unit detail : Nat) : (c.record sub ev sev unit detail).ao.cellLog = c.ao.cellLog := by
  unfold Chip.record; dsimp only; split <;> split <;> split <;> simp
@[simp] theorem Chip.record_ao_pinned (c : Chip) (sub ev sev unit detail : Nat) : (c.record sub ev sev unit detail).ao.pinned = c.ao.pinned := by
  unfold Chip.record; dsimp only; split <;> split <;> split <;> simp
@[simp] theorem Chip.record_ao_classes (c : Chip) (sub ev sev unit detail : Nat) : (c.record sub ev sev unit detail).ao.classes = c.ao.classes := by
  unfold Chip.record; dsimp only; split <;> split <;> split <;> simp
@[simp] theorem Chip.record_ao_armed (c : Chip) (sub ev sev unit detail : Nat) : (c.record sub ev sev unit detail).ao.armed = c.ao.armed := by
  unfold Chip.record; dsimp only; split <;> split <;> split <;> simp
@[simp] theorem Chip.record_ao_lockout (c : Chip) (sub ev sev unit detail : Nat) : (c.record sub ev sev unit detail).ao.lockout = c.ao.lockout := by
  unfold Chip.record; dsimp only; split <;> split <;> split <;> simp
@[simp] theorem Chip.record_ao_dbgFails (c : Chip) (sub ev sev unit detail : Nat) : (c.record sub ev sev unit detail).ao.dbgFails = c.ao.dbgFails := by
  unfold Chip.record; dsimp only; split <;> split <;> split <;> simp
@[simp] theorem Chip.record_ao_charge (c : Chip) (sub ev sev unit detail : Nat) : (c.record sub ev sev unit detail).ao.charge = c.ao.charge := by
  unfold Chip.record; dsimp only; split <;> split <;> split <;> simp
@[simp] theorem Chip.record_flash0_slot0 (c : Chip) (sub ev sev unit detail : Nat) : (c.record sub ev sev unit detail).flash0.slot0 = c.flash0.slot0 := by
  unfold Chip.record; dsimp only; split <;> split <;> split <;> simp
@[simp] theorem Chip.record_flash0_slot1 (c : Chip) (sub ev sev unit detail : Nat) : (c.record sub ev sev unit detail).flash0.slot1 = c.flash0.slot1 := by
  unfold Chip.record; dsimp only; split <;> split <;> split <;> simp
@[simp] theorem Chip.record_flash0_desc0 (c : Chip) (sub ev sev unit detail : Nat) : (c.record sub ev sev unit detail).flash0.desc0 = c.flash0.desc0 := by
  unfold Chip.record; dsimp only; split <;> split <;> split <;> simp
@[simp] theorem Chip.record_flash0_desc1 (c : Chip) (sub ev sev unit detail : Nat) : (c.record sub ev sev unit detail).flash0.desc1 = c.flash0.desc1 := by
  unfold Chip.record; dsimp only; split <;> split <;> split <;> simp
@[simp] theorem Chip.record_flash0_half0 (c : Chip) (sub ev sev unit detail : Nat) : (c.record sub ev sev unit detail).flash0.half0 = c.flash0.half0 := by
  unfold Chip.record; dsimp only; split <;> split <;> split <;> simp
@[simp] theorem Chip.record_flash0_half1 (c : Chip) (sub ev sev unit detail : Nat) : (c.record sub ev sev unit detail).flash0.half1 = c.flash0.half1 := by
  unfold Chip.record; dsimp only; split <;> split <;> split <;> simp
@[simp] theorem Chip.record_flash0_history (c : Chip) (sub ev sev unit detail : Nat) : (c.record sub ev sev unit detail).flash0.history = c.flash0.history := by
  unfold Chip.record; dsimp only; split <;> split <;> split <;> simp
@[simp] theorem Chip.record_flash0_certs (c : Chip) (sub ev sev unit detail : Nat) : (c.record sub ev sev unit detail).flash0.certs = c.flash0.certs := by
  unfold Chip.record; dsimp only; split <;> split <;> split <;> simp
@[simp] theorem Chip.record_flash0_flush (c : Chip) (sub ev sev unit detail : Nat) : (c.record sub ev sev unit detail).flash0.flush = c.flash0.flush := by
  unfold Chip.record; dsimp only; split <;> split <;> split <;> simp
@[simp] theorem Chip.record_flash0_health (c : Chip) (sub ev sev unit detail : Nat) : (c.record sub ev sev unit detail).flash0.health = c.flash0.health := by
  unfold Chip.record; dsimp only; split <;> split <;> split <;> simp
@[simp] theorem Chip.record_flash1_slot0 (c : Chip) (sub ev sev unit detail : Nat) : (c.record sub ev sev unit detail).flash1.slot0 = c.flash1.slot0 := by
  unfold Chip.record; dsimp only; split <;> split <;> split <;> simp
@[simp] theorem Chip.record_flash1_slot1 (c : Chip) (sub ev sev unit detail : Nat) : (c.record sub ev sev unit detail).flash1.slot1 = c.flash1.slot1 := by
  unfold Chip.record; dsimp only; split <;> split <;> split <;> simp
@[simp] theorem Chip.record_flash1_desc0 (c : Chip) (sub ev sev unit detail : Nat) : (c.record sub ev sev unit detail).flash1.desc0 = c.flash1.desc0 := by
  unfold Chip.record; dsimp only; split <;> split <;> split <;> simp
@[simp] theorem Chip.record_flash1_desc1 (c : Chip) (sub ev sev unit detail : Nat) : (c.record sub ev sev unit detail).flash1.desc1 = c.flash1.desc1 := by
  unfold Chip.record; dsimp only; split <;> split <;> split <;> simp
@[simp] theorem Chip.record_flash1_half0 (c : Chip) (sub ev sev unit detail : Nat) : (c.record sub ev sev unit detail).flash1.half0 = c.flash1.half0 := by
  unfold Chip.record; dsimp only; split <;> split <;> split <;> simp
@[simp] theorem Chip.record_flash1_half1 (c : Chip) (sub ev sev unit detail : Nat) : (c.record sub ev sev unit detail).flash1.half1 = c.flash1.half1 := by
  unfold Chip.record; dsimp only; split <;> split <;> split <;> simp
@[simp] theorem Chip.record_flash1_history (c : Chip) (sub ev sev unit detail : Nat) : (c.record sub ev sev unit detail).flash1.history = c.flash1.history := by
  unfold Chip.record; dsimp only; split <;> split <;> split <;> simp
@[simp] theorem Chip.record_flash1_certs (c : Chip) (sub ev sev unit detail : Nat) : (c.record sub ev sev unit detail).flash1.certs = c.flash1.certs := by
  unfold Chip.record; dsimp only; split <;> split <;> split <;> simp
@[simp] theorem Chip.record_flash1_flush (c : Chip) (sub ev sev unit detail : Nat) : (c.record sub ev sev unit detail).flash1.flush = c.flash1.flush := by
  unfold Chip.record; dsimp only; split <;> split <;> split <;> simp
@[simp] theorem Chip.record_flash1_health (c : Chip) (sub ev sev unit detail : Nat) : (c.record sub ev sev unit detail).flash1.health = c.flash1.health := by
  unfold Chip.record; dsimp only; split <;> split <;> split <;> simp

/-! ## alert -/

@[simp] theorem Chip.alert_power (c : Chip) (sub ev unit detail : Nat) : (c.alert sub ev unit detail).power = c.power := by
  simp [Chip.alert]
@[simp] theorem Chip.alert_shadows (c : Chip) (sub ev unit detail : Nat) : (c.alert sub ev unit detail).shadows = c.shadows := by
  simp [Chip.alert]
@[simp] theorem Chip.alert_free (c : Chip) (sub ev unit detail : Nat) : (c.alert sub ev unit detail).free = c.free := by
  simp [Chip.alert]
@[simp] theorem Chip.alert_out (c : Chip) (sub ev unit detail : Nat) : (c.alert sub ev unit detail).out = c.out := by
  simp [Chip.alert]
@[simp] theorem Chip.alert_jpend (c : Chip) (sub ev unit detail : Nat) : (c.alert sub ev unit detail).jpend = c.jpend := by
  simp [Chip.alert]
@[simp] theorem Chip.alert_jseq (c : Chip) (sub ev unit detail : Nat) : (c.alert sub ev unit detail).jseq = c.jseq := by
  simp [Chip.alert]
@[simp] theorem Chip.alert_jhalf (c : Chip) (sub ev unit detail : Nat) : (c.alert sub ev unit detail).jhalf = c.jhalf := by
  simp [Chip.alert]
@[simp] theorem Chip.alert_img (c : Chip) (sub ev unit detail : Nat) : (c.alert sub ev unit detail).img = c.img := by
  simp [Chip.alert]
@[simp] theorem Chip.alert_start (c : Chip) (sub ev unit detail : Nat) : (c.alert sub ev unit detail).start = c.start := by
  simp [Chip.alert]
@[simp] theorem Chip.alert_time (c : Chip) (sub ev unit detail : Nat) : (c.alert sub ev unit detail).time = c.time := by
  simp [Chip.alert]
@[simp] theorem Chip.alert_mb0 (c : Chip) (sub ev unit detail : Nat) : (c.alert sub ev unit detail).mb0 = c.mb0 := by
  simp [Chip.alert]
@[simp] theorem Chip.alert_mb1 (c : Chip) (sub ev unit detail : Nat) : (c.alert sub ev unit detail).mb1 = c.mb1 := by
  simp [Chip.alert]
@[simp] theorem Chip.alert_denTime (c : Chip) (sub ev unit detail : Nat) : (c.alert sub ev unit detail).denTime = c.denTime := by
  simp [Chip.alert]
@[simp] theorem Chip.alert_dbg (c : Chip) (sub ev unit detail : Nat) : (c.alert sub ev unit detail).dbg = c.dbg := by
  simp [Chip.alert]
@[simp] theorem Chip.alert_tele (c : Chip) (sub ev unit detail : Nat) : (c.alert sub ev unit detail).tele = c.tele := by
  simp [Chip.alert]
@[simp] theorem Chip.alert_keys (c : Chip) (sub ev unit detail : Nat) : (c.alert sub ev unit detail).keys = c.keys := by
  simp [Chip.alert]
@[simp] theorem Chip.alert_pke (c : Chip) (sub ev unit detail : Nat) : (c.alert sub ev unit detail).pke = c.pke := by
  simp [Chip.alert]
@[simp] theorem Chip.alert_vault (c : Chip) (sub ev unit detail : Nat) : (c.alert sub ev unit detail).vault = c.vault := by
  simp [Chip.alert]
@[simp] theorem Chip.alert_cycle (c : Chip) (sub ev unit detail : Nat) : (c.alert sub ev unit detail).cycle = c.cycle := by
  simp [Chip.alert]
@[simp] theorem Chip.alert_data (c : Chip) (sub ev unit detail : Nat) : (c.alert sub ev unit detail).data = c.data := by
  simp [Chip.alert]
@[simp] theorem Chip.alert_pm (c : Chip) (sub ev unit detail : Nat) : (c.alert sub ev unit detail).pm = c.pm := by
  simp [Chip.alert]
@[simp] theorem Chip.alert_health (c : Chip) (sub ev unit detail : Nat) : (c.alert sub ev unit detail).health = c.health := by
  simp [Chip.alert]
@[simp] theorem Chip.alert_reached (c : Chip) (sub ev unit detail : Nat) : (c.alert sub ev unit detail).reached = c.reached := by
  simp [Chip.alert]
@[simp] theorem Chip.alert_ao_cell (c : Chip) (sub ev unit detail : Nat) : (c.alert sub ev unit detail).ao.cell = c.ao.cell := by
  simp [Chip.alert]
@[simp] theorem Chip.alert_ao_share (c : Chip) (sub ev unit detail : Nat) : (c.alert sub ev unit detail).ao.share = c.ao.share := by
  simp [Chip.alert]
@[simp] theorem Chip.alert_ao_erasedN (c : Chip) (sub ev unit detail : Nat) : (c.alert sub ev unit detail).ao.erasedN = c.ao.erasedN := by
  simp [Chip.alert]
@[simp] theorem Chip.alert_ao_rtc (c : Chip) (sub ev unit detail : Nat) : (c.alert sub ev unit detail).ao.rtc = c.ao.rtc := by
  simp [Chip.alert]
@[simp] theorem Chip.alert_ao_rtcSet (c : Chip) (sub ev unit detail : Nat) : (c.alert sub ev unit detail).ao.rtcSet = c.ao.rtcSet := by
  simp [Chip.alert]
@[simp] theorem Chip.alert_ao_rtcBase (c : Chip) (sub ev unit detail : Nat) : (c.alert sub ev unit detail).ao.rtcBase = c.ao.rtcBase := by
  simp [Chip.alert]
@[simp] theorem Chip.alert_ao_timer (c : Chip) (sub ev unit detail : Nat) : (c.alert sub ev unit detail).ao.timer = c.ao.timer := by
  simp [Chip.alert]
@[simp] theorem Chip.alert_ao_fails (c : Chip) (sub ev unit detail : Nat) : (c.alert sub ev unit detail).ao.fails = c.ao.fails := by
  simp [Chip.alert]
@[simp] theorem Chip.alert_ao_failClear (c : Chip) (sub ev unit detail : Nat) : (c.alert sub ev unit detail).ao.failClear = c.ao.failClear := by
  simp [Chip.alert]
@[simp] theorem Chip.alert_ao_mesh (c : Chip) (sub ev unit detail : Nat) : (c.alert sub ev unit detail).ao.mesh = c.ao.mesh := by
  simp [Chip.alert]
@[simp] theorem Chip.alert_ao_cellEver (c : Chip) (sub ev unit detail : Nat) : (c.alert sub ev unit detail).ao.cellEver = c.ao.cellEver := by
  simp [Chip.alert]
@[simp] theorem Chip.alert_ao_log (c : Chip) (sub ev unit detail : Nat) : (c.alert sub ev unit detail).ao.log = c.ao.log := by
  simp [Chip.alert]
@[simp] theorem Chip.alert_ao_logSeq (c : Chip) (sub ev unit detail : Nat) : (c.alert sub ev unit detail).ao.logSeq = c.ao.logSeq := by
  simp [Chip.alert]
@[simp] theorem Chip.alert_ao_cellLog (c : Chip) (sub ev unit detail : Nat) : (c.alert sub ev unit detail).ao.cellLog = c.ao.cellLog := by
  simp [Chip.alert]
@[simp] theorem Chip.alert_ao_pinned (c : Chip) (sub ev unit detail : Nat) : (c.alert sub ev unit detail).ao.pinned = c.ao.pinned := by
  simp [Chip.alert]
@[simp] theorem Chip.alert_ao_classes (c : Chip) (sub ev unit detail : Nat) : (c.alert sub ev unit detail).ao.classes = c.ao.classes := by
  simp [Chip.alert]
@[simp] theorem Chip.alert_ao_armed (c : Chip) (sub ev unit detail : Nat) : (c.alert sub ev unit detail).ao.armed = c.ao.armed := by
  simp [Chip.alert]
@[simp] theorem Chip.alert_ao_lockout (c : Chip) (sub ev unit detail : Nat) : (c.alert sub ev unit detail).ao.lockout = c.ao.lockout := by
  simp [Chip.alert]
@[simp] theorem Chip.alert_ao_dbgFails (c : Chip) (sub ev unit detail : Nat) : (c.alert sub ev unit detail).ao.dbgFails = c.ao.dbgFails := by
  simp [Chip.alert]
@[simp] theorem Chip.alert_ao_charge (c : Chip) (sub ev unit detail : Nat) : (c.alert sub ev unit detail).ao.charge = c.ao.charge := by
  simp [Chip.alert]
@[simp] theorem Chip.alert_flash0_slot0 (c : Chip) (sub ev unit detail : Nat) : (c.alert sub ev unit detail).flash0.slot0 = c.flash0.slot0 := by
  simp [Chip.alert]
@[simp] theorem Chip.alert_flash0_slot1 (c : Chip) (sub ev unit detail : Nat) : (c.alert sub ev unit detail).flash0.slot1 = c.flash0.slot1 := by
  simp [Chip.alert]
@[simp] theorem Chip.alert_flash0_desc0 (c : Chip) (sub ev unit detail : Nat) : (c.alert sub ev unit detail).flash0.desc0 = c.flash0.desc0 := by
  simp [Chip.alert]
@[simp] theorem Chip.alert_flash0_desc1 (c : Chip) (sub ev unit detail : Nat) : (c.alert sub ev unit detail).flash0.desc1 = c.flash0.desc1 := by
  simp [Chip.alert]
@[simp] theorem Chip.alert_flash0_half0 (c : Chip) (sub ev unit detail : Nat) : (c.alert sub ev unit detail).flash0.half0 = c.flash0.half0 := by
  simp [Chip.alert]
@[simp] theorem Chip.alert_flash0_half1 (c : Chip) (sub ev unit detail : Nat) : (c.alert sub ev unit detail).flash0.half1 = c.flash0.half1 := by
  simp [Chip.alert]
@[simp] theorem Chip.alert_flash0_history (c : Chip) (sub ev unit detail : Nat) : (c.alert sub ev unit detail).flash0.history = c.flash0.history := by
  simp [Chip.alert]
@[simp] theorem Chip.alert_flash0_certs (c : Chip) (sub ev unit detail : Nat) : (c.alert sub ev unit detail).flash0.certs = c.flash0.certs := by
  simp [Chip.alert]
@[simp] theorem Chip.alert_flash0_flush (c : Chip) (sub ev unit detail : Nat) : (c.alert sub ev unit detail).flash0.flush = c.flash0.flush := by
  simp [Chip.alert]
@[simp] theorem Chip.alert_flash0_health (c : Chip) (sub ev unit detail : Nat) : (c.alert sub ev unit detail).flash0.health = c.flash0.health := by
  simp [Chip.alert]
@[simp] theorem Chip.alert_flash1_slot0 (c : Chip) (sub ev unit detail : Nat) : (c.alert sub ev unit detail).flash1.slot0 = c.flash1.slot0 := by
  simp [Chip.alert]
@[simp] theorem Chip.alert_flash1_slot1 (c : Chip) (sub ev unit detail : Nat) : (c.alert sub ev unit detail).flash1.slot1 = c.flash1.slot1 := by
  simp [Chip.alert]
@[simp] theorem Chip.alert_flash1_desc0 (c : Chip) (sub ev unit detail : Nat) : (c.alert sub ev unit detail).flash1.desc0 = c.flash1.desc0 := by
  simp [Chip.alert]
@[simp] theorem Chip.alert_flash1_desc1 (c : Chip) (sub ev unit detail : Nat) : (c.alert sub ev unit detail).flash1.desc1 = c.flash1.desc1 := by
  simp [Chip.alert]
@[simp] theorem Chip.alert_flash1_half0 (c : Chip) (sub ev unit detail : Nat) : (c.alert sub ev unit detail).flash1.half0 = c.flash1.half0 := by
  simp [Chip.alert]
@[simp] theorem Chip.alert_flash1_half1 (c : Chip) (sub ev unit detail : Nat) : (c.alert sub ev unit detail).flash1.half1 = c.flash1.half1 := by
  simp [Chip.alert]
@[simp] theorem Chip.alert_flash1_history (c : Chip) (sub ev unit detail : Nat) : (c.alert sub ev unit detail).flash1.history = c.flash1.history := by
  simp [Chip.alert]
@[simp] theorem Chip.alert_flash1_certs (c : Chip) (sub ev unit detail : Nat) : (c.alert sub ev unit detail).flash1.certs = c.flash1.certs := by
  simp [Chip.alert]
@[simp] theorem Chip.alert_flash1_flush (c : Chip) (sub ev unit detail : Nat) : (c.alert sub ev unit detail).flash1.flush = c.flash1.flush := by
  simp [Chip.alert]
@[simp] theorem Chip.alert_flash1_health (c : Chip) (sub ev unit detail : Nat) : (c.alert sub ev unit detail).flash1.health = c.flash1.health := by
  simp [Chip.alert]

/-! ## alertAs -/

@[simp] theorem Chip.alertAs_power (c : Chip) (cls sub ev unit detail : Nat) : (c.alertAs cls sub ev unit detail).power = c.power := by
  simp [Chip.alertAs]
@[simp] theorem Chip.alertAs_shadows (c : Chip) (cls sub ev unit detail : Nat) : (c.alertAs cls sub ev unit detail).shadows = c.shadows := by
  simp [Chip.alertAs]
@[simp] theorem Chip.alertAs_free (c : Chip) (cls sub ev unit detail : Nat) : (c.alertAs cls sub ev unit detail).free = c.free := by
  simp [Chip.alertAs]
@[simp] theorem Chip.alertAs_out (c : Chip) (cls sub ev unit detail : Nat) : (c.alertAs cls sub ev unit detail).out = c.out := by
  simp [Chip.alertAs]
@[simp] theorem Chip.alertAs_jpend (c : Chip) (cls sub ev unit detail : Nat) : (c.alertAs cls sub ev unit detail).jpend = c.jpend := by
  simp [Chip.alertAs]
@[simp] theorem Chip.alertAs_jseq (c : Chip) (cls sub ev unit detail : Nat) : (c.alertAs cls sub ev unit detail).jseq = c.jseq := by
  simp [Chip.alertAs]
@[simp] theorem Chip.alertAs_jhalf (c : Chip) (cls sub ev unit detail : Nat) : (c.alertAs cls sub ev unit detail).jhalf = c.jhalf := by
  simp [Chip.alertAs]
@[simp] theorem Chip.alertAs_img (c : Chip) (cls sub ev unit detail : Nat) : (c.alertAs cls sub ev unit detail).img = c.img := by
  simp [Chip.alertAs]
@[simp] theorem Chip.alertAs_start (c : Chip) (cls sub ev unit detail : Nat) : (c.alertAs cls sub ev unit detail).start = c.start := by
  simp [Chip.alertAs]
@[simp] theorem Chip.alertAs_time (c : Chip) (cls sub ev unit detail : Nat) : (c.alertAs cls sub ev unit detail).time = c.time := by
  simp [Chip.alertAs]
@[simp] theorem Chip.alertAs_mb0 (c : Chip) (cls sub ev unit detail : Nat) : (c.alertAs cls sub ev unit detail).mb0 = c.mb0 := by
  simp [Chip.alertAs]
@[simp] theorem Chip.alertAs_mb1 (c : Chip) (cls sub ev unit detail : Nat) : (c.alertAs cls sub ev unit detail).mb1 = c.mb1 := by
  simp [Chip.alertAs]
@[simp] theorem Chip.alertAs_denTime (c : Chip) (cls sub ev unit detail : Nat) : (c.alertAs cls sub ev unit detail).denTime = c.denTime := by
  simp [Chip.alertAs]
@[simp] theorem Chip.alertAs_dbg (c : Chip) (cls sub ev unit detail : Nat) : (c.alertAs cls sub ev unit detail).dbg = c.dbg := by
  simp [Chip.alertAs]
@[simp] theorem Chip.alertAs_tele (c : Chip) (cls sub ev unit detail : Nat) : (c.alertAs cls sub ev unit detail).tele = c.tele := by
  simp [Chip.alertAs]
@[simp] theorem Chip.alertAs_keys (c : Chip) (cls sub ev unit detail : Nat) : (c.alertAs cls sub ev unit detail).keys = c.keys := by
  simp [Chip.alertAs]
@[simp] theorem Chip.alertAs_pke (c : Chip) (cls sub ev unit detail : Nat) : (c.alertAs cls sub ev unit detail).pke = c.pke := by
  simp [Chip.alertAs]
@[simp] theorem Chip.alertAs_vault (c : Chip) (cls sub ev unit detail : Nat) : (c.alertAs cls sub ev unit detail).vault = c.vault := by
  simp [Chip.alertAs]
@[simp] theorem Chip.alertAs_cycle (c : Chip) (cls sub ev unit detail : Nat) : (c.alertAs cls sub ev unit detail).cycle = c.cycle := by
  simp [Chip.alertAs]
@[simp] theorem Chip.alertAs_data (c : Chip) (cls sub ev unit detail : Nat) : (c.alertAs cls sub ev unit detail).data = c.data := by
  simp [Chip.alertAs]
@[simp] theorem Chip.alertAs_pm (c : Chip) (cls sub ev unit detail : Nat) : (c.alertAs cls sub ev unit detail).pm = c.pm := by
  simp [Chip.alertAs]
@[simp] theorem Chip.alertAs_health (c : Chip) (cls sub ev unit detail : Nat) : (c.alertAs cls sub ev unit detail).health = c.health := by
  simp [Chip.alertAs]
@[simp] theorem Chip.alertAs_reached (c : Chip) (cls sub ev unit detail : Nat) : (c.alertAs cls sub ev unit detail).reached = c.reached := by
  simp [Chip.alertAs]
@[simp] theorem Chip.alertAs_ao_cell (c : Chip) (cls sub ev unit detail : Nat) : (c.alertAs cls sub ev unit detail).ao.cell = c.ao.cell := by
  simp [Chip.alertAs]
@[simp] theorem Chip.alertAs_ao_share (c : Chip) (cls sub ev unit detail : Nat) : (c.alertAs cls sub ev unit detail).ao.share = c.ao.share := by
  simp [Chip.alertAs]
@[simp] theorem Chip.alertAs_ao_erasedN (c : Chip) (cls sub ev unit detail : Nat) : (c.alertAs cls sub ev unit detail).ao.erasedN = c.ao.erasedN := by
  simp [Chip.alertAs]
@[simp] theorem Chip.alertAs_ao_rtc (c : Chip) (cls sub ev unit detail : Nat) : (c.alertAs cls sub ev unit detail).ao.rtc = c.ao.rtc := by
  simp [Chip.alertAs]
@[simp] theorem Chip.alertAs_ao_rtcSet (c : Chip) (cls sub ev unit detail : Nat) : (c.alertAs cls sub ev unit detail).ao.rtcSet = c.ao.rtcSet := by
  simp [Chip.alertAs]
@[simp] theorem Chip.alertAs_ao_rtcBase (c : Chip) (cls sub ev unit detail : Nat) : (c.alertAs cls sub ev unit detail).ao.rtcBase = c.ao.rtcBase := by
  simp [Chip.alertAs]
@[simp] theorem Chip.alertAs_ao_timer (c : Chip) (cls sub ev unit detail : Nat) : (c.alertAs cls sub ev unit detail).ao.timer = c.ao.timer := by
  simp [Chip.alertAs]
@[simp] theorem Chip.alertAs_ao_fails (c : Chip) (cls sub ev unit detail : Nat) : (c.alertAs cls sub ev unit detail).ao.fails = c.ao.fails := by
  simp [Chip.alertAs]
@[simp] theorem Chip.alertAs_ao_failClear (c : Chip) (cls sub ev unit detail : Nat) : (c.alertAs cls sub ev unit detail).ao.failClear = c.ao.failClear := by
  simp [Chip.alertAs]
@[simp] theorem Chip.alertAs_ao_mesh (c : Chip) (cls sub ev unit detail : Nat) : (c.alertAs cls sub ev unit detail).ao.mesh = c.ao.mesh := by
  simp [Chip.alertAs]
@[simp] theorem Chip.alertAs_ao_cellEver (c : Chip) (cls sub ev unit detail : Nat) : (c.alertAs cls sub ev unit detail).ao.cellEver = c.ao.cellEver := by
  simp [Chip.alertAs]
@[simp] theorem Chip.alertAs_ao_log (c : Chip) (cls sub ev unit detail : Nat) : (c.alertAs cls sub ev unit detail).ao.log = c.ao.log := by
  simp [Chip.alertAs]
@[simp] theorem Chip.alertAs_ao_logSeq (c : Chip) (cls sub ev unit detail : Nat) : (c.alertAs cls sub ev unit detail).ao.logSeq = c.ao.logSeq := by
  simp [Chip.alertAs]
@[simp] theorem Chip.alertAs_ao_cellLog (c : Chip) (cls sub ev unit detail : Nat) : (c.alertAs cls sub ev unit detail).ao.cellLog = c.ao.cellLog := by
  simp [Chip.alertAs]
@[simp] theorem Chip.alertAs_ao_pinned (c : Chip) (cls sub ev unit detail : Nat) : (c.alertAs cls sub ev unit detail).ao.pinned = c.ao.pinned := by
  simp [Chip.alertAs]
@[simp] theorem Chip.alertAs_ao_classes (c : Chip) (cls sub ev unit detail : Nat) : (c.alertAs cls sub ev unit detail).ao.classes = c.ao.classes := by
  simp [Chip.alertAs]
@[simp] theorem Chip.alertAs_ao_armed (c : Chip) (cls sub ev unit detail : Nat) : (c.alertAs cls sub ev unit detail).ao.armed = c.ao.armed := by
  simp [Chip.alertAs]
@[simp] theorem Chip.alertAs_ao_lockout (c : Chip) (cls sub ev unit detail : Nat) : (c.alertAs cls sub ev unit detail).ao.lockout = c.ao.lockout := by
  simp [Chip.alertAs]
@[simp] theorem Chip.alertAs_ao_dbgFails (c : Chip) (cls sub ev unit detail : Nat) : (c.alertAs cls sub ev unit detail).ao.dbgFails = c.ao.dbgFails := by
  simp [Chip.alertAs]
@[simp] theorem Chip.alertAs_ao_charge (c : Chip) (cls sub ev unit detail : Nat) : (c.alertAs cls sub ev unit detail).ao.charge = c.ao.charge := by
  simp [Chip.alertAs]
@[simp] theorem Chip.alertAs_flash0_slot0 (c : Chip) (cls sub ev unit detail : Nat) : (c.alertAs cls sub ev unit detail).flash0.slot0 = c.flash0.slot0 := by
  simp [Chip.alertAs]
@[simp] theorem Chip.alertAs_flash0_slot1 (c : Chip) (cls sub ev unit detail : Nat) : (c.alertAs cls sub ev unit detail).flash0.slot1 = c.flash0.slot1 := by
  simp [Chip.alertAs]
@[simp] theorem Chip.alertAs_flash0_desc0 (c : Chip) (cls sub ev unit detail : Nat) : (c.alertAs cls sub ev unit detail).flash0.desc0 = c.flash0.desc0 := by
  simp [Chip.alertAs]
@[simp] theorem Chip.alertAs_flash0_desc1 (c : Chip) (cls sub ev unit detail : Nat) : (c.alertAs cls sub ev unit detail).flash0.desc1 = c.flash0.desc1 := by
  simp [Chip.alertAs]
@[simp] theorem Chip.alertAs_flash0_half0 (c : Chip) (cls sub ev unit detail : Nat) : (c.alertAs cls sub ev unit detail).flash0.half0 = c.flash0.half0 := by
  simp [Chip.alertAs]
@[simp] theorem Chip.alertAs_flash0_half1 (c : Chip) (cls sub ev unit detail : Nat) : (c.alertAs cls sub ev unit detail).flash0.half1 = c.flash0.half1 := by
  simp [Chip.alertAs]
@[simp] theorem Chip.alertAs_flash0_history (c : Chip) (cls sub ev unit detail : Nat) : (c.alertAs cls sub ev unit detail).flash0.history = c.flash0.history := by
  simp [Chip.alertAs]
@[simp] theorem Chip.alertAs_flash0_certs (c : Chip) (cls sub ev unit detail : Nat) : (c.alertAs cls sub ev unit detail).flash0.certs = c.flash0.certs := by
  simp [Chip.alertAs]
@[simp] theorem Chip.alertAs_flash0_flush (c : Chip) (cls sub ev unit detail : Nat) : (c.alertAs cls sub ev unit detail).flash0.flush = c.flash0.flush := by
  simp [Chip.alertAs]
@[simp] theorem Chip.alertAs_flash0_health (c : Chip) (cls sub ev unit detail : Nat) : (c.alertAs cls sub ev unit detail).flash0.health = c.flash0.health := by
  simp [Chip.alertAs]
@[simp] theorem Chip.alertAs_flash1_slot0 (c : Chip) (cls sub ev unit detail : Nat) : (c.alertAs cls sub ev unit detail).flash1.slot0 = c.flash1.slot0 := by
  simp [Chip.alertAs]
@[simp] theorem Chip.alertAs_flash1_slot1 (c : Chip) (cls sub ev unit detail : Nat) : (c.alertAs cls sub ev unit detail).flash1.slot1 = c.flash1.slot1 := by
  simp [Chip.alertAs]
@[simp] theorem Chip.alertAs_flash1_desc0 (c : Chip) (cls sub ev unit detail : Nat) : (c.alertAs cls sub ev unit detail).flash1.desc0 = c.flash1.desc0 := by
  simp [Chip.alertAs]
@[simp] theorem Chip.alertAs_flash1_desc1 (c : Chip) (cls sub ev unit detail : Nat) : (c.alertAs cls sub ev unit detail).flash1.desc1 = c.flash1.desc1 := by
  simp [Chip.alertAs]
@[simp] theorem Chip.alertAs_flash1_half0 (c : Chip) (cls sub ev unit detail : Nat) : (c.alertAs cls sub ev unit detail).flash1.half0 = c.flash1.half0 := by
  simp [Chip.alertAs]
@[simp] theorem Chip.alertAs_flash1_half1 (c : Chip) (cls sub ev unit detail : Nat) : (c.alertAs cls sub ev unit detail).flash1.half1 = c.flash1.half1 := by
  simp [Chip.alertAs]
@[simp] theorem Chip.alertAs_flash1_history (c : Chip) (cls sub ev unit detail : Nat) : (c.alertAs cls sub ev unit detail).flash1.history = c.flash1.history := by
  simp [Chip.alertAs]
@[simp] theorem Chip.alertAs_flash1_certs (c : Chip) (cls sub ev unit detail : Nat) : (c.alertAs cls sub ev unit detail).flash1.certs = c.flash1.certs := by
  simp [Chip.alertAs]
@[simp] theorem Chip.alertAs_flash1_flush (c : Chip) (cls sub ev unit detail : Nat) : (c.alertAs cls sub ev unit detail).flash1.flush = c.flash1.flush := by
  simp [Chip.alertAs]
@[simp] theorem Chip.alertAs_flash1_health (c : Chip) (cls sub ev unit detail : Nat) : (c.alertAs cls sub ev unit detail).flash1.health = c.flash1.health := by
  simp [Chip.alertAs]

/-! ## Words -/

theorem Chip.attn_word (c : Chip) (cls a : Nat) (h : a ≠ R.HST_ATTN) : (c.attn cls).word a = c.word a := by
  unfold Chip.attn
  dsimp only
  split
  · rw [Chip.word_wr_other _ _ _ _ h, Chip.word_wr_other _ _ _ _ h, Chip.word_wr_other _ _ _ _ h]
  · rw [Chip.word_wr_other _ _ _ _ h, Chip.word_wr_other _ _ _ _ h]

theorem Chip.storeRec_word (c : Chip) (r : Bytes) (a : Nat) (h : a ∉ recWords) : (c.storeRec r).word a = c.word a := by
  have h1 : a ≠ R.MGT_REC_STATUS := fun e => h (by simp [recWords, e])
  have h2 : a ≠ R.MGT_REC_LOST := fun e => h (by simp [recWords, e])
  unfold Chip.storeRec
  dsimp only
  split
  · rw [Chip.word_wr_other _ _ _ _ h1]; rfl
  · split
    · rfl
    · rw [Chip.word_bump_other _ _ _ h2]; rfl

theorem Chip.seal_word (c : Chip) (a : Nat) (h : a ∉ recWords) : c.seal.word a = c.word a := by
  unfold Chip.seal
  split
  · rfl
  · exact Chip.storeRec_word _ _ _ h

theorem Chip.newRun_word (c : Chip) (a : Nat) (h : a ∉ recWords) : c.newRun.word a = c.word a := by
  have h1 : a ≠ R.MGT_REC_RUN := fun e => h (by simp [recWords, e])
  have h2 : a ≠ R.MGT_REC_SEQ := fun e => h (by simp [recWords, e])
  unfold Chip.newRun
  dsimp only
  rw [Chip.word_setWord_other _ _ _ _ h2, Chip.word_setWord_other _ _ _ _ h1]
  rfl

theorem Chip.record_word (c : Chip) (sub ev sev unit detail a : Nat) (h : a ∉ recWords) :
    (c.record sub ev sev unit detail).word a = c.word a := by
  have h1 : a ≠ R.MGT_REC_SEQ := fun e => h (by simp [recWords, e])
  have h2 : a ≠ R.HST_ATTN := fun e => h (by simp [recWords, e])
  have base : ∀ (d : Chip) (x : Recorder), ({ d with cow := x } : Chip).word a = d.word a := fun _ _ => rfl
  unfold Chip.record
  dsimp only
  split <;> split <;> split <;>
    simp only [Chip.attn_word _ _ _ h2, Chip.newRun_word _ _ h, Chip.seal_word _ _ h, Chip.word_setWord_other _ _ _ _ h1, base,
      Chip.storeRec_word _ _ _ h]

theorem Chip.alert_word (c : Chip) (sub ev unit detail a : Nat) (h : a ∉ recWords) : (c.alert sub ev unit detail).word a = c.word a := by
  rw [Chip.alert, Chip.attn_word _ _ _ (fun e => h (by simp [recWords, e])), Chip.record_word _ _ _ _ _ _ _ h]

theorem Chip.alertAs_word (c : Chip) (cls sub ev unit detail a : Nat) (h : a ∉ recWords) :
    (c.alertAs cls sub ev unit detail).word a = c.word a := by
  rw [Chip.alertAs, Chip.attn_word _ _ _ (fun e => h (by simp [recWords, e])), Chip.record_word _ _ _ _ _ _ _ h]

/-! ## Fields -/

theorem Chip.attn_rd (c : Chip) (cls : Nat) (f : Fld) (h : f.reg ≠ R.HST_ATTN) : (c.attn cls).rd f = c.rd f := by
  rw [Chip.rd, Chip.attn_word _ _ _ h, Chip.rd]

theorem Chip.record_rd (c : Chip) (sub ev sev unit detail : Nat) (f : Fld) (h : f.reg ∉ recWords) :
    (c.record sub ev sev unit detail).rd f = c.rd f := by
  rw [Chip.rd, Chip.record_word _ _ _ _ _ _ _ h, Chip.rd]

theorem Chip.seal_rd (c : Chip) (f : Fld) (h : f.reg ∉ recWords) : c.seal.rd f = c.rd f := by
  rw [Chip.rd, Chip.seal_word _ _ h, Chip.rd]

theorem Chip.newRun_rd (c : Chip) (f : Fld) (h : f.reg ∉ recWords) : c.newRun.rd f = c.rd f := by
  rw [Chip.rd, Chip.newRun_word _ _ h, Chip.rd]

theorem Chip.alert_rd (c : Chip) (sub ev unit detail : Nat) (f : Fld) (h : f.reg ∉ recWords) :
    (c.alert sub ev unit detail).rd f = c.rd f := by
  rw [Chip.rd, Chip.alert_word _ _ _ _ _ _ h, Chip.rd]

theorem Chip.alertAs_rd (c : Chip) (cls sub ev unit detail : Nat) (f : Fld) (h : f.reg ∉ recWords) :
    (c.alertAs cls sub ev unit detail).rd f = c.rd f := by
  rw [Chip.rd, Chip.alertAs_word _ _ _ _ _ _ _ h, Chip.rd]

/-! ## What a record changes, as one relation -/

theorem Chip.noted_refl (c : Chip) (as : List Nat) : Chip.noted c c as := ⟨rfl, rfl, rfl, rfl, fun _ _ _ => rfl⟩

theorem Chip.noted_trans {a b c : Chip} {as : List Nat} (h : Chip.noted a b as) (k : Chip.noted b c as) : Chip.noted a c as := by
  obtain ⟨h1, h2, h3, h4, h5⟩ := h
  obtain ⟨k1, k2, k3, k4, k5⟩ := k
  refine ⟨?_, ?_, ?_, ?_, fun x hx hr => (k5 x hx hr).trans (h5 x hx hr)⟩
  · cases a; cases b; cases c
    simp only [Chip.mk.injEq] at h1 k1 ⊢
    simp_all
  · revert h2 k2
    generalize a.ao = x; generalize b.ao = y; generalize c.ao = z
    intro h k
    cases x; cases y; cases z
    simp only [AlwaysOn.mk.injEq] at h k ⊢
    simp_all
  · revert h3 k3
    generalize a.flash0 = x; generalize b.flash0 = y; generalize c.flash0 = z
    intro h k
    cases x; cases y; cases z
    simp only [Flash.mk.injEq] at h k ⊢
    simp_all
  · revert h4 k4
    generalize a.flash1 = x; generalize b.flash1 = y; generalize c.flash1 = z
    intro h k
    cases x; cases y; cases z
    simp only [Flash.mk.injEq] at h k ⊢
    simp_all

/-- A change of the register map within `as`. -/
theorem Chip.noted_regs {c d : Chip} {as : List Nat} (h : { d with regs := c.regs } = c) (hw : ∀ a, a ∉ as → d.word a = c.word a) :
    Chip.noted c d as := by
  refine ⟨?_, ?_, ?_, ?_, fun x hx _ => hw x hx⟩ <;> cases c <;> cases d <;> simp_all

theorem Chip.noted_wr (c : Chip) (f : Fld) (v : Nat) {as : List Nat} (h : f.reg ∈ as) : Chip.noted c (c.wr f v) as :=
  Chip.noted_regs rfl fun _ ha => Chip.word_wr_other _ _ _ _ (fun e => ha (e ▸ h))

theorem Chip.noted_setWord (c : Chip) (a : Nat) (w : W32) {as : List Nat} (h : a ∈ as) : Chip.noted c (c.setWord a w) as :=
  Chip.noted_regs rfl fun _ ha => Chip.word_setWord_other _ _ _ _ (fun e => ha (e ▸ h))

theorem Chip.noted_attn (c : Chip) (cls : Nat) (as : List Nat) : Chip.noted c (c.attn cls) as := by
  refine ⟨?_, ?_, ?_, ?_, fun a _ hr => Chip.attn_word _ _ _ (fun e => hr (by simp [recWords, e]))⟩
  · unfold Chip.attn; split <;> rfl
  all_goals simp

theorem Chip.noted_record (c : Chip) (sub ev sev unit detail : Nat) (as : List Nat) :
    Chip.noted c (c.record sub ev sev unit detail) as := by
  refine ⟨?_, ?_, ?_, ?_, fun a _ hr => Chip.record_word _ _ _ _ _ _ _ hr⟩
  · have e : ∀ x y : Chip, (x.power = y.power ∧ x.shadows = y.shadows ∧ x.free = y.free ∧ x.out = y.out ∧ x.jpend = y.jpend ∧
        x.jseq = y.jseq ∧ x.jhalf = y.jhalf ∧ x.img = y.img ∧ x.start = y.start ∧ x.time = y.time ∧ x.mb0 = y.mb0 ∧ x.mb1 = y.mb1 ∧
        x.denTime = y.denTime ∧ x.dbg = y.dbg ∧ x.tele = y.tele ∧ x.keys = y.keys ∧ x.pke = y.pke ∧ x.vault = y.vault ∧
        x.cycle = y.cycle ∧ x.data = y.data ∧ x.pm = y.pm ∧ x.health = y.health ∧ x.reached = y.reached) →
        { x with regs := y.regs, cow := y.cow, ao := y.ao, flash0 := y.flash0, flash1 := y.flash1 } = y := by
      intro x y; cases x; cases y; simp only [Chip.mk.injEq]; tauto
    apply e
    simp
  · have e : ∀ x y : AlwaysOn, (x.cell = y.cell ∧ x.share = y.share ∧ x.erasedN = y.erasedN ∧ x.rtc = y.rtc ∧ x.rtcSet = y.rtcSet ∧ x.rtcBase = y.rtcBase ∧
        x.timer = y.timer ∧ x.fails = y.fails ∧ x.failClear = y.failClear ∧ x.mesh = y.mesh ∧ x.cellEver = y.cellEver ∧
        x.log = y.log ∧ x.logSeq = y.logSeq ∧ x.cellLog = y.cellLog ∧ x.pinned = y.pinned ∧ x.classes = y.classes ∧ x.armed = y.armed ∧ x.lockout = y.lockout ∧
        x.dbgFails = y.dbgFails ∧ x.charge = y.charge) → { x with ring := y.ring, run := y.run } = y := by
      intro x y; cases x; cases y; simp only [AlwaysOn.mk.injEq]; tauto
    apply e
    simp
  all_goals
    have e : ∀ x y : Flash, (x.slot0 = y.slot0 ∧ x.slot1 = y.slot1 ∧ x.desc0 = y.desc0 ∧ x.desc1 = y.desc1 ∧ x.half0 = y.half0 ∧
        x.half1 = y.half1 ∧ x.history = y.history ∧ x.certs = y.certs ∧ x.flush = y.flush ∧ x.health = y.health) →
        { x with flushRun := y.flushRun } = y := by
      intro x y; cases x; cases y; simp only [Flash.mk.injEq]; tauto
    apply e
    simp

theorem Chip.noted_alert (c : Chip) (sub ev unit detail : Nat) (as : List Nat) : Chip.noted c (c.alert sub ev unit detail) as :=
  Chip.noted_trans (Chip.noted_record _ _ _ _ _ _ _) (Chip.noted_attn _ _ _)

/-! ### Chains -/

theorem Chip.noted.wr {a b : Chip} {as : List Nat} (h : Chip.noted a b as) (f : Fld) (v : Nat) (hf : f.reg ∈ as) :
    Chip.noted a (b.wr f v) as := Chip.noted_trans h (Chip.noted_wr _ _ _ hf)

theorem Chip.noted.setWord {a b : Chip} {as : List Nat} (h : Chip.noted a b as) (x : Nat) (w : W32) (hf : x ∈ as) :
    Chip.noted a (b.setWord x w) as := Chip.noted_trans h (Chip.noted_setWord _ _ _ hf)

theorem Chip.noted.record {a b : Chip} {as : List Nat} (h : Chip.noted a b as) (sub ev sev unit detail : Nat) :
    Chip.noted a (b.record sub ev sev unit detail) as := Chip.noted_trans h (Chip.noted_record _ _ _ _ _ _ _)

theorem Chip.noted.alert {a b : Chip} {as : List Nat} (h : Chip.noted a b as) (sub ev unit detail : Nat) :
    Chip.noted a (b.alert sub ev unit detail) as := Chip.noted_trans h (Chip.noted_alert _ _ _ _ _ _)

theorem Chip.noted.attn {a b : Chip} {as : List Nat} (h : Chip.noted a b as) (cls : Nat) : Chip.noted a (b.attn cls) as :=
  Chip.noted_trans h (Chip.noted_attn _ _ _)

end Sys2Proof.Machine
end

