-- ==== Sys2Proof/Laws/Mailbox.lean ====
section
/-! SUPPORT. What serving a mailbox can change, said once: each operation of the mailbox against `Chip.replied`, and the one lemma by
which an accepted command is served. -/

namespace Sys2Proof.Machine

/-- Writing replies changes nothing but the mailbox. -/
def Chip.replied (f : Nat) (d c : Chip) : Prop := Chip.mbBut (replyWords f) f d c

theorem Chip.replied_refl (f : Nat) (c : Chip) : Chip.replied f c c := ⟨rfl, fun _ _ => rfl, fun _ _ _ => rfl⟩

theorem Chip.replied_trans {f : Nat} {a b c : Chip} (h : Chip.replied f a b) (k : Chip.replied f b c) : Chip.replied f a c := by
  obtain ⟨h1, h2, h3⟩ := h
  obtain ⟨k1, k2, k3⟩ := k
  refine ⟨?_, fun x hx => (k2 x hx).trans (h2 x hx), fun g hg hf => (k3 g hg hf).trans (h3 g hg hf)⟩
  cases a; cases b; cases c
  simp only [Chip.mk.injEq] at h1 k1 ⊢
  simp_all

/-- A change of the registers and of what leaves the part, within the words of the mailbox. -/
theorem Chip.replied_io {f : Nat} {c d : Chip} (h : { d with regs := c.regs, out := c.out } = c)
    (hw : ∀ a, a ∉ replyWords f → d.word a = c.word a) : Chip.replied f c d := by
  refine ⟨?_, hw, ?_⟩ <;> cases c <;> cases d <;> simp_all [Chip.mb]

theorem Chip.replied_wr (f : Nat) (c : Chip) (x : Fld) (v : Nat) (h : x.reg ∈ replyWords f) : Chip.replied f c (c.wr x v) :=
  Chip.replied_io rfl fun _ ha => Chip.word_wr_other _ _ _ _ (fun e => ha (e ▸ h))

theorem Chip.replied_setWord (f : Nat) (c : Chip) (x : Nat) (w : W32) (h : x ∈ replyWords f) : Chip.replied f c (c.setWord x w) :=
  Chip.replied_io rfl fun _ ha => Chip.word_setWord_other _ _ _ _ (fun e => ha (e ▸ h))

theorem Chip.replied_emit (f : Nat) (c : Chip) (o : Out) : Chip.replied f c (c.emit o) := Chip.replied_io rfl fun _ _ => rfl

theorem Chip.replied_setMb (f : Nat) (c : Chip) (m : Mailbox) (hf : f ≤ 1) : Chip.replied f c (c.setMb f m) := by
  unfold Chip.setMb
  split
  · next h => exact ⟨rfl, fun _ _ => rfl, fun g _ hgf => by simp [Chip.mb, h ▸ hgf]⟩
  · next h => exact ⟨rfl, fun _ _ => rfl, fun g hg hgf => by
      have : g = 0 := by omega
      simp [Chip.mb, this]⟩

theorem Chip.msix_word (c : Chip) (v a : Nat) (h0 : a ≠ R.HST_MSIX_PBA 0) (h1 : a ≠ R.HST_MSIX_PBA 1) : (c.msix v).word a = c.word a := by
  unfold Chip.msix
  dsimp only
  split
  · rfl
  · split
    · apply Chip.word_setWord_other
      have : v % 64 / 32 = 0 ∨ v % 64 / 32 = 1 := by omega
      rcases this with h | h <;> rw [h] <;> assumption
    · rfl

theorem Chip.replied_msix (f : Nat) (c : Chip) (v : Nat) : Chip.replied f c (c.msix v) := by
  apply Chip.replied_io
  · unfold Chip.msix; dsimp only; split
    · rfl
    · split <;> rfl
  · intro a ha
    apply Chip.msix_word
    · intro e; exact ha (by simp [replyWords, e])
    · intro e; exact ha (by simp [replyWords, e])

theorem Chip.replied_syncMb (f : Nat) (c : Chip) : Chip.replied f c (c.syncMb f) := by
  unfold Chip.syncMb
  exact Chip.replied_trans (Chip.replied_wr _ _ _ _ (by simp [replyWords, F.HST_MB_STATUS_running])) (Chip.replied_wr _ _ _ _ (by simp [replyWords, F.HST_MB_STATUS_long_active]))

/-! ## Chains of updates -/

theorem Chip.replied.wr {f : Nat} {a b : Chip} (h : Chip.replied f a b) (x : Fld) (v : Nat) (hx : x.reg ∈ replyWords f) :
    Chip.replied f a (b.wr x v) := Chip.replied_trans h (Chip.replied_wr _ _ _ _ hx)

theorem Chip.replied.emit {f : Nat} {a b : Chip} (h : Chip.replied f a b) (o : Out) : Chip.replied f a (b.emit o) :=
  Chip.replied_trans h (Chip.replied_emit _ _ _)

theorem Chip.replied.setMb {f : Nat} {a b : Chip} (h : Chip.replied f a b) (m : Mailbox) (hf : f ≤ 1) : Chip.replied f a (b.setMb f m) :=
  Chip.replied_trans h (Chip.replied_setMb _ _ _ hf)

theorem Chip.replied.msix {f : Nat} {a b : Chip} (h : Chip.replied f a b) (v : Nat) : Chip.replied f a (b.msix v) :=
  Chip.replied_trans h (Chip.replied_msix _ _ _)

theorem Chip.replied.syncMb {f : Nat} {a b : Chip} (h : Chip.replied f a b) : Chip.replied f a (b.syncMb f) :=
  Chip.replied_trans h (Chip.replied_syncMb _ _)

/-- Writing a reply changes nothing but the mailbox. -/
theorem Chip.replied_sendReply (f : Nat) (c : Chip) (r : Reply) (code result : Nat) : Chip.replied f c (c.sendReply f r code result) := by
  unfold Chip.sendReply
  split
  · exact Chip.replied_refl _ _
  · split
    · exact ((Chip.replied_refl f c).wr _ _ (by simp [replyWords, F.HST_MB_STATUS_dma_error])).syncMb
    · dsimp only
      have h0 : Chip.replied f c (if r.out = [] then c else c.emit (.hostWrite f r.outAddr r.out)) := by
        split
        · exact Chip.replied_refl _ _
        · exact Chip.replied_emit _ _ _
      revert h0
      generalize (if r.out = [] then c else c.emit (.hostWrite f r.outAddr r.out)) = c1
      intro h0
      have h1 := fun o v => (h0.emit o).wr (F.HST_MB_RPROD_rprod f) v (by simp [replyWords, F.HST_MB_RPROD_rprod])
      split <;> split <;>
        first
        | exact ((h1 _ _).wr _ _ (by simp [replyWords, F.HST_ATTN_pending0, F.HST_ATTN_pending1])).msix _
        | exact (h1 _ _).wr _ _ (by simp [replyWords, F.HST_ATTN_pending0, F.HST_ATTN_pending1])

/-- Writing a reply changes only registers and what leaves the part. -/
theorem Chip.sendReply_io (f : Nat) (c : Chip) (r : Reply) (code result : Nat) :
    { c.sendReply f r code result with regs := c.regs, out := c.out } = c := by
  unfold Chip.sendReply Chip.mbHalt Chip.syncMb Chip.msix
  dsimp only
  split
  · rfl
  · split
    · rfl
    · split <;> split <;> split <;> (try split) <;> (try split) <;> rfl

theorem Chip.sendReply_mb (f g : Nat) (c : Chip) (r : Reply) (code result : Nat) : (c.sendReply f r code result).mb g = c.mb g := by
  have h := Chip.sendReply_io f c r code result
  have h0 := congrArg Chip.mb0 h
  have h1 := congrArg Chip.mb1 h
  simp only [Chip.mb] at *
  rw [← h0, ← h1]

theorem Chip.sendReply_jpend (f : Nat) (c : Chip) (r : Reply) (code result : Nat) : (c.sendReply f r code result).jpend = c.jpend := by
  have h := congrArg Chip.jpend (Chip.sendReply_io f c r code result)
  exact h

theorem Chip.replied_drain (f : Nat) (held : Bool) (rs : List Reply) (c : Chip) :
    Chip.replied f c (Chip.drainReplies f held rs c).1 ∧ (∀ g, (Chip.drainReplies f held rs c).1.mb g = c.mb g) ∧
      (Chip.drainReplies f held rs c).1.jpend = c.jpend := by
  induction rs generalizing c held with
  | nil => exact ⟨Chip.replied_refl _ _, fun _ => rfl, rfl⟩
  | cons r rs ih =>
    unfold Chip.drainReplies
    dsimp only
    split
    · split
      · obtain ⟨a, b, d⟩ := ih held (c.sendReply f r _ _)
        exact ⟨Chip.replied_trans (Chip.replied_sendReply _ _ _ _ _) a, fun g => (b g).trans (Chip.sendReply_mb _ _ _ _ _ _),
          d.trans (Chip.sendReply_jpend _ _ _ _ _)⟩
      · exact ih held c
    · exact ih _ c

@[simp] theorem Chip.setMb_mb (c : Chip) (f : Nat) (m : Mailbox) : (c.setMb f m).mb f = m := by
  unfold Chip.setMb Chip.mb; split <;> rfl

@[simp] theorem Chip.setMb_jpend (c : Chip) (f : Nat) (m : Mailbox) : (c.setMb f m).jpend = c.jpend := by
  unfold Chip.setMb; split <;> rfl

@[simp] theorem Chip.setMb_regs (c : Chip) (f : Nat) (m : Mailbox) : (c.setMb f m).regs = c.regs := by
  unfold Chip.setMb; split <;> rfl

/-- Writing the replies that are ready leaves the completion table alone. -/
theorem Chip.replied_flush (f : Nat) (hf : f ≤ 1) (c : Chip) :
    Chip.replied f c (c.flushReplies f) ∧ ((c.flushReplies f).mb f).table = (c.mb f).table ∧ (c.flushReplies f).jpend = c.jpend := by
  obtain ⟨a, b, d⟩ := Chip.replied_drain f false (c.mb f).replies c
  unfold Chip.flushReplies
  dsimp only
  refine ⟨a.setMb _ hf, ?_, ?_⟩
  · rw [Chip.setMb_mb]
    show ((Chip.drainReplies f false (c.mb f).replies c).1.mb f).table = _
    rw [b f]
  · rw [Chip.setMb_jpend, d]

theorem Chip.replied_queueReply (f : Nat) (hf : f ≤ 1) (c : Chip) (r : Reply) :
    Chip.replied f c (c.queueReply f r) ∧ ((c.queueReply f r).mb f).table = (c.mb f).table ∧ (c.queueReply f r).jpend = c.jpend := by
  obtain ⟨a, b, d⟩ := Chip.replied_flush f hf (c.setMb f { c.mb f with replies := (c.mb f).replies ++ [r] })
  refine ⟨Chip.replied_trans (Chip.replied_setMb _ _ _ hf) a, ?_, ?_⟩
  · rw [Chip.queueReply, b, Chip.setMb_mb]
  · rw [Chip.queueReply, d, Chip.setMb_jpend]

theorem Chip.tableAdd_last (c : Chip) (f : Nat) (d : Done) : ((c.tableAdd f d).mb f).table.getLast? = some d := by
  unfold Chip.tableAdd
  rw [Chip.setMb_mb]
  simp only [List.length_append, List.length_singleton]
  rw [List.drop_append_of_le_length (by omega)]
  simp

theorem Chip.replied_tableAdd (f : Nat) (hf : f ≤ 1) (c : Chip) (d : Done) : Chip.replied f c (c.tableAdd f d) :=
  Chip.replied_setMb _ _ _ hf

@[simp] theorem Chip.syncMb_mb (c : Chip) (f g : Nat) : (c.syncMb f).mb g = c.mb g := rfl

@[simp] theorem Chip.syncMb_jpend (c : Chip) (f : Nat) : (c.syncMb f).jpend = c.jpend := rfl

/-- The code that the completion table shows for an answer: none while the journal or a long command is waited for. -/
def Answer.shown (a : Answer) (k : CmdClass) : Option Nat :=
  if a.jop.isSome || (k.long && a.code == Code.ok) then none else some a.code

/-- The result that the completion table shows. -/
def Answer.shownResult (a : Answer) (k : CmdClass) : Nat := if (a.shown k).isSome then a.result else 0

/-- What answering a command does, whatever its answer. -/
theorem Chip.mbAnswer_spec (c : Chip) (h : Mb) (k : CmdClass) (a : Answer) (hf : h.fn ≤ 1) :
    Chip.replied h.fn c (c.mbAnswer h k a) ∧
      ((c.mbAnswer h k a).mb h.fn).table.getLast? = some { seq := h.seq, code := a.shown k, result := a.shownResult k } ∧
      (c.mbAnswer h k a).jpend.map (·.op) = c.jpend.map (·.op) ++ a.jop.toList := by
  unfold Chip.mbAnswer
  dsimp only
  split
  · next op hop =>
    have hs : a.shown k = none := by simp [Answer.shown, hop]
    have hr : a.shownResult k = 0 := by simp [Answer.shownResult, hs]
    rw [hs, hr]
    generalize he : (JEntry.mk _ _ _ _ _ _ _) = e
    have hop' : e.op = op := by rw [← he]
    have h0 : Chip.replied h.fn c { c with jseq := c.jseq + 1, jpend := c.jpend ++ [e] } := ⟨rfl, fun _ _ => rfl, fun _ _ _ => rfl⟩
    have h1 := Chip.replied_trans h0 (Chip.replied_tableAdd h.fn hf _ { seq := h.seq, code := none })
    have hl := Chip.tableAdd_last { c with jseq := c.jseq + 1, jpend := c.jpend ++ [e] } h.fn { seq := h.seq, code := none }
    have hj : (Chip.tableAdd { c with jseq := c.jseq + 1, jpend := c.jpend ++ [e] } h.fn { seq := h.seq, code := none }).jpend = c.jpend ++ [e] := by
      simp [Chip.tableAdd]
    revert h1 hl hj
    generalize Chip.tableAdd { c with jseq := c.jseq + 1, jpend := c.jpend ++ [e] } h.fn { seq := h.seq, code := none } = c1
    intro h1 hl hj
    split
    · refine ⟨(h1.setMb _ hf).syncMb, ?_, ?_⟩
      · rw [Chip.syncMb_mb, Chip.setMb_mb]; exact hl
      · rw [Chip.syncMb_jpend, Chip.setMb_jpend, hj]; simp [hop', hop]
    · obtain ⟨x, y, z⟩ := Chip.replied_queueReply h.fn hf c1
        { seq := h.seq, opcode := k.opcode, intr := h.intr, dup := false, answer := none, out := a.out, outAddr := h.outAddr,
          writeFail := h.writeFail }
      refine ⟨Chip.replied_trans h1 x, ?_, ?_⟩
      · rw [y]; exact hl
      · rw [z, hj]; simp [hop', hop]
  · next hop =>
    split
    · next hk =>
      have hs : a.shown k = none := by simp [Answer.shown, hop, hk]
      have hr : a.shownResult k = 0 := by simp [Answer.shownResult, hs]
      rw [hs, hr]
      refine ⟨((Chip.replied_tableAdd h.fn hf c _).setMb _ hf).syncMb, ?_, ?_⟩
      · rw [Chip.syncMb_mb, Chip.setMb_mb]; exact Chip.tableAdd_last _ _ _
      · simp [Chip.tableAdd, hop]
    · next hk =>
      have hs : a.shown k = some a.code := by simp [Answer.shown, hop, hk]
      have hr : a.shownResult k = a.result := by simp [Answer.shownResult, hs]
      rw [hs, hr]
      have h1 := Chip.replied_tableAdd h.fn hf c { seq := h.seq, code := some a.code, result := a.result }
      have hl := Chip.tableAdd_last c h.fn { seq := h.seq, code := some a.code, result := a.result }
      split
      · refine ⟨Chip.replied_trans h1 (Chip.replied_sendReply _ _ _ _ _), ?_, ?_⟩
        · rw [Chip.sendReply_mb]; exact hl
        · rw [Chip.sendReply_jpend]; simp [Chip.tableAdd, hop]
      · obtain ⟨x, y, z⟩ := Chip.replied_queueReply h.fn hf (c.tableAdd h.fn { seq := h.seq, code := some a.code, result := a.result })
          { seq := h.seq, opcode := k.opcode, intr := h.intr, dup := false, answer := some (a.code, a.result), out := a.out,
            outAddr := h.outAddr, writeFail := h.writeFail }
        refine ⟨Chip.replied_trans h1 x, ?_, ?_⟩
        · rw [y]; exact hl
        · rw [z]; simp [Chip.tableAdd, hop]

/-! ## An accepted command -/

theorem Chip.mbStarted_word (c : Chip) (h : Mb) (a : Nat) (h1 : a ≠ R.HST_MB_CONS h.fn) (h2 : a ≠ R.HST_MB_LAST_SEQ h.fn)
    (h3 : a ≠ R.HST_MB_LAST_SEQ h.fn + 4) : (c.mbStarted h).word a = c.word a := by
  rw [Chip.mbStarted, Chip.setNum, Chip.setNum, Chip.setNum, Chip.word_setWord_other _ _ _ _ h3, Chip.word_setWord_other _ _ _ _ h2,
    Chip.word_wr_other _ _ _ _ h1]

theorem Chip.mbStarted_rd (c : Chip) (h : Mb) (x : Fld) (h1 : x.reg ≠ R.HST_MB_CONS h.fn) (h2 : x.reg ≠ R.HST_MB_LAST_SEQ h.fn)
    (h3 : x.reg ≠ R.HST_MB_LAST_SEQ h.fn + 4) : (c.mbStarted h).rd x = c.rd x := by
  rw [Chip.rd, Chip.mbStarted_word c h _ h1 h2 h3, Chip.rd]

/-- Registers from 0x204 on are none of the mailbox's. -/
theorem Chip.mbStarted_word_high (c : Chip) (h : Mb) (hf : h.fn ≤ 1) (a : Nat) (ha : 0x204 ≤ a) : (c.mbStarted h).word a = c.word a := by
  apply Chip.mbStarted_word <;> simp only [R.HST_MB_CONS, R.HST_MB_LAST_SEQ] <;> omega

theorem Chip.mbStarted_rd_high (c : Chip) (h : Mb) (hf : h.fn ≤ 1) (x : Fld) (hx : 0x204 ≤ x.reg) : (c.mbStarted h).rd x = c.rd x := by
  rw [Chip.rd, Chip.mbStarted_word_high c h hf _ hx, Chip.rd]

theorem Chip.mbStarted_flag_high (c : Chip) (h : Mb) (hf : h.fn ≤ 1) (x : Fld) (hx : 0x204 ≤ x.reg) :
    (c.mbStarted h).flag x = c.flag x := by
  rw [Chip.flag, Chip.mbStarted_rd_high c h hf x hx, Chip.flag]

/-- Everything but two registers of the mailbox is as it was. -/
theorem Chip.mbStarted_same (c : Chip) (h : Mb) : { c.mbStarted h with regs := c.regs } = c := rfl

theorem Chip.mbStarted_cons (c : Chip) (h : Mb) :
    (c.mbStarted h).rd (F.HST_MB_CONS_cons h.fn) = (c.rd (F.HST_MB_CONS_cons h.fn) + 1) % 2 ^ 16 := by
  rw [Chip.mbStarted, Chip.rd, Chip.word_setNum_other, ← Chip.rd, Chip.rd_wr_same _ _ _ rfl]
  · rfl
  · simp only [F.HST_MB_CONS_cons, R.HST_MB_CONS, R.HST_MB_LAST_SEQ]; omega

theorem Chip.mbStarted_last (c : Chip) (h : Mb) : (c.mbStarted h).num (R.HST_MB_LAST_SEQ h.fn) 2 = h.seq % 2 ^ 64 :=
  Chip.num_setNum _ _ _ _

theorem Chip.mbStarted_refuse (c : Chip) (h : Mb) (hf : h.fn ≤ 1) (k : CmdClass) : (c.mbStarted h).mbRefuse h k = c.mbRefuse h k := by
  have hx : ∀ x : Fld, 0x204 ≤ x.reg → (c.mbStarted h).flag x = c.flag x := Chip.mbStarted_flag_high c h hf
  unfold Chip.mbRefuse Chip.safe Chip.halted Chip.persistBlocked
  rw [hx _ (by decide), hx _ (by decide), hx _ (by decide)]
  rfl

/-- An accepted command runs its own rule and is answered. -/
theorem Chip.mbRun_accepted (c : Chip) (h : Mb) (k : CmdClass) (body : Chip → Chip × Answer) (ha : c.mbAccepts h k) :
    c.mbRun h k body = (body (c.mbStarted h)).1.mbAnswer h k (body (c.mbStarted h)).2 := by
  obtain ⟨_, h1, h2, h3, h4⟩ := ha
  have hf : h.fn ≤ 1 := by
    simp only [Chip.mbReady, Bool.and_eq_true, decide_eq_true_eq] at h1
    exact h1.1.1.1.1
  have h5 := Chip.mbStarted_refuse c h hf k
  rw [h4] at h5
  have hl : (c.wr (F.HST_MB_CONS_cons h.fn) (c.rd (F.HST_MB_CONS_cons h.fn) + 1)).num (R.HST_MB_LAST_SEQ h.fn) 2 =
      c.num (R.HST_MB_LAST_SEQ h.fn) 2 := by
    simp only [Chip.num]
    rw [Chip.word_wr_other, Chip.word_wr_other] <;> simp only [F.HST_MB_CONS_cons, R.HST_MB_CONS, R.HST_MB_LAST_SEQ] <;> omega
  unfold Chip.mbRun
  simp only [h1, h2, hl, Bool.not_true, Bool.false_eq_true, if_false]
  rw [if_neg (by omega), if_neg (by omega)]
  show (match (c.mbStarted h).mbRefuse h k with | some code => (c.mbStarted h).mbAnswer h k { code := code } | none => _) = _
  rw [h5]
  rfl

/-- How an accepted command of one mailbox comes to be `Served`: its own rule, run on the part as started, must leave the part `d` but
for the mailbox, and leave the mailbox's own state alone. -/
theorem served_of {i : Instr} {s : State} {h : Mb} {k : CmdClass} {body : Chip → Chip × Answer} {d : Chip} {a : Answer}
    (hx : exec i s = s.act (fun c => c.mbRun h k body)) (ha : s.chip.mbAccepts h k)
    (hb : (body (s.chip.mbStarted h)).2 = a) (hd : Chip.mbSame h.fn d (body (s.chip.mbStarted h)).1) (hp : d.power = true)
    (hc : ∀ x ∈ [R.HST_MB_CONS h.fn, R.HST_MB_LAST_SEQ h.fn, R.HST_MB_LAST_SEQ h.fn + 4],
      (body (s.chip.mbStarted h)).1.word x = (s.chip.mbStarted h).word x)
    (hj : (body (s.chip.mbStarted h)).1.jpend = d.jpend) :
    Served i s h d (a.shown k) (a.shownResult k) a.jop.toList := by
  obtain ⟨p1, h1, h2, h3, h4⟩ := ha
  have hf : h.fn ≤ 1 := by
    have h1 := h1
    simp only [Chip.mbReady, Bool.and_eq_true, decide_eq_true_eq] at h1
    exact h1.1.1.1.1
  have hr := Chip.mbRun_accepted s.chip h k body ⟨p1, h1, h2, h3, h4⟩
  rw [hb] at hr
  revert hr hd hc hj
  generalize (body (s.chip.mbStarted h)).1 = c1
  intro hd hc hj hr
  obtain ⟨q1, q2, q3⟩ := Chip.mbAnswer_spec c1 h k a hf
  have hpow : (c1.mbAnswer h k a).power = true := by
    have e1 := congrArg Chip.power q1.1
    have e2 := congrArg Chip.power hd.1
    have e1' : (c1.mbAnswer h k a).power = c1.power := e1
    have e2' : c1.power = d.power := e2
    rw [e1', e2', hp]
  have hw : ∀ x, x ∈ [R.HST_MB_CONS h.fn, R.HST_MB_LAST_SEQ h.fn, R.HST_MB_LAST_SEQ h.fn + 4] →
      (c1.mbAnswer h k a).word x = (s.chip.mbStarted h).word x := by
    intro x hx'
    rw [q1.2.1 x, hc x hx']
    have : h.fn = 0 ∨ h.fn = 1 := by omega
    rcases this with e | e <;> rw [e] at hx' ⊢ <;>
      · simp only [List.mem_cons, List.not_mem_nil, or_false] at hx'
        rcases hx' with rfl | rfl | rfl <;> decide
  refine ⟨{ s with chip := c1.mbAnswer h k a }, ?_, rfl, ?_, q2, ?_, ?_, ?_⟩
  · rw [hx, State.act, if_pos p1, hr]
    congr 2
    generalize c1.mbAnswer h k a = z at hpow
    cases z
    simp_all
  · refine ⟨?_, ?_, ?_⟩
    · have e1 := q1.1
      have e2 := hd.1
      revert e1 e2
      generalize c1.mbAnswer h k a = z
      intro e1 e2
      cases z; cases c1; cases d
      simp only [Chip.mk.injEq] at e1 e2 ⊢
      simp_all
    · intro x hx'
      rw [q1.2.1 x (fun e => hx' (by simp only [mbWords, List.mem_append]; exact .inr e)), hd.2.1 x hx']
    · intro g hg hgf
      rw [q1.2.2 g hg hgf, hd.2.2 g hg hgf]
  · show (c1.mbAnswer h k a).rd _ = _
    rw [← Chip.mbStarted_cons, Chip.rd, Chip.rd, hw _ (by simp [F.HST_MB_CONS_cons])]
  · show (c1.mbAnswer h k a).num _ 2 = _
    rw [← Chip.mbStarted_last s.chip h]
    simp only [Chip.num]
    rw [hw _ (by simp), hw _ (by simp)]
  · show (c1.mbAnswer h k a).jpend.map _ = _
    rw [q3, hj]

end Sys2Proof.Machine
end

