-- ==== Sys2Proof/Laws/Memory.lean ====
section
/-! SUPPORT. The addressed memories, the image slots of the flash devices and the vault's lines, keep their canonical form under every
operation that writes them. -/

namespace Sys2Proof.Machine

/-- Both image slots of a device are in canonical form. -/
def Flash.slotsWf (f : Flash) : Bool := Sparse.wf 0xFF f.slot0 && Sparse.wf 0xFF f.slot1

theorem Chip.memWf_iff (c : Chip) :
    c.memWf = true ↔ c.flash0.slotsWf = true ∧ c.flash1.slotsWf = true ∧ Sparse.wf none c.vault.lines = true := by
  simp [Chip.memWf, Flash.slotsWf, and_assoc]

theorem memWf_reset : State.reset.chip.memWf = true := by decide

theorem programBytes_wf (m : Sparse Byte) (off : Nat) (data : Bytes) (h : Sparse.wf 0xFF m = true) :
    Sparse.wf 0xFF (programBytes m off data) = true := by
  unfold programBytes
  induction data generalizing m off with
  | nil => exact h
  | cons b bs ih => exact ih _ _ (Sparse.wf_set _ _ _ _ h)

/-- A byte programmed reads as the byte; every byte outside reads as before. -/
theorem programBytes_get (m : Sparse Byte) (off : Nat) (data : Bytes) (a : Nat) :
    Sparse.get 0xFF (programBytes m off data) a =
      if off ≤ a ∧ a < off + data.length then data.getD (a - off) 0 else Sparse.get 0xFF m a := by
  unfold programBytes
  induction data generalizing m off with
  | nil =>
    rw [if_neg (by simp only [List.length_nil]; omega)]
    rfl
  | cons b bs ih =>
    rw [List.foldl_cons, ih, Sparse.get_set]
    simp only [List.length_cons]
    by_cases h1 : a = off
    · subst h1
      rw [if_neg (by omega), if_pos rfl, if_pos (by omega)]
      simp
    · rw [if_neg h1]
      by_cases h2 : off + 1 ≤ a ∧ a < off + 1 + bs.length
      · have h3 : a - off = a - (off + 1) + 1 := by omega
        rw [if_pos h2, if_pos (by omega), h3, List.getD_cons_succ]
      · rw [if_neg h2, if_neg (by omega)]

theorem Flash.slot_wf (f : Flash) (s : Nat) (h : f.slotsWf = true) : Sparse.wf 0xFF (f.slot s) = true := by
  simp only [Flash.slotsWf, Bool.and_eq_true] at h
  unfold Flash.slot
  split
  · exact h.1
  · exact h.2

theorem Flash.putSlot_wf (f : Flash) (s : Nat) (v : Sparse Byte) (h : f.slotsWf = true) (hv : Sparse.wf 0xFF v = true) :
    (f.putSlot s v).slotsWf = true := by
  simp only [Flash.slotsWf, Bool.and_eq_true] at h
  unfold Flash.putSlot
  split
  · simpa [Flash.slotsWf] using ⟨hv, h.2⟩
  · simpa [Flash.slotsWf] using ⟨h.1, hv⟩

theorem Chip.onFlash_memWf (c : Chip) (g : Flash → Flash) (hg : ∀ f, f.slotsWf = true → (g f).slotsWf = true) (h : c.memWf = true) :
    (c.onFlash g).memWf = true := by
  rw [Chip.memWf_iff] at h ⊢
  unfold Chip.onFlash
  dsimp only
  refine ⟨?_, ?_, ?_⟩ <;> split <;> split <;> simp_all

theorem Chip.wr_memWf (c : Chip) (x : Fld) (v : Nat) : (c.wr x v).memWf = c.memWf := rfl

theorem Chip.countErases_memWf (c : Chip) (a n : Nat) : (c.countErases a n).memWf = c.memWf := by
  unfold Chip.countErases Chip.countErase
  dsimp only
  split <;> split <;> rfl

theorem Chip.reachSector_memWf (c : Chip) (s k : Nat) (h : c.memWf = true) : (c.reachSector s k).memWf = true := by
  unfold Chip.reachSector
  split
  · exact h
  · refine Chip.onFlash_memWf _ _ (fun f hf => Flash.putSlot_wf _ _ _ hf (Sparse.wf_filter _ _ _ (Flash.slot_wf f s hf))) ?_
    rw [Chip.countErases_memWf]
    exact h

theorem Chip.reachSectors_memWf (s first : Nat) (l : List Nat) (c : Chip) (h : c.memWf = true) :
    (l.foldl (fun c i => c.reachSector s (first + i)) c).memWf = true := by
  induction l generalizing c with
  | nil => exact h
  | cons i l ih => exact ih _ (Chip.reachSector_memWf _ _ _ h)

/-- IMAGE_WRITE keeps the form. -/
theorem Chip.imageWrite_memWf (c : Chip) (s off : Nat) (data : Bytes) (h : c.memWf = true) : (c.imageWrite s off data).1.memWf = true := by
  unfold Chip.imageWrite refuse
  split
  · exact h
  · split
    · exact h
    · split
      · exact h
      · dsimp only
        rw [Chip.wr_memWf]
        refine Chip.onFlash_memWf _ _ (fun f hf => Flash.putSlot_wf _ _ _ hf (programBytes_wf _ _ _ (Flash.slot_wf f s hf))) ?_
        apply Chip.reachSectors_memWf
        split
        · exact h
        · exact h

/-- The copy of a slot between devices keeps the form. -/
theorem Chip.copySlot_memWf (c : Chip) (s src : Nat) (h : c.memWf = true) : (c.copySlot s src).memWf = true := by
  have h' := h
  rw [Chip.memWf_iff] at h
  have hv : Sparse.wf 0xFF ((c.flash src).slot s) = true := by
    apply Flash.slot_wf
    unfold Chip.flash
    split
    · exact h.1
    · exact h.2.1
  unfold Chip.copySlot
  dsimp only
  rw [Chip.memWf_iff]
  split
  · exact ⟨h.1, Flash.putSlot_wf _ _ _ h.2.1 hv, h.2.2⟩
  · exact ⟨Flash.putSlot_wf _ _ _ h.1 hv, h.2.1, h.2.2⟩

/-! ## The lines of the vault -/

theorem join4_bit (a b c d : BitVec 128) (i : Nat) : (join4 a b c d).getLsbD i =
    if i < 128 then d.getLsbD i else if i < 256 then c.getLsbD (i - 128) else if i < 384 then b.getLsbD (i - 256) else a.getLsbD (i - 384) := by
  unfold join4
  rw [show (((a ++ b : BitVec 256) ++ c : BitVec 384) ++ d : BitVec 512).getLsbD i = _ from BitVec.getLsbD_append,
    show ((a ++ b : BitVec 256) ++ c : BitVec 384).getLsbD (i - 128) = _ from BitVec.getLsbD_append,
    show (a ++ b : BitVec 256).getLsbD (i - 128 - 128) = _ from BitVec.getLsbD_append, Nat.sub_sub, Nat.sub_sub]
  split_ifs <;> first | omega | rfl

theorem join4_part (a b c d : BitVec 128) : (join4 a b c d).extractLsb' 0 128 = d ∧ (join4 a b c d).extractLsb' 128 128 = c ∧
    (join4 a b c d).extractLsb' 256 128 = b ∧ (join4 a b c d).extractLsb' 384 128 = a := by
  refine ⟨?_, ?_, ?_, ?_⟩ <;>
  · apply BitVec.eq_of_getLsbD_eq
    intro i hi
    rw [BitVec.getLsbD_extractLsb', join4_bit]
    split_ifs <;> first | omega | simp [hi]

theorem join4_of (d : BitVec 512) : join4 (d.extractLsb' 384 128) (d.extractLsb' 256 128) (d.extractLsb' 128 128) (d.extractLsb' 0 128) = d := by
  apply BitVec.eq_of_getLsbD_eq
  intro i hi
  rw [join4_bit]
  simp only [BitVec.getLsbD_extractLsb']
  split_ifs
  · simp [*]
  · rw [show 128 + (i - 128) = i by omega]; simp; omega
  · rw [show 256 + (i - 256) = i by omega]; simp; omega
  · rw [show 384 + (i - 384) = i by omega]; simp; omega

theorem xtsBlock_symm (e : Equiv.Perm (BitVec 128)) (t b : BitVec 128) : xtsBlock e.symm t (xtsBlock e t b) = b := by
  simp [xtsBlock]

/-- Decrypting a line that was encrypted under the same keys, number and counter gives it back. -/
theorem xtsLine_symm (e : Equiv.Perm (BitVec 128)) (t : BitVec 128) (d : BitVec 512) : xtsLine e.symm t (xtsLine e t d) = d := by
  obtain ⟨h0, h1, h2, h3⟩ := join4_part (xtsBlock e (xtsNext (xtsNext (xtsNext t))) (d.extractLsb' 384 128))
    (xtsBlock e (xtsNext (xtsNext t)) (d.extractLsb' 256 128)) (xtsBlock e (xtsNext t) (d.extractLsb' 128 128))
    (xtsBlock e t (d.extractLsb' 0 128))
  unfold xtsLine
  simp only [h0, h1, h2, h3, xtsBlock_symm, join4_of]

/-- What a leaf binds opens as it was closed. -/
@[simp] theorem Chip.openLine_closeLine (c : Chip) (n : Node) (line : Nat) (d : BitVec 512) :
    c.openLine n line (c.closeLine n line d) = d := xtsLine_symm _ _ _

/-- A line that was closed under a leaf verifies under it. -/
theorem Chip.closeLine_tag (c : Chip) (n : Node) (line : Nat) (d : BitVec 512) :
    (c.closeLine n line d).tag = vaultTag (c.vaultKeys n.keyId) line (n.counter (line % 64)) (toLe (c.closeLine n line d).ct.toNat 64) := rfl

theorem Sparse.get_mapKey {α : Type} (f : Nat → Option α → Option α) (hf : ∀ k, f k none = none) (m : Sparse (Option α)) (k : Nat) :
    Sparse.get none (m.map (fun e => (e.1, f e.1 e.2))) k = f k (Sparse.get none m k) := by
  induction m with
  | nil => simp [Sparse.get, hf]
  | cons e m ih =>
    obtain ⟨k', v⟩ := e
    simp only [List.map_cons, Sparse.get]
    split
    · next h => rw [h]
    · exact ih

theorem Chip.rewriteLeaf_line (c : Chip) (leaf : Nat) (n : Node) (l : Nat) :
    Sparse.get none (c.rewriteLeaf leaf n).vault.lines l =
      (Sparse.get none c.vault.lines l).map (fun v => if l / 64 = leaf then c.closeLine n l (c.openLine (c.node 0 leaf) l v) else v) := by
  have := Sparse.get_mapKey (fun k (v : Option VLine) => v.map (fun v => if k / 64 = leaf then c.closeLine n k (c.openLine (c.node 0 leaf) k v) else v))
    (fun _ => rfl) c.vault.lines l
  rw [← this]
  simp only [Chip.rewriteLeaf, Chip.setNode]
  congr 1
  apply List.map_congr_left
  intro e _
  split <;> simp_all

/-- A leaf that is rewritten keeps the plaintext of every line (R353, R364). -/
theorem Chip.rewriteLeaf_vaultLine (c : Chip) (leaf : Nat) (n : Node) (l : Nat) : (c.rewriteLeaf leaf n).vaultLine l = c.vaultLine l := by
  unfold Chip.vaultLine
  rw [Chip.rewriteLeaf_line]
  cases Sparse.get none c.vault.lines l with
  | none => rfl
  | some v =>
    simp only [Option.map_some]
    by_cases h : l / 64 = leaf
    · subst h
      have hn : (c.rewriteLeaf (l / 64) n).node 0 (l / 64) = n := Sparse.get_set_same _ _ _ _
      rw [hn, if_pos rfl]
      exact congrArg (fun x : BitVec 512 => toLe x.toNat 64) (Chip.openLine_closeLine c n l _)
    · have hn : (c.rewriteLeaf leaf n).node 0 (l / 64) = c.node 0 (l / 64) := Sparse.get_set_other _ _ _ _ _ (by simp [nodeKey, h])
      rw [hn, if_neg h]
      rfl

theorem Sparse.wf_mapKey {α : Type} [DecidableEq α] (f : Nat → α → α) (m : Sparse (Option α)) (h : Sparse.wf none m = true) :
    Sparse.wf none (m.map (fun e => (e.1, e.2.map (f e.1)))) = true := by
  induction m with
  | nil => rfl
  | cons e m ih =>
    obtain ⟨k, v⟩ := e
    cases m with
    | nil => cases v <;> simp_all [Sparse.wf]
    | cons e' m =>
      obtain ⟨k', v'⟩ := e'
      simp only [Sparse.wf, Bool.and_eq_true, decide_eq_true_eq, List.map_cons] at h ih ⊢
      refine ⟨⟨h.1.1, ?_⟩, ih h.2⟩
      cases v <;> simp_all

/-- A line of the vault written keeps the form. -/
theorem Chip.vaultPut_memWf (c : Chip) (line : Nat) (v : VLine) (h : c.memWf = true) :
    Chip.memWf { c with vault := { c.vault with lines := Sparse.set none c.vault.lines line (some v) } } = true := by
  rw [Chip.memWf_iff] at h ⊢
  refine ⟨h.1, h.2.1, ?_⟩
  exact Sparse.wf_set (none : Option VLine) (some v) c.vault.lines line h.2.2

/-- So does a leaf rewritten. -/
theorem Chip.rewriteLeaf_memWf (c : Chip) (leaf : Nat) (n : Node) (h : c.memWf = true) : (c.rewriteLeaf leaf n).memWf = true := by
  rw [Chip.memWf_iff] at h ⊢
  refine ⟨h.1, h.2.1, ?_⟩
  have := Sparse.wf_mapKey (fun k (v : VLine) => if k / 64 = leaf then c.closeLine n k (c.openLine (c.node 0 leaf) k v) else v) _ h.2.2
  convert this using 2
  simp only [Chip.rewriteLeaf, Chip.setNode]
  apply List.map_congr_left
  intro e _
  split <;> simp_all

theorem toLe_leNat (d : Bytes) : toLe (leNat d) d.length = d := by
  induction d with
  | nil => rfl
  | cons b d ih =>
    simp only [leNat, List.length_cons, toLe]
    have hb := b.isLt
    rw [show (b.toNat + 256 * leNat d) / 256 = leNat d by omega, ih]
    congr 1
    apply BitVec.eq_of_toNat_eq
    simp only [BitVec.toNat_ofNat]
    omega

theorem leNat_lt (d : Bytes) : leNat d < 256 ^ d.length := by
  induction d with
  | nil => simp [leNat]
  | cons b d ih =>
    have hb := b.isLt
    simp only [leNat, List.length_cons, Nat.pow_succ]
    omega

/-- A whole line survives its 512-bit form. -/
theorem line_bytes (d : Bytes) (h : d.length = 64) : toLe (BitVec.ofNat 512 (leNat d)).toNat 64 = d := by
  have hl := leNat_lt d
  rw [h] at hl
  have e : (256 : Nat) ^ 64 = 2 ^ 512 := (Nat.pow_mul (a := 2) (m := 8) (n := 64)).symm
  rw [BitVec.toNat_ofNat, Nat.mod_eq_of_lt (lt_of_lt_of_eq hl e), ← h, toLe_leNat]

/-- Raising one minor leaves every other as it is. -/
theorem Node.minor_raise_other (n : Node) (k j : Nat) (h : n.minor k < 63) (hj : j ≠ k) :
    ({ n with minors := n.minors + 2 ^ (6 * k) } : Node).minor j = n.minor j := by
  simp only [Node.minor, bits] at h ⊢
  rcases Nat.lt_or_gt_of_ne hj with hlt | hgt
  · have : 2 ^ (6 * k) = 2 ^ (6 * j) * (2 ^ 6 * 2 ^ (6 * (k - j - 1))) := by rw [← Nat.pow_add, ← Nat.pow_add]; congr 1; omega
    rw [this, Nat.add_mul_div_left _ _ (Nat.two_pow_pos _), Nat.mul_comm (2 ^ 6), Nat.add_mul_mod_self_right]
  · have e : 6 * j = 6 * k + (6 + 6 * (j - k - 1)) := by omega
    rw [e, Nat.pow_add, Nat.pow_add, ← Nat.div_div_eq_div_mul, ← Nat.div_div_eq_div_mul, ← Nat.div_div_eq_div_mul, ← Nat.div_div_eq_div_mul,
      Nat.add_div_right _ (Nat.two_pow_pos _)]
    have : (n.minors / 2 ^ (6 * k)).succ / 2 ^ 6 = n.minors / 2 ^ (6 * k) / 2 ^ 6 := by
      have : n.minors / 2 ^ (6 * k) % 64 < 63 := h
      omega
    rw [this]

end Sys2Proof.Machine
end

