-- ==== Sys2Proof/Laws/Start.lean ====
section
/-! SUPPORT. What beginning a start does, said once: the start is under way for its cause; a cold start leaves flash, the always-on
domain and the fuses, and a warm start or a management restart leaves the state that it keeps. -/

namespace Sys2Proof.Machine

/-- Leaving behind the long commands that are not in the journal changes nothing but the mailboxes. -/
theorem Chip.dropLongs_same (c : Chip) : { c.dropLongs with regs := c.regs, mb0 := c.mb0, mb1 := c.mb1 } = c := rfl

theorem Chip.dropLongs_word (c : Chip) (a : Nat) (h : 0x204 ≤ a) : c.dropLongs.word a = c.word a := by
  unfold Chip.dropLongs Chip.syncMb Chip.wrb
  rw [Chip.word_wr_other, Chip.word_wr_other, Chip.word_wr_other, Chip.word_wr_other]
  · rfl
  all_goals simp only [F.HST_MB_STATUS_running, F.HST_MB_STATUS_long_active, R.HST_MB_STATUS]; omega

theorem Chip.freshStart_start (c : Chip) :
    c.freshStart.start = if c.halted then { c.start with released := false } else c.start := by
  unfold Chip.freshStart
  dsimp only
  simp only [Chip.newRun_start, Chip.setWord_start, Chip.wr_start]

theorem Chip.freshStart_power (c : Chip) : c.freshStart.power = c.power := by
  unfold Chip.freshStart
  dsimp only
  simp only [Chip.newRun_power, Chip.setWord_power, Chip.wr_power]

/-- The part that a start of a kind begins with: reset for a cold start. -/
def Chip.startBase (c : Chip) (kind : Nat) : Chip := if kind = coldKind then c.coldReset.showFuses else c.dropLongs.dropFwJobs

/-- The same with its steps to do. -/
def Chip.startArmed (c : Chip) (kind : Nat) : Chip :=
  { c.startBase kind with
    start := { (c.startBase kind).start with
      busy := true, todo := stepsOf kind, retry := false, blank := false, ordered := 0, cand := [], image := none } }

/-- The same with what the kind resets. -/
def Chip.startFresh (c : Chip) (kind : Nat) : Chip :=
  if kind = mgmtKind then { c.startArmed kind with time := { (c.startArmed kind).time with stopped := true } }
  else (c.startArmed kind).freshStart

theorem Chip.startNow_eq (c : Chip) (kind cause : Nat) :
    c.startNow kind cause =
      (let d := (((c.startFresh kind).wr F.MGT_START_STATUS_start_kind kind).wr F.MGT_START_STATUS_step 0).wr F.MGT_START_STATUS_configured 0
       let d := d.setWord R.MGT_START_CAUSE (BitVec.ofNat 32 (2 ^ cause))
       d.record Sub.mgmt.n 0x16 0 0 d.startDetail) := rfl

theorem Chip.startFresh_start (c : Chip) (kind : Nat) :
    (c.startFresh kind).start.busy = true ∧ (c.startFresh kind).start.todo = stepsOf kind ∧ (c.startFresh kind).start.retry = false := by
  unfold Chip.startFresh
  split
  · exact ⟨rfl, rfl, rfl⟩
  · rw [Chip.freshStart_start]
    split <;> exact ⟨rfl, rfl, rfl⟩

theorem Chip.startNow_start (c : Chip) (kind cause : Nat) :
    (c.startNow kind cause).start.busy = true ∧ (c.startNow kind cause).start.todo = stepsOf kind ∧
      (c.startNow kind cause).start.retry = false := by
  have h : (c.startNow kind cause).start = (c.startFresh kind).start := by
    rw [Chip.startNow_eq]
    simp only [Chip.record_start, Chip.setWord_start, Chip.wr_start]
  rw [h]
  exact Chip.startFresh_start c kind

theorem Chip.showFuses_power (c : Chip) : c.showFuses.power = c.power := rfl

theorem Chip.defaultClasses_power (c : Chip) : c.defaultClasses.power = c.power := by
  unfold Chip.defaultClasses
  generalize List.range 18 = l
  induction l generalizing c with
  | nil => rfl
  | cons n l ih => rw [List.foldl_cons, ih, Chip.wr_power]

theorem Chip.coldReset_power (c : Chip) : c.coldReset.power = c.power := by
  have h : c.coldKept.defaultClasses.power = c.power := Chip.defaultClasses_power _
  unfold Chip.coldReset
  revert h
  generalize c.coldKept.defaultClasses = d
  intro h
  dsimp only
  split
  · rw [Chip.wr_power, Chip.setWord_power, Chip.sat32_power, h]
  · rw [Chip.setWord_power, Chip.sat32_power, h]

theorem Chip.startNow_power (c : Chip) (kind cause : Nat) : (c.startNow kind cause).power = c.power := by
  rw [Chip.startNow_eq]
  simp only [Chip.record_power, Chip.setWord_power, Chip.wr_power]
  have hb : (c.startBase kind).power = c.power := by
    unfold Chip.startBase
    split
    · rw [Chip.showFuses_power, Chip.coldReset_power]
    · rfl
  unfold Chip.startFresh
  split
  · exact hb
  · rw [Chip.freshStart_power]; exact hb

/-- A start has begun. -/
theorem Chip.startNow_begun (c : Chip) (kind cause : Nat) (hp : c.power = true) (hk : kind < 16) : (c.startNow kind cause).begun kind cause := by
  obtain ⟨h1, h2, h3⟩ := Chip.startNow_start c kind cause
  refine ⟨by rw [Chip.startNow_power, hp], h1, h3, h2, ?_, ?_, ?_⟩
  · unfold Chip.startNow
    dsimp only
    rw [Chip.record_rd _ _ _ _ _ _ _ (by decide), Chip.rd_setWord_other _ _ _ _ (by decide), Chip.rd_wr_apart _ _ _ _ (by decide) (by decide),
      Chip.rd_wr_apart _ _ _ _ (by decide) (by decide), Chip.rd_wr_same _ _ _ (by decide)]
    exact Nat.mod_eq_of_lt hk
  · unfold Chip.configured Chip.flag Chip.startNow
    dsimp only
    rw [Chip.record_rd _ _ _ _ _ _ _ (by decide), Chip.rd_setWord_other _ _ _ _ (by decide), Chip.rd_wr_same _ _ _ (by decide)]
    rfl
  · unfold Chip.startNow
    dsimp only
    rw [Chip.record_word _ _ _ _ _ _ _ (by decide), Chip.word_setWord_same]

end Sys2Proof.Machine
end

