-- ==== Sys2Proof/Tests/Slice0.lean ====
section
/-! SUPPORT. Tests: an ill-formed term for each check of WellFormed; for each statement with hypotheses, a state and operands that
meet them (`witness_…`, a clause each where the clauses differ); and single steps whose result the spec gives (`test_…`). -/

namespace Sys2Proof.Tests

open Sys2Proof Machine

/-! ## Small states -/

/-- The part `c` with register fields written. -/
def fields (c : Chip) (l : List (Fld × Nat)) : Chip := l.foldl (fun c x => c.wr x.1 x.2) c

/-- A part under power. -/
def lit (l : List (Fld × Nat)) : Chip := fields { power := true } l

/-- A part under power that is configured and whose ports are released. -/
def up (l : List (Fld × Nat)) : Chip :=
  fields { power := true, start := { released := true, endpoint := true }, time := { running := true } } ((F.MGT_START_STATUS_configured, 1) :: l)

/-- An image in force that has one record. -/
def imgOf (t : Nat) (v : Bytes) : Option Image :=
  some { slot := 0, sequence := 5, fwVer := 7, records := [{ type := t, flags := 0, value := v }], fwMeas := [], cfgMeas := [] }

/-- The state of a part. -/
def st (c : Chip) : State := { chip := c }

/-- The part with a port's state. -/
def onPort (c : Chip) (p : Nat) (x : Port) : Chip := c.setPort p x

/-- A configured part with its enabled mailbox 0 of 16 entries and one entry waiting. -/
def mbUp (l : List (Fld × Nat)) : Chip :=
  up ([(F.HST_LINK_pf0_bme, 1), (F.HST_MB_CFG_log2_entries 0, 4), (F.HST_MB_CFG_enable 0, 1), (F.HST_MB_PROD_prod 0, 1)] ++ l)

/-- An entry of mailbox 0. -/
def h0 : Mb := { fn := 0, seq := 1 }

/-! ## WellFormed -/

theorem test_wf_refuses_units :
    [Instr.refclkLoss 2, .flashDeviceFail 2, .signalChange 144 true, .uplinkAutonegComplete 95, .helloSend 96, .sorrelDispatch 0 2 ⟨true, .clean⟩,
     .sorrelDispatch 96 0 ⟨true, .clean⟩, .engineFault 208 .parity, .mgmtFrameSend 0 8 .clear [], .egressSliceFault 9 .aesParity,
     .ingressSliceFault 8 .aesParity, .spareSelftest 7 true, .relocationMove 4, .trigStart 4096, .captureEdge 4 true, .modulePoll 120 true,
     .i2cStuck 8 true, .nodeEviction 2 0, .stackOutOfService 2 0, .nodeCacheEcc 5 0, .tamperSourceFire { source := 18 },
     .detectorDisagreement 15 true, .telemetryRefresh 9, .pcClear 0 208, .laneEyeMeasure 144 0 0, .triggerPulse 4].all (fun i => !i.wf) = true := by
  decide

theorem test_wf_refuses_shapes :
    [Instr.denastHeader 0 [] [], .denastDataContainer 0 [] [], .denastMark 0 [], .hostDeparture (.flr 2), .hostDeparture (.busMasterClear 2),
     .saStoreScrub 0 (.corrected 18 0), .saStoreScrub 4 .clean, .registerWrite 5 0 [{ value := 0 }], .registerWrite 0 2 [{ value := 0 }],
     .registerWrite 0 0x100000 [{ value := 0 }], .registerWrite 0 0 [], .registerWrite 0 0 (List.replicate 17 { value := 0 }),
     .bar2Write 2, .counterLowRead 0 ⟨1, none⟩, .captureRead 0 5, .mailboxProduce 0 2 0, .laRequestStart 0 [], .laProduce 0 8 0,
     .dbgAccess (2 ^ 56), .pcieLinkUp 0 1 true true, .pcieLinkUp 9 1 true true, .pcieLinkUp 1 6 true true].all (fun i => !i.wf) = true := by
  decide

theorem test_wf_refuses_entries :
    [Instr.nop { fn := 2, seq := 1 }, .nop { fn := 0, seq := 2 ^ 64 }, .nop { fn := 0, seq := 1, outAddr := 2 ^ 64 },
     .nop { fn := 0, seq := 1, outLen := 2 ^ 32 }, .recRead h0 256 1 0 0 0, .recRead h0 0 1 0 0 (2 ^ 32), .keyInfo h0 65536,
     .keyGenerate h0 0 [], .fwdMacWrite h0 1 0 0 0 [], .fwdNhWrite h0 1 0 [], .mcastWrite h0 0 [], .tmPolicerWrite h0 [], .attest h0 16 [],
     .pkeSubmit h0 [], .pkeAbort h0 (2 ^ 32), .fwdLpmWrite h0 1 false 0 0 []].all (fun i => !i.wf) = true := by
  decide

theorem test_wf_admits :
    [Instr.nop h0, .signalChange 143 true, .uplinkAutonegComplete 96, .registerWrite 2 0xFFFFC [{ value := 0 }], .spareSelftest 17 true,
     .denastMark 95 (fill 16 0), .telemetryRefresh 8, .captureRead 4 4, .pcieLinkUp 8 5 true true].all Instr.wf = true := by
  decide

/-! ## Starts, power, single faults -/

theorem witness_unpowered : (st {}).chip.power = false ∧ Instr.refclkLoss 0 ≠ .powerOn {} true true true true ∧
    (Instr.refclkLoss 0).ofAlwaysOn = false ∧ (∃ t, exec (.refclkLoss 0) (st {}) = .next t) := ⟨rfl, by decide, rfl, _, rfl⟩

theorem witness_powerKept : (∃ t, exec .idcode (st (lit [])) = .next t) ∧ (∀ a b c d e, Instr.idcode ≠ .powerOn a b c d e) ∧
    Instr.idcode ≠ .mainPowerLoss := ⟨⟨_, rfl⟩, nofun, nofun⟩

theorem witness_darkKept : State.reset.darkInv ∧ ∃ t, step State.reset = .next t := ⟨Or.inr rfl, _, rfl⟩

theorem witness_mainPowerLoss : (st (lit [])).chip.power = true := by decide

theorem witness_backupCell :
    ((st {}).chip.ao.cell = false ∧ (st {}).chip.ao.cellEver = false ∧ (st {}).chip.power = false) ∧
      (st { ao := { cellEver := true } }).chip.ao.cell = false ∧ (st { ao := { cellEver := true } }).chip.ao.cellEver = true := by decide

theorem witness_coldStarts :
    ((st {}).chip.power = false ∧ (true || false) = true ∧ ({} : Straps).test = false ∧ ({ test := true } : Straps).test = true) ∧
      ((st (lit [])).chip.power = true ∧ 10000 ≤ 10000 ∧ 9999 < 10000 ∧
        ((lit []).start.busy && (lit []).rd F.MGT_START_STATUS_start_kind == 1) = false) ∧
      (let c : Chip := { lit [(F.MGT_START_STATUS_start_kind, 1)] with start := { busy := true } }
       c.start.busy = true ∧ c.rd F.MGT_START_STATUS_start_kind = 1) ∧
      ((st { power := true, start := { retry := true } }).chip.power = true ∧ (st { power := true, start := { retry := true } }).chip.start.retry = true) := by
  decide

theorem witness_scrubErrorWarmStart : (st (up [])).chip.power = true ∧ (st (up [])).chip.halted = false ∧ (st (up [])).chip.safe = false ∧
    (st (up [])).chip.start.busy = false := by decide

/-- A start under way at step `n`. -/
def starting (n : Nat) (l : List (Fld × Nat)) : State := st (fields { power := true, start := { busy := true, todo := [n, 23] } } l)

theorem witness_startSteps :
    ((starting 22 [(F.MGT_START_STATUS_start_kind, 2)]).chip.power = true ∧ (starting 22 [(F.MGT_START_STATUS_start_kind, 2)]).chip.start.busy = true ∧
      (starting 22 [(F.MGT_START_STATUS_start_kind, 2)]).chip.start.todo = 22 :: 23 :: [] ∧ ({} : StepIn).stepOk = true ∧
      (starting 22 [(F.MGT_START_STATUS_start_kind, 2)]).chip.rd F.MGT_START_STATUS_start_kind = 2) ∧
      (starting 4 [(F.MGT_START_STATUS_start_kind, 1)]).chip.rd F.MGT_START_STATUS_start_kind = 1 ∧
      (starting 7 []).chip.start.scrubBad = false ∧
      (starting 18 [(F.MGT_START_STATUS_start_kind, 3)]).chip.rd F.MGT_START_STATUS_start_kind = 3 ∧
      (starting 24 [(F.MGT_START_STATUS_start_kind, 2)]).chip.rd F.MGT_START_STATUS_start_kind ≠ 3 := by
  decide

theorem witness_startFails :
    ({ stepOk := false } : StepIn).stepOk = false ∧
      (let s := starting 7 [(F.MGT_HALT_halted, 1)]
       s.chip.power = true ∧ s.chip.start.busy = true ∧ s.chip.start.todo = 7 :: [23] ∧ s.chip.halted = true) ∧
      [1, 2, 3].all (fun k =>
        let s := starting 7 [(F.MGT_START_STATUS_start_kind, k)]
        let fails := (s.chip.ao.timer :: s.chip.ao.fails).take 3
        !s.chip.halted && s.chip.rd F.MGT_START_STATUS_start_kind == k && (({ s.chip with ao := { s.chip.ao with fails := fails } }).liveFails.length < 3)) = true ∧
      (let c : Chip := { (starting 7 []).chip with ao := { fails := [0, 0] } }
       c.halted = false ∧ 3 ≤ ({ c with ao := { c.ao with fails := (c.ao.timer :: c.ao.fails).take 3 } }).liveFails.length) ∧
      ({ (starting 7 []).chip with start := { (starting 7 []).chip.start with scrubBad := true } } : Chip).start.scrubBad = true ∧
      [7, 23].contains (finalStep 2) = true ∧ [24].contains (finalStep 2) = false := by
  decide

/-- A configured part whose standby pair is ready. -/
def paired : Chip := up [(F.MGT_PAIR_STATUS_pair1_state, 1)]

/-- One whose other pair is fenced. -/
def alone : Chip := up [(F.MGT_PAIR_STATUS_pair1_state, 3)]

theorem witness_pairFaults :
    (paired.power = true ∧ paired.start.busy = false ∧ paired.safe = false ∧ paired.configured = true ∧ paired.halted = false ∧
      paired.pairState (1 - paired.rd F.MGT_PAIR_STATUS_active) = 1) ∧
      (alone.power = true ∧ alone.start.busy = false ∧ alone.safe = false ∧ alone.configured = true ∧ alone.halted = false ∧
        alone.pairState (1 - alone.rd F.MGT_PAIR_STATUS_active) ≠ 1) := by decide

theorem witness_pairSync : alone.pairState (1 - alone.rd F.MGT_PAIR_STATUS_active) = 3 ∧
    alone.start.badPairs.contains (1 - alone.rd F.MGT_PAIR_STATUS_active) = false := by decide

theorem witness_referenceClocks :
    (let c := lit [(F.MGT_REFCLK_in0_good, 1), (F.MGT_REFCLK_in1_good, 1)]
     c.power = true ∧ c.refGood 0 = true ∧ c.refGood (1 - 0) = true ∧ c.rd F.MGT_REFCLK_selected = 0) ∧
    (let c := lit [(F.MGT_REFCLK_in0_good, 1), (F.MGT_REFCLK_in1_good, 0)]; c.refGood 0 = true ∧ c.refGood (1 - 0) = false) ∧
    (let c := lit [(F.MGT_REFCLK_in1_good, 0), (F.MGT_REFCLK_holdover, 1)]; c.refGood 1 = false ∧ c.flag F.MGT_REFCLK_holdover = true) ∧
    (let c := lit [(F.MGT_REFCLK_in0_good, 1), (F.MGT_REFCLK_in1_good, 0)]; c.refGood 1 = false ∧ c.flag F.MGT_REFCLK_holdover = false) := by
  decide

theorem witness_flashDevices :
    (let c := lit []; c.power = true ∧ c.flashGood 0 = true ∧ c.flashGood 1 = true) ∧
    (let c := up [(F.MGT_FLASH_STATUS_dev0_failed, 1)]; c.power = true ∧ c.firmware = true ∧ c.flashGood 0 = false ∧ c.flashGood 1 = true) := by
  decide

/-- A journal entry of no mailbox. -/
def entry0 : JEntry := { jseq := 1, imgSeq := 5, tag := [], op := .slotClear 8 }

theorem witness_journal :
    (let c := { lit [] with jpend := [entry0] }
     c.power = true ∧ c.start.ordered = 0 ∧ c.jpend = entry0 :: [] ∧ 2 ≤ entry0.fn ∧ c.persistBlocked = false ∧ c.flashGood 0 = true ∧
       c.flashGood 1 = true ∧ c.jhalf = 0) ∧ ∀ i v, entry0.op ≠ .pnCeiling i v := ⟨by decide, nofun⟩

/-! ## Registers -/

theorem witness_registerWrites :
    (st (lit [])).chip.power = true ∧ (st (lit [])).chip.served 0 R.FWD_SRCH_ARG0 = true ∧ (st (lit [])).chip.allowed 0 R.FWD_SRCH_ARG0 true = true ∧
      (descOf R.FWD_SRCH_ARG0).isSome = true ∧ R.FWD_SRCH_ARG0 < 0x50000 := by decide

theorem witness_registerWrites_plain : ∀ c x, Chip.writeSpecial c 0 R.FWD_SRCH_ARG0 x = none := fun _ _ => rfl

theorem witness_deniedWrite : acuOf 2 = some 0 ∧ (up []).served 2 0x4000 = true ∧ (up []).allowed 2 0x4000 true = false := by decide

theorem witness_fixedDenials :
    ((0x200 : Nat) < 0x100 ∨ 0x200 ≤ 0x200) ∧ 0x100 ≤ 0x100 ∧ 0x1FF < 0x200 ∧ 0x4000 ≤ 0x4000 ∧ 0x7FFF < 0x8000 ∧
      ({} : Chip).flag F.HST_DEBUG_session = false := by decide

theorem witness_registerReads :
    (lit []).power = true ∧ (lit []).served 0 R.TIM_EST = true ∧ (lit []).allowed 0 R.TIM_EST false = true ∧ R.TIM_EST ≠ R.PRT_PM_TCA ∧
      wordIx R.TIM_EST (R.TIM_CAP 0) 5 16 = none ∧ (descOf R.TIM_EST).any (fun d => d.1.rc == 0 && d.2 == 0 && d.1.wide == 2) = true ∧
      (lit []).chained R.TIM_EST = none ∧
      (let c := lit [(F.HLT_PC_SEL_chain 7, 2)]
       c.served 0 (R.HLT_PC_CNT 7 2) = true ∧ c.allowed 0 (R.HLT_PC_CNT 7 2) false = true ∧ c.chained (R.HLT_PC_CNT 7 2) = some 0 ∧
         c.allowed 0 (R.HLT_PC_CNT 7 3) false = true ∧ c.chained (R.HLT_PC_CNT 7 3) = some (1 + 1) ∧
         (descOf (R.HLT_PC_CNT 7 2)).any (fun d => d.1.rc == 0 && d.2 == 0) = true ∧
         (descOf (R.HLT_PC_CNT 7 3)).any (fun d => d.1.rc == 0 && d.2 == 0) = true) ∧
      (lit []).served 0 (R.TIM_EST + 4) = true ∧ (lit []).allowed 0 (R.TIM_EST + 4) false = true ∧ R.TIM_EST + 4 ≠ R.PRT_PM_TCA ∧
      wordIx (R.TIM_EST + 4) (R.TIM_CAP 0) 5 16 = none ∧ (descOf (R.TIM_EST + 4)).any (fun d => d.1.rc == 0 && d.2 == 0 + 1) = true := by decide

theorem witness_readClears :
    (lit []).served 0 (R.PRT_STATUS 0) = true ∧ (lit []).allowed 0 (R.PRT_STATUS 0) false = true ∧ R.PRT_STATUS 0 ≠ R.PRT_PM_TCA ∧
      wordIx (R.PRT_STATUS 0) (R.TIM_CAP 0) 5 16 = none ∧
      (descOf (R.PRT_STATUS 0)).any (fun d => d.2 == 0 && d.1.wide == 1 && d.1.rc != 0) = true := by decide

theorem witness_accessUnits : acuOf 2 = some 0 ∧ (up []).start.endpoint = true ∧ (up []).fixedDeny 2 0xA000 true = false ∧ acuOf 2 ≠ some 1 ∧
    acuOf 0 ≠ some 0 := by decide

theorem witness_setBitsRemain : (lit []).served 0 R.TMP_LATCHED = true ∧ (lit []).allowed 0 R.TMP_LATCHED true = true ∧
    (descOf R.TMP_LATCHED).any (fun d => d.1.w1c.getLsbD 17) = true ∧ (BitVec.ofNat 32 (2 ^ 17)).getLsbD 17 = true := by decide

/-- An initiator without an access check unit may write. -/
def mayWrite (a : Nat) : Bool := (lit []).served 0 a && (lit []).allowed 0 a true

theorem witness_copies :
    [R.SWC_MC_SEL, R.KEY_SLOT_SEL, R.TMP_LOG_SEL, R.SAS_SC_SEL, R.CPH_SA_SEL, R.FLW_CNT_SEL, R.PRT_PM_CTRL, R.FWD_SRCH_CTRL, R.TMP_LATCHED,
      R.HST_MB_PROD 0, R.HST_MB_CFG 0, R.HLT_PC_GLOBAL, R.HLT_PC_FILT 0, R.KEY_LA_PROD 0, R.KEY_LA_CFG 0].all mayWrite = true := by decide

theorem witness_copies_bins : ({ lit [] with pm := { on := true } } : Chip).binOf 0 0 ≠ none ∧ ({ lit [] with pm := { on := true } } : Chip).binOf 0 1 = none := by
  decide

theorem witness_search : ((lit []).pipe 3).chain = none := by decide

theorem witness_queueReads :
    ({ lit [] with pm := { tca := [7] } } : Chip).pm.tca = 7 :: [] ∧ (lit []).pm.tca = [] ∧ (lit []).served 0 R.PRT_PM_TCA = true ∧
      (lit []).allowed 0 R.PRT_PM_TCA false = true ∧ (lit []).served 0 (R.TIM_CAP 4) = true ∧ (lit []).allowed 0 (R.TIM_CAP 4) false = true ∧
      Sparse.get [] ({ lit [] with time := { caps := [(4, [⟨9, false⟩])] } } : Chip).time.caps 4 = ⟨9, false⟩ :: [] := by decide

theorem witness_registerReads_code :
    (let c := lit [(F.TMP_SRC_used 15, 1), (F.TMP_SRC_class 15, 1)]
     codeGood (some 0x55) R.FWD_SRCH_ARG0 0 0 (c.view R.FWD_SRCH_ARG0) = false ∧ c.sourceUsed 15 = true ∧ c.rd (F.TMP_SRC_class 15) < 2) ∧
      (lit []).allowed 0 R.FWD_SRCH_ARG0 false = true ∧ (lit []).chained R.FWD_SRCH_ARG0 = none ∧
      (descOf R.FWD_SRCH_ARG0).any (fun d => d.1.rc == 0 && d.2 == 0 && d.1.wide == 1) = true := by decide +kernel

theorem witness_telemetry :
    let c := { up [] with img := imgOf T.hostConfig ((fill 48 0).set 1 4) }
    c.power = true ∧ c.start.endpoint = true ∧ c.teleEnable = true ∧ c.telePaused = false := by decide

/-! ## The host -/

theorem witness_linkUp : let c := lit [(F.MGT_STRAPS_pcie_en, 1)]; c.power = true ∧ c.flag F.MGT_STRAPS_pcie_en = true ∧ c.start.busy = false := by
  decide

theorem witness_departures :
    let c := up [(F.HST_LINK_link_up, 1), (F.HST_LINK_pf0_bme, 1), (F.HST_LINK_pf1_bme, 1)]
    c.power = true ∧ c.start.ordered = 0 ∧ c.flag F.HST_LINK_link_up = true ∧ c.flag F.HST_LINK_pf0_bme = true ∧ c.flag F.HST_LINK_pf1_bme = true := by
  decide

theorem witness_mailboxRings :
    let c := lit [(F.HST_MB_CFG_log2_entries 0, 4)]
    (5 + 65536 - c.rd (F.HST_MB_RPROD_rprod 0)) % 65536 ≤ 2 ^ c.rd (F.HST_MB_CFG_log2_entries 0) ∧
      2 ^ c.rd (F.HST_MB_CFG_log2_entries 0) < (17 + 65536 - c.rd (F.HST_MB_RPROD_rprod 0)) % 65536 := by decide

/-- A reply of a long command. -/
def reply0 : Reply := { seq := 3, opcode := 0x0600, intr := false, dup := false, answer := some (0, 0) }

theorem witness_longCommandDone :
    let c := { up [] with mb0 := { longs := [{ reply := reply0, wait := .ready }] } }
    c.power = true ∧ c.mbServed 0 = true ∧ c.start.ordered = 0 ∧
      (c.mb 0).longs.find? (fun x => x.reply.seq == 3) = some { reply := reply0, wait := .ready } ∧ reply0.answer = some (0, 0) := by decide

/-! ## Ports -/

/-- Port 0 enabled with an encapsulation (0 clear, 1 MACsec, 2 Denast), and uplink 96. -/
def ports (encap : Nat) (l : List (Fld × Nat)) : Chip :=
  up ([(F.PRT_CFG_port_mode 0, 1), (F.PRT_CFG_encap 0, encap), (F.PRT_CFG_port_mode 96, 1)] ++ l)

theorem witness_portLocks :
    (let c := ports 0 []; c.receives 0 = true ∧ c.receives 96 = true ∧ c.isDenast 0 = false) ∧
    (let c := ports 2 [(F.PRT_DEN_STATUS_state 0, 1)]; c.receives 0 = true ∧ c.isDenast 0 = true ∧ c.rd (F.PRT_DEN_STATUS_state 0) ≠ 2) ∧
    (let c := onPort (ports 0 []) 96 { anDone := true }; (c.port 96).anDone = true ∧ (c.port 96).trained = false) := by decide

theorem witness_linkState :
    (let c := onPort (ports 0 [(F.PRT_STATUS_pcs_ready 96, 1)]) 96 { anDone := true, trained := true }
     c.receives 96 = true ∧ c.flushOnDown 96 = false ∧ c.upCond 96 = true ∧ c.flag (F.PRT_STATUS_link_up 96) = false) ∧
    (let c := ports 0 [(F.PRT_STATUS_link_up 0, 1), (F.MGT_HALT_halted, 1)]
     c.receives 0 = true ∧ c.halted = true ∧ c.flushOnDown 0 = false ∧ c.upCond 0 = false ∧ c.flag (F.PRT_STATUS_link_up 0) = true) := by decide

theorem witness_defects :
    (let c := ports 0 [(F.PRT_DEFECT_sf 0, 1)]
     c.watched 0 = true ∧ c.defectCause 0 .dLOS = true ∧ bit (c.rd (F.PRT_DEFECT_current 0)) (defectIx .dLOS) = false ∧ defectIx .dLOS < 7 ∧
       c.flag (F.PRT_DEFECT_sf 0) = true) ∧
    (let c := ports 0 []
     c.defectCause 0 .dRDI = true ∧ bit (c.rd (F.PRT_DEFECT_current 0)) (defectIx .dRDI) = false ∧ ¬ defectIx .dRDI < 7 ∧
       c.flag (F.PRT_DEFECT_sf 0) = false) ∧
    (let c := ports 0 [(F.PRT_DEFECT_sf 0, 1), (F.PRT_DEFECT_current 0, 6), (F.PRT_STATUS_signal 0, 1)]
     c.defectGone 0 .dLOS = true ∧ bit (c.rd (F.PRT_DEFECT_current 0)) (defectIx .dLOS) = true ∧
       isSf (c.rd (F.PRT_DEFECT_current 0) - 2 ^ defectIx .dLOS) = true) := by decide

/-! ## Denast -/

/-- The record that configures port 0: a largest container payload of 1,024 and transmit channel 1. -/
def portRec0 (tfc : Byte) : Bytes := [0, 0, 1, 0, 0, 0, 0, 0, 0, 0, 0, 4, tfc, 0, 0, 0, 0, 0, 0, 0, 1, 0, 0, 0]

/-- Denast port 0 with its record in force, synchronised unless `l` says otherwise. -/
def den (tfc : Byte) (l : List (Fld × Nat)) : Chip :=
  { ports 2 ([(F.PRT_DEN_STATUS_state 0, 2), (F.PRT_STATUS_am_lock 0, 1)] ++ l) with img := imgOf T.portConfig (portRec0 tfc) }

theorem witness_denast_record : (den 0 []).denMax 0 = 1024 ∧ (den 0 []).denTxSc 0 = 1 ∧ (den 9 []).denTfc 0 = 9 := by decide

theorem witness_delineation :
    (let c := den 0 []
     c.receives 0 = true ∧ c.isDenast 0 = true ∧ c.flag (F.PRT_STATUS_am_lock 0) = true ∧ (denMask (coreHeader 3)).length = 4 ∧
       headerFits (c.denMax 0) (denMask (denMask (coreHeader 3))) [] = true ∧ headerFits (c.denMax 0) (denMask (fill 4 0)) [] = false ∧
       c.rd (F.PRT_DEN_STATUS_state 0) = 2 ∧ (c.delin 0).last = false ∧ coreOk (flipBit (coreHeader 8) 0) = false ∧
       corrected (flipBit (coreHeader 8) 0) = some (coreHeader 8) ∧ pliOk (c.denMax 0) (be (coreHeader 8) 0 2) [] = true ∧
       c.rd (F.PRT_DEN_STATUS_bad_run 0) < 2 ∧ coreOk [0, 8, 1, 1] = false ∧ corrected [0, 8, 1, 1] = none) ∧
    (den 0 [(F.MGT_HALT_halted, 1)]).halted = true ∧ (den 0 [(F.MGT_HALT_halted, 1)]).receives 0 = true ∧
    (den 0 [(F.PRT_DEN_STATUS_state 0, 0)]).rd (F.PRT_DEN_STATUS_state 0) = 0 ∧
    (let c := den 0 [(F.PRT_DEN_STATUS_state 0, 1), (F.PRT_DEN_STATUS_presync_count 0, 1)]
     c.rd (F.PRT_DEN_STATUS_state 0) = 1 ∧ c.rd (F.PRT_DEN_STATUS_presync_count 0) < 2) := by decide +kernel

/-- A control container of a 4-byte message, with a good and a bad CRC. -/
def ctl (m : Bytes) (crc : Nat) : Bytes := coreHeader m.length ++ m ++ toLe crc 4

/-- Denast port 0 in SYNC that waits for the container of a PLI. -/
def toCome (pli : Nat) (x : Port) : Chip := (onPort (den 0 []) 0 x).setDelin 0 { due := some pli }

theorem witness_containers :
    [1, 2, 3, 4, 511, 512, 1024].all (fun n => (toCome n {}).awaits 0 n && !((toCome n {}).delin 0).last) = true ∧
    (let c := toCome 2 {}
     c.hears 0 = true ∧ c.isDenast 0 = true ∧ (fill 16 0).length = 16 ∧ 4 ≤ (fill 4 0).length ∧
       (c.port 0).rxSeq = none ∧ (c.port 0).aisRun < 2 ∧
       (markBody 2 false 77).length = 16 ∧ (markBody 2 false 77).drop 12 = toLe (crc32 ((markBody 2 false 77).take 12)) 4 ∧
       bit (c.rd (F.PRT_DEFECT_current 0)) 8 = bit (byteAt (markBody 2 false 77) 0) 2) ∧
    (let c := toCome 511 { rxSeq := some 5 }; (c.port 0).rxSeq = some 5 ∧ c.boxesWaiting 0 < 2) ∧
    (let b := ctl [1, 0, 0, 0] (crc32 (coreHeader 4 ++ [1, 0, 0, 0]))
     controlHeadOk (b.take 4) = true ∧ b.length = be b 0 2 + 8 ∧ b.drop (4 + be b 0 2) = toLe (crc32 (b.take (4 + be b 0 2))) 4 ∧
       byteAt (slice b 4 (be b 0 2)) 0 = 1) ∧
    (let b := ctl [1, 0, 0, 0] 0
     controlHeadOk (b.take 4) = true ∧ b.length = be b 0 2 + 8 ∧ b.drop (4 + be b 0 2) ≠ toLe (crc32 (b.take (4 + be b 0 2))) 4) := by decide +kernel

theorem witness_containers_deciphered :
    let h : Chan := { sc := 0, port := 0, tx := false, flag1 := false, count := 4, offset := 0, suite := 1, mode := 1, profile := 0,
                      sci := fill 8 9, ssci := 0, base := 0, w := 0 }
    let c := toCome 512 { rxSeq := some 5 }
    let c : Chip := { c with data := { c.data with chans := [h], sas := [(0, { installed := true, accepting := true, nextPn := 5 })] } }
    c.awaits 0 512 = true ∧ (c.port 0).rxSeq = some 5 ∧ c.chan (c.denRxSc 0) = some h ∧ c.rxSa h (c.rd (F.PRT_DEN_STATUS_rx_an 0)) = some 0 ∧
      max 1 ((c.sa 0).nextPn - (c.sa 0).w) ≤ 5 ∧ c.holdTakes (pipeOf 0) = true := by decide +kernel

/-- A HELLO that names the partner `id`. -/
def helloOf (id : Byte) : Bytes := [1, 1, 0, 0] ++ fill 20 7 ++ fill 16 id ++ fill 8 0

theorem witness_hello :
    ((den 0 []).hears 0 = true ∧ (den 0 []).watched 0 = true ∧ ([] : Bytes).length ≠ 48 ∧ ((den 0 []).port 0).partner = none ∧
      ((onPort (den 0 []) 0 { helloOn := true }).port 0).helloOn = true) ∧
    ∃ m, m.length = 48 ∧ byteAt m 0 = 1 ∧ byteAt m 1 = 1 ∧ slice m 24 16 ≠ (den 0 []).peerId := by
  refine ⟨by decide, ?_⟩
  by_cases h : slice (helloOf 0) 24 16 = (den 0 []).peerId
  · exact ⟨helloOf 1, by decide, by decide, by decide, h ▸ by decide⟩
  · exact ⟨helloOf 0, by decide, by decide, by decide, h⟩

theorem witness_partnerTimeout :
    let c := onPort (den 0 []) 0 { partner := some { id := fill 16 3 } }
    c.watched 0 = true ∧ c.isDenast 0 = true ∧ (c.port 0).partner = some { id := fill 16 3 } ∧ ∀ h ∈ c.data.chans, h.port ≠ 0 := by decide

/-- Channel 1 of port 0 at SA 0 to 3, keyed by the key schedule (0), MKA (1) or the host (2). -/
def chanOf (tx : Bool) (mode : Nat) : Chan :=
  { sc := 1, port := 0, tx := tx, flag1 := false, count := 4, offset := 0, suite := 1, mode := mode, profile := 0, sci := fill 8 9, ssci := 0,
    base := 0, w := 0 }

/-- The part with channel 1 and its SA 0. -/
def withChan (c : Chip) (h : Chan) (x : Sa) : Chip := { c with data := { c.data with chans := [h], sas := [(0, x)] } }

/-- A current SA. -/
def sa0 : Sa := { installed := true, current := true, accepting := true, suite := 1, ceiling := 1000 }

theorem witness_containerClose :
    (let c := onPort (den 0 []) 0 { openRecs := [{ bytes := [1], octets := 1 }] }
     c.running = true ∧ c.isDenast 0 = true ∧ c.denTfc 0 = 0 ∧ (c.port 0).openRecs ≠ [] ∧ c.denSa 0 = none) ∧
    (let c := withChan (den 0 []) (chanOf true 1) sa0; c.denSa 0 = some (chanOf true 1, 0) ∧ (c.port 0).release = []) := by decide

theorem witness_containerSealed :
    (let c := withChan (onPort (den 0 []) 0 { openRecs := [{ bytes := [1], octets := 1 }] }) (chanOf true 1) sa0
     c.running = true ∧ c.isDenast 0 = true ∧ c.denSa 0 = some (chanOf true 1, 0) ∧ c.saHeld (chanOf true 1) 0 = false ∧
       (c.pickOutLane (pipeOf 0)).isSome = true ∧ c.denTfc 0 = 0 ∧ (c.port 0).openRecs ≠ [] ∧ (c.port 0).shut = [] ∧
       (c.sa 0).nextPn + 1 < hardLimit (chanOf true 1).suite ∧ (c.sa 0).nextPn + 1 < c.softPn (chanOf true 1) ∧
       c.softOctets (chanOf true 1) = 0) ∧
    (let c := withChan (den 9 []) (chanOf true 1) sa0
     c.denSa 0 = some (chanOf true 1, 0) ∧ c.saHeld (chanOf true 1) 0 = false ∧ c.denTfc 0 ≠ 0 ∧ c.flag (F.PRT_STATUS_ais_tx 0) = false ∧
       c.flag (F.PRT_STATUS_tfc_mismatch 0) = false) := by decide

/-! ## Modules -/

/-- A managed cage 0 on master 0, in a state of its module and a step of its bring-up. -/
def caged (state step : Nat) : Chip :=
  { ports 0 [(F.PRT_CFG_managed 0, 1), (F.PRT_MOD_STATUS_mod_state 0, state), (F.PRT_MOD_STATUS_present 0, 1)] with
    img := imgOf T.moduleConfig (fill 272 0), data := { cages := [(0, { acks := step, nacks := step, step := step })] } }

theorem witness_modules :
    (let c := caged 0 0; c.modulesServed = true ∧ c.cageSeen 0 = true ∧ (c.cage 0).acks = 0 ∧ (c.cage 0).nacks = 0 ∧
      c.flag (F.PRT_MOD_STATUS_present 0) = true) ∧
    (let c := caged 1 1; c.modulesServed = true ∧ c.cageSeen 0 = true ∧ c.portOn 0 = true ∧ 0 < (c.cage 0).step ∧ (c.cage 0).step < 5 ∧
      (c.cage 0).step ≠ 2 ∧ (c.cage 0).step ≠ 0 ∧ c.rd (F.PRT_MOD_STATUS_mod_state 0) = 1) ∧ ((caged 1 2).cage 0).step = 2 := by decide

theorem witness_i2cMasters : (lit []).flag (F.PRT_I2C_STATUS_failed 0) = false ∧
    (lit [(F.PRT_I2C_STATUS_failed 0, 1)]).flag (F.PRT_I2C_STATUS_failed 0) = true ∧ (caged 0 0).flag (F.PRT_CFG_managed 0) = true ∧
    (caged 0 0).cageMaster 0 = 0 := by decide

/-! ## Frames -/

/-- A stored frame of port 0. -/
def frame0 : Frame := { port := 0, bytes := fill 64 0, decided := true }

/-- The part with frame 1. -/
def withFrame (c : Chip) (f : Frame) : Chip := { c with data := { c.data with frames := [(1, some f)], order := [(0, [1])] } }

theorem witness_framesArrive :
    (let c := ports 0 []; c.running = true ∧ c.portOn 0 = true ∧ c.portOn 96 = true ∧ c.isDenast 0 = false ∧ c.isMacsec 0 = false ∧
      c.headUsed 0 < headroomOf 0 ∧ c.headUsed 96 < headroomOf 96 ∧ (c.flights (2 * 0)).length < 32) ∧
    (let c := withFrame (ports 0 []) { frame0 with head := 96 }; headroomOf 0 ≤ c.headUsed 0) ∧
    (let c := withFrame (ports 0 []) { frame0 with port := 96, head := 96 }; headroomOf 96 ≤ c.headUsed 96) := by decide

/-- A frame of port 0 under a SecTAG of 8 bytes with the given control bytes, short length and PN. -/
def tagged (tci sl : Byte) (pn : Nat) (rest : Bytes) : Bytes := fill 12 0 ++ [0x88, 0xE5, tci, sl] ++ toBe pn 4 ++ rest

theorem witness_preClassifier :
    (let c := ports 1 []
     let f := fill 64 0
     c.running = true ∧ c.portOn 0 = true ∧ c.isMacsec 0 = true ∧ c.isDenast 0 = false ∧ f ≠ [] ∧ f.length ≤ 10240 ∧ be f 12 2 ≠ 0x88E5 ∧
       (∀ r, r < 8 → c.bypassHit 0 r f = false)) ∧
    (let c := ports 1 [(F.CPH_BYP_kind 0 0, 1)]; c.bypassHit 0 0 (fill 64 0) = true) ∧
    (let f := fill 12 0 ++ [0x88, 0xE5]; be f 12 2 = 0x88E5 ∧ ¬ 20 ≤ f.length) ∧
    (let f := tagged 0x80 0 1 []; be f 12 2 = 0x88E5 ∧ 20 ≤ f.length ∧ bit (byteAt f 14) 5 = false ∧ bit (byteAt f 14) 7 = true) ∧
    (let f := tagged 0x0C 0 1 (fill 44 0)
     be f 12 2 = 0x88E5 ∧ 20 ≤ f.length ∧ bit (byteAt f 14) 5 = false ∧ bit (byteAt f 14) 7 = false ∧ bit (byteAt f 14) 4 = false ∧
       bit (byteAt f 14) 3 = true ∧ bit (byteAt f 14) 2 = true ∧ byteAt f 15 < 64 ∧
       ((ports 1 []).portChans 0 false).find? (fun h => h.flag1) = none ∧ be (tagged 0x0C 0 0 []) 16 4 = 0) := by decide

/-- Receive channel 1 of port 0 under explicit SCIs or not. -/
def rxChan : Chan := { chanOf false 1 with flag1 := true, suite := 0 }

theorem witness_preClassifier_channels :
    (let c := withChan (ports 1 []) rxChan {}
     (c.portChans 0 false).find? (fun h => h.flag1) = some rxChan ∧ isXpn rxChan.suite = false ∧
       be (tagged 0x0C 0 7 (fill 44 0)) 16 4 ≠ 0 ∧ c.rxSa rxChan (byteAt (tagged 0x0C 0 7 (fill 44 0)) 14 % 4) = none) ∧
    (let c := withChan (ports 1 []) rxChan { sa0 with nextPn := 9 }
     c.rxSa rxChan 0 = some 0 ∧ recoverPn (isXpn rxChan.suite) (c.sa 0).nextPn (c.sa 0).w 7 < max 1 ((c.sa 0).nextPn - (c.sa 0).w) ∧
       max 1 ((c.sa 0).nextPn - (c.sa 0).w) ≤ recoverPn (isXpn rxChan.suite) (c.sa 0).nextPn (c.sa 0).w 9 ∧
       c.rd (F.CPH_HOLD_used (pipeOf 0)) * 64 + 10304 ≤ 8192 * 64 ∧ c.inSlices (pipeOf 0) ≠ [] ∧ c.headUsed 0 < headroomOf 0 ∧
       (c.flights (2 * 0)).length < 32) := by decide

theorem witness_verdicts_order :
    let x : Frame := { frame0 with verdict := 1, sc := 1, sa := 0, waitIcv := true, pn := 4 }
    let c := withChan (ports 1 []) (chanOf false 1) sa0
    let c : Chip := { c with data := { c.data with frames := [(1, some x), (2, some x)] } }
    c.oldestWaiting 0 = some 1 ∧ c.oldestWaiting 0 ≠ some 2 ∧ c.frame 2 = some x ∧
      ∀ h, h ∈ c.data.chans → h.port = 0 → (c.scRun h.sc).loadDue = none ∧ ∀ i, i ∈ h.sas → (c.sa i).retireDue = false := by decide

theorem witness_verdicts :
    let x : Frame := { frame0 with verdict := 1, sc := 1, sa := 0, waitIcv := true, pn := 4, icvOk := true }
    let c := withFrame (withChan (ports 1 []) (chanOf false 1) { sa0 with nextPn := 9 }) x
    (c.power = true ∧ c.halted = false ∧ c.frame 1 = some x ∧ x.waitIcv = true ∧ x.gone = false ∧ x.icvOk = true ∧
      c.chan x.sc = some (chanOf false 1) ∧ (chanOf false 1).mode ≠ modeEpoch ∧ x.pn < max 1 ((c.sa x.sa).nextPn - (c.sa x.sa).w)) ∧
    max 1 ((c.sa x.sa).nextPn - (c.sa x.sa).w) ≤ ({ x with pn := 9 } : Frame).pn ∧ ({ x with icvOk := false } : Frame).icvOk = false := by decide

theorem witness_eligibility :
    (let c := withFrame (ports 0 []) { frame0 with queues := [96] }
     c.running = true ∧ Sparse.get [] c.data.order 0 = 1 :: [] ∧ c.frame 1 = some { frame0 with queues := [96] } ∧ frame0.learn = none ∧
       frame0.hit = none ∧ frame0.decided = true ∧ frame0.waitIcv = false ∧ frame0.fail = none ∧ frame0.punt = none ∧ frame0.gone = false ∧
       frame0.cls < 8 ∧ [96].all (· < 144) = true) ∧
    ({ frame0 with waitIcv := true } : Frame).waitIcv = true ∧ ({ frame0 with punt := some 3 } : Frame).punt.isSome = true ∧
    ({ frame0 with fail := some 1 } : Frame).fail = some 1 := by decide

/-- A flight whose run on engine 0 has ended. -/
def flight0 (r : Run) : Flight := { frame := 1, bytes := fill 64 0, engine := some 0, run := some r }

/-- The part with frame 1 and one flight of port 0. -/
def flying (dir : Nat) (x : Flight) : Chip :=
  let c := withFrame (ports 0 []) frame0
  { c with data := { c.data with flights := [(dir, [x])] } }

theorem witness_sorrelEngines :
    (let c := flying 0 { frame := 1 }
     c.running = true ∧ c.awaitsAgain (clusterOf 0) = none ∧ flightIx ((c.flights (2 * 0 + 0)).take 16) Flight.idle = some 0 ∧
       (c.pickEngine 0 0).isSome = true) ∧
    (let c := flying 1 (flight0 { terminal := none, overran := true })
     c.awaitsAgain (clusterOf 0) = none ∧ flightIx (c.flights (2 * 0 + 1)) (fun x => (x.run.map (·.overran)).getD false) = some 0) ∧
    (let x := flight0 { terminal := some .drop }
     (flying 0 x).flights (2 * 0) = x :: [] ∧ x.run = some { terminal := some .drop } ∧ x.engine = some 0 ∧ (flying 0 x).frame x.frame = some frame0 ∧
       frame0.waitIcv = false ∧ (flying 0 x).awaitsAgain (clusterOf 0) = none ∧ Sparse.get [] (flying 0 x).data.inbox 0 = []) ∧
    (let x := flight0 { terminal := some .bypass }
     (flying 1 x).isDenast 0 = false ∧ (flying 1 x).flights (2 * 0 + 1) = [x] ∧ (flying 1 x).awaitsAgain (clusterOf 0) = none) := by decide

theorem witness_engineFaults :
    (let c := up [(F.FLW_CL_STATUS_spare_ready 0, 1)]
     c.engState 3 ≠ engFenced ∧ c.engState 3 ≠ engSpare ∧ c.flag (F.FLW_CL_STATUS_spare_ready (3 / 12)) = true ∧
       c.flag (F.FLW_CL_STATUS_spare_active (3 / 12)) = false ∧ c.workOf 3 = none) ∧
    (let c := flying 0 { frame := 1, engine := some 3, run := some { terminal := none }, due := 9 }
     c.workOf 3 = some (0, 0) ∧ 0 < (c.flights 0).length) ∧
    (let c := up [(F.FLW_CL_STATUS_spare_ready 0, 0), (F.FLW_ENG_STATUS_state 4, engFenced), (F.FLW_ENG_STATUS_state 192, engSpare)]
     c.flag (F.FLW_CL_STATUS_spare_ready (3 / 12)) = false ∧ c.engState 4 = engFenced ∧ c.engState 192 = engSpare) ∧
    (let c := up [(F.FLW_ENG_STATUS_state 192, engRunning)]
     c.engState 192 ≠ engFenced ∧ c.engState 192 ≠ engSpare ∧ c.workOf 192 = none) := by decide

/-- The part with frame 1 at the head of class 0 of a port. -/
def queued (p : Nat) (f : Frame) : Chip :=
  let c := withFrame (ports 0 []) f
  { c with data := { c.data with queues := [(8 * p, { frames := [⟨1, 0⟩] })] } }

theorem witness_dequeues :
    (let f := { frame0 with queues := [96] }
     (queued 96 f).mayDequeue 96 true = true ∧ (queued 96 f).pickClass 96 = some 0 ∧ (queued 96 f).headOf 96 0 = some ⟨1, 0⟩ ∧
       (queued 96 f).frame 1 = some f ∧ f.cls = 0 ∧ f.queues = [96] ∧ f.nextHop = none ∧ f.marked = false ∧ (queued 96 f).tcPort 96 = false) ∧
    (let f := { frame0 with queues := [0] }
     (queued 0 f).mayDequeue 0 true = true ∧ (queued 0 f).pickClass 0 = some 0 ∧ (queued 0 f).headOf 0 0 = some ⟨1, 0⟩ ∧ f.prot = none ∧ f.port ≠ 144 ∧
       (queued 0 f).flights (2 * 0 + 1) = []) ∧
    (eccFound (.corrected 2)).2 = none ∧ (eccFound (.uncorrectable 1 true)).2 = some true ∧ (eccFound (.uncorrectable 0 false)).2 = some false := by
  decide

theorem witness_managementFrames :
    (let c := ports 0 []
     let g := withFcs ([] ++ fill (60 - ([] : Bytes).length) 0)
     c.running = true ∧ c.firmware = true ∧ c.portOn 0 = true ∧ (c.port 0).stallOut = false ∧
       c.rd (F.SWC_Q_OCC_occ (qOf 0 0)) + cellsOf g ≤ c.minCells (qOf 0 0) ∧ c.rd (F.SWC_Q_OCC_occ (qOf 0 0)) + cellsOf g ≤ c.maxCells (qOf 0 0)) ∧
    (let c := withFrame { ports 0 [] with data := { mgmtQ := [1] } } frame0
     c.data.mgmtQ = 1 :: [] ∧ c.frame 1 = some frame0 ∧ frame0.waitIcv = false) ∧
    (let c := { ports 0 [] with img := imgOf T.bufferConfig (fill 16 0) }
     c.running = true ∧ c.firmware = true ∧ (c.port 143).stallOut = false ∧
       c.maxCells (qOf 143 7) < c.rd (F.SWC_Q_OCC_occ (qOf 143 7)) + cellsOf (withFcs ([] ++ fill (60 - ([] : Bytes).length) 0))) := by decide

theorem witness_managementFrames_long : 40 < cellsOf (withFcs (fill 10237 0 ++ fill (60 - (fill 10237 0).length) 0)) := by
  simp only [cellsOf, withFcs, List.length_append, fill, List.length_replicate]
  decide

theorem witness_commitAndRelease :
    (let c := onPort (ports 0 []) 0 { commits := [{ bytes := [], sc := none }] }
     c.running = true ∧ c.stalled 0 = false ∧ c.isDenast 0 = false ∧ c.tcPort 0 = false ∧ (c.port 0).release = [] ∧
       (c.port 0).commits = { bytes := [], sc := none } :: []) ∧
    (let c := onPort (withChan (ports 1 []) (chanOf true 1) sa0) 0 { commits := [{ bytes := [], sc := some 1 }] }
     c.running = true ∧ c.stalled 0 = false ∧ c.isDenast 0 = false ∧ (c.port 0).commits = { bytes := [], sc := some 1 } :: [] ∧
       c.commitBar 0 1 = .go (chanOf true 1) 0 ∧ (c.pickOutLane (pipeOf 0)).isSome = true ∧ (c.sa 0).nextPn + 1 < c.softPn (chanOf true 1) ∧
       (c.sa 0).nextPn + 1 < hardLimit (chanOf true 1).suite ∧ c.softOctets (chanOf true 1) = 0) ∧
    (let c := onPort (withChan (ports 1 []) (chanOf true 2) { sa0 with ceiling := 0 }) 0 { commits := [{ bytes := [], sc := some 1, held := true }] }
     c.power = true ∧ (c.port 0).commits = { bytes := [], sc := some 1, held := true } :: [] ∧ c.commitBar 0 1 = .hold) ∧
    (let c := onPort (withChan (den 0 []) (chanOf true 2) { sa0 with ceiling := 0 }) 0 { openHeld := true }
     c.power = true ∧ c.isDenast 0 = true ∧ (c.port 0).commits = [] ∧ (c.port 0).openHeld = true ∧ c.commitBar 0 (c.denTxSc 0) = .hold) ∧
    (let c := onPort (ports 1 []) 0 { release := [{ bytes := [1] }] }; c.halted = false ∧ (c.port 0).release = [{ bytes := [1] }]) ∧
    (up []).running = true ∧ (up []).stalled 0 = true := by decide

theorem witness_sliceFaults :
    ((lit []).data.chans.all (fun h => h.port < 144) = true ∧
      (lit [(F.CPH_SLICE_STATUS_state 0, 3)]).rd (F.CPH_SLICE_STATUS_state 0) = 3 ∧
      (lit [(F.CPH_SLICE_STATUS_state 8, 1)]).rd (F.CPH_SLICE_STATUS_state 8) = 1 ∧
      (lit [(F.CPH_SLICE_STATUS_state 17, 1)]).rd (F.CPH_SLICE_STATUS_state 17) = 1) ∧
    (let c := lit [(F.CPH_SLICE_STATUS_state 0, 0), (F.CPH_SLICE_STATUS_state 8, 1), (F.CPH_SLICE_STATUS_spare_ready 8, 1),
       (F.CPH_SLICE_STATUS_state 9, 0), (F.CPH_SLICE_STATUS_state 17, 1), (F.CPH_SLICE_STATUS_spare_ready 17, 1)]
     c.rd (F.CPH_SLICE_STATUS_state 0) ≠ 3 ∧ c.rd (F.CPH_SLICE_STATUS_state 0) ≠ 1 ∧ c.rd (F.CPH_SLICE_STATUS_state 8) = 1 ∧
       c.flag (F.CPH_SLICE_STATUS_spare_ready 8) = true ∧ c.rd (F.CPH_SLICE_STATUS_state 9) ≠ 3 ∧ c.rd (F.CPH_SLICE_STATUS_state 9) ≠ 1 ∧
       c.flag (F.CPH_SLICE_STATUS_spare_ready 17) = true) := by decide

/-! ## Forwarding -/

/-- The part with pipeline 0 in a state. -/
def withPipe (x : Pipe) : Chip := { up [] with data := { pipes := [(0, x)] } }

theorem witness_forwardingUpkeep :
    ((withPipe {}).power = true ∧ ((withPipe {}).pipe 0).chain = none) ∧
    ((withPipe { chain := some { entry := {}, moves := [], target := 4 } }).pipe 0).chain = some { entry := {}, moves := [], target := 4 } ∧
    ((withPipe { chain := some { entry := {}, moves := [(4, 8)], target := 4 } }).pipe 0).chain = some { entry := {}, moves := [(4, 8)], target := 4 } ∧
    (let c := withPipe { events := [⟨true, 1, 2, 3⟩] }; c.firmware = true ∧ (c.pipe 0).events = ⟨true, 1, 2, 3⟩ :: [] ∧ c.learnSync 1 = false) ∧
    ((withPipe { rescan := true }).pipe 0).rescan = true := by decide

/-- The part 2 s after its time base was zero, with one entry of the wheel. -/
def wheel (n : Nat) (w : WheelEntry) (c : Chip) : Chip :=
  { c with time := { c.time with running := true, now := 2000000000 * nsUnit, wheel := [(n, some w)] } }

theorem witness_ageSweep :
    let w : WheelEntry := { due := 1000000, type := 7, arg := 0, period := 1000 }
    let c := wheel 9 w (withPipe { mac := [(4, { valid := true, mac := 5 })] })
    c.wheelDue 9 = some w ∧ c.restarting = false ∧ (c.pipe 0).chain = none ∧ Sparse.wf {} (c.pipe 0).mac = true := by decide

theorem witness_syncEventApply :
    let c : Chip := { up [] with img := imgOf T.fwdConfig (((fill 272 0).set 0 1).set 12 2) }
    c.learnSync 1 = true ∧ (c.pipe 1).chain = none := by decide

/-! ## Time -/

/-- A time base about to lock. -/
def timeA : Time := { running := true, first := false, lowRun := 15 }

theorem witness_servo :
    (let c := { up [(F.TIM_STATE_state, servoAcquiring)] with img := imgOf T.timeConfig (((fill 64 0).set 1 1).set 14 15), time := timeA }
     c.power = true ∧ c.firmware = true ∧ c.time.stopped = false ∧ c.timeSource ≠ 0 ∧ c.time.running = true ∧ c.time.first = false ∧
       (5 : Int).natAbs ≤ c.stepThreshold ∧ c.stepThreshold < (2 ^ 40 : Int).natAbs ∧ c.rd F.TIM_STATE_state = servoAcquiring ∧ c.time.lowRun = 15 ∧
       (5 : Int).natAbs < 1000 ∧ c.flag F.TIM_STATE_acquired = false) ∧
    (let c := { up [] with img := imgOf T.timeConfig (((fill 64 0).set 1 1).set 7 12), time := timeA }
     c.timeSource = 1 ∧ c.ptpPort 3 = 12 ∧ c.ptpPort 3 ≠ 255) ∧
    (let c := { up [(F.TIM_STATE_state, servoLocked)] with time := { running := true, highRun := 3 } }
     c.rd F.TIM_STATE_state = servoLocked ∧ c.time.highRun = 3 ∧ 1000 < (1001 : Int).natAbs ∧ c.time.first = true) ∧
    (up [(F.TIM_STATE_state, servoAcquiring), (F.TIM_STATE_acquired, 1)]).flag F.TIM_STATE_acquired = true ∧
    (up [(F.TIM_STATE_state, servoHoldover)]).rd F.TIM_STATE_state = servoHoldover ∧
    (up [(F.TIM_STATE_state, servoFree)]).rd F.TIM_STATE_state = servoFree := by decide

theorem witness_edges :
    (let c := { up [] with img := imgOf T.timeConfig ((fill 64 0).set 9 1) }
     bit (c.capEdges 0) (if true then 1 else 0) = false ∧ bit (c.capEdges 0) (if false then 1 else 0) = true ∧ Sparse.get 0 c.time.lastEdge 0 = 0 ∧
       Sparse.get 0 c.time.lastEdge 4 = 0 ∧ (Sparse.get [] c.time.caps 0).length < 64 ∧ (Sparse.get [] c.time.caps 4).length < 64) ∧
    64 ≤ (Sparse.get [] ({ up [] with time := { caps := [(0, List.replicate 64 ⟨1, false⟩)] } } : Chip).time.caps 0).length ∧
    (let c := { up [(F.TIM_TRIG_STATUS_running 0, 1)] with time := { running := true, now := 2000000000 * nsUnit } }
     c.time.running = true ∧ c.safe = false ∧ (c.time.ppsNext : Int) * 1000000000 + c.ppsOutTrim ≤ c.ns ∧ c.ppsGate = false ∧
       c.flag (F.TIM_TRIG_STATUS_running 0) = true ∧ (Sparse.get ({} : Trigger) c.time.trig 0).next ≤ c.time.now) ∧
    (let c := { up [(F.TIM_STATE_state, servoFree)] with img := imgOf T.timeConfig ((fill 64 0).set 3 1), time := { running := true, now := 2000000000 * nsUnit } }
     c.ppsGate = true ∧ c.rd F.TIM_STATE_state = servoFree ∧ (c.time.ppsNext : Int) * 1000000000 + c.ppsOutTrim ≤ c.ns) := by decide

/-- A due entry of the wheel. -/
def due (type arg : Nat) : WheelEntry := { due := 1000000, type := type, arg := arg }

theorem witness_wheelEvents :
    [1, 2, 4, 5, 6, 8].all (fun k => (wheel 9 (due k 0) (up [])).wheelDue 9 == some (due k 0)) = true ∧
    (let c := wheel 9 (due 1 0) (up [])
     let c : Chip := { c with time := { c.time with passed := 10 ^ 12 } }
     c.wheelDue 9 = some (due 1 0) ∧ 0 < (due 1 0).due ∧ (due 1 0).due * 1000 ≤ c.time.passed ∧ (Sparse.get {} c.time.trig 0).period = 0 ∧
       (up []).time.passed < (due 1 0).due * 1000) ∧
    (let c := wheel 9 (due 4 0) (up []); (due 4 0).period = 0 ∧ c.restarting = false ∧ c.slotInUse 0 = false ∧ c.firmware = true) ∧
    (let c := { wheel 600 (due 5 0) (up []) with pm := { on := true } }
     let c : Chip := { c with time := { c.time with now := 900000000000 * nsUnit } }
     c.wheelDue 600 = some (due 5 0) ∧ c.pm.on = true ∧ c.pm.crossed15 = false ∧ c.pm.crossedDay = false ∧ c.pm.start15 + 900 ≤ c.seconds ∧
       c.seconds < c.pm.startDay + 86400 ∧ (c.perf 0).old15 = none) ∧
    (let c := { wheel 9 (due 6 0) (up []) with pm := { ents := [(0, { old15 := some {} })] } }
     c.mgmtRestarting = false ∧ c.persistBlocked = false ∧ (c.perf 0).old15 = some {}) ∧
    (let c := { up [] with time := { held := [(504, due 4 0)] } }
     c.time.held = [(504, due 4 0)] ∧ (due 4 0).due ≤ c.us + wheelHorizon) := by decide

theorem witness_binBoundary_free : ((wheel 600 (due 5 0) (up [])).wheelFree 0 512).isSome = true := by decide +kernel

theorem witness_secondEnds :
    let c := { ports 0 [(F.PRT_CFG_fec 0, 1)] with pm := { on := true } }
    c.running = true ∧ c.pm.on = true ∧ c.portOn 0 = true ∧ c.portFec 0 = true := by decide

/-! ## Keys -/

/-- Channel 1 of the key schedule under a secret, with its running state. -/
def scheduled (tx : Bool) (x : ScRun) (a : Sa) : Chip :=
  let c := withChan (den 0 []) (chanOf tx 0) a
  let c := { c with data := { c.data with scs := [(1, x)] } }
  onPort c 0 { link := { current := [1] }, partner := some { id := fill 16 3, twoWay := true } }

/-- A due step of the key schedule for epoch index 2. -/
def keyDue (step : Nat) : WheelEntry := { due := 1000000, type := 3, arg := 1, step := step, epoch := 2 }

theorem witness_keySteps :
    [1, 2, 3, 4, 5, 6].all (fun k => (wheel 9 (keyDue k) (scheduled true { on := true, epoch := 1 } {})).wheelDue 9 == some (keyDue k)) = true ∧
    (let c := wheel 9 (keyDue 4) (scheduled true { on := true, epoch := 1 } {})
     c.power = true ∧ c.restarting = false ∧ c.chan (keyDue 4).arg = some (chanOf true 0) ∧ (chanOf true 0).mode = modeEpoch ∧ (c.scRun 1).on = true ∧
       c.secretAt 0 2 ≠ [] ∧ c.time.stepped.contains 1 = false ∧ (c.sa ((chanOf true 0).sa ((c.scRun 1).epochAt 2 % 4))).installed = false ∧
       (c.scRun 1).epoch < (c.scRun 1).epochAt 2 ∧ (c.scRun 1).confirmed = false) ∧
    ((scheduled true { on := true, epoch := 1, confirmed := true } {}).scRun 1).confirmed = true ∧
    ((scheduled true { on := true, epoch := 1 } sa0).sa ((chanOf true 0).sa (((scheduled true { on := true, epoch := 1 } sa0).scRun 1).epochAt 3 % 4))).installed = false ∧
    ((scheduled true { on := true, epoch := 3 } sa0).sa ((chanOf true 0).sa (((scheduled true { on := true, epoch := 3 } sa0).scRun 1).epochAt 4 % 4))).current = true ∧
    (let c := wheel 9 (keyDue 7) (scheduled false { on := true, epoch := 1, retire := some 0, proof := true, retireAt := 1 } {})
     c.wheelDue 9 = some (keyDue 7) ∧ (c.scRun 1).retire.isSome = true ∧ (c.scRun 1).proof = true ∧ (c.scRun 1).retireAt ≤ c.us) ∧
    (let w := { keyDue 6 with epoch := 0 }
     let c := wheel 9 w (scheduled true { active := [(1, 3000000), (0, 1000000000)] } sa0)
     c.wheelDue 9 = some w ∧ (c.scRun 1).active.find? (fun a => a.1 == w.epoch && ceilDiv a.2 1000 == w.due) = some (0, 1000000000) ∧
       (c.sa ((chanOf true 0).sa 0)).installed = true ∧ (c.sa ((chanOf true 0).sa 0)).an = 0) := by decide

/-- The head of a link message of port 0's partner. -/
def headOf (type : Byte) (session e : Nat) : Bytes := [type, 1, 0, 0] ++ fill 16 3 ++ toBe session 8 ++ toBe e 8 ++ fill 4 0

/-- A link-control message under the secret of `scheduled`. -/
def ctlMsg (type : Byte) (e : Nat) : Bytes := headOf type 0 e ++ kmac [1] (headOf type 0 e) 128 "GLEORN-CTL"

theorem kmac_length (k x : Bytes) (s : String) : (kmac k x 128 s).length = 16 := by simp [kmac, fill]

theorem ctlMsg_length (type : Byte) (e : Nat) : (ctlMsg type e).length = 56 := by simp [ctlMsg, headOf, kmac_length, fill, toBe, toLe]

theorem witness_controlMessages_heard :
    let c := scheduled true { on := true, epoch := 1, await := some 2, switched := 2, advance := some 2 } {}
    c.hears 0 = true ∧ c.isDenast 0 = true ∧ c.ctlOk 0 msgRxReady [] = false ∧ c.ctlOk 0 msgTxSwitched [] = false ∧ c.ctlOk 0 msgAdvanceReq [] = false ∧
      (c.epochChans 0).find? (fun h => h.tx == true) = some (chanOf true 0) ∧ (c.scRun 1).on = true ∧ (c.scRun 1).epoch < 2 ∧
      (c.scRun 1).await.isSome = true ∧ c.secretAt 0 (((2 : Nat) : Int) - (c.scRun 1).skip).toNat ≠ [] ∧ c.chan 1 = some (chanOf true 0) ∧
      (chanOf true 0).port = 0 ∧ c.firmware = true ∧ (c.scRun 1).lateFor ≠ (c.scRun 1).await ∧
      (c.scRun 1).switched ≠ 0 ∧ (c.scRun 1).advance = some 2 ∧
      ((scheduled true { on := true, await := some 2, lateFor := some 2 } {}).scRun 1).lateFor =
        ((scheduled true { on := true, await := some 2, lateFor := some 2 } {}).scRun 1).await := by decide

theorem witness_controlMessages_receive :
    let c := scheduled false { on := true, epoch := 1, await := some 2, retire := some 1 } {}
    (c.epochChans 0).find? (fun h => h.tx == false) = some (chanOf false 0) ∧ (c.scRun 1).retire = some 1 ∧ 1 < 2 ∧ (c.scRun 1).on = true ∧
      2 = (c.scRun 1).epoch + 1 ∧ (c.scRun 1).skipDue = false ∧ (c.scRun 1).await = some 2 ∧ (c.scRun 1).loadDue = none ∧ (c.scRun 1).proof = false ∧
      (chanOf false 0).tx = false := by decide

theorem ctlOk_of (c : Chip) (type : Byte) (e : Nat) (h : Chan) (hp : c.fromPartner 0 (ctlMsg type e) = true)
    (hc : c.ctlChan 0 type.toNat = some h) (hs : c.ctlKey h type.toNat (be (ctlMsg type e) 28 8) = [1]) :
    c.ctlOk 0 type.toNat (ctlMsg type e) = true := by
  have h1 : byteAt (ctlMsg type e) 0 = type.toNat := rfl
  have h2 : byteAt (ctlMsg type e) 1 = 1 := rfl
  have h3 : (ctlMsg type e).take 40 = headOf type 0 e := rfl
  have h4 : (ctlMsg type e).drop 40 = kmac [1] (headOf type 0 e) 128 "GLEORN-CTL" := rfl
  simp only [Chip.ctlOk, ctlMsg_length, hp, h1, h2, h3, h4, hc, hs, Option.map_some, Option.getD_some, beq_self_eq_true, Bool.and_self]

theorem witness_controlMessages_tags :
    (scheduled true { on := true, epoch := 1, await := some 2 } {}).ctlOk 0 msgRxReady (ctlMsg 0x18 2) = true ∧ be (ctlMsg 0x18 2) 28 8 = 2 ∧
    (scheduled false { on := true, epoch := 1, retire := some 1 } {}).ctlOk 0 msgTxSwitched (ctlMsg 0x19 2) = true ∧
    (scheduled false { on := true, epoch := 1, retire := some 1 } {}).ctlOk 0 msgAdvanceReq (ctlMsg 0x1A 2) = true :=
  ⟨ctlOk_of _ 0x18 2 _ (by decide) rfl (by decide), rfl, ctlOk_of _ 0x19 2 _ (by decide) rfl (by decide),
    ctlOk_of _ 0x1A 2 _ (by decide) rfl (by decide)⟩

/-- A message of a pairwise agreement with a tag under the secret [1]. -/
def finMsg (type : Byte) (session : Nat) (pre : Bytes) (who : String) : Bytes :=
  headOf type session 0 ++ kmac [1] (pre ++ headOf type session 0) 128 who

theorem finMsg_length (type : Byte) (n : Nat) (pre : Bytes) (who : String) : (finMsg type n pre who).length = 56 := by
  simp [finMsg, headOf, kmac_length, fill, toBe, toLe]

/-- MACsec port 0 with a listed partner of the key schedule and a secret that waits for its adoption. -/
def adopting : Chip :=
  let c := ports 1 []
  let c := { c with data := { c.data with peers := [(0, { used := true, id := fill 16 3, epoch := true, ports := 1 })] } }
  onPort c 0 { link := { fresh := [1] }, partner := some { id := fill 8 9 } }

theorem witness_adopt :
    let m := finMsg 0x1B 0 [] "GLEORN-ADOPT"
    adopting.isDenast 0 = false ∧ m.length = 56 ∧ byteAt m 0 = msgAdopt ∧ byteAt m 1 = 1 ∧ adopting.fromPartner 0 m = true ∧
      (adopting.port 0).link.fresh ≠ [] ∧ kmac (adopting.port 0).link.fresh (m.take 40) 128 "GLEORN-ADOPT" = m.drop 40 ∧ be m 28 8 = 0 ∧
      (adopting.port 0).mka.mine = false ∧ adopting.hears 0 = true :=
  ⟨by decide, finMsg_length .., rfl, rfl, by decide, by decide, rfl, rfl, by decide, by decide⟩

/-- Denast port 0 with its partner, at a step of the agreement of session 7. -/
def agreeing (step : KaStep) (l : List (Fld × Nat)) : Chip :=
  onPort (den 0 l) 0 { link := { step := step, session := 7, fresh := [1], digest := [2], fails := 2 }, partner := some { id := fill 16 3 } }

theorem witness_agreements :
    (let c := agreeing .accepted []
     c.power = true ∧ c.hears 0 = true ∧ c.isDenast 0 = true ∧ ([] : Bytes).length ≠ 7177 ∧ c.kaShape 0 0x12 [] = false ∧ c.kaShape 0 0x13 [] = false ∧
       c.kaShape 0 0x14 [] = false ∧ (c.port 0).link.step = .accepted ∧ 2 ≤ (c.port 0).link.fails ∧ (c.port 0).link.step ≠ .finished ∧
       c.cfgNat T.keySchedule 16 4 0 = 0) ∧
    ((agreeing .finished []).port 0).link.step ≠ .accepted ∧ ((agreeing .finished []).port 0).link.adopt = 0 ∧
    ((agreeing .backoff []).port 0).link.step = .backoff ∧ ((agreeing .offered []).port 0).link.step = .offered ∧
    (agreeing .idle [(F.SAS_LINK_STATUS_holding 0, 1)]).flag (F.SAS_LINK_STATUS_holding 0) = true ∧
    ({ up [] with img := imgOf T.keySchedule ((fill 64 0).set 16 9) } : Chip).cfgNat T.keySchedule 16 4 0 ≠ 0 := by decide

theorem witness_agreements_offer : (List.replicate 7177 (0 : Byte)).length = 7177 ∧ (den 0 []).initiates 0 = false ∧
    byteAt (List.replicate 7177 (0 : Byte)) 1 ≠ 1 := ⟨List.length_replicate .., rfl, by decide⟩

/-- A message of the length of an offer or an accept, of session 7. -/
def agree7 : Bytes := fill 20 0 ++ toBe 7 8 ++ fill 7149 0

theorem witness_agreements_checks : agree7.length = 7177 ∧
    (let c := den 0 [(F.KEY_STATUS_rbg_ok, 1)]; c.initiates 0 = false ∧ c.pkeOk = true) ∧
    (let c := agreeing .offered [(F.KEY_STATUS_rbg_ok, 1)]
     (c.port 0).link.step = .offered ∧ be agree7 20 8 = (c.port 0).link.session ∧ c.pkeOk = true) :=
  ⟨by decide +kernel, by decide, by decide, by decide +kernel, by decide⟩

theorem witness_agreements_tags :
    (let c := agreeing .accepted []
     let m := finMsg 0x12 7 [2] "GLEORN-FIN-I"
     c.kaShape 0 0x12 m = true ∧ be m 20 8 = (c.port 0).link.session ∧ be m 28 8 = 0 ∧
       finTag (c.port 0).link.fresh (c.port 0).link.digest (m.take 40) "GLEORN-FIN-I" = m.drop 40) ∧
    (let c := agreeing .finished []
     let m := finMsg 0x13 7 [2] "GLEORN-FIN-R"
     c.kaShape 0 0x13 m = true ∧ be m 20 8 = (c.port 0).link.session ∧
       finTag (c.port 0).link.fresh (c.port 0).link.digest (m.take 40) "GLEORN-FIN-R" = m.drop 40) ∧
    (agreeing .accepted []).kaShape 0 0x14 (headOf 0x14 7 0 ++ fill 16 0) = true := by
  refine ⟨⟨?_, rfl, rfl, rfl⟩, ⟨?_, rfl, rfl⟩, by decide⟩
  · simp only [Chip.kaShape, finMsg_length]; rfl
  · simp only [Chip.kaShape, finMsg_length]; rfl

/-- MACsec port 0 with a running session of MKA and a peer table of one entry. -/
def mkaPart : Chip :=
  let c := { ports 1 [] with img := imgOf T.mkaConfig (toLe 1 4 ++ fill 48 0) }
  let c := { c with data := { c.data with peers := [(0, { used := true, id := fill 8 9, ports := 1 })] } }
  onPort c 0 { mka := { running := true } }

theorem witness_mkaSessions :
    let d : Mkpdu := { icvOk := true, mi := [1], sci := fill 8 9, priority := 3, liveMe := true }
    mkaPart.hears 0 = true ∧ mkaPart.isMacsec 0 = true ∧ (mkaPart.port 0).mka.running = true ∧ ({ d with icvOk := false } : Mkpdu).icvOk = false ∧
      d.icvOk = true ∧ d.liveMe = true ∧ d.retire = none ∧ d.sak = none ∧ d.allRx = false ∧
      (mkaPart.port 0).mka.peers.any (fun q => q.mi == d.mi) = false ∧ mkaPart.peerIx d.sci = some 0 ∧ (mkaPart.mkaEntry 0).isSome = true ∧
      mkaPart.keyServer 0 = false := by decide

/-! ## The vault -/

/-- An open vault of 8 GiB on both stacks, with the leaf of line 0 cached. -/
def vaultUp (l : List (Fld × Nat)) (dirty : List Nat) : Chip :=
  { up ([(F.VLT_STATUS_state, 2), (F.VLT_STATUS_region_gib, 8), (F.VLT_STACK_STATUS_state 0, 0), (F.VLT_STACK_STATUS_state 1, 0)] ++ l) with
    vault := { cache := [0], dirty := dirty } }

theorem witness_vaultLines :
    (lit [(F.VLT_STATUS_state, 0)]).vaultOpen = false ∧ (vaultUp [] []).vaultMay .mgmt 0 64 = false ∧
    (let c := vaultUp [] []
     c.power = true ∧ c.vaultOpen = true ∧ c.vaultMay .keyStore (64 * 0) 64 = true ∧ c.vault.cache.contains (nodeKey 0 (0 / 64)) = true ∧
       (fill 64 7).length = 64 ∧ (c.node 0 0).major + 1 < 2 ^ 56 ∧ c.tagGood 0 = true ∧ c.stackOn 0 = true ∧ c.stackOn 1 = true ∧
       c.mismatchesNow + 2 < c.mismatchLimit) := by decide

/-- The open vault with line 0 stored under a tag. -/
def lined (t : BitVec 64) : Chip := { vaultUp [] [] with vault := { cache := [0], lines := [(0, some ⟨0#512, t⟩)] } }

/-- Of two different tags one fails its check. -/
theorem witness_vaultLines_bad : ∃ t, (lined t).tagGood 0 = false ∧ (lined t).vaultOpen = true ∧ (lined t).vaultMay .keyStore (64 * 0) 64 = true ∧
    (lined t).vault.cache.contains (nodeKey 0 0) = true ∧ (lined t).stackOn 0 = true ∧ (lined t).stackOn 1 = true ∧
    (lined t).mismatchesNow + 2 < (lined t).mismatchLimit := by
  have e (t : BitVec 64) : (lined t).tagGood 0 =
      (t == vaultTag ((lined 0).vaultKeys ((lined 0).node 0 0).keyId) 0 (((lined 0).node 0 0).counter 0) (toLe (0#512).toNat 64)) := rfl
  by_cases h : (lined 0).tagGood 0 = false
  · exact ⟨0, h, by decide⟩
  · refine ⟨1, ?_, by decide⟩
    rw [e] at h ⊢
    simp only [Bool.not_eq_false, beq_iff_eq] at h
    rw [← h]
    decide

theorem witness_vaultUpkeep :
    (let c := vaultUp [(F.VLT_STATUS_flush_active, 1)] []
     c.vaultOpen = true ∧ c.vault.cache.contains (nodeKey 0 0) = true ∧ c.flag F.VLT_STATUS_flush_active = true ∧
       c.rd F.VLT_FLUSH_next_leaf + 1 < c.vaultLeaves ∧ c.vaultLeaves ≤ 2 ^ 21 ∧ c.stackOn 0 = true ∧ c.stackOn (1 - 0) = true ∧
       c.vault.dirty.contains (nodeKey 0 0) = false ∧ c.halted = false ∧ c.warmHeld = false ∧ c.tagGood c.vault.scrubAt = true) ∧
    (vaultUp [(F.VLT_STATUS_region_gib, 0)] []).vaultLeaves ≤ (vaultUp [] []).rd F.VLT_FLUSH_next_leaf + 1 ∧
    (vaultUp [] [0]).vault.dirty.contains (nodeKey 0 0) = true ∧ (vaultUp [(F.VLT_STACK_STATUS_state 1, 1)] []).stackOn (1 - 0) = false := by decide

/-! ## Tamper, stores, the recorder -/

theorem witness_tamperFires :
    (lit [(F.TMP_SRC_used 3, 0)]).sourceUsed 3 = false ∧
    (let c := lit [(F.TMP_SRC_used 3, 1), (F.TMP_SRC_class 3, 1)]
     c.sourceUsed 3 = true ∧ c.ao.armed.contains 3 = false ∧ c.halted = false ∧ c.rd (F.TMP_SRC_class 3) ≤ 1) ∧
    (let c := lit [(F.TMP_SRC_used 3, 1), (F.TMP_SRC_class 3, 2)]; c.rd (F.TMP_SRC_class 3) = 2 ∧ c.rd F.TMP_STATUS_response < 2) ∧
    (let c := lit [(F.TMP_SRC_used 3, 1), (F.TMP_SRC_class 3, 3)]; c.rd (F.TMP_SRC_class 3) = 3 ∧ c.rd F.TMP_STATUS_response < 3) := by decide

theorem witness_detectors :
    (let c := lit [(F.TMP_SRC_used 17, 1), (F.TMP_SRC_class 17, 1)]; c.power = true ∧ c.sourceUsed 17 = true ∧ c.rd (F.TMP_SRC_class 17) = 1) ∧
    (let c : Chip := { ao := { cell := true } }
     c.power = false ∧ c.ao.cell = true ∧ tamperOnCell 10 = true ∧ c.sourceUsed 17 = true ∧ c.ao.armed.contains 17 = false ∧
       c.ao.classes.getD 17 1 ≤ 1) := by decide

theorem witness_storesAndRecorder :
    (let c := lit []
     c.power = true ∧ c.halted = false ∧ (Sparse.get [] c.data.saErrs (18 * 0 + 17)).contains 5 = false ∧
       (Sparse.get [] c.data.saErrs (18 * 0 + 17)).length < 15 ∧ c.cow.flushDue = false ∧ c.configured = false) ∧
    (up []).configured = true ∧ (up []).keys.aliasCerts = [] ∧
    (let c := { lit [] with cow := { flushDue := true } }
     c.cow.flushDue = true ∧ c.flashGood 0 = true ∧ c.flashGood 1 = true ∧ c.rd F.MGT_REC_STATUS_next_slot < 7) := by decide

/-! ## Mailbox commands -/

theorem takenOf {h : Mb} {i : Instr} {c : Chip} {k : CmdClass} (m : mailboxOf c i = some (h, k))
    (p : (c.power && c.mbReady h && !h.readFail && decide (c.num (R.HST_MB_LAST_SEQ h.fn) 2 < h.seq) && (c.mbRefuse h k).isNone) = true) :
    taken h i (st c) := by
  simp only [Bool.and_eq_true, Bool.not_eq_true', decide_eq_true_eq, Option.isNone_iff_eq_none] at p
  exact ⟨k, m, p.1.1.1.1, p.1.1.1.2, p.1.1.2, p.1.2, p.2⟩

/-- An entry whose output has `n` bytes of room. -/
def hOut (n : Nat) : Mb := { h0 with outLen := n }

/-- An entry with `n` bytes of input. -/
def hIn (n : Nat) : Mb := { h0 with inData := fill n 0 }

/-- The part with its mailbox, with what `f` makes of it. -/
def mbWith (l : List (Fld × Nat)) (f : Chip → Chip) : Chip := f (mbUp l)

theorem witness_mailboxRules :
    mailboxOf (mbUp []) (.nop h0) = some (h0, { opcode := 0, pf1 := true, safe := true, halt := true }) ∧ (mbUp []).power = true ∧
      (lit []).mbReady h0 = false ∧ (mbUp []).mbReady h0 = true ∧ ({ h0 with seq := 0 } : Mb).seq ≤ (mbUp []).num (R.HST_MB_LAST_SEQ 0) 2 ∧
      h0.readFail = false ∧ (mbUp []).num (R.HST_MB_LAST_SEQ 0) 2 < h0.seq ∧
      (mbUp []).mbRefuse { h0 with zeroOk := false } { opcode := 0, pf1 := true, safe := true, halt := true } = some Code.format :=
  ⟨rfl, by decide⟩

/-- A receive channel in the part with its mailbox and an open vault. -/
def readable : Chip := withChan (mbUp [(F.VLT_STATUS_state, 2)]) (chanOf false 0) sa0

theorem witness_mailboxReads :
    taken h0 (.nop h0) (st readable) ∧ taken (hOut 64) (.statusRead (hOut 64)) (st readable) ∧
      taken (hOut 36) (.recRead (hOut 36) 1 1 6 0 0) (st readable) ∧ taken (hOut 56) (.historyRead (hOut 56) 1 0 1 1 0) (st readable) ∧
      taken (hOut 1024) (.tamperLogRead (hOut 1024)) (st readable) ∧ taken (hOut 640) (.healthReport (hOut 640)) (st readable) ∧
      taken (hOut 32) (.scStatus (hOut 32) 1) (st readable) ∧ taken (hOut 32) (.keyInfo (hOut 32) 1023) (st readable) ∧
      taken h0 (.certRead h0 0) (st readable) ∧ taken (hOut (2 ^ 32 - 1)) (.attest (hOut (2 ^ 32 - 1)) 64 (fill 64 0)) (st readable) :=
  ⟨takenOf rfl (by decide), takenOf rfl (by decide), takenOf rfl (by decide), takenOf rfl (by decide), takenOf rfl (by decide),
    takenOf rfl (by decide), takenOf rfl (by decide), takenOf rfl (by decide), takenOf rfl (by decide), takenOf rfl (by decide)⟩

theorem witness_mailboxReads_arguments :
    readable.vaultOpen = true ∧ readable.data.chans.any (fun h => h.sc == 1 && !h.tx) = true ∧ readable.attests < 4 ∧
      (mbUp [(F.KEY_STATUS_rbg_ok, 1)]).pkeOk = true ∧
      (match (readable.mbStarted h0).certItem 0 with | .ok item => decide (item.length ≤ h0.outLen) | .error _ => false) = true := by decide

theorem witness_mailboxStarts :
    taken h0 (.tamperLogClear h0) (st (mbUp [])) ∧ taken h0 (.tamperLogClear h0) (st (mbUp [(F.TMP_STATUS_tamper_latch, 1)])) ∧
      taken h0 (.acuWrite h0 2 15 12 255 7 0x1000) (st (mbUp [])) ∧ taken h0 (.startFailClear h0) (st (mbUp [])) ∧
      (mbUp [(F.TMP_STATUS_tamper_latch, 1)]).flag F.TMP_STATUS_tamper_latch = true ∧ (mbUp []).flag F.TMP_STATUS_tamper_latch = false ∧
      regionOk 12 255 7 0x1000 = true ∧ (mbUp []).start.ordered = 0 ∧ (mbUp []).mb0.replies = [] ∧ (mbUp []).halted = false ∧
      (mbUp []).mbReady h0 = true ∧ (mbUp []).mbRefuse h0 { opcode := 0x0100, safe := true, halt := true } = none :=
  ⟨takenOf rfl (by decide), takenOf rfl (by decide), takenOf rfl (by decide), takenOf rfl (by decide), by decide⟩

theorem widens_nothing {c d : Chip} (h : d = c) (u : Nat) (l : List Nat) : l.any (fun k => c.widens d u k) = false := by
  subst h
  simp [Chip.widens]

/-- The part without permissions for the debug port, as a command finds it. -/
def closed : Chip := (mbUp [(F.ACU_STATUS_default_perm 2, 0)]).mbStarted h0

theorem closed_off : closed.setRegion 2 15 0 0 0 0 = closed := by decide +kernel

/-- A region that is off and stays off widens nothing; a region of all permissions widens what a unit without permissions allows. -/
theorem witness_mailboxStarts_region :
    (List.range 4096).any (fun k => closed.widens (closed.setRegion 2 15 0 0 0 0) 2 k) = false ∧
      (List.range 4096).any (fun k => closed.widens (closed.setRegion 2 15 12 0 3 0x1000) 2 k) = true :=
  ⟨widens_nothing closed_off _ _, List.any_eq_true.2 ⟨16, List.mem_range.2 (by decide), by decide⟩⟩

theorem witness_mailboxImages :
    taken (hIn 256) (.imageWrite (hIn 256) 1 65536) (st (mbUp [])) ∧ taken h0 (.imageVerify h0 1) (st (mbUp [])) ∧
      taken h0 (.imageActivate h0 1) (st (mbUp [(F.MGT_SLOT_STATUS_valid 1, 1)])) ∧
      taken h0 (.rollbackAdvance h0 0 7) (st { mbUp [] with img := imgOf 0 [] }) ∧
      taken h0 (.rollbackAdvance h0 1 5) (st { mbUp [] with img := imgOf 0 [] }) ∧
      (mbUp []).img.map (·.slot) ≠ some 1 ∧ (mbUp []).persistBlocked = false ∧ (mbUp []).flashGood 0 = true ∧ (mbUp []).flag F.PKE_STATUS_fenced = false ∧
      (mbUp [(F.MGT_FLASH_STATUS_dev1_failed, 1)]).flashGood 1 = false ∧
      (mbUp [(F.MGT_SLOT_STATUS_valid 1, 1)]).flag (F.MGT_SLOT_STATUS_valid 1) = true ∧ (mbUp []).keys.fwFuses.length < 64 ∧
      (mbUp []).keys.fwFuses.getLast?.getD 0 ≤ 7 ∧ (mbUp []).keys.cfgFuses.getLast?.getD 0 ≤ 5 :=
  ⟨takenOf rfl (by decide +kernel), takenOf rfl (by decide), takenOf rfl (by decide), takenOf rfl (by decide), takenOf rfl (by decide), by decide⟩

theorem witness_mailboxImages_unread :
    let c := mbUp [(F.MGT_FLASH_STATUS_dev0_failed, 1), (F.MGT_FLASH_STATUS_dev1_failed, 1)]
    c.flashGood 0 = false ∧ c.flashGood 1 = false ∧ taken h0 (.imageVerify h0 0) (st c) := ⟨by decide, by decide, takenOf rfl (by decide)⟩

theorem witness_mailboxImages_rejected :
    (match checkSlot (mbUp []).keys (mbUp []).flash0 1, checkSlot (mbUp []).keys (mbUp []).flash1 1 with
      | .error _, .error _ => true
      | _, _ => false) = true := by decide

/-- Time from the host. -/
def hostTimed : Chip := { mbUp [] with img := imgOf T.timeConfig ((fill 64 0).set 1 3) }

theorem witness_mailboxOwner :
    (let c := { mbUp [] with img := imgOf T.timeConfig ((fill 64 0).set 1 1) }; c.timeSource = 1 ∧ c.power = true) ∧
    hostTimed.timeSource ≠ 1 ∧ hostTimed.timeSource ≠ 2 ∧ taken h0 (.timeSet h0 5) (st hostTimed) ∧
    taken h0 (.wheelAdd h0 1 3 999999 9) (st (mbUp [])) ∧ (9 * 1000000 + 999999 ≤ (mbUp []).us + wheelHorizon) ∧
    taken h0 (.vaultRekey h0) (st (mbUp [(F.VLT_STATUS_state, 2), (F.VLT_KEYID_taken, 3)])) ∧
    (let c := mbUp [(F.VLT_STATUS_state, 2), (F.VLT_KEYID_taken, 3)]
     (∀ m, m < 2 → bit (c.rd F.VLT_KEYID_taken) m = true) ∧ bit (c.rd F.VLT_KEYID_taken) 2 = false ∧ c.flag F.VLT_STATUS_flush_active = false ∧
       c.vaultOpen = true) ∧
    ((mbUp []).mbStarted h0).lifecycle = 0 ∧ ((mbUp [(F.KEY_STATUS_rbg_ok, 1)]).mbStarted h0).pkeOk = true :=
  ⟨by decide, by decide, by decide, takenOf rfl (by decide), takenOf rfl (by decide), by decide, takenOf rfl (by decide), by decide⟩

theorem witness_mailboxOwner_wheel :
    (mbUp []).wheelFree 1536 4096 = some 1536 ∧
    (let w : WheelEntry := { due := 10 ^ 9, type := 1, arg := 0, host := true }
     let c := mbWith [] fun c => { c with time := { c.time with wheel := [(4095, some w)] } }
     c.wheelAt 4095 = some w ∧ w.host = true ∧ c.power = true) := by decide +kernel

theorem witness_mailboxOwner_taken :
    (let w : WheelEntry := { due := 10 ^ 9, type := 1, arg := 0, host := true }
     taken h0 (.wheelDelete h0 4095) (st (mbWith [] fun c => { c with time := { c.time with wheel := [(4095, some w)] } }))) ∧
    (let c := mbUp [(F.KEY_STATUS_rbg_ok, 1)]
     (c.mbStarted (hIn 5453)).lifecycle = 0 ∧ c.keys.owners = [] ∧ (c.mbStarted (hIn 5453)).pkeOk = true ∧ taken (hIn 5453) (.ownerProvision (hIn 5453)) (st c)) ∧
    (let c := { mbUp [(F.KEY_STATUS_rbg_ok, 1)] with keys := { owners := [fill 48 1] } }
     c.keys.owners ≠ [] ∧ taken (hIn 5453) (.ownerProvision (hIn 5453)) (st c)) ∧
    (let c := { mbUp [(F.KEY_STATUS_rbg_ok, 1)] with keys := { owners := [fill 48 1], inForce := 1 } }
     (c.mbStarted (hIn 8858)).lifecycle = 1 ∧ (c.mbStarted (hIn 8858)).pkeOk = true ∧ c.keys.owners.length < 4 ∧
       taken (hIn 8858) (.ownerTransfer (hIn 8858)) (st c)) ∧
    (let c : Chip := { mbUp [(F.MGT_START_STATUS_quarantined, 1), (F.KEY_STATUS_rbg_ok, 1)] with keys := { owners := [fill 48 1], inForce := 1 } }
     (c.mbStarted (hIn 3405)).lifecycle = 2 ∧ (c.mbStarted (hIn 3405)).pkeOk = true ∧ taken (hIn 3405) (.shareProvision (hIn 3405)) (st c)) :=
  ⟨takenOf rfl (by decide), ⟨by decide, by decide, by decide, takenOf rfl (by decide +kernel)⟩, ⟨by decide, takenOf rfl (by decide +kernel)⟩,
    ⟨by decide, by decide, by decide, takenOf rfl (by decide +kernel)⟩, by decide, by decide, takenOf rfl (by decide +kernel)⟩

/-- The part with a program of cluster 0 that declares one table: a kind and a number of entries. -/
def tabled (t : Nat) (kind n : Byte) (l : List (Option TabEntry)) : Chip :=
  { mbUp [] with data := { clusters := [(0, { overlay := ((fill 168 0).set (104 + 8 * t) kind).set (106 + 8 * t) n })], tables := [(t, l)] } }

theorem witness_mailboxSorrel :
    (let c := tabled 4 3 8 []
     (progTable (c.program 0) 4).1 = 3 ∧ 7 % 2 ^ 32 < (progTable (c.program 0) 4).2.1 ∧ taken h0 (.sorrelTableWrite h0 0 4 7 0 5) (st c) ∧
       taken h0 (.sorrelTableDelete h0 0 4 7 0) (st c)) ∧
    (let c := tabled 6 4 8 [some { key := 1, mask := 1 }]
     (progTable (c.program 0) 6).1 = 4 ∧ ((c.table 0 6).filterMap id).length < 256 ∧
       ((c.table 0 6).filterMap id).any (fun e => e.key == 1 && e.mask == 1) = true ∧
       (c.table 0 6).findIdx? (fun x => (x.map (fun e => e.key == 1 && e.mask == 1)).getD false) = some 0) ∧
    (let c := tabled 0 1 8 [some { key := 1 }]
     (progTable (c.program 0) 0).1 = 1 ∧ 1 < 2 ^ 32 ∧ ((c.table 0 0).filterMap id).any (fun e => e.key == 1) = true ∧ c.exactUsed 0 < 4096 ∧
       (c.table 0 0).findIdx? (fun x => (x.map (fun e => e.key == 1)).getD false) = some 0) ∧
    (progTable ((tabled 3 2 8 []).program 0) 3).1 = 2 :=
  ⟨⟨by decide, by decide, takenOf rfl (by decide), takenOf rfl (by decide)⟩, by decide⟩

/-- The smallest program of cluster 0: one bundle, which does nothing. -/
def overlay0 : Bytes := [0, 1, 1, 0] ++ fill 164 0

theorem witness_mailboxSorrel_overlay :
    (let h : Mb := { h0 with inData := overlay0 ++ fill 3405 0 }
     h.inData.take (h.inData.length - 3405) = overlay0 ∧ byteAt overlay0 0 = 0 ∧ (mbUp []).programOk overlay0 = true ∧
       sameTables overlay0 ((mbUp []).program 0) = true ∧ progN overlay0 + progN ((mbUp []).program 0) ≤ 2048 ∧
       taken h (.sorrelOverlay h 0) (st (mbUp []))) :=
  ⟨by decide +kernel, by decide, by decide +kernel, by decide, by decide, takenOf rfl (by decide +kernel)⟩

/-- The part with its mailbox and pipeline 0 in a state. -/
def mbPipe (x : Pipe) : Chip := { mbUp [] with data := { pipes := [(0, x)] } }

/-- The address 2. -/
def mac2 : Bytes := toBe 2 6

theorem witness_mailboxForwarding_mac :
    ((mbPipe {}).pipe 0).chain = none ∧ (mbPipe {}).pendingOps 0 = [] ∧ (mbPipe {}).badDest 0 143 = false ∧ (mbPipe {}).macFind 0 4095 (be mac2 0 6) = none ∧
      ((mbPipe {}).freeWay 0 ((mbPipe {}).candidates 0 4095 (be mac2 0 6))).isSome = true ∧
      (let pos := (((mbPipe {}).candidates 0 4095 2).head?).getD 0
       (mbPipe { mac := [(pos, { valid := true, fid := 4095, mac := 2 })] }).macFind 0 4095 (be mac2 0 6) = some pos) ∧
      taken h0 (.fwdMacWrite h0 (2 ^ 0) 0 4095 143 mac2) (st (mbPipe {})) ∧ taken h0 (.fwdMacDelete h0 (2 ^ 0) 4095 mac2) (st (mbPipe {})) ∧
      taken h0 (.fwdFlush h0 (2 ^ 0) 7 143 4095) (st (mbPipe {})) :=
  ⟨by decide, by decide, by decide, by decide +kernel, by decide +kernel, by decide +kernel, takenOf rfl (by decide), takenOf rfl (by decide), takenOf rfl (by decide)⟩

theorem witness_mailboxForwarding_routes :
    (prefixOf false 32 (fill 16 1)).2 = false ∧ (mbPipe { v4 := [0, 4] }).regionUsed 0 false (famBits false - 32) = [] ∧
      (mbPipe { v4 := [0, 4] }).regionFree 0 false (famBits false - 32) = some 0 ∧
      (let c := mbPipe { v4 := [0, 4], lpm := [(0, { valid := true, len := 32, pfx := be (fill 16 1) 0 4, nh := 3 })] }
       (c.regionUsed 0 false (famBits false - 32)).find? (fun r => (c.lpmAt 0 false r).pfx == (prefixOf false 32 (fill 16 1)).1) = some 0) ∧
      taken h0 (.fwdLpmWrite h0 (2 ^ 0) false 32 4095 (fill 16 1)) (st (mbPipe {})) ∧
      taken h0 (.fwdLpmDelete h0 (2 ^ 0) false 32 (fill 16 1)) (st (mbPipe {})) ∧
      (mbPipe {}).badDest (hopOf (fill 16 0)).kind (hopOf (fill 16 0)).dest = false ∧ (hopOf (fill 16 0)).rmac ≤ 7 ∧ (hopOf (fill 16 0)).vact ≤ 3 ∧
      (hopOf (fill 16 0)).vid ≤ 4095 ∧ taken h0 (.fwdNhWrite h0 (2 ^ 0) 4095 (fill 16 0)) (st (mbPipe {})) :=
  ⟨by decide, by decide, by decide, by decide, takenOf rfl (by decide), takenOf rfl (by decide), by decide, by decide, by decide, by decide,
    takenOf rfl (by decide)⟩

/-- A shaper of 1,024 bytes. -/
def shaping (on : Bool) : ShaperArgs := { reset := true, enable := on, lenMode := false, scope := 0, overhead := 96, rate := 400000000, burst := 1024 }

/-- A policer at map index `m`, one rate, a committed burst of 16,384 bytes. -/
def policing (m : Nat) : Bytes := fill 4 0 ++ toLe m 2 ++ fill 10 0 ++ toLe 16384 3 ++ fill 5 0

theorem witness_mailboxTraffic :
    (List.range 96).any (fun p => bit (le (fill 18 0xFF) 0 18) p && (mbUp []).paired p) = false ∧ shaperArgsOk (shaping true) = true ∧
      shaperArgsOk (shaping false) = true ∧ polOk (policing 8191) = true ∧ le (policing 8191) 4 2 ≤ 8191 ∧
      (mbUp [(F.TMG_POL_MODE_enabled 5, 1)]).polListed (pipeOf 0) 1 5 = true ∧ (mbUp [(F.TMG_POL_MODE_enabled (2048 * 3 + 5), 1)]).polListed 3 1 5 = true ∧
      taken h0 (.mcastWrite h0 16383 (fill 18 0xFF)) (st (mbUp [])) ∧ taken h0 (.mcastDelete h0 16383) (st (mbUp [])) ∧
      taken h0 (.tmShaperWrite h0 4239 (shaping true)) (st (mbUp [])) ∧ taken h0 (.tmPolicerWrite h0 (policing 8191)) (st (mbUp [])) ∧
      taken h0 (.tmMapWrite h0 0 0 143 1 5) (st (mbUp [])) :=
  ⟨by decide, by decide, by decide, by decide, by decide, by decide, by decide, takenOf rfl (by decide), takenOf rfl (by decide),
    takenOf rfl (by decide), takenOf rfl (by decide), takenOf rfl (by decide)⟩

/-- A slot that holds a key of channel 1. -/
def slot9 : Slot := { source := 3, length := 3, dest := 3, ops := 2 ^ 9, value := fill 44 1 }

/-- The part with its mailbox, channel 1 of a mode, its SA 0 and slot 9. -/
def mbChan (tx : Bool) (mode : Nat) (x : Sa) : Chip := { withChan (mbUp []) (chanOf tx mode) x with keys := { slots := [(9, slot9)] } }

theorem witness_mailboxAssociations :
    (let c := mbChan true 2 {}
     c.chan 1 = some (chanOf true 2) ∧ (chanOf true 2).mode = modeHost ∧ (c.slot 9).filled = true ∧ slotFits (c.slot 9) (chanOf true 2) = true ∧
       (c.sa ((chanOf true 2).sa 3)).installed = false ∧ taken h0 (.saInstall h0 3 1 9 (2 ^ 30) 1) (st c)) ∧
    (let c := mbChan true 2 { sa0 with current := false }
     (chanOf true 2).tx = true ∧ (c.sa ((chanOf true 2).sa 0)).installed = true ∧ (c.sa ((chanOf true 2).sa 0)).an = 0 ∧
       (c.sa ((chanOf true 2).sa 0)).current = false ∧ ceilDiv 5000 1000 ≤ c.us + wheelHorizon ∧ taken h0 (.saActivate h0 0 1 0) (st c) ∧
       taken h0 (.saActivate h0 0 1 5000) (st c) ∧ taken h0 (.saRetire h0 0 1) (st c)) :=
  ⟨⟨by decide, by decide, by decide, by decide, by decide, takenOf rfl (by decide)⟩,
    by decide, by decide, by decide, by decide, by decide, takenOf rfl (by decide), takenOf rfl (by decide), takenOf rfl (by decide)⟩

/-- A listed two-way partner of Denast port 0 above every identifier of 16 bytes, and channel 1 of the key schedule. -/
def rekeying : Chip :=
  let c := mbUp [(F.PRT_CFG_port_mode 0, 1), (F.PRT_CFG_encap 0, 2), (F.KEY_STATUS_rbg_ok, 1)]
  let c := withChan { c with img := imgOf T.keySchedule (((fill 96 0).set 25 255).set 28 1) } (chanOf true 0) {}
  let c := { c with data := { c.data with scs := [(1, { on := true })], peers := [(0, { used := true, id := 1 :: fill 16 0, ports := 1 })] } }
  onPort c 0 { partner := some { id := 1 :: fill 16 0, twoWay := true } }

theorem beNat_lt (bs : Bytes) (n : Nat) : bs.foldl (fun n b => 256 * n + b.toNat) n < 256 ^ bs.length * (n + 1) := by
  induction bs generalizing n with
  | nil => simp
  | cons b bs ih =>
    refine (ih (256 * n + b.toNat)).trans_le ?_
    rw [List.length_cons, Nat.pow_succ, Nat.mul_assoc]
    exact Nat.mul_le_mul_left _ (by have := b.isLt; omega)

theorem peerId_lt (c : Chip) : beNat c.peerId < 256 ^ 16 := by
  have h := beNat_lt c.peerId 0
  have hl : c.peerId.length = 16 := by simp [Chip.peerId, fill]
  rw [hl] at h
  simpa [beNat] using h

theorem witness_mailboxAssociations_orders :
    rekeying.chan 1 = some (chanOf true 0) ∧ rekeying.advanceOk (chanOf true 0) = true ∧ taken h0 (.epochAdvance h0 1) (st rekeying) ∧
      rekeying.isDenast 0 = true ∧ rekeying.epochChans 0 ≠ [] ∧ (rekeying.port 0).partner = some { id := 1 :: fill 16 0, twoWay := true } ∧
      rekeying.initiates 0 = true ∧ (rekeying.port 0).link.step = .idle ∧ rekeying.peerBar 0 (1 :: fill 16 0) = 0 ∧ rekeying.pkeOk = true ∧
      taken h0 (.linkRekey h0 0) (st rekeying) := by
  refine ⟨by decide, by decide, takenOf rfl (by decide), by decide, by decide, by decide, ?_, by decide, by decide, by decide, takenOf rfl (by decide)⟩
  have hp : (rekeying.port 0).partner = some { id := 1 :: fill 16 0, twoWay := true } := by decide
  simp only [Chip.initiates, hp, Option.map_some, Option.getD_some, decide_eq_true_eq]
  exact (peerId_lt _).trans_le (by decide)

/-- MACsec port 0 with MKA as key server, channel 1 of the key schedule. -/
def serving : Chip :=
  let c := mbUp [(F.PRT_CFG_port_mode 0, 1), (F.PRT_CFG_encap 0, 1), (F.KEY_STATUS_rbg_ok, 1)]
  let c := withChan { c with img := imgOf T.mkaConfig (toLe 1 4 ++ fill 48 0) } (chanOf true 0) {}
  onPort c 0 { mka := { running := true, peers := [⟨[1], fill 8 9, 3, false⟩] } }

theorem witness_mailboxAssociations_server : serving.isDenast 0 = false ∧ serving.epochChans 0 ≠ [] ∧ serving.keyServer 0 = true ∧ serving.rbgOk = true ∧
    taken h0 (.linkRekey h0 0) (st serving) := ⟨by decide, by decide, by decide, by decide, takenOf rfl (by decide)⟩

/-- Attributes of a generated (2) or imported (3) lookaside key of 32 bytes. -/
def attrsOf (source : Byte) : Bytes := [source, 4, 1, 0, 0, 1] ++ fill 10 0

theorem witness_mailboxKeys :
    (let c := mbUp [(F.KEY_STATUS_rbg_ok, 1)]
     (c.mbStarted h0).fillRefuse 1023 2 (attrsOf 2) = none ∧ c.rbgOk = true ∧ taken h0 (.keyGenerate h0 1023 (attrsOf 2)) (st c) ∧
       (c.mbStarted h0).fillRefuse 8 3 (attrsOf 3) = none ∧ taken (hIn 32) (.keyImport (hIn 32) 1 8 (attrsOf 3)) (st c)) ∧
    (let c := { mbUp [] with keys := { slots := [(8, { slot9 with ops := 2 ^ 8 }), (9, { slot9 with ops := 2 ^ 7 })] } }
     (c.slot 8).filled = true ∧ (c.slot 9).filled = true ∧ bit (c.slot 8).ops 8 = true ∧ bit (c.slot 9).ops 7 = true ∧
       (c.slot 8).value.length + 24 ≤ (hOut 68).outLen ∧ taken (hOut 68) (.keyExport (hOut 68) 8 9) (st c) ∧ taken h0 (.keyClear h0 8) (st c)) :=
  ⟨⟨by decide, by decide, takenOf rfl (by decide), by decide, takenOf rfl (by decide)⟩,
    by decide, by decide, by decide, by decide, by decide, takenOf rfl (by decide), takenOf rfl (by decide)⟩

/-- A waiting public-key job. -/
def job7 : PkeJob := { num := 7, desc := [1, 0, 0, 0] ++ fill 5 0 ++ [1] ++ fill 2 0 ++ toLe 24 4 ++ fill 16 0 ++ toLe 8 4 ++ fill 28 0 }

theorem witness_mailboxKeys_jobs :
    (let c := mbUp [(F.PKE_HOST_CFG_host_enable, 1), (F.PKE_HOST_CFG_host_depth, 4)]
     c.flag F.PKE_HOST_CFG_host_enable = true ∧ c.rd F.PKE_STATUS_host_queued < c.rd F.PKE_HOST_CFG_host_depth ∧ job7.desc.length = 64 ∧
       le job7.desc 40 8 % 32 = 0 ∧ c.flag F.PKE_STATUS_fenced = false ∧ taken h0 (.pkeSubmit h0 job7.desc) (st c)) ∧
    (let c := { mbUp [] with pke := { queue := [job7] } }
     c.pke.queue.find? (fun j => j.num == 7) = some job7 ∧ taken h0 (.pkeAbort h0 7) (st c)) ∧
    (let c := { mbUp [] with pke := { running := some (job7, []) } }
     (∀ j ∈ c.pke.queue, j.num ≠ 7) ∧ c.pke.running = some (job7, []) ∧ job7.fw = false ∧ taken h0 (.pkeAbort h0 7) (st c)) ∧
    (∀ j ∈ (mbUp []).pke.queue, j.num ≠ 7) ∧ (mbUp []).pke.running = none ∧ taken h0 (.pkeAbort h0 7) (st (mbUp [])) :=
  ⟨⟨by decide, by decide, by decide, by decide, by decide, takenOf rfl (by decide)⟩, ⟨by decide, takenOf rfl (by decide)⟩,
    ⟨by decide, by decide, by decide, takenOf rfl (by decide)⟩, by decide, by decide, takenOf rfl (by decide)⟩

/-! ## Lookaside, public-key jobs -/

/-- Ring 0 enabled with 16 entries, of which one is new, and slot 9 for lookaside use. -/
def ringUp (l : List (Fld × Nat)) (x : Slot) : Chip :=
  { up ([(F.KEY_LA_CFG_log2_entries 0, 4), (F.KEY_LA_CFG_enable 0, 1), (F.KEY_LA_PROD_prod 0, 1)] ++ l) with keys := { slots := [(9, x)] } }

/-- A slot for every lookaside operation. -/
def slotLa : Slot := { source := 3, length := 1, dest := 4, ops := 127, value := fill 32 1 }

/-- An AES-GCM request on slot 9 with an IV of its own, or an automatic one. -/
def req (auto_ : Bool) : Bytes := [1, if auto_ then 4 else 0, 9, 0] ++ fill 60 0

/-- A KMAC request in flight on slot 9. -/
def inFlight (code : Option Nat) : LaReq := { entry := [7, 0, 9, 0] ++ fill 60 0, index := 0, key := fill 32 1, iv := [], code := code, slot := 9 }

theorem witness_lookaside :
    (laMay 2 0 = false ∧ laMay 0 0 = true ∧ bit (BitVec.ofNat 32 48 : W32).toNat 5 = true ∧
      decide (2 ^ (ringUp [] slotLa).rd (F.KEY_LA_CFG_log2_entries 0) < (9 + 65536 - (ringUp [] slotLa).rd (F.KEY_LA_CPROD_cprod 0)) % 65536) = false ∧
      decide (2 ^ (ringUp [] slotLa).rd (F.KEY_LA_CFG_log2_entries 0) < (17 + 65536 - (ringUp [] slotLa).rd (F.KEY_LA_CPROD_cprod 0)) % 65536) = true) ∧
    ((ringUp [] slotLa).laReady 0 = true ∧ (ringUp [] slotLa).laReady 1 = false ∧ bit (byteAt (req false) 1) 0 = false ∧ (ringUp [] slotLa).laRing 0 = [] ∧ (ringUp [] slotLa).laCheck 0 (req false) = none ∧
      (ringUp [] slotLa).laCheck 0 (req true) = none ∧ (ringUp [] slot9).laCheck 0 (req false) = some La.denied ∧ La.denied ≠ La.ok ∧
      (let x := { slotLa with persistent := true }
       (ringUp [] x).laCheck 0 (req true) = none ∧ x.persistent = true ∧ x.ivCeil < x.iv + 1 + 2 ^ 31)) ∧
    (let c : Chip := { ringUp [] slotLa with keys := { rings := [(0, [inFlight none])] } }
     c.laReady 0 = true ∧ bit (byteAt [1, 1, 9, 0] 1) 0 = true ∧ c.laRing 0 ≠ []) ∧
    (ringUp [] slotLa).laRunning 0 = true := by decide

theorem witness_lookaside_completions :
    (let c : Chip := { ringUp [] slotLa with keys := { rings := [(0, [inFlight none])] } }
     c.laRing 0 = inFlight none :: [] ∧ (inFlight none).code = none ∧
       (c.flag F.KEY_STATUS_la_engine0_fenced && c.flag F.KEY_STATUS_la_engine1_fenced) = false ∧
       (match laRun (inFlight none) [] [] with | .ok _ => true | .error _ => false) = true ∧
       (bit (byteAt (inFlight none).entry 1) 1 = false ∨ 0 < 6)) ∧
    (inFlight (some La.range)).code = some La.range ∧ La.range ≠ La.ok ∧
    (let c := lit [(F.KEY_STATUS_la_engine0_fenced, 1), (F.KEY_STATUS_la_engine1_fenced, 1)]
     c.flag F.KEY_STATUS_la_engine0_fenced = true ∧ c.flag F.KEY_STATUS_la_engine1_fenced = true) := by decide

theorem witness_publicKeyJobs :
    (let c := { up [] with pke := { queue := [job7] } }
     c.halted = false ∧ c.pkeServes = true ∧ c.pke.queue = job7 :: [] ∧ c.pke.fwQueue = [] ∧ job7.fw = false ∧ c.pke.running = none ∧
       c.djBar false job7.desc = none) ∧
    (let j := { job7 with fw := true, port := some 95 }
     let c := onPort { up [(F.PKE_HOST_CFG_fw_weight, 4), (F.PKE_HOST_CFG_host_weight, 1)] with pke := { queue := [job7], fwQueue := [j], taken := 4 } } 95
       { link := { step := .offered } }
     c.pkeServes = true ∧ c.pke.hostTurn = false ∧ c.rd F.PKE_HOST_CFG_fw_weight ≤ c.pke.taken ∧ c.pke.queue ≠ [] ∧
       ¬ (up [(F.PKE_HOST_CFG_fw_weight, 4)]).rd F.PKE_HOST_CFG_fw_weight ≤ 3 ∧ j.fw = true ∧ c.djBar true j.desc = none ∧
       j.port = some 95 ∧ (c.port 95).link.step = .offered ∧ (pkeCompute j (fill 16 1 ++ fill 8 2) j.rnd).2 ≤ 200 ∧
       (pkeCompute j (fill 16 1 ++ fill 8 2) j.rnd).1 = .out (fill 8 0)) ∧
    (let c := { up [] with pke := { queue := [{ job7 with desc := fill 64 0 }] } }
     c.djBar false (fill 64 0) = some (PkeCode.format, 0) ∧ PkeCode.format ≠ PkeCode.ok) ∧
    (let c := { up [] with pke := { running := some (job7, fill 24 2) } }
     c.pke.running = some (job7, fill 24 2) ∧ c.pke.running.isSome = true ∧ djRandom job7.desc = false ∧ bit (byteAt job7.desc 1) 0 = false ∧
       (pkeCompute job7 (fill 24 2) []).2 ≤ 200 ∧ (pkeCompute job7 (fill 24 2) []).1 = .early PkeCode.range ∧ PkeCode.range ≠ PkeCode.ok ∧
       (c.pke.faults.filter (fun t => decide (c.ns < t + 1000000000))).length < 2) ∧
    (pkeCompute job7 (fill 16 1 ++ fill 8 2) []).1 = .out (fill 8 0) ∧
    djRandom ((fill 64 0).set 0 0x10) = true ∧
    2 ≤ (([0, 0] : List Nat).filter (fun t => decide ((up []).ns < t + 1000000000))).length := by decide

/-! ## Debug port, counters, health -/

theorem witness_lifecycle :
    (lit [(F.MGT_START_STATUS_safe_state, 1)]).safe = true ∧ (lit []).safe = false ∧ (lit []).debugRoot = false ∧ (lit []).keys.owners = [] ∧
      (lit [(F.MGT_START_STATUS_debug_root, 1)]).debugRoot = true ∧ ({ lit [(F.MGT_START_STATUS_quarantined, 1)] with keys := { owners := [[]] } } : Chip).quarantined = true ∧
      ({ lit [] with keys := { owners := [[]] } } : Chip).keys.owners ≠ [] ∧ (lit []).quarantined = false := by decide

theorem witness_debugPort :
    (let c : Chip := { lit [] with ao := { lockout := true } }; c.power = true ∧ c.ao.lockout = true) ∧
    (let c := lit []; c.power = true ∧ c.ao.lockout = false ∧ c.dbg.challenge = none) ∧
    (let c : Chip := { up [] with dbg := { challenge := some [] }, img := imgOf T.hostConfig ((fill 48 0).set 1 2) }
     c.ao.lockout = false ∧ c.dbg.challenge = some [] ∧ c.debugEnable = true ∧ c.flag F.PKE_STATUS_fenced = false ∧
       c.ao.timer ≤ c.dbg.issued + 60 * 1000000000 * nsUnit) ∧
    (up []).allowed 4 0 true = false ∧ (up [(F.HST_DEBUG_session, 1), (F.ACU_STATUS_default_perm 2, 3)]).allowed 4 0xA000 true = true ∧
    (∀ token, ({ lit [] with keys := { revoked := 15 } } : Chip).tokenOk [] token = false) := by
  refine ⟨by decide, by decide, by decide, by decide, by decide, fun token => ?_⟩
  exact List.any_eq_false.2 (fun k hk => by have := List.mem_range.1 hk; interval_cases k <;> simp [bit])

theorem witness_processorCounters : [R.HLT_PC_GLOBAL, R.HLT_PC_FILT 207].all mayWrite = true := by decide

theorem witness_healthMonitors :
    (let c := up []; c.power = true ∧ c.firmware = true ∧ 35 ≤ c.health.vid ∧ c.flashGood 0 = true ∧ c.flashGood 1 = true ∧
      (∀ t, c.health.excursionAt = some t → t + 86400 ≤ c.seconds)) ∧
    (let c := { up [] with health := { excursionAt := some 5 } }; c.health.excursionAt = some 5 ∧ c.seconds < 5 + 86400) ∧
    (let c := { up [(F.HLT_AVS_STATUS_plan_mv, 700)] with health := { vidLe := false } }
     c.rd F.HLT_AVS_STATUS_plan_mv ≠ 0 ∧ c.health.vidLe = false ∧ c.health.raised = false ∧ 36 ≤ c.health.vid ∧ c.health.vid ≤ 60) ∧
    (ports 0 []).firmware = true ∧ (ports 0 []).portOn ((ports 0 []).lanePort 0) = true :=
  ⟨⟨by decide, by decide, by decide, by decide, by decide, nofun⟩, by decide, by decide, by decide, by decide⟩

/-! ## Single steps and operations whose results the spec gives -/

/-- The part after a command. -/
def after (i : Instr) (c : Chip) : Chip :=
  match exec i (st c) with
  | .next t => t.chip
  | _ => {}

/-- The headers of R77's table. -/
theorem test_coreHeader_table :
    denMask (coreHeader 0) = [0x6B, 0xA7, 0x1E, 0xD2] ∧ denMask (coreHeader 1) = [0x6B, 0xA6, 0x0E, 0xF3] ∧
      denMask (coreHeader 2) = [0x6B, 0xA5, 0x3E, 0x90] ∧ denMask (coreHeader 3) = [0x6B, 0xA4, 0x2E, 0xB1] ∧
      denMask (coreHeader 512) = [0x69, 0xA7, 0x78, 0xB0] ∧ denMask (coreHeader 513) = [0x69, 0xA6, 0x68, 0x91] := by decide +kernel

/-- The check values of the CRC-32 of Ethernet and of CRC-32C over the digits 1 to 9, as published with those codes. -/
theorem test_crc32_digits : crc32 (ascii "123456789") = 0xCBF43926 ∧ crc32c 0xFFFFFFFF (ascii "123456789") = 0xE3069283 := by decide +kernel

/-- R8, R9: a write sets an RW register whole, and the queue is left alone. -/
theorem test_registerWrite_sets : (after (.registerWrite 0 R.FWD_SRCH_ARG0 [{ value := 0x12345678 }]) (lit [])).word R.FWD_SRCH_ARG0 = 0x12345678 := by
  decide

/-- R10: a W1C bit set in the clock of its clearing write remains set, and one that is not is cleared. -/
theorem test_writeOneClear_same_clock :
    (after (.writeOneClear 0 R.TMP_LATCHED 3 1) (lit [(F.TMP_LATCHED_latched, 7)])).rd F.TMP_LATCHED_latched % 2 = 1 := by decide

/-- R12: the higher word reads as what the read of the lowest one latched, not as the register. -/
theorem test_counterLowRead_shadow :
    let c := after (.counterLowRead 0 ⟨R.TIM_EST, none⟩) ((lit []).setNum R.TIM_EST 2 (5 * 2 ^ 32 + 7))
    (after (.counterLowRead 0 ⟨R.TIM_EST + 4, none⟩) (c.setNum R.TIM_EST 2 0)).out = [.regRead 0 [7] false, .regRead 0 [5] false] := by decide

/-- R417: the loss of the selected input selects the other. -/
theorem test_refclkLoss_switches :
    (after (.refclkLoss 0) (lit [(F.MGT_REFCLK_in0_good, 1), (F.MGT_REFCLK_in1_good, 1)])).rd F.MGT_REFCLK_selected = 1 := by decide

/-- R452, R456: a command takes its entry and its sequence number is the highest started. -/
theorem test_nop_takes_entry :
    let c := after (.nop h0) (mbUp [])
    c.rd (F.HST_MB_CONS_cons 0) = 1 ∧ c.num (R.HST_MB_LAST_SEQ 0) 2 = 1 ∧ c.rd (F.HST_MB_RPROD_rprod 0) = 1 := by decide

/-- R456: the same command again is a duplicate, which moves CONS and starts nothing. -/
theorem test_nop_duplicate :
    let c := after (.nop h0) ((after (.nop h0) (mbUp [])).wr (F.HST_MB_PROD_prod 0) 2)
    c.rd (F.HST_MB_CONS_cons 0) = 2 ∧ c.num (R.HST_MB_LAST_SEQ 0) 2 = 1 ∧ c.mb0.table.length = 1 := by decide

/-- R333: modular addition and the range rule of its operands. -/
theorem test_pke_modAdd : (pkeCompute job7 (toBe 5 8 ++ toBe 4 8 ++ toBe 7 8) []).1 = .out (toBe 2 8) ∧
    (pkeCompute job7 (toBe 7 8 ++ toBe 4 8 ++ toBe 7 8) []).1 = .early PkeCode.range := by decide

/-- R74, R75: the expiry of the down time of a port without its conditions takes the link down, counted. -/
theorem test_linkDown_counted :
    let c := after (.linkDownHoldExpiry 96) (ports 0 [(F.PRT_STATUS_link_up 96, 1)])
    c.flag (F.PRT_STATUS_link_up 96) = false ∧ c.rd (F.PRT_STATUS_link_downs 96) = 1 := by decide

/-- R78: two headers that fit after PRESYNC begins keep it, the third is needed for SYNC. -/
theorem test_delineation_counts :
    (after (.denastHeader 0 (denMask (coreHeader 3)) []) (den 0 [(F.PRT_DEN_STATUS_state 0, 1), (F.PRT_DEN_STATUS_presync_count 0, 1)])).rd
      (F.PRT_DEN_STATUS_presync_count 0) = 2 := by decide +kernel

/-- R404: a source that has fired counts its fires but writes no further log entry before it re-arms. -/
theorem test_tamper_fires_once :
    let c := after (.tamperSourceFire { source := 3 }) (lit [(F.TMP_SRC_used 3, 1), (F.TMP_SRC_class 3, 1)])
    let d := after (.tamperSourceFire { source := 3 }) c
    c.rd (F.TMP_SRC_fires 3) = 1 ∧ c.ao.logSeq = 1 ∧ d.rd (F.TMP_SRC_fires 3) = 2 ∧ d.ao.logSeq = 1 := by decide

/-- R405: class 3 erases the share and halts. -/
theorem test_tamper_erases :
    let c := after (.tamperSourceFire { source := 3 }) { lit [(F.TMP_SRC_used 3, 1), (F.TMP_SRC_class 3, 3)] with ao := { share := fill 32 9 } }
    c.ao.share = fill 32 0 ∧ c.halted = true := by decide +kernel

/-- The worked example of spec/13_vault_memory_protection.md, after R348. -/
theorem test_stack_addresses : tagAddr 0x9B2D = 0x20004D968 ∧ epochAddr 38 true 487213 = 0x26CB40 := by decide

/-- A command for a unit that the part lacks stops with `noUnit`. -/
theorem test_noUnit : exec (.refclkLoss 2) (st (lit [])) = .fault .noUnit := rfl

/-- No word spells a command. -/
theorem test_decodeTableWord : decodeTableWord 32 0 = none ∧ State.reset.withFetchWord 32 0 = State.reset := ⟨rfl, rfl⟩

end Sys2Proof.Tests
end

section
/-! PROOFS of the scope family: the part as delivered, and permitted writes of registers (R9, R10, R404, R443). -/

namespace Sys2Proof.Machine

/-! ## The part as delivered -/

/-- The empty register map reads as the reset value of every word. -/
theorem reset_word (a : Nat) : State.reset.chip.word a = resetWord a := rfl

/-- Settles O6: the default of each field is its value as delivered (log entry 7), and the empty register map reads as reset values. -/
theorem resetAsDelivered : Obligations.ResetAsDelivered := ⟨rfl, rfl, rfl, reset_word, rfl, rfl⟩

/-! ## Changes of some registers and of nothing else -/

theorem Chip.onlyRegs_setWord (c : Chip) (a : Nat) (w : W32) : Chip.onlyRegs c (c.setWord a w) [a] :=
  ⟨rfl, fun b hb => Chip.word_setWord_other c a b w (by simpa using hb)⟩

theorem Chip.onlyRegs.trans {b c d : Chip} {as : List Nat} (h : Chip.onlyRegs b c as) (k : Chip.onlyRegs c d as) :
    Chip.onlyRegs b d as := by
  obtain ⟨hc, hw⟩ := h
  obtain ⟨hd, kw⟩ := k
  exact ⟨by rw [← hc, ← hd], fun a ha => (kw a ha).trans (hw a ha)⟩

/-- The bits of `m` set in the word at `a`, as the part sets them in the clock of a write (R10). -/
def Chip.orWord (c : Chip) (a : Nat) (m : W32) : Chip := c.setWord a (c.word a ||| m)

@[simp] theorem Chip.orWord_power (c : Chip) (a : Nat) (m : W32) : (c.orWord a m).power = c.power := rfl

@[simp] theorem Chip.word_orWord_same (c : Chip) (a : Nat) (m : W32) : (c.orWord a m).word a = c.word a ||| m :=
  Chip.word_setWord_same _ _ _

theorem Chip.onlyRegs_orWord (c : Chip) (a : Nat) (m : W32) : Chip.onlyRegs c (c.orWord a m) [a] := Chip.onlyRegs_setWord _ _ _

/-! ## A permitted write -/

theorem Chip.hostWrite_of_permitted {c : Chip} {init a : Nat} (h : permitted c init a true) (f : Chip → Chip) :
    c.hostWrite init a f = f c := by
  obtain ⟨hserved, hallowed⟩ := h
  simp [Chip.hostWrite, hserved, hallowed]

/-- Under main power a step goes on to what it makes of the part, which keeps main power. -/
theorem goes_act_powered {i : Instr} {s : State} {f : Chip → Chip} {P : Chip → Prop} (hx : exec i s = s.act f)
    (hp : s.chip.power = true) (h : P { f s.chip with power := true }) : Goes i s P :=
  ⟨{ s with chip := { f s.chip with power := true } }, by rw [hx, State.act, if_pos hp], rfl, h⟩

theorem exec_registerWrite_of_permitted {s : State} {init a : Nat} (h : permitted s.chip init a true) (v : W32) :
    exec (.registerWrite init a [{ value := v }]) s = s.act fun _ => s.chip.writeWord init a v := by
  change s.act (fun c => c.hostWrite init a fun c => c.writeWord init a v) = _
  simp only [State.act, Chip.hostWrite_of_permitted h]

theorem exec_writeOneClear_of_permitted {s : State} {init a w : Nat} {d : RegDesc} (h : permitted s.chip init a true)
    (hd : descOf a = some (d, w)) (v new : W32) :
    exec (.writeOneClear init a v new) s = s.act fun _ => (s.chip.writeWord init a v).orWord a (new &&& d.w1c) := by
  change execWriteOneClear init a v new s = _
  simp [execWriteOneClear, State.act, Chip.hostWrite_of_permitted h, hd, Chip.orWord]

theorem exec_tmpLatchedClear_of_permitted {s : State} {init : Nat} (h : permitted s.chip init R.TMP_LATCHED true) (v : W32) :
    exec (.tmpLatchedClear init v) s = s.act fun _ => s.chip.clearLatched v := by
  change execTmpLatchedClear init v s = _
  simp only [execTmpLatchedClear, State.act, Chip.hostWrite_of_permitted h]

/-! ## What a write makes of a word -/

/-- An address of a block below the performance counters is no word of HLT_PC_FILT. -/
theorem wordIx_pcFilt_of_lt {a : Nat} (h : a < 0x50000) : wordIx a (R.HLT_PC_FILT 0) 208 128 = none := by
  have hlow : ¬ R.HLT_PC_FILT 0 ≤ a := by simp only [R.HLT_PC_FILT]; omega
  simp [wordIx, hlow]

/-- A write of a register without an effect of its own is a write of its word. -/
theorem Chip.writeWord_plain {c : Chip} {init a w : Nat} {v : W32} {d : RegDesc} (hd : descOf a = some (d, w)) (ha : a < 0x50000)
    (hplain : c.writeSpecial init a v = none) : c.writeWord init a v = c.setWord a (d.written (c.word a) v) := by
  simp only [Chip.writeWord, hd, hplain, wordIx_pcFilt_of_lt ha]

/-- RW and RWS bits take the bits written, a 1 clears a W1C bit, and every other bit stays (R9). -/
theorem RegDesc.getLsbD_written (d : RegDesc) (old v : W32) {k : Nat} (hk : k < 32) :
    (d.written old v).getLsbD k =
      ((if (d.rw ||| d.rws).getLsbD k then v.getLsbD k else old.getLsbD k) && !(d.w1c.getLsbD k && v.getLsbD k)) := by
  simp only [RegDesc.written, BitVec.getLsbD_and, BitVec.getLsbD_or, BitVec.getLsbD_not, hk, decide_true, Bool.true_and]
  cases d.rw.getLsbD k || d.rws.getLsbD k <;> simp [Bool.and_comm]

theorem Chip.getLsbD_clearLatched (c : Chip) (v : W32) {k : Nat} (hk : k < 18) :
    ((c.clearLatched v).word R.TMP_LATCHED).getLsbD k =
      ((c.word R.TMP_LATCHED).getLsbD k && !(v.getLsbD k && !(c.word R.TMP_ACTIVE).getLsbD k)) := by
  have hsource : (0x3FFFF : W32).getLsbD k = true := by interval_cases k <;> rfl
  have hword : k < 32 := by omega
  simp only [Chip.clearLatched, Chip.word_setWord_same, BitVec.getLsbD_and, BitVec.getLsbD_not, hsource, hword, decide_true,
    Bool.true_and, Bool.and_true]

/-! ## The clauses of O19, with the bits of a plain write as R9 gives them -/

/-- The plain write of O19, with the whole value of a bit on one side of the equation. -/
theorem goes_registerWrite_plain {s : State} {init a w : Nat} {v : W32} {d : RegDesc} (hp : s.chip.power = true)
    (hperm : permitted s.chip init a true) (hd : descOf a = some (d, w)) (ha : a < 0x50000)
    (hplain : s.chip.writeSpecial init a v = none) :
    Goes (.registerWrite init a [{ value := v }]) s fun c => Chip.onlyRegs s.chip c [a] ∧
      ∀ k, k < 32 → (c.word a).getLsbD k =
        ((if (d.rw ||| d.rws).getLsbD k then v.getLsbD k else (s.chip.word a).getLsbD k) && !(d.w1c.getLsbD k && v.getLsbD k)) := by
  have hw := Chip.writeWord_plain hd ha hplain
  refine goes_act (exec_registerWrite_of_permitted hperm v) hp (by rw [hw]; exact hp) ?_
  rw [hw]
  refine ⟨Chip.onlyRegs_setWord _ _ _, fun k hk => ?_⟩
  rw [Chip.word_setWord_same, RegDesc.getLsbD_written d _ _ hk]

/-- A W1C bit that the part sets in the clock of the write remains set (R10). -/
theorem goes_writeOneClear_plain {s : State} {init a w : Nat} {v : W32} {d : RegDesc} (new : W32) (hp : s.chip.power = true)
    (hperm : permitted s.chip init a true) (hd : descOf a = some (d, w)) (ha : a < 0x50000)
    (hplain : s.chip.writeSpecial init a v = none) :
    Goes (.writeOneClear init a v new) s fun c => Chip.onlyRegs s.chip c [a] ∧
      ∀ k, k < 32 → d.w1c.getLsbD k = true → (c.word a).getLsbD k =
        (new.getLsbD k || (if (d.rw ||| d.rws).getLsbD k then v.getLsbD k else (s.chip.word a).getLsbD k) && !v.getLsbD k) := by
  have hw := Chip.writeWord_plain hd ha hplain
  refine goes_act (exec_writeOneClear_of_permitted hperm hd v new) hp (by rw [hw]; exact hp) ?_
  rw [hw]
  refine ⟨(Chip.onlyRegs_setWord _ _ _).trans (Chip.onlyRegs_orWord _ _ _), fun k hk hc => ?_⟩
  rw [Chip.word_orWord_same, Chip.word_setWord_same, BitVec.getLsbD_or, BitVec.getLsbD_and, RegDesc.getLsbD_written d _ _ hk, hc,
    Bool.true_and, Bool.and_true, Bool.or_comm]

/-- The clear of TMP_LATCHED and the write by BAR2, as O19 states them. -/
theorem latchedClearRule_holds : latchedClearRule := by
  intro s init fn v hp
  constructor
  · intro hperm
    exact goes_act (exec_tmpLatchedClear_of_permitted hperm v) hp hp
      ⟨Chip.onlyRegs_setWord _ _ _, fun k hk => Chip.getLsbD_clearLatched _ _ hk⟩
  · intro hfn
    exact goes_actOn rfl (decide_eq_true hfn) hp hp rfl

/-- Whatever effects the write has of its own, the bits that the part sets are put into the word after them. -/
theorem setBitsRemainRule_holds : setBitsRemainRule := by
  intro s init a k v new d w hp hperm hd _ hc hnew
  refine goes_act_powered (exec_writeOneClear_of_permitted hperm hd v new) hp ?_
  change (((s.chip.writeWord init a v).orWord a (new &&& d.w1c)).word a).getLsbD k = true
  rw [Chip.word_orWord_same, BitVec.getLsbD_or, BitVec.getLsbD_and, hnew, hc, Bool.and_self, Bool.or_true]

/-! ## Why O19 fails as it is written -/

/-- A part under main power whose I2C master 0 has recovered: bit 1 of PRT_I2C_STATUS, a W1C bit, is set. -/
def recoveredMaster : State := { chip := { power := true, regs := [(R.PRT_I2C_STATUS 0, 2)] } }

/-- Firmware may write PRT_I2C_STATUS of it, which no access check unit guards. -/
theorem recoveredMaster_permitted : permitted recoveredMaster.chip 0 (R.PRT_I2C_STATUS 0) true := ⟨rfl, rfl⟩

/-- Writing PRT_I2C_STATUS has no effect of its own. -/
theorem writeSpecial_i2cStatus (c : Chip) (init : Nat) (v : W32) : c.writeSpecial init (R.PRT_I2C_STATUS 0) v = none := rfl

/-- The register of master 0, by the table of chapter 03. -/
theorem descOf_i2cStatus : descOf (R.PRT_I2C_STATUS 0) =
    some ({ base := 0x18000, n1 := 8, s1 := 0x4, w1c := 0x2, rc := 0xFFFF0000, keep := 0xFFFF0000 }, 0) := by decide

/-- What the write of a 1 comes to in the model: the bit is cleared, as R9 has it. -/
theorem recoveredMaster_cleared : Goes (.registerWrite 0 (R.PRT_I2C_STATUS 0) [{ value := 2 }]) recoveredMaster fun c =>
    (c.word (R.PRT_I2C_STATUS 0)).getLsbD 1 = false := by
  obtain ⟨t, hx, hq, -, hbits⟩ := goes_registerWrite_plain (v := 2) rfl recoveredMaster_permitted descOf_i2cStatus (by decide)
    (writeSpecial_i2cStatus _ _ _)
  exact ⟨t, hx, hq, hbits 1 (by decide)⟩

/-- Refutes O19 by the spelling of its first clause alone: `=` binds tighter than `&&`, so `x = y && !z` claims `x = y` AND that no 1
is written to a W1C bit. A write of 1 to the W1C bit 1 of PRT_I2C_STATUS breaks the second half. With the brackets that R9 means the
clause holds (`goes_registerWrite_plain`), and so do the others (`goes_writeOneClear_plain`, `latchedClearRule_holds`,
`setBitsRemainRule_holds`). -/
theorem not_registerWriting : ¬ Obligations.RegisterWriting := by
  rintro ⟨hwrites, -, -⟩
  obtain ⟨⟨t, -, -, -, hbits⟩, -⟩ := hwrites recoveredMaster 0 (R.PRT_I2C_STATUS 0) 2 0 _ _ rfl recoveredMaster_permitted
    descOf_i2cStatus (by decide) (fun c x => writeSpecial_i2cStatus c 0 x)
  have hbit := hbits 1 (by decide)
  simp at hbit

end Sys2Proof.Machine
end

section
/-! PROOFS of the family of the frame walk, what the buffer does to the part: storing, freeing and discarding a frame, and its way to the
parser (R21, R121, R174, R179, R182, R183). -/

namespace Sys2Proof.Machine

/-! ## Changes of the datapath and of some registers -/

theorem Chip.onlyRegs.mono {c d : Chip} {as bs : List Nat} (h : Chip.onlyRegs c d as) (hsub : as ⊆ bs) : Chip.onlyRegs c d bs :=
  ⟨h.1, fun a ha => h.2 a fun hm => ha (hsub hm)⟩

theorem Chip.onlyRegs_bump (c : Chip) (a : Nat) : Chip.onlyRegs c (c.bump a) [a] := Chip.onlyRegs_setWord _ _ _

theorem Chip.onlyRegs_wr (c : Chip) (f : Fld) (v : Nat) : Chip.onlyRegs c (c.wr f v) [f.reg] := Chip.onlyRegs_setWord _ _ _

theorem Chip.onlyRegs_mark (c : Chip) (f : Fld) (v : Nat) : Chip.onlyRegs c (c.mark f v) [f.reg] := Chip.onlyRegs_wr _ _ _

/-- Nothing but the datapath and the registers at the addresses `as` differs between `c` and `d`. -/
def Chip.dataAndRegs (c d : Chip) (as : List Nat) : Prop := Chip.onlyRegs { c with data := d.data } d as

theorem Chip.dataAndRegs_data (c : Chip) (x : Data) (as : List Nat) : Chip.dataAndRegs c { c with data := x } as :=
  ⟨rfl, fun _ _ => rfl⟩

theorem Chip.onlyRegs.dataAndRegs {c d : Chip} {as : List Nat} (h : Chip.onlyRegs c d as) : Chip.dataAndRegs c d as := by
  have hdata : d.data = c.data := (congrArg Chip.data h.1 :)
  rw [Chip.dataAndRegs, hdata]
  exact h

theorem Chip.dataAndRegs.mono {c d : Chip} {as bs : List Nat} (h : Chip.dataAndRegs c d as) (hsub : as ⊆ bs) : Chip.dataAndRegs c d bs :=
  Chip.onlyRegs.mono h hsub

theorem Chip.dataAndRegs.trans {b c d : Chip} {as : List Nat} (h : Chip.dataAndRegs b c as) (k : Chip.dataAndRegs c d as) :
    Chip.dataAndRegs b d as := by
  obtain ⟨hc, hw⟩ := h
  obtain ⟨hd, kw⟩ := k
  refine ⟨?_, fun a ha => (kw a ha).trans (hw a ha)⟩
  calc { d with regs := b.regs }
      _ = { ({ d with regs := c.regs } : Chip) with regs := b.regs } := rfl
      _ = { ({ c with regs := b.regs } : Chip) with data := d.data } := by rw [hd]
      _ = { b with data := d.data } := by rw [hc]

theorem Chip.dataAndRegs.word {c d : Chip} {as : List Nat} (h : Chip.dataAndRegs c d as) {a : Nat} (ha : a ∉ as) : d.word a = c.word a :=
  h.2 a ha

theorem Chip.dataAndRegs.power {c d : Chip} {as : List Nat} (h : Chip.dataAndRegs c d as) : d.power = c.power :=
  (congrArg Chip.power h.1 :)

theorem Chip.onlyRegs.power {c d : Chip} {as : List Nat} (h : Chip.onlyRegs c d as) : d.power = c.power := h.dataAndRegs.power

/-! ## Headroom, the shared pool, and charges of queues -/

theorem Chip.onlyRegs_takeHeadroom (c : Chip) (n : Nat) : Chip.onlyRegs c (c.takeHeadroom n) [R.SWC_HEADROOM] :=
  (Chip.onlyRegs_wr c F.SWC_HEADROOM_used _).trans (Chip.onlyRegs_mark _ F.SWC_HEADROOM_used_max _)

theorem Chip.onlyRegs_giveHeadroom (c : Chip) (n : Nat) : Chip.onlyRegs c (c.giveHeadroom n) [R.SWC_HEADROOM] :=
  Chip.onlyRegs_wr c F.SWC_HEADROOM_used _

theorem Chip.onlyRegs_settlePool (c : Chip) : Chip.onlyRegs c c.settlePool [R.SWC_POOL_FREE] := Chip.onlyRegs_wr c F.SWC_POOL_FREE_free _

/-- The charges of the queues of a list for a frame of `n` cells and class `cls` are released. -/
theorem Chip.onlyRegs_releaseQs (c : Chip) (cls n : Nat) (qs : List Nat) :
    Chip.onlyRegs c (qs.foldl (fun c p => c.releaseQ (qOf p cls) n) c) (qs.map fun p => R.SWC_Q_OCC (qOf p cls)) := by
  induction qs generalizing c with
  | nil => exact ⟨rfl, fun _ _ => rfl⟩
  | cons q qs ih =>
    have hq : Chip.onlyRegs c (c.releaseQ (qOf q cls) n) [R.SWC_Q_OCC (qOf q cls)] := Chip.onlyRegs_wr c (F.SWC_Q_OCC_occ _) _
    exact (hq.mono (by simp)).trans ((ih _).mono (by simp))

/-! ## Frames -/

@[simp] theorem Chip.frame_setFrame_same (c : Chip) (i : Nat) (f : Option Frame) : (c.setFrame i f).frame i = f := Sparse.get_set_same _ _ _ _

theorem Chip.frame_setFrame_other (c : Chip) {i j : Nat} (f : Option Frame) (h : j ≠ i) : (c.setFrame i f).frame j = c.frame j :=
  Sparse.get_set_other _ _ _ _ _ h

theorem Chip.frame_data {c d : Chip} (h : d.data = c.data) (i : Nat) : d.frame i = c.frame i := by rw [Chip.frame, h, Chip.frame]

/-- What stays of a frame whose cells are freed: one whose verdict is still to come stays known to the cipher. -/
def Frame.remnant (f : Frame) : Option Frame :=
  if f.waitIcv then
    some { f with gone := true, decided := true, queues := [], punt := none, early := 0, shared := 0, head := 0, learn := none, hit := none }
  else none

/-- The part without frame `f`, of number `i`, in the buffer and in its port's arrival order. -/
def Chip.unframed (c : Chip) (i : Nat) (f : Frame) : Chip :=
  { c with data := { c.data with
      frames := Sparse.set none c.data.frames i f.remnant
      order := Sparse.set [] c.data.order f.port ((Sparse.get [] c.data.order f.port).filter (· != i)) } }

theorem Chip.freeFrame_of_none {c : Chip} {i : Nat} (h : c.frame i = none) : c.freeFrame i = c := by
  unfold Chip.freeFrame
  rw [h]

/-- A freed frame's cells return to the pool that they are charged to. -/
theorem Chip.freeFrame_of_some {c : Chip} {i : Nat} {f : Frame} (h : c.frame i = some f) :
    c.freeFrame i = if f.gone then c.unframed i f
      else if !f.decided then (c.unframed i f).giveHeadroom (cellsOf f.bytes)
      else if f.punt.isSome then (c.unframed i f).wr F.SWC_MGMT_Q_occ ((c.unframed i f).rd F.SWC_MGMT_Q_occ - cellsOf f.bytes)
      else ((c.unframed i f).giveHeadroom f.head).settlePool := by
  unfold Chip.freeFrame
  rw [h]
  rfl

theorem Chip.freeFrame_data {c : Chip} {i : Nat} {f : Frame} (h : c.frame i = some f) :
    (c.freeFrame i).data = (c.unframed i f).data := by
  rw [Chip.freeFrame_of_some h]
  split_ifs <;> rfl

/-- The registers of the pools that a freed frame's cells return to. -/
def poolWords : List Nat := [R.SWC_HEADROOM, R.SWC_MGMT_Q, R.SWC_POOL_FREE]

theorem Chip.dataAndRegs_freeFrame (c : Chip) (i : Nat) : Chip.dataAndRegs c (c.freeFrame i) poolWords := by
  cases h : c.frame i with
  | none =>
    rw [Chip.freeFrame_of_none h]
    exact Chip.dataAndRegs_data c c.data _
  | some f =>
    have hframe : Chip.dataAndRegs c (c.unframed i f) poolWords := Chip.dataAndRegs_data c _ _
    have hroom (n : Nat) := (Chip.onlyRegs_giveHeadroom (c.unframed i f) n).dataAndRegs.mono (bs := poolWords) (by decide)
    rw [Chip.freeFrame_of_some h]
    split_ifs
    · exact hframe
    · exact hframe.trans (hroom _)
    · exact hframe.trans ((Chip.onlyRegs_wr _ F.SWC_MGMT_Q_occ _).dataAndRegs.mono (by decide))
    · exact hframe.trans ((hroom _).trans ((Chip.onlyRegs_settlePool _).dataAndRegs.mono (by decide)))

@[simp] theorem Chip.freeFrame_sas (c : Chip) (i : Nat) : (c.freeFrame i).data.sas = c.data.sas := by
  cases h : c.frame i with
  | none => rw [Chip.freeFrame_of_none h]
  | some f => rw [Chip.freeFrame_data h]; rfl

@[simp] theorem Chip.freeFrame_nextId (c : Chip) (i : Nat) : (c.freeFrame i).data.nextId = c.data.nextId := by
  cases h : c.frame i with
  | none => rw [Chip.freeFrame_of_none h]
  | some f => rw [Chip.freeFrame_data h]; rfl

/-! ## Storing a frame -/

/-- The part with frame `f` under the next number, in its port's arrival order and charged to its headroom. -/
def Chip.stored (c : Chip) (f : Frame) : Chip :=
  ({ c with data := { c.data with
      nextId := c.data.nextId + 1
      frames := Sparse.set none c.data.frames c.data.nextId (some f)
      order := Sparse.set [] c.data.order f.port (Sparse.get [] c.data.order f.port ++ [c.data.nextId]) } } : Chip).takeHeadroom (cellsOf f.bytes)

/-- A frame that finds room is stored. -/
theorem Chip.store_of_room {c : Chip} {f : Frame} (h : c.headUsed f.port < headroomOf f.port) :
    c.store f = (c.stored f, some c.data.nextId) := if_neg (Nat.not_le.mpr h)

/-- A frame that waits for no verdict and finds its port's headroom full is dropped and counted. -/
theorem Chip.store_of_full {c : Chip} {f : Frame} (h : headroomOf f.port ≤ c.headUsed f.port) (hicv : f.waitIcv = false) :
    c.store f = (({ c with data := { c.data with nextId := c.data.nextId + 1 } } : Chip).bump (R.SWC_HEADROOM_DROP (pipeOf f.port)), none) := by
  refine (if_pos h).trans ?_
  simp only [hicv, Bool.false_eq_true, if_false]

theorem Chip.dataAndRegs_stored (c : Chip) (f : Frame) : Chip.dataAndRegs c (c.stored f) [R.SWC_HEADROOM] :=
  (Chip.dataAndRegs_data c _ _).trans (Chip.onlyRegs_takeHeadroom _ _).dataAndRegs

/-! ## On to the parser -/

/-- A frame that finds room ahead of the parser waits there. -/
theorem Chip.toParser_of_room {c : Chip} {p i room : Nat} (h : (c.flights (2 * p)).length < 16 + room) :
    c.toParser p i room = (c.setFlights (2 * p) (c.flights (2 * p) ++ [{ frame := i, source := p }])).mark
      (F.FLW_PD_HWM_inflight_max (2 * p)) (min 16 ((c.flights (2 * p)).length + 1)) := if_neg (Nat.not_le.mpr h)

theorem Chip.toParser_of_full {c : Chip} {p i room : Nat} (h : 16 + room ≤ (c.flights (2 * p)).length) :
    c.toParser p i room = (c.bump (R.FLW_DISPATCH_DROP (2 * p))).freeFrame i := if_pos h

/-- The registers of the parser's queue of a port. -/
def parserWords (p : Nat) : List Nat := [R.FLW_DISPATCH_DROP (2 * p), R.FLW_PD_HWM (2 * p)]

theorem Chip.dataAndRegs_toParser (c : Chip) (p i room : Nat) : Chip.dataAndRegs c (c.toParser p i room) (parserWords p ++ poolWords) := by
  by_cases h : (c.flights (2 * p)).length < 16 + room
  · rw [Chip.toParser_of_room h]
    exact (Chip.dataAndRegs_data c _ _).trans ((Chip.onlyRegs_mark _ _ _).dataAndRegs.mono (by simp [parserWords, F.FLW_PD_HWM_inflight_max]))
  · rw [Chip.toParser_of_full (Nat.not_lt.mp h)]
    exact ((Chip.onlyRegs_bump c _).dataAndRegs.mono (by simp [parserWords])).trans ((Chip.dataAndRegs_freeFrame _ i).mono (by simp))

@[simp] theorem Chip.toParser_sas (c : Chip) (p i room : Nat) : (c.toParser p i room).data.sas = c.data.sas := by
  unfold Chip.toParser
  dsimp only
  split
  · rw [Chip.freeFrame_sas, Chip.bump_data]
  · rfl

@[simp] theorem Chip.toParser_nextId (c : Chip) (p i room : Nat) : (c.toParser p i room).data.nextId = c.data.nextId := by
  unfold Chip.toParser
  dsimp only
  split
  · rw [Chip.freeFrame_nextId, Chip.bump_data]
  · rfl

/-! ## A frame on a line port -/

/-- A frame of a line port is stored and goes to the parser. -/
def Chip.receive (c : Chip) (f : Frame) : Chip :=
  match c.store f with
  | (c, some j) => c.toParser f.port j 16
  | (c, none) => c

theorem Chip.receive_of_full {c : Chip} {f : Frame} (h : headroomOf f.port ≤ c.headUsed f.port) (hicv : f.waitIcv = false) :
    c.receive f = ({ c with data := { c.data with nextId := c.data.nextId + 1 } } : Chip).bump (R.SWC_HEADROOM_DROP (pipeOf f.port)) := by
  rw [Chip.receive, Chip.store_of_full h hicv]

theorem Chip.receive_of_room {c : Chip} {f : Frame} (h : c.headUsed f.port < headroomOf f.port) :
    c.receive f = (c.stored f).toParser f.port c.data.nextId 16 := by
  rw [Chip.receive, Chip.store_of_room h]

/-- The registers that a frame of a line port can change once its verdict is known or not asked for. -/
def receiveWords (p : Nat) : List Nat := R.SWC_HEADROOM_DROP (pipeOf p) :: (parserWords p ++ poolWords)

theorem Chip.dataAndRegs_receive (c : Chip) {f : Frame} (hicv : f.waitIcv = false) :
    Chip.dataAndRegs c (c.receive f) (receiveWords f.port) := by
  rcases Nat.lt_or_ge (c.headUsed f.port) (headroomOf f.port) with h | h
  · rw [Chip.receive_of_room h]
    exact ((Chip.dataAndRegs_stored c f).mono (by simp [receiveWords, poolWords])).trans
      ((Chip.dataAndRegs_toParser _ _ _ _).mono (List.subset_cons_self _ _))
  · rw [Chip.receive_of_full h hicv]
    exact (Chip.dataAndRegs_data c _ _).trans ((Chip.onlyRegs_bump _ _).dataAndRegs.mono (by simp [receiveWords]))

theorem Chip.receive_sas (c : Chip) {f : Frame} (hicv : f.waitIcv = false) : (c.receive f).data.sas = c.data.sas := by
  rcases Nat.lt_or_ge (c.headUsed f.port) (headroomOf f.port) with h | h
  · rw [Chip.receive_of_room h, Chip.toParser_sas]; rfl
  · rw [Chip.receive_of_full h hicv]; rfl

theorem Chip.receive_nextId (c : Chip) {f : Frame} (hicv : f.waitIcv = false) : (c.receive f).data.nextId = c.data.nextId + 1 := by
  rcases Nat.lt_or_ge (c.headUsed f.port) (headroomOf f.port) with h | h
  · rw [Chip.receive_of_room h, Chip.toParser_nextId]; rfl
  · rw [Chip.receive_of_full h hicv]; rfl

/-- A frame that finds room in its port's headroom and ahead of the parser is stored and waits for the parser. -/
theorem Chip.receive_data {c : Chip} {f : Frame} (hroom : c.headUsed f.port < headroomOf f.port)
    (hparser : (c.flights (2 * f.port)).length < 32) :
    (c.receive f).data = { c.data with
      nextId := c.data.nextId + 1
      frames := Sparse.set none c.data.frames c.data.nextId (some f)
      order := Sparse.set [] c.data.order f.port (Sparse.get [] c.data.order f.port ++ [c.data.nextId])
      flights := Sparse.set [] c.data.flights (2 * f.port) (c.flights (2 * f.port) ++ [{ frame := c.data.nextId, source := f.port }]) } := by
  have hd : c.receive f = _ := (Chip.receive_of_room hroom).trans (Chip.toParser_of_room hparser)
  rw [hd]
  rfl

theorem Chip.dataAndRegs_receive_of_room {c : Chip} {f : Frame} (hroom : c.headUsed f.port < headroomOf f.port)
    (hparser : (c.flights (2 * f.port)).length < 32) :
    Chip.dataAndRegs c (c.receive f) [R.SWC_HEADROOM, R.FLW_PD_HWM (2 * f.port)] := by
  have hd : c.receive f = _ := (Chip.receive_of_room hroom).trans (Chip.toParser_of_room hparser)
  have hstored := (Chip.dataAndRegs_stored c f).mono (bs := [R.SWC_HEADROOM, R.FLW_PD_HWM (2 * f.port)]) (by simp)
  rw [hd]
  exact hstored.trans ((Chip.dataAndRegs_data _ _ _).trans
    ((Chip.onlyRegs_mark _ _ _).dataAndRegs.mono (by simp [F.FLW_PD_HWM_inflight_max])))

/-- A frame as a line port receives it in clear, with its verdict: its failing check is known at its end (R21). -/
def Chip.clearFrame (c : Chip) (p : Nat) (f : Bytes) (cut : Bool) (v : Nat) : Frame :=
  { port := p, bytes := f, fail := if cut then some 0 else if !fcsGood f then some 1 else none, verdict := v, rx := c.rxStamp p }

end Sys2Proof.Machine
end

section
/-! PROOFS of the family of the frame walk, main power: nothing on a frame's way from the policer to its admission changes it (R19, R24). -/

namespace Sys2Proof.Machine

/-- What each step of a fold keeps, the fold keeps. -/
theorem foldl_keeps {σ α β : Type} {g : σ → α → σ} {view : σ → β} (h : ∀ s x, view (g s x) = view s) (l : List α) (s : σ) :
    view (l.foldl g s) = view s := by
  induction l generalizing s with
  | nil => rfl
  | cons x l ih => rw [List.foldl_cons, ih, h]

/-! ## The buffer -/

@[simp] theorem Chip.setFrame_power (c : Chip) (i : Nat) (f : Option Frame) : (c.setFrame i f).power = c.power := rfl

@[simp] theorem Chip.takeHeadroom_power (c : Chip) (n : Nat) : (c.takeHeadroom n).power = c.power := rfl

@[simp] theorem Chip.giveHeadroom_power (c : Chip) (n : Nat) : (c.giveHeadroom n).power = c.power := rfl

@[simp] theorem Chip.settlePool_power (c : Chip) : c.settlePool.power = c.power := rfl

@[simp] theorem Chip.chargeQ_power (c : Chip) (q n : Nat) : (c.chargeQ q n).power = c.power := rfl

@[simp] theorem Chip.freeFrame_power (c : Chip) (i : Nat) : (c.freeFrame i).power = c.power := (c.dataAndRegs_freeFrame i).power

@[simp] theorem Chip.admitTest_power (c : Chip) (p q n bytes free : Nat) : (c.admitTest p q n bytes free).1.power = c.power := by
  unfold Chip.admitTest
  dsimp only
  split_ifs <;> simp

/-- The tests of a frame's queues, one after another. -/
theorem Chip.admitTests_power (c : Chip) (f : Frame) (dests : List Nat) (n known free : Nat) :
    (dests.foldl (fun (y : Chip × List Nat) p =>
      ((y.1.admitTest p (qOf p f.cls) n known free).1, if (y.1.admitTest p (qOf p f.cls) n known free).2 then y.2 ++ [p] else y.2)) (c, [])).1.power =
      c.power :=
  foldl_keeps (view := fun y : Chip × List Nat => y.1.power) (fun _ _ => Chip.admitTest_power _ _ _ _ _ _) dests (c, [])

@[simp] theorem Chip.chargeQs_power (c : Chip) (cls n : Nat) (qs : List Nat) :
    (qs.foldl (fun c p => c.chargeQ (qOf p cls) n) c).power = c.power :=
  foldl_keeps (view := Chip.power) (fun _ _ => Chip.chargeQ_power _ _ _) qs c

@[simp] theorem Chip.admitQueues_power (c : Chip) (i : Nat) (f : Frame) (dests : List Nat) (n known : Nat) :
    (c.admitQueues i f dests n known).1.power = c.power := by
  unfold Chip.admitQueues
  dsimp only
  split_ifs <;> simp [Chip.admitTests_power]

/-! ## Learning and forwarding -/

@[simp] theorem Chip.setPipe_power (c : Chip) (k : Nat) (x : Pipe) : (c.setPipe k x).power = c.power := rfl

@[simp] theorem Chip.setLearn_power (c : Chip) (k i : Nat) (l : Option Learn) : (c.setLearn k i l).power = c.power := rfl

@[simp] theorem Chip.setMac_power (c : Chip) (k pos : Nat) (e : MacEntry) : (c.setMac k pos e).power = c.power := rfl

@[simp] theorem Chip.setHit_power (c : Chip) (k pos : Nat) : (c.setHit k pos).power = c.power := rfl

@[simp] theorem Chip.moveOnce_power (c : Chip) (k : Nat) : (c.moveOnce k).power = c.power := by
  unfold Chip.moveOnce
  split
  · rfl
  · split
    · simp
    · split <;> simp

@[simp] theorem Chip.finishChain_power (c : Chip) (k : Nat) : (c.finishChain k).power = c.power :=
  foldl_keeps (view := Chip.power) (fun c _ => Chip.moveOnce_power c k) _ c

theorem Chip.macPlace_power {c d : Chip} {k : Nat} {e : MacEntry} (h : c.macPlace k e = some d) : d.power = c.power := by
  unfold Chip.macPlace at h
  dsimp only at h
  split at h
  · rw [← Option.some.inj h]; simp
  · split at h
    · exact absurd h (Option.some_ne_none d).symm
    · rw [← Option.some.inj h]; simp

@[simp] theorem Chip.learn_power (c : Chip) (i : Nat) (f : Frame) (fid mac : Nat) : (c.learn i f fid mac).power = c.power := by
  unfold Chip.learn
  dsimp only
  split
  · rfl
  · split
    · split
      · simp
      · split
        · simp
        · next hplace => simpa using Chip.macPlace_power hplace
    · split_ifs <;> simp

@[simp] theorem Chip.learnWithdraw_power (c : Chip) (f : Frame) : (c.learnWithdraw f).power = c.power := by
  unfold Chip.learnWithdraw
  split
  · rfl
  · split
    · rfl
    · dsimp only
      split_ifs
      · simp
      · split
        · split_ifs <;> simp
        · simp

@[simp] theorem Chip.fateOf_power (c : Chip) (k kind dest reason : Nat) : (c.fateOf k kind dest reason).1.power = c.power := by
  unfold Chip.fateOf
  split_ifs <;> simp

@[simp] theorem Chip.checkDest_power (c : Chip) (k inPort : Nat) (table : Bool) (x : Fate) : (c.checkDest k inPort table x).1.power = c.power := by
  unfold Chip.checkDest
  split
  · split_ifs <;> simp
  · rfl

@[simp] theorem Chip.route_power (c : Chip) (k : Nat) (f : Bytes) : (c.route k f).1.power = c.power := by
  unfold Chip.route
  dsimp only
  split
  · simp
  · split
    · simp
    · split
      · simp
      · split <;> simp

@[simp] theorem Chip.flood_power (c : Chip) (k fid : Nat) (unknown : Bool) : (c.flood k fid unknown).1.power = c.power := by
  unfold Chip.flood
  dsimp only
  split_ifs <;> simp

@[simp] theorem Chip.forward_power (c : Chip) (i : Nat) (f : Frame) (intent : Nat) : (c.forward i f intent).1.power = c.power := by
  unfold Chip.forward
  dsimp only
  split
  · simp
  · split
    · simp
    · next fid _ =>
      have hlearn : (if c.learns f.port && srcMac f.bytes != 0 then c.learn i f fid (srcMac f.bytes) else c).power = c.power := by
        split <;> simp
      generalize (if c.learns f.port && srcMac f.bytes != 0 then c.learn i f fid (srcMac f.bytes) else c) = d at hlearn ⊢
      split
      · simpa using hlearn
      · split
        · exact hlearn
        · split
          · rw [Chip.checkDest_power]
            split <;> simpa using hlearn
          · split
            · rw [Chip.checkDest_power, Chip.fateOf_power]
              split <;> simpa using hlearn
            · simpa using hlearn

/-! ## Policing and admission -/

@[simp] theorem Chip.arrived_power (c : Chip) (f : Bytes) (ended : Bool) : (c.arrived f ended).2.power = c.power := by
  unfold Chip.arrived
  split <;> rfl

@[simp] theorem Chip.police_power (c : Chip) (p cls tenant : Nat) (f : Bytes) (metadata g : Nat) :
    (c.police p cls tenant f metadata g).1.power = c.power := by
  unfold Chip.police
  split
  · rfl
  · dsimp only
    split_ifs <;> simp

@[simp] theorem Chip.dropFrame_power (c : Chip) (i : Nat) : (c.dropFrame i).power = c.power := by
  unfold Chip.dropFrame
  split <;> simp

@[simp] theorem Chip.admitFrame_power (c : Chip) (i : Nat) (f : Frame) (dests : List Nat) (n known : Nat) :
    (c.admitFrame i f dests n known).power = c.power := by
  have hqueues := Chip.admitQueues_power c i f dests n known
  unfold Chip.admitFrame
  split <;> simp_all

@[simp] theorem Chip.admitFate_power (c : Chip) (i : Nat) (x : Fate) (n known : Nat) : (c.admitFate i x n known).power = c.power := by
  unfold Chip.admitFate
  split
  · rfl
  · cases x with
    | drop => simp
    | punt r => dsimp only; split_ifs <;> simp
    | port p => simp
    | group g => dsimp only; split <;> simp

@[simp] theorem Chip.onward_power (c : Chip) (i intent : Nat) (ended : Bool) : (c.onward i intent ended).power = c.power := by
  unfold Chip.onward
  split
  · rfl
  · dsimp only
    split_ifs
    · simp
    · simp
    · split <;> simp

end Sys2Proof.Machine
end

section
/-! PROOFS of the family of the frame walk, O30: a frame arrives at a port in clear or at an uplink (R19, R24, R174, R179). -/

namespace Sys2Proof.Machine

theorem Chip.power_of_running {c : Chip} (h : c.running = true) : c.power = true := by
  simp only [Chip.running, Bool.and_eq_true] at h
  exact h.1.1

/-! ## Reception on a line port -/

/-- What becomes of a frame of at most 10,240 bytes on a MACsec port under what the pre-classifier decides (R225). -/
def receiveVerdict (p : Nat) (f : Bytes) (cut : Bool) : Verdict → Chip
  | .drop c => c
  | .clear c => c.receive (c.clearFrame p f cut 2)
  | .secure c h i pn => c.receiveSecure p h i pn f cut false

theorem Chip.lineReceive_of_clear {c : Chip} {p : Nat} (hclear : c.isMacsec p = false) {f : Bytes} (hlen : f.length ≤ 10240) (cut : Bool) :
    c.lineReceive p f cut = c.receive (c.clearFrame p f cut 0) := by
  have hshort : ¬ 10240 < f.length := Nat.not_lt.mpr hlen
  simp only [Chip.lineReceive, hclear, hshort, List.take_of_length_le hlen, Bool.not_false, if_true, if_false, decide_false, Bool.or_false]
  rfl

theorem Chip.lineReceive_of_macsec {c : Chip} {p : Nat} (hsec : c.isMacsec p = true) {f : Bytes} (hlen : f.length ≤ 10240) (cut : Bool) :
    c.lineReceive p f cut = receiveVerdict p f cut (c.preclassify p f) := by
  have hshort : ¬ 10240 < f.length := Nat.not_lt.mpr hlen
  simp only [Chip.lineReceive, hsec, hshort, List.take_of_length_le hlen, Bool.not_true, Bool.false_eq_true, if_false, decide_false, Bool.or_false]
  cases c.preclassify p f <;> rfl

/-- LINE_FRAME_RECEIVE on a configured port of a running part does what the port's reception does. -/
theorem goes_lineFrameReceive {s : State} {p : Nat} {f : Bytes} {cut : Bool} {d : Chip} {P : Chip → Prop} (hrun : s.chip.running = true)
    (hon : s.chip.portOn p = true) (hp : p < 96) (hden : s.chip.isDenast p = false) (hne : f ≠ []) (hd : s.chip.lineReceive p f cut = d)
    (hpow : d.power = s.chip.power) (h : P d) : Goes (.lineFrameReceive p f cut) s P := by
  have hpower := Chip.power_of_running hrun
  have hexec : exec (.lineFrameReceive p f cut) s = s.act fun _ => d := by
    change execLineFrameReceive p f cut s = _
    simp [execLineFrameReceive, State.actOn, State.act, hp, hrun, hon, hden, hne, hd]
  exact goes_act hexec hpower (hpow.trans hpower) h

/-! ## Reception on an uplink -/

/-- A frame as an uplink receives it, classified: its failing check is known at its end (R21, R218). -/
def Chip.uplinkFrame (c : Chip) (p : Nat) (f : Bytes) (cut : Bool) : Frame :=
  { port := p, bytes := f, fail := if cut then some 0 else if !fcsGood f then some 1 else none, cls := (c.uplinkClass p f).1,
    tenant := (c.uplinkClass p f).2, rx := c.rxStamp p }

theorem Chip.uplinkReceive_of_full {c : Chip} {p : Nat} {f : Bytes} (hlen : f.length ≤ 10240) (h : headroomOf p ≤ c.headUsed p)
    (cut ended : Bool) : c.uplinkReceive p f cut ended =
      ({ c with data := { c.data with nextId := c.data.nextId + 1 } } : Chip).bump (R.SWC_HEADROOM_DROP (pipeOf p)) := by
  have hstore : c.store (c.uplinkFrame p f cut) = _ := Chip.store_of_full h rfl
  have hshort : decide (10240 < f.length) = false := decide_eq_false (Nat.not_lt.mpr hlen)
  simp only [Chip.uplinkReceive, hshort, List.take_of_length_le hlen, Bool.or_false]
  rw [Chip.uplinkFrame] at hstore
  rw [hstore]

theorem Chip.uplinkReceive_of_room {c : Chip} {p : Nat} {f : Bytes} (hlen : f.length ≤ 10240) (h : c.headUsed p < headroomOf p)
    (cut ended : Bool) : c.uplinkReceive p f cut ended = (c.store (c.uplinkFrame p f cut)).1.onward c.data.nextId 0 ended := by
  have hstore : c.store (c.uplinkFrame p f cut) = _ := Chip.store_of_room h
  have hshort : decide (10240 < f.length) = false := decide_eq_false (Nat.not_lt.mpr hlen)
  simp only [Chip.uplinkReceive, hshort, List.take_of_length_le hlen, Bool.or_false]
  rw [Chip.uplinkFrame] at hstore ⊢
  rw [hstore]

/-- UPLINK_FRAME_RECEIVE on a configured uplink of a running part does what the uplink's reception does. -/
theorem goes_uplinkFrameReceive {s : State} {p : Nat} {f : Bytes} {cut ended : Bool} {d : Chip} {P : Chip → Prop}
    (hrun : s.chip.running = true) (hon : s.chip.portOn p = true) (hlow : 96 ≤ p) (hhigh : p < 144) (hne : f ≠ [])
    (hd : s.chip.uplinkReceive p f cut ended = d) (hpow : d.power = s.chip.power) (h : P d) :
    Goes (.uplinkFrameReceive p f ⟨cut, ended⟩) s P := by
  have hpower := Chip.power_of_running hrun
  have hexec : exec (.uplinkFrameReceive p f ⟨cut, ended⟩) s = s.act fun _ => d := by
    change execUplinkFrameReceive p f ⟨cut, ended⟩ s = _
    simp [execUplinkFrameReceive, State.actOn, State.act, hlow, hhigh, hrun, hon, hne, hd]
  exact goes_act hexec hpower (hpow.trans hpower) h

/-! ## The outcomes -/

/-- Of a frame that finds its port's headroom full the number and the count remain. -/
theorem Chip.headroomDrop_holds (c : Chip) (p : Nat) :
    let d := ({ c with data := { c.data with nextId := c.data.nextId + 1 } } : Chip).bump (R.SWC_HEADROOM_DROP (pipeOf p))
    d.word (R.SWC_HEADROOM_DROP (pipeOf p)) = c.word (R.SWC_HEADROOM_DROP (pipeOf p)) + 1 ∧
      d.data = { c.data with nextId := c.data.nextId + 1 } ∧ Chip.onlyRegs { c with data := d.data } d [R.SWC_HEADROOM_DROP (pipeOf p)] :=
  ⟨Chip.word_bump_same _ _, rfl, Chip.onlyRegs_bump _ _⟩

/-- Settles O30: the drop for a full headroom is R179's, the storing R174's and R21's, and that a frame in clear has no least length is the
model's choice (log entry 34). A line port's frame is decided by two tests, of the headroom and of the room ahead of the parser; an uplink's
frame goes on to its policer and its admission, which leave main power on. -/
theorem framesArrive : Obligations.FramesArrive := by
  intro s p b cut hrun hon hne hlen n fail full
  refine ⟨fun hp hden hclear => ⟨fun hfull => ?_, fun hroom hparser => ?_⟩, fun hlow hhigh ended => ⟨fun hfull => ?_, fun hroom => ?_⟩⟩
  · have hd := Chip.lineReceive_of_clear hclear hlen cut
    rw [Chip.receive_of_full (f := s.chip.clearFrame p b cut 0) hfull rfl] at hd
    exact goes_lineFrameReceive hrun hon hp hden hne hd rfl (Chip.headroomDrop_holds _ _)
  · have hdata := Chip.receive_data (f := s.chip.clearFrame p b cut 0) hroom hparser
    have hregs := Chip.dataAndRegs_receive_of_room (f := s.chip.clearFrame p b cut 0) hroom hparser
    exact goes_lineFrameReceive hrun hon hp hden hne (Chip.lineReceive_of_clear hclear hlen cut) hregs.power ⟨hdata, hregs⟩
  · have hd := Chip.uplinkReceive_of_full hlen hfull cut ended
    exact goes_uplinkFrameReceive hrun hon hlow hhigh hne hd rfl (Chip.headroomDrop_holds _ _)
  · have hstore : s.chip.store (s.chip.uplinkFrame p b cut) = _ := Chip.store_of_room hroom
    have hpow : (s.chip.store (s.chip.uplinkFrame p b cut)).1.power = s.chip.power := by rw [hstore]; rfl
    exact goes_uplinkFrameReceive hrun hon hlow hhigh hne (Chip.uplinkReceive_of_room hlen hroom cut ended)
      ((Chip.onward_power _ _ _ _).trans hpow) rfl

end Sys2Proof.Machine
end

section
/-! PROOFS of the family of the frame walk, O31: the pre-classifier of a MACsec port (R225), its bypass rules (R227) and the PN recovered
for a frame (R239). -/

namespace Sys2Proof.Machine

/-! ## What the pre-classifier reads of a frame -/

/-- The frame has a SecTAG of MACsec. -/
def hasTag (f : Bytes) : Prop := be f 12 2 = 0x88E5

/-- The SecTAG names its channel: its SC bit. -/
def namesChan (f : Bytes) : Bool := bit (byteAt f 14) 5

/-- The frame does not end before its SecTAG. -/
def wholeTag (f : Bytes) : Prop := hasTag f ∧ 20 ≤ f.length ∧ (namesChan f = true → 28 ≤ f.length)

/-- The SecTAG is one that the part takes: version 0, no single-copy broadcast, encrypted and changed text, a short length below 64. -/
def goodTag (f : Bytes) : Prop :=
  wholeTag f ∧ bit (byteAt f 14) 7 = false ∧ bit (byteAt f 14) 4 = false ∧ bit (byteAt f 14) 3 = true ∧ bit (byteAt f 14) 2 = true ∧
    byteAt f 15 < 64

/-- The receive channel of a frame: that of its SCI, or the port's channel for frames without one. -/
def Chip.tagChan (c : Chip) (p : Nat) (f : Bytes) : Option Chan :=
  if namesChan f then (c.portChans p false).find? (fun h => h.sci == slice f 20 8) else (c.portChans p false).find? (fun h => h.flag1)

/-- The PN that a frame on SA `i` of a channel is taken to carry. -/
def Chip.tagPn (c : Chip) (h : Chan) (i : Nat) (f : Bytes) : Nat := recoverPn (isXpn h.suite) (c.sa i).nextPn (c.sa i).w (be f 16 4)

/-- The lowest PN that the window of an SA takes. -/
def Chip.windowFrom (c : Chip) (i : Nat) : Nat := max 1 ((c.sa i).nextPn - (c.sa i).w)

/-! ## Its outcomes, in their order -/

section
variable {c : Chip} {p : Nat} {f : Bytes}

theorem Chip.preclassify_untagged (htag : ¬ hasTag f) (hbyp : ∀ r, r < 8 → c.bypassHit p r f = false) :
    c.preclassify p f = .drop (c.bump (R.CPH_RX_UNTAGGED p)) := by
  have hfind : (List.range 8).find? (fun r => c.bypassHit p r f) = none := by simpa using hbyp
  have hne : (be f 12 2 != 0x88E5) = true := by simpa [hasTag] using htag
  simp only [Chip.preclassify, hne, if_true, hfind]

theorem Chip.preclassify_bypass {r : Nat} (htag : ¬ hasTag f) (hr : r < 8) (hhit : c.bypassHit p r f = true)
    (hfirst : ∀ q, q < r → c.bypassHit p q f = false) :
    c.preclassify p f = .clear ((c.bump (R.CPH_BYP_HITS p r)).bump (R.CPH_RX_BYPASS p)) := by
  have hfind : (List.range 8).find? (fun r => c.bypassHit p r f) = some r := by
    rw [List.find?_range_eq_some]
    exact ⟨hhit, List.mem_range.mpr hr, fun q hq => by simp [hfirst q hq]⟩
  have hne : (be f 12 2 != 0x88E5) = true := by simpa [hasTag] using htag
  simp only [Chip.preclassify, hne, if_true, hfind]

theorem Chip.preclassify_short (htag : hasTag f) (hshort : ¬ wholeTag f) : c.preclassify p f = .drop (c.bump (R.CPH_RX_SHORT p)) := by
  have heq : (be f 12 2 != 0x88E5) = false := by simpa [hasTag] using htag
  have hcut : (decide (f.length < 20) || (bit (byteAt f 14) 5 && decide (f.length < 28))) = true := by
    by_contra h
    simp only [Bool.or_eq_true, decide_eq_true_eq, Bool.and_eq_true, not_or, not_and, Nat.not_lt] at h
    exact hshort ⟨htag, h⟩
  simp only [Chip.preclassify, heq, Bool.false_eq_true, if_false, hcut, if_true]

/-- Behind a whole SecTAG its bits are looked at, and then its channel. -/
theorem wholeTag.tests (h : wholeTag f) :
    (be f 12 2 != 0x88E5) = false ∧ (decide (f.length < 20) || (bit (byteAt f 14) 5 && decide (f.length < 28))) = false := by
  obtain ⟨htag, hlen, hsci⟩ := h
  refine ⟨by simpa [hasTag] using htag, ?_⟩
  by_contra hcut
  simp only [Bool.not_eq_false, Bool.or_eq_true, decide_eq_true_eq, Bool.and_eq_true] at hcut
  rcases hcut with hcut | ⟨hsc, hcut⟩
  · omega
  · have := hsci hsc
    omega

/-- The test of the bits of a SecTAG. -/
def badBits (f : Bytes) : Bool :=
  bit (byteAt f 14) 7 || bit (byteAt f 14) 4 || !bit (byteAt f 14) 3 || !bit (byteAt f 14) 2 || 64 ≤ byteAt f 15

theorem goodTag_iff : goodTag f ↔ wholeTag f ∧ badBits f = false := by
  simp only [goodTag, badBits, Bool.or_eq_false_iff, Bool.not_eq_false', decide_eq_false_iff_not, Nat.not_le]
  tauto

theorem Chip.preclassify_badTag (hwhole : wholeTag f) (hbad : ¬ goodTag f) : c.preclassify p f = .drop (c.bump (R.CPH_RX_BAD_TAG p)) := by
  obtain ⟨heq, hcut⟩ := hwhole.tests
  have hbits : badBits f = true := by simpa [goodTag_iff, hwhole] using hbad
  rw [badBits] at hbits
  simp only [Chip.preclassify, heq, hcut, Bool.false_eq_true, if_false, hbits, if_true]

/-- Behind a good SecTAG its channel decides, then its PN, its SA and the window. -/
theorem Chip.preclassify_good (hgood : goodTag f) : c.preclassify p f =
    match c.tagChan p f with
    | none => .drop (c.bump (R.CPH_RX_NO_SC p))
    | some h =>
      if !isXpn h.suite && be f 16 4 == 0 then .drop (c.bump (R.CPH_RX_BAD_TAG p))
      else
        match c.rxSa h (byteAt f 14 % 4) with
        | none => .drop (c.bump (R.CPH_RX_NO_SA p))
        | some i =>
          if c.tagPn h i f < c.windowFrom i then
            .drop ((c.setSa i { c.sa i with replays := (c.sa i).replays + 1 }).setPerf (scEntity h.sc)
              { c.perf (scEntity h.sc) with replays := (c.perf (scEntity h.sc)).replays + 1, blocks := (c.perf (scEntity h.sc)).blocks + 1 })
          else .secure c h i (c.tagPn h i f) := by
  obtain ⟨hwhole, hbits⟩ := goodTag_iff.mp hgood
  obtain ⟨heq, hcut⟩ := hwhole.tests
  rw [badBits] at hbits
  simp only [Chip.preclassify, heq, hcut, Bool.false_eq_true, if_false, hbits]
  rfl

theorem Chip.preclassify_noChannel (hgood : goodTag f) (hchan : c.tagChan p f = none) : c.preclassify p f = .drop (c.bump (R.CPH_RX_NO_SC p)) := by
  rw [Chip.preclassify_good hgood, hchan]

variable {h : Chan}

theorem Chip.preclassify_zeroPn (hgood : goodTag f) (hchan : c.tagChan p f = some h) (hsuite : isXpn h.suite = false) (hzero : be f 16 4 = 0) :
    c.preclassify p f = .drop (c.bump (R.CPH_RX_BAD_TAG p)) := by
  rw [Chip.preclassify_good hgood, hchan]
  simp [hsuite, hzero]

/-- The PN field of a frame may be zero only in an XPN suite. -/
theorem pnField_taken (hpn : isXpn h.suite = true ∨ be f 16 4 ≠ 0) : (!isXpn h.suite && be f 16 4 == 0) = false := by
  rcases hpn with hx | hx <;> simp [hx]

theorem Chip.preclassify_noSa (hgood : goodTag f) (hchan : c.tagChan p f = some h) (hpn : isXpn h.suite = true ∨ be f 16 4 ≠ 0)
    (hsa : c.rxSa h (byteAt f 14 % 4) = none) : c.preclassify p f = .drop (c.bump (R.CPH_RX_NO_SA p)) := by
  rw [Chip.preclassify_good hgood, hchan]
  simp only [pnField_taken hpn, hsa, Bool.false_eq_true, if_false]

variable {i : Nat}

/-- An early replay is counted on its SA and on its channel. -/
def Chip.earlyReplay (c : Chip) (sc i : Nat) : Chip :=
  (c.setSa i { c.sa i with replays := (c.sa i).replays + 1 }).setPerf (scEntity sc)
    { c.perf (scEntity sc) with replays := (c.perf (scEntity sc)).replays + 1, blocks := (c.perf (scEntity sc)).blocks + 1 }

theorem Chip.preclassify_replay (hgood : goodTag f) (hchan : c.tagChan p f = some h) (hpn : isXpn h.suite = true ∨ be f 16 4 ≠ 0)
    (hsa : c.rxSa h (byteAt f 14 % 4) = some i) (hlow : c.tagPn h i f < c.windowFrom i) :
    c.preclassify p f = .drop (c.earlyReplay h.sc i) := by
  rw [Chip.preclassify_good hgood, hchan]
  simp only [pnField_taken hpn, hsa, hlow, Bool.false_eq_true, if_false, if_true]
  rfl

theorem Chip.preclassify_secure (hgood : goodTag f) (hchan : c.tagChan p f = some h) (hpn : isXpn h.suite = true ∨ be f 16 4 ≠ 0)
    (hsa : c.rxSa h (byteAt f 14 % 4) = some i) (hin : c.windowFrom i ≤ c.tagPn h i f) :
    c.preclassify p f = .secure c h i (c.tagPn h i f) := by
  rw [Chip.preclassify_good hgood, hchan]
  simp only [pnField_taken hpn, hsa, Nat.not_lt.mpr hin, Bool.false_eq_true, if_false]

end

/-! ## The ingress cipher -/

section
variable (c : Chip)

@[simp] theorem Chip.addBlock_data (sc : Nat) : (c.addBlock sc).data = c.data := rfl
@[simp] theorem Chip.addBlock_power (sc : Nat) : (c.addBlock sc).power = c.power := rfl
@[simp] theorem Chip.takeHold_data (k n : Nat) : (c.takeHold k n).data = c.data := rfl
@[simp] theorem Chip.takeHold_power (k n : Nat) : (c.takeHold k n).power = c.power := rfl
@[simp] theorem Chip.giveHold_data (k n : Nat) : (c.giveHold k n).data = c.data := rfl
@[simp] theorem Chip.giveHold_power (k n : Nat) : (c.giveHold k n).power = c.power := rfl

end

/-- A protected frame that the hold store takes is stored as it stands opened: counts and the hold store apart, the part is as before. -/
theorem Chip.receiveSecure_of_hold {c : Chip} {p : Nat} (hhold : c.holdTakes (pipeOf p) = true) (h : Chan) (i pn : Nat) (f : Bytes) (cut : Bool) :
    ∃ d y, c.receiveSecure p h i pn f cut false = Chip.receive d y ∧ d.data = c.data ∧ d.power = c.power ∧
      y.port = p ∧ y.verdict = 1 ∧ y.sc = h.sc ∧ y.sa = i ∧ y.pn = pn := by
  simp only [Chip.receiveSecure, hhold, Bool.not_true, Bool.false_eq_true, if_false]
  refine ⟨_, _, rfl, ?_, ?_, rfl, rfl, rfl, rfl, rfl⟩ <;> split_ifs <;> split <;> simp

/-- The room in a port's headroom is a matter of the datapath alone. -/
theorem Chip.headUsed_data {c d : Chip} (h : d.data = c.data) (p : Nat) : d.headUsed p = c.headUsed p := by
  rw [Chip.headUsed, h, Chip.headUsed]

theorem Chip.flights_data {c d : Chip} (h : d.data = c.data) (k : Nat) : d.flights k = c.flights k := by
  rw [Chip.flights, h, Chip.flights]

/-- A protected frame that finds room everywhere is stored for its SA under its PN. -/
theorem Chip.receiveSecure_stored {c : Chip} {p : Nat} (hhold : c.holdTakes (pipeOf p) = true) (hroom : c.headUsed p < headroomOf p)
    (hparser : (c.flights (2 * p)).length < 32) (h : Chan) (i pn : Nat) (f : Bytes) (cut : Bool) :
    (c.receiveSecure p h i pn f cut false).power = c.power ∧ (c.receiveSecure p h i pn f cut false).data.sas = c.data.sas ∧
      ∃ y, (c.receiveSecure p h i pn f cut false).frame c.data.nextId = some y ∧
        y.verdict = 1 ∧ y.sc = h.sc ∧ y.sa = i ∧ y.pn = pn ∧ y.port = p := by
  obtain ⟨d, y, heq, hdata, hpow, rfl, hverdict, hsc, hsa, hpn⟩ := Chip.receiveSecure_of_hold hhold h i pn f cut
  have hroom' : d.headUsed y.port < headroomOf y.port := by rwa [Chip.headUsed_data hdata]
  have hparser' : (d.flights (2 * y.port)).length < 32 := by rwa [Chip.flights_data hdata]
  have hstored := Chip.receive_data hroom' hparser'
  rw [heq]
  refine ⟨(Chip.dataAndRegs_receive_of_room hroom' hparser').power.trans hpow, ?_, y, ?_, hverdict, hsc, hsa, hpn, rfl⟩
  · rw [hstored, hdata]
  · rw [Chip.frame, hstored, hdata]
    exact Sparse.get_set_same none (some y) _ _

/-! ## The outcomes at a port -/

/-- The registers of the ingress cipher lie below those that storing a frame changes. -/
theorem not_mem_receiveWords {p a : Nat} (h : a < 0x34000) : a ∉ receiveWords p := by
  simp only [receiveWords, parserWords, poolWords, List.mem_cons, List.mem_append, List.not_mem_nil, or_false, R.SWC_HEADROOM_DROP, R.FLW_DISPATCH_DROP,
    R.FLW_PD_HWM, R.SWC_HEADROOM, R.SWC_MGMT_Q, R.SWC_POOL_FREE]
  omega

section
variable {s : State} {p : Nat} {f : Bytes} {cut : Bool} (hrun : s.chip.running = true) (hon : s.chip.portOn p = true) (hp : p < 96)
  (hsec : s.chip.isMacsec p = true) (hden : s.chip.isDenast p = false) (hne : f ≠ []) (hlen : f.length ≤ 10240)
include hrun hon hp hsec hden hne hlen

theorem goes_preclassified {v : Verdict} {P : Chip → Prop} (hv : s.chip.preclassify p f = v)
    (hpow : (receiveVerdict p f cut v).power = s.chip.power) (h : P (receiveVerdict p f cut v)) : Goes (.lineFrameReceive p f cut) s P :=
  goes_lineFrameReceive hrun hon hp hden hne (by rw [Chip.lineReceive_of_macsec hsec hlen, hv]) hpow h

/-- A frame that the pre-classifier drops is counted, and nothing else changes. -/
theorem goes_dropped {w : Nat} (hv : s.chip.preclassify p f = .drop (s.chip.bump w)) :
    Goes (.lineFrameReceive p f cut) s fun c => c.word w = s.chip.word w + 1 ∧ Chip.onlyRegs s.chip c [w] :=
  goes_preclassified hrun hon hp hsec hden hne hlen hv rfl ⟨Chip.word_bump_same _ _, Chip.onlyRegs_bump _ _⟩

/-- A bypassed frame is counted on its rule and on its port, and goes on in clear. -/
theorem goes_bypassed {r : Nat} (hr : r < 8)
    (hv : s.chip.preclassify p f = .clear ((s.chip.bump (R.CPH_BYP_HITS p r)).bump (R.CPH_RX_BYPASS p))) :
    Goes (.lineFrameReceive p f cut) s fun c =>
      c.word (R.CPH_BYP_HITS p r) = s.chip.word (R.CPH_BYP_HITS p r) + 1 ∧ c.word (R.CPH_RX_BYPASS p) = s.chip.word (R.CPH_RX_BYPASS p) + 1 ∧
        c.data.nextId = s.chip.data.nextId + 1 ∧ c.data.sas = s.chip.data.sas := by
  let d := (s.chip.bump (R.CPH_BYP_HITS p r)).bump (R.CPH_RX_BYPASS p)
  have hregs : Chip.dataAndRegs d (d.receive (d.clearFrame p f cut 2)) (receiveWords p) := Chip.dataAndRegs_receive d rfl
  have hapart : R.CPH_BYP_HITS p r ≠ R.CPH_RX_BYPASS p := by simp only [R.CPH_BYP_HITS, R.CPH_RX_BYPASS]; omega
  have hhits : d.word (R.CPH_BYP_HITS p r) = s.chip.word (R.CPH_BYP_HITS p r) + 1 := by
    rw [Chip.word_bump_other _ _ _ hapart, Chip.word_bump_same]
  have hport : d.word (R.CPH_RX_BYPASS p) = s.chip.word (R.CPH_RX_BYPASS p) + 1 := by
    rw [Chip.word_bump_same, Chip.word_bump_other _ _ _ hapart.symm]
  refine goes_preclassified hrun hon hp hsec hden hne hlen hv hregs.power
    ⟨(hregs.word (not_mem_receiveWords ?_)).trans hhits, (hregs.word (not_mem_receiveWords ?_)).trans hport,
      Chip.receive_nextId d rfl, Chip.receive_sas d rfl⟩
  · simp only [R.CPH_BYP_HITS]; omega
  · simp only [R.CPH_RX_BYPASS]; omega

theorem goes_earlyReplay {h : Chan} {i : Nat} (hv : s.chip.preclassify p f = .drop (s.chip.earlyReplay h.sc i)) :
    Goes (.lineFrameReceive p f cut) s fun c =>
      c.sa i = { s.chip.sa i with replays := (s.chip.sa i).replays + 1 } ∧ (∀ j, j ≠ i → c.sa j = s.chip.sa j) ∧ c.regs = s.chip.regs ∧
        c.data.frames = s.chip.data.frames :=
  goes_preclassified hrun hon hp hsec hden hne hlen hv rfl
    ⟨Sparse.get_set_same _ _ _ _, fun _ hj => Sparse.get_set_other _ _ _ _ _ hj, rfl, rfl⟩

/-- A frame that finds room everywhere is stored for its SA under its PN, and the SA waits for its verdict. -/
theorem goes_secured {h : Chan} {i pn : Nat} (hv : s.chip.preclassify p f = .secure s.chip h i pn)
    (hhold : s.chip.holdTakes (pipeOf p) = true) (hroom : s.chip.headUsed p < headroomOf p) (hparser : (s.chip.flights (2 * p)).length < 32) :
    Goes (.lineFrameReceive p f cut) s fun c => c.data.sas = s.chip.data.sas ∧
      ∃ g, c.frame s.chip.data.nextId = some g ∧ g.verdict = 1 ∧ g.sc = h.sc ∧ g.sa = i ∧ g.pn = pn ∧ g.port = p := by
  obtain ⟨hpow, hsas, hframe⟩ := Chip.receiveSecure_stored hhold hroom hparser h i pn f cut
  refine goes_preclassified hrun hon hp hsec hden hne hlen hv ?_ ?_
  · rw [receiveVerdict]; exact hpow
  · rw [receiveVerdict]; exact ⟨hsas, hframe⟩

end

/-- Settles O31, outcome by outcome in the order of the pre-classifier's tests (R225, with the bypass rules of R227 and the PN of R239): a
frame that is dropped before its SA is found leaves one count and nothing else. -/
theorem preClassifier : Obligations.PreClassifier := by
  intro s p f cut hrun hon hp hsec hden hne hlen dropped n sc tagged whole good found
  have drops {w : Nat} (hv : s.chip.preclassify p f = .drop (s.chip.bump w)) : dropped w := goes_dropped hrun hon hp hsec hden hne hlen hv
  refine ⟨fun htag hbyp => drops (Chip.preclassify_untagged htag hbyp), fun r htag hr hhit hfirst => ?_,
    fun htag hshort => drops (Chip.preclassify_short htag hshort), fun hwhole hbad => drops (Chip.preclassify_badTag hwhole hbad),
    fun hgood hchan => drops (Chip.preclassify_noChannel hgood hchan),
    fun h hgood hchan hsuite hzero => drops (Chip.preclassify_zeroPn hgood hchan hsuite hzero), fun h hgood hchan hpn => ⟨?_, ?_⟩⟩
  · exact goes_bypassed hrun hon hp hsec hden hne hlen hr (Chip.preclassify_bypass htag hr hhit hfirst)
  · exact fun hsa => drops (Chip.preclassify_noSa hgood hchan hpn hsa)
  · intro i hsa x pn
    refine ⟨fun hlow => ?_, fun hin hused hslices hroom hparser => ?_⟩
    · exact goes_earlyReplay hrun hon hp hsec hden hne hlen (Chip.preclassify_replay hgood hchan hpn hsa hlow)
    · have hhold : s.chip.holdTakes (pipeOf p) = true := by simp [Chip.holdTakes, hused, hslices]
      exact goes_secured hrun hon hp hsec hden hne hlen (Chip.preclassify_secure hgood hchan hpn hsa hin) hhold hroom hparser

end Sys2Proof.Machine
end

section
/-! PROOFS of the family of the frame walk, O32: the verdict on a protected frame (R224, R239, R240) and the eligibility of a frame (R21,
R183, R184). -/

namespace Sys2Proof.Machine

/-- A fold whose steps change nothing. -/
theorem foldl_fixed_of_mem {σ α : Type} {g : σ → α → σ} {s : σ} {l : List α} (h : ∀ x ∈ l, g s x = s) : l.foldl g s = s := by
  induction l with
  | nil => rfl
  | cons x l ih => rw [List.foldl_cons, h x List.mem_cons_self, ih fun y hy => h y (List.mem_cons_of_mem x hy)]

/-! ## SAs and what waits for their last frame -/

@[simp] theorem Chip.sa_setSa_same (c : Chip) (i : Nat) (x : Sa) : (c.setSa i x).sa i = x := Sparse.get_set_same _ _ _ _

theorem Chip.sa_setSa (c : Chip) (i j : Nat) (x : Sa) : (c.setSa i x).sa j = if j = i then x else c.sa j := Sparse.get_set _ _ _ _ _

/-- No SA of a port waits to be retired or loaded. -/
def Chip.noneDue (c : Chip) (p : Nat) : Prop :=
  ∀ h, h ∈ c.data.chans → h.port = p → (c.scRun h.sc).loadDue = none ∧ ∀ i, i ∈ h.sas → (c.sa i).retireDue = false

theorem Chip.retireDue_of_noneDue {c : Chip} {p : Nat} (hdue : c.noneDue p) : c.retireDue p = c := by
  refine foldl_fixed_of_mem fun h hh => ?_
  obtain ⟨hmem, hport⟩ := List.mem_filter.mp hh
  obtain ⟨hload, hsas⟩ := hdue h hmem (by simpa using hport)
  have hretire : h.sas.foldl (fun c i => if (c.sa i).retireDue then c.retireWhenDone p i else c) c = c :=
    foldl_fixed_of_mem fun i hi => by rw [hsas i hi]; rfl
  rw [hretire, Chip.loadFirst, hload]

/-! ## What a verdict changes -/

/-- Between `c` and `d` only registers, performance, the journal's entries in waiting and SA contexts differ, and no SA's wait to be
retired. -/
def Chip.saBut (c d : Chip) : Prop :=
  { d with regs := c.regs, pm := c.pm, jseq := c.jseq, jpend := c.jpend, data := { d.data with sas := c.data.sas } } = c ∧
    ∀ j, (d.sa j).retireDue = (c.sa j).retireDue

theorem Chip.saBut.trans {b c d : Chip} (h : Chip.saBut b c) (k : Chip.saBut c d) : Chip.saBut b d := by
  obtain ⟨hc, hs⟩ := h
  obtain ⟨hd, ks⟩ := k
  refine ⟨?_, fun j => (ks j).trans (hs j)⟩
  rw [← hc, ← hd]

theorem Chip.saBut_giveHold (c : Chip) (k n : Nat) : Chip.saBut c (c.giveHold k n) := ⟨rfl, fun _ => rfl⟩

theorem Chip.saBut_setPerf (c : Chip) (e : Nat) (x : Perf) : Chip.saBut c (c.setPerf e x) := ⟨rfl, fun _ => rfl⟩

theorem Chip.saBut_setSa (c : Chip) (i : Nat) {x : Sa} (h : x.retireDue = (c.sa i).retireDue) : Chip.saBut c (c.setSa i x) := by
  refine ⟨rfl, fun j => ?_⟩
  rw [Chip.sa_setSa]
  split
  · next hj => rw [h, hj]
  · rfl

theorem Chip.saBut_icvFail (c : Chip) (sc i : Nat) : Chip.saBut c (c.icvFail sc i) :=
  (Chip.saBut_setSa c i (x := { c.sa i with fails := (c.sa i).fails + 1 }) rfl).trans (Chip.saBut_setPerf _ _ _)

theorem Chip.saBut_raiseCeiling (c : Chip) (h : Chan) (i : Nat) : Chip.saBut c (c.raiseCeiling h i) := by
  unfold Chip.raiseCeiling
  dsimp only
  split
  · exact (Chip.saBut_setSa c i (x := { c.sa i with ceilNext := (c.sa i).ceiling + 2 ^ 40 }) rfl).trans ⟨rfl, fun _ => rfl⟩
  · exact ⟨rfl, fun _ => rfl⟩

theorem Chip.sa_icvFail (c : Chip) (sc i : Nat) : (c.icvFail sc i).sa i = { c.sa i with fails := (c.sa i).fails + 1 } :=
  Chip.sa_setSa_same _ _ _

/-- Raising its ceiling leaves the window and the counts of an SA alone. -/
theorem Chip.sa_raiseCeiling (c : Chip) (h : Chan) (i : Nat) :
    ((c.raiseCeiling h i).sa i).nextPn = (c.sa i).nextPn ∧ ((c.raiseCeiling h i).sa i).frames = (c.sa i).frames ∧
      ((c.raiseCeiling h i).sa i).octets = (c.sa i).octets := by
  unfold Chip.raiseCeiling
  dsimp only
  split
  · rw [show ∀ (d : Chip) op, (d.journalAhead op).sa i = d.sa i from fun _ _ => rfl, Chip.sa_setSa_same]
    exact ⟨rfl, rfl, rfl⟩
  · exact ⟨rfl, rfl, rfl⟩

/-- A frame that verifies in the window moves it and is counted with its octets on its SA, whose ceiling may be raised (R239, R240, R281). -/
def Chip.passed (c : Chip) (h : Chan) (i pn octets : Nat) : Chip :=
  (c.setSa i { c.sa i with
    nextPn := if (c.sa i).nextPn ≤ pn then pn + 1 else (c.sa i).nextPn
    frames := (c.sa i).frames + 1
    octets := (c.sa i).octets + octets }).raiseCeiling h i

theorem Chip.saBut_passed (c : Chip) (h : Chan) (i pn octets : Nat) : Chip.saBut c (c.passed h i pn octets) := by
  refine Chip.saBut.trans (Chip.saBut_setSa c i ?_) (Chip.saBut_raiseCeiling _ h i)
  rfl

theorem Chip.sa_passed (c : Chip) (h : Chan) (i pn octets : Nat) :
    ((c.passed h i pn octets).sa i).nextPn = max (c.sa i).nextPn (pn + 1) ∧ ((c.passed h i pn octets).sa i).frames = (c.sa i).frames + 1 ∧
      ((c.passed h i pn octets).sa i).octets = (c.sa i).octets + octets := by
  obtain ⟨hpn, hframes, hoctets⟩ := Chip.sa_raiseCeiling (c.setSa i { c.sa i with
    nextPn := if (c.sa i).nextPn ≤ pn then pn + 1 else (c.sa i).nextPn
    frames := (c.sa i).frames + 1
    octets := (c.sa i).octets + octets }) h i
  rw [Chip.sa_setSa_same] at hpn hframes hoctets
  refine ⟨hpn.trans ?_, hframes, hoctets⟩
  dsimp only
  split <;> omega

/-- A frame that verifies below the window is counted on its SA and on its channel. -/
def Chip.replayed (c : Chip) (sc i : Nat) : Chip :=
  (c.setSa i { c.sa i with replays := (c.sa i).replays + 1 }).setPerf (scEntity sc)
    { c.perf (scEntity sc) with replays := (c.perf (scEntity sc)).replays + 1 }

theorem Chip.saBut_replayed (c : Chip) (sc i : Nat) : Chip.saBut c (c.replayed sc i) :=
  (Chip.saBut_setSa c i (x := { c.sa i with replays := (c.sa i).replays + 1 }) rfl).trans (Chip.saBut_setPerf _ _ _)

theorem Chip.sa_replayed (c : Chip) (sc i : Nat) : (c.replayed sc i).sa i = { c.sa i with replays := (c.sa i).replays + 1 } :=
  Chip.sa_setSa_same _ _ _

theorem Chip.finalCheck_below {c : Chip} {h : Chan} {i pn : Nat} (hlow : pn < max 1 ((c.sa i).nextPn - (c.sa i).w)) (octets : Nat) :
    c.finalCheck h i pn octets = (c.replayed h.sc i, false) := by
  rw [Chip.finalCheck, if_pos hlow]
  rfl

/-- In the window the final check passes. -/
theorem Chip.finalCheck_within {c : Chip} {h : Chan} {i pn : Nat} (hmode : h.mode ≠ modeEpoch)
    (hin : max 1 ((c.sa i).nextPn - (c.sa i).w) ≤ pn) (octets : Nat) :
    c.finalCheck h i pn octets = (c.passed h i pn octets, true) := by
  simp only [Chip.finalCheck, if_neg (Nat.not_lt.mpr hin), if_neg hmode]
  rfl

/-! ## The verdict -/

/-- The frame with its verdict, and the first check of R21 that it then fails. -/
def Frame.judged (f : Frame) (fail : Option Nat) : Frame := { f with waitIcv := false, lane := none, fail := fail }

section
variable {c : Chip} {n : Nat} {f : Frame}

theorem Chip.frameVerdict_of_not_oldest (h : c.oldestWaiting f.port ≠ some n) : c.frameVerdict n f = c := by
  have htest : (!f.waitIcv || c.oldestWaiting f.port != some n) = true := by simp [h]
  rw [Chip.frameVerdict, if_pos htest]

variable (hwait : f.waitIcv = true) (hgone : f.gone = false) (hold : c.oldestWaiting f.port = some n)
include hwait hgone hold

theorem Chip.frameVerdict_fails (hicv : f.icvOk = false) :
    c.frameVerdict n f = ((((c.giveHold (pipeOf f.port) f.blocks).icvFail f.sc f.sa).setFrame n
      (some (f.judged (f.fail.orElse fun _ => some 3)))).retireDue f.port) := by
  simp only [Chip.frameVerdict, hwait, hold, hgone, hicv, Bool.not_true, Bool.not_false, bne_self_eq_false, Bool.or_false, Bool.false_eq_true,
    if_false, if_true, Frame.judged]

theorem Chip.frameVerdict_verifies {h : Chan} {d : Chip} {ok : Bool} (hicv : f.icvOk = true) (hchan : c.chan f.sc = some h)
    (hcheck : (c.giveHold (pipeOf f.port) f.blocks).finalCheck h f.sa f.pn f.bytes.length = (d, ok)) :
    c.frameVerdict n f = (d.setFrame n (some (f.judged (if ok then f.fail else f.fail.orElse fun _ => some 3)))).retireDue f.port := by
  have hchan' : (c.giveHold (pipeOf f.port) f.blocks).chan f.sc = some h := hchan
  simp only [Chip.frameVerdict, hwait, hold, hgone, hicv, hchan', hcheck, Bool.not_true, bne_self_eq_false, Bool.or_false, Bool.false_eq_true,
    if_false, Frame.judged]

end

/-- The judged frame apart, the part is as the check of its SA has left it: no SA waits for its last frame. -/
theorem Chip.judged_settled {c d : Chip} {p : Nat} (hbut : Chip.saBut c d) (hdue : c.noneDue p) (n : Nat) (g : Option Frame) :
    (d.setFrame n g).retireDue p = d.setFrame n g := by
  obtain ⟨hsame, hretire⟩ := hbut
  have hchans : d.data.chans = c.data.chans := (congrArg (fun x : Chip => x.data.chans) hsame :)
  have hscs : d.data.scs = c.data.scs := (congrArg (fun x : Chip => x.data.scs) hsame :)
  refine Chip.retireDue_of_noneDue fun h hmem hport => ?_
  obtain ⟨hload, hsas⟩ := hdue h (hchans ▸ hmem) hport
  exact ⟨(congrArg (fun m => (Sparse.get ({} : ScRun) m h.sc).loadDue) hscs).trans hload, fun i hi => (hretire i).trans (hsas i hi)⟩

/-- What every verdict leaves alone beside the frame that it is on. -/
theorem Chip.judged_holds {c d : Chip} (hbut : Chip.saBut c d) (n : Nat) (g : Frame) :
    (d.setFrame n (some g)).frame n = some g ∧ (∀ m, m ≠ n → (d.setFrame n (some g)).frame m = c.frame m) ∧
      (d.setFrame n (some g)).out = c.out ∧ (d.setFrame n (some g)).keys = c.keys ∧
      (d.setFrame n (some g)).data.queues = c.data.queues := by
  have hsame := hbut.1
  have hframes : d.data.frames = c.data.frames := (congrArg (fun x : Chip => x.data.frames) hsame :)
  refine ⟨Chip.frame_setFrame_same _ _ _, fun m hm => ?_, (congrArg Chip.out hsame :), (congrArg Chip.keys hsame :),
    (congrArg (fun x : Chip => x.data.queues) hsame :)⟩
  rw [Chip.frame_setFrame_other d _ hm, Chip.frame, hframes, Chip.frame]

theorem Chip.saBut.power {c d : Chip} (h : Chip.saBut c d) : d.power = c.power := (congrArg Chip.power h.1 :)

theorem goes_icvVerdict {s : State} {n : Nat} {f : Frame} {d : Chip} {P : Chip → Prop} (hp : s.chip.power = true) (hh : s.chip.halted = false)
    (hf : s.chip.frame n = some f) (hd : s.chip.frameVerdict n f = d) (hpow : d.power = s.chip.power) (h : P d) : Goes (.icvVerdict n) s P := by
  have hexec : exec (.icvVerdict n) s = s.act fun _ => d := by
    change execIcvVerdict n s = _
    simp only [execIcvVerdict, State.act, hh, hf, Bool.false_eq_true, if_false, hd]
  exact goes_act hexec hp (hpow.trans hp) h

/-- The three verdicts. No verdict is given out of order. -/
theorem verdictsRule_holds : verdictsRule := by
  intro s n f hp hh hf hwait hgone x oldest after
  have hhold := Chip.saBut_giveHold s.chip (pipeOf f.port) f.blocks
  refine ⟨fun hnot => ?_, fun ⟨hold, hdue⟩ hicv => ?_, fun h ⟨hold, hdue⟩ hicv hchan hmode hlow => ?_, fun h ⟨hold, hdue⟩ hicv hchan hmode hin => ?_⟩
  · exact goes_icvVerdict hp hh hf (Chip.frameVerdict_of_not_oldest hnot) rfl rfl
  · have hbut := hhold.trans (Chip.saBut_icvFail _ f.sc f.sa)
    have hd := (Chip.frameVerdict_fails hwait hgone hold hicv).trans (Chip.judged_settled hbut hdue n _)
    have hsa := Chip.sa_icvFail (s.chip.giveHold (pipeOf f.port) f.blocks) f.sc f.sa
    exact goes_icvVerdict hp hh hf hd hbut.power
      ⟨Chip.judged_holds hbut n _, (congrArg Sa.fails hsa :), (congrArg Sa.nextPn hsa :), (congrArg Sa.frames hsa :)⟩
  · have hcheck := Chip.finalCheck_below (c := s.chip.giveHold (pipeOf f.port) f.blocks) (h := h) hlow f.bytes.length
    have hbut := hhold.trans (Chip.saBut_replayed _ h.sc f.sa)
    have hd := (Chip.frameVerdict_verifies hwait hgone hold hicv hchan hcheck).trans (Chip.judged_settled hbut hdue n _)
    have hsa := Chip.sa_replayed (s.chip.giveHold (pipeOf f.port) f.blocks) h.sc f.sa
    exact goes_icvVerdict hp hh hf hd hbut.power
      ⟨Chip.judged_holds hbut n _, (congrArg Sa.replays hsa :), (congrArg Sa.nextPn hsa :), (congrArg Sa.frames hsa :)⟩
  · have hcheck := Chip.finalCheck_within (c := s.chip.giveHold (pipeOf f.port) f.blocks) hmode hin f.bytes.length
    have hbut := hhold.trans (Chip.saBut_passed _ h f.sa f.pn f.bytes.length)
    have hd := (Chip.frameVerdict_verifies hwait hgone hold hicv hchan hcheck).trans (Chip.judged_settled hbut hdue n _)
    exact goes_icvVerdict hp hh hf hd hbut.power
      ⟨Chip.judged_holds hbut n _, Chip.sa_passed (s.chip.giveHold (pipeOf f.port) f.blocks) h f.sa f.pn f.bytes.length⟩

/-! ## Eligibility -/

section
variable {c : Chip} {p n : Nat} {f : Frame} {rest : List Nat}

theorem Chip.learnConfirm_of_nothing (c : Chip) (hlearn : f.learn = none) (hhit : f.hit = none) : c.learnConfirm f = c := by
  simp only [Chip.learnConfirm, hlearn, hhit]

theorem Chip.learnWithdraw_of_nothing (c : Chip) (hlearn : f.learn = none) : c.learnWithdraw f = c := by
  simp only [Chip.learnWithdraw, hlearn]

variable (horder : Sparse.get [] c.data.order p = n :: rest) (hf : c.frame n = some f)
include horder hf

theorem Chip.eligible_of_waiting (hwait : f.waitIcv = true) : c.eligible p = c := by
  simp only [Chip.eligible, horder, List.head?_cons, hf, hwait, Bool.or_true, if_true]

variable (hdecided : f.decided = true) (hwait : f.waitIcv = false)
include hdecided hwait

theorem Chip.eligible_of_failed {k : Nat} (hlearn : f.learn = none) (hfail : f.fail = some k) :
    c.eligible p = ((c.unorder p n).bump (discReg (pipeOf p) k)).discard n := by
  simp only [Chip.eligible, horder, List.head?_cons, hf, hdecided, hwait, Bool.not_true, Bool.or_false, Bool.false_eq_true, if_false, hfail,
    Chip.learnWithdraw_of_nothing _ hlearn]

variable (hlearn : f.learn = none) (hhit : f.hit = none) (hfail : f.fail = none)
include hlearn hhit hfail

theorem Chip.eligible_of_punted (hpunt : f.punt.isSome = true) :
    c.eligible p = { c.unorder p n with data := { (c.unorder p n).data with mgmtQ := c.data.mgmtQ ++ [n] } } := by
  simp only [Chip.eligible, horder, List.head?_cons, hf, hdecided, hwait, Bool.not_true, Bool.or_false, Bool.false_eq_true, if_false, hfail,
    Chip.learnConfirm_of_nothing _ hlearn hhit, hpunt, if_true]
  rfl

theorem Chip.eligible_of_admitted {q : Nat} (hpunt : f.punt = none) (hqueues : f.queues = [q]) :
    c.eligible p = (c.unorder p n).link q f.cls n p := by
  simp only [Chip.eligible, horder, List.head?_cons, hf, hdecided, hwait, Bool.not_true, Bool.or_false, Bool.false_eq_true, if_false, hfail,
    Chip.learnConfirm_of_nothing _ hlearn hhit, hpunt, Option.isSome_none, hqueues, List.foldl_cons, List.foldl_nil]

end

/-- The frame leaves its port's arrival order. -/
theorem Chip.order_unorder {c : Chip} {p n : Nat} {rest : List Nat} (horder : Sparse.get [] c.data.order p = n :: rest) :
    Sparse.get [] (c.unorder p n).data.order p = rest.filter (· != n) := by
  have hset : Sparse.get [] (c.unorder p n).data.order p = (Sparse.get [] c.data.order p).filter (· != n) := Sparse.get_set_same _ _ _ _
  rw [hset, horder, List.filter_cons_of_neg (by simp)]

/-- A linked frame stands in its queue as R184 has it; no other queue changes. -/
theorem Chip.queue_link (c : Chip) (q cls i port : Nat) :
    ((c.link q cls i port).queue (qOf q cls)).frames = linkedIn c port (c.queue (qOf q cls)).frames { frame := i, linked := c.cycle } := by
  rw [Chip.link, Chip.queue, Chip.setQueue, Sparse.get_set_same]
  rfl

theorem Chip.queue_link_other (c : Chip) {q cls k : Nat} (i port : Nat) (hk : k ≠ qOf q cls) : (c.link q cls i port).queue k = c.queue k :=
  Sparse.get_set_other _ _ _ _ _ hk

/-- The checks of R21 are counted apart from the pools and the charges of the queues. -/
theorem discReg_lt {p k : Nat} (hp : p < 144) : 0x40800 < discReg (pipeOf p) k ∧ discReg (pipeOf p) k < 0x44000 := by
  have hpipe : pipeOf p < 4 := by simp only [pipeOf]; split_ifs <;> omega
  simp only [discReg]
  split_ifs <;> simp only [R.SWC_DISC_PARTIAL, R.SWC_DISC_FCS, R.SWC_DISC_LEN, R.SWC_DISC_ICV] <;> omega

/-! ## Discarding a frame -/

/-- The charges of a frame's queues, released. -/
def Chip.uncharged (c : Chip) (f : Frame) : Chip := f.queues.foldl (fun c q => c.releaseQ (qOf q f.cls) (cellsOf f.bytes)) c

/-- The registers of a frame's queues. -/
def Frame.queueWords (f : Frame) : List Nat := f.queues.map fun q => R.SWC_Q_OCC (qOf q f.cls)

theorem Chip.onlyRegs_uncharged (c : Chip) (f : Frame) : Chip.onlyRegs c (c.uncharged f) f.queueWords := Chip.onlyRegs_releaseQs _ _ _ _

theorem Chip.uncharged_data (c : Chip) (f : Frame) : (c.uncharged f).data = c.data := (congrArg Chip.data (c.onlyRegs_uncharged f).1 :)

section
variable {c : Chip} {i : Nat} {f : Frame} (hf : c.frame i = some f)
include hf

theorem Chip.discard_of_some : c.discard i = (c.uncharged f).freeFrame i := by
  simp only [Chip.discard, hf]
  rfl

theorem Chip.discard_data : (c.discard i).data = (c.unframed i f).data := by
  have hdata := c.uncharged_data f
  rw [Chip.discard_of_some hf, Chip.freeFrame_data ((Chip.frame_data hdata i).trans hf), Chip.unframed, hdata, Chip.unframed]

/-- A discarded frame whose verdict is known is gone, and no other frame changes. -/
theorem Chip.frame_discard_same (hwait : f.waitIcv = false) : (c.discard i).frame i = none := by
  have hremnant : f.remnant = none := by simp [Frame.remnant, hwait]
  rw [Chip.frame, Chip.discard_data hf, Chip.unframed, hremnant]
  exact Sparse.get_set_same none none _ _

theorem Chip.frame_discard_other {j : Nat} (hj : j ≠ i) : (c.discard i).frame j = c.frame j := by
  rw [Chip.frame, Chip.discard_data hf]
  exact Sparse.get_set_other none f.remnant _ _ _ hj

theorem Chip.dataAndRegs_discard : Chip.dataAndRegs c (c.discard i) (f.queueWords ++ poolWords) := by
  rw [Chip.discard_of_some hf]
  exact ((c.onlyRegs_uncharged f).dataAndRegs.mono (by simp)).trans ((Chip.dataAndRegs_freeFrame _ _).mono (by simp))

end

/-- The counters of the failing checks are no registers of queues or pools. -/
theorem discReg_not_mem {p k : Nat} (hp : p < 144) (f : Frame) : discReg (pipeOf p) k ∉ f.queueWords ++ poolWords := by
  obtain ⟨hlow, hhigh⟩ := discReg_lt (k := k) hp
  simp only [Frame.queueWords, poolWords, List.mem_append, List.mem_map, List.mem_cons, List.not_mem_nil, or_false, R.SWC_Q_OCC,
    R.SWC_HEADROOM, R.SWC_MGMT_Q, R.SWC_POOL_FREE]
  rintro (⟨q, -, hq⟩ | hpool) <;> omega

/-! ## The outcomes of eligibility -/

theorem goes_frameEligibility {s : State} {p : Nat} {d : Chip} {P : Chip → Prop} (hrun : s.chip.running = true) (hp : p < 144)
    (hd : s.chip.eligible p = d) (hpow : d.power = s.chip.power) (h : P d) : Goes (.frameEligibility p) s P := by
  have hpower := Chip.power_of_running hrun
  have hexec : exec (.frameEligibility p) s = s.act fun _ => d := by
    change execFrameEligibility p s = _
    simp only [execFrameEligibility, State.actOn, State.act, hp, decide_true, if_true, hrun, hd]
  exact goes_act hexec hpower (hpow.trans hpower) h

theorem eligibilityRule_holds : eligibilityRule := by
  intro s p n f rest hp hrun horder hf hlearn hhit hdecided
  refine ⟨fun hwait => ?_, fun q hwait hfail hpunt hqueues => ?_, fun hwait hfail hpunt => ?_, fun k hwait hfail _ _ _ _ => ?_⟩
  · exact goes_frameEligibility hrun hp (Chip.eligible_of_waiting horder hf hwait) rfl rfl
  · have hd := Chip.eligible_of_admitted horder hf hdecided hwait hlearn hhit hfail hpunt hqueues
    exact goes_frameEligibility hrun hp hd rfl
      ⟨Chip.queue_link _ _ _ _ _, fun j hj => Chip.queue_link_other _ _ _ hj, Chip.order_unorder horder, rfl, rfl⟩
  · have hd := Chip.eligible_of_punted horder hf hdecided hwait hlearn hhit hfail hpunt
    exact goes_frameEligibility hrun hp hd rfl ⟨rfl, rfl, rfl, rfl⟩
  · have hd := Chip.eligible_of_failed horder hf hdecided hwait hlearn hfail
    have hf' : ((s.chip.unorder p n).bump (discReg (pipeOf p) k)).frame n = some f := hf
    have hregs := Chip.dataAndRegs_discard hf'
    refine goes_frameEligibility hrun hp hd hregs.power
      ⟨Chip.frame_discard_same hf' hwait, fun m hm => Chip.frame_discard_other hf' hm, ?_, ?_⟩
    · rw [hregs.word (discReg_not_mem hp f), Chip.word_bump_same]
      rfl
    · rw [Chip.discard_data hf']
      rfl

/-- Settles O32, by its two rules: verdicts follow R239 and R240, and that a frame with a bad FCS gets a verdict and counts like any other is
the model's choice (log entry 28); eligibility follows R21, R183 and R184. -/
theorem finalChecks : Obligations.FinalChecks := ⟨verdictsRule_holds, eligibilityRule_holds⟩

end Sys2Proof.Machine
end

section
/-! PROOFS of the family of the start, what a halt, an erase and the safe state leave alone: the datapath, the ciphers, the vault and the
ports have no hold on main power, on the always-on domain or on the registers of management and tamper (R48, R393, R405, R430, R431). -/

namespace Sys2Proof.Machine

/-! ## The view of management -/

/-- Main power, the always-on domain, and the registers of the blocks ACU, MGT and TMP (R444). -/
def Chip.mgmtView (c : Chip) : Bool × AlwaysOn × (Nat → W32) :=
  (c.power, c.ao, fun a => if 0x4000 ≤ a ∧ a < 0xA000 then c.word a else 0)

theorem Chip.power_of_mgmtView {c d : Chip} (h : d.mgmtView = c.mgmtView) : d.power = c.power := congrArg (·.1) h

theorem Chip.ao_of_mgmtView {c d : Chip} (h : d.mgmtView = c.mgmtView) : d.ao = c.ao := congrArg (·.2.1) h

theorem Chip.word_of_mgmtView {c d : Chip} (h : d.mgmtView = c.mgmtView) {a : Nat} (hlow : 0x4000 ≤ a) (hhigh : a < 0xA000) :
    d.word a = c.word a := by
  have hword := congrFun (congrArg (·.2.2) h) a
  simpa only [Chip.mgmtView, hlow, hhigh, and_self, if_true] using hword

theorem Chip.rd_of_mgmtView {c d : Chip} (h : d.mgmtView = c.mgmtView) {f : Fld} (hlow : 0x4000 ≤ f.reg) (hhigh : f.reg < 0xA000) :
    d.rd f = c.rd f := by rw [Chip.rd, Chip.word_of_mgmtView h hlow hhigh, Chip.rd]

/-- A change of the register map that keeps the words of the view. -/
theorem Chip.mgmtView_of_word {c d : Chip} (hpower : d.power = c.power) (hao : d.ao = c.ao)
    (hword : ∀ a, 0x4000 ≤ a → a < 0xA000 → d.word a = c.word a) : d.mgmtView = c.mgmtView := by
  rw [Chip.mgmtView, Chip.mgmtView, hpower, hao]
  congr 2
  funext a
  split
  · next h => exact hword a h.1 h.2
  · rfl

/-- Writes of the blocks above TMP. -/
theorem Chip.setWord_mgmtView (c : Chip) {a : Nat} (h : 0xA000 ≤ a) (w : W32) : (c.setWord a w).mgmtView = c.mgmtView :=
  Chip.mgmtView_of_word rfl rfl fun _ _ hhigh => Chip.word_setWord_other _ _ _ _ (by omega)

theorem Chip.wr_mgmtView (c : Chip) {f : Fld} (h : 0xA000 ≤ f.reg) (v : Nat) : (c.wr f v).mgmtView = c.mgmtView :=
  Chip.setWord_mgmtView c h _

theorem Chip.bump_mgmtView (c : Chip) {a : Nat} (h : 0xA000 ≤ a) : (c.bump a).mgmtView = c.mgmtView := Chip.setWord_mgmtView c h _

theorem Chip.setNum_mgmtView (c : Chip) {a : Nat} (h : 0xA000 ≤ a) (k v : Nat) : (c.setNum a k v).mgmtView = c.mgmtView :=
  Chip.mgmtView_of_word (Chip.setNum_power ..) (Chip.setNum_ao ..) fun _ _ hhigh => Chip.word_setNum_other _ _ _ _ _ (by omega)

/-- So does an attention: HST_ATTN is a register of the host's. -/
@[simp] theorem Chip.attn_mgmtView (c : Chip) (cls : Nat) : (c.attn cls).mgmtView = c.mgmtView :=
  Chip.mgmtView_of_word (Chip.attn_power ..) (Chip.attn_ao ..) fun a hlow _ =>
    Chip.attn_word _ _ _ (by simp only [R.HST_ATTN]; omega)

/-- A register of a bank that begins above TMP. -/
theorem bank_high {b n : Nat} (h : 0xA000 ≤ b) : 0xA000 ≤ b + n := Nat.le_add_right_of_le h

/-! ## Releases -/

@[simp] theorem Chip.emit_mgmtView (c : Chip) (o : Out) : (c.emit o).mgmtView = c.mgmtView := rfl

@[simp] theorem Chip.setPort_mgmtView (c : Chip) (p : Nat) (x : Port) : (c.setPort p x).mgmtView = c.mgmtView := rfl

@[simp] theorem Chip.setSa_mgmtView (c : Chip) (i : Nat) (x : Sa) : (c.setSa i x).mgmtView = c.mgmtView := rfl

@[simp] theorem Chip.markAhead_mgmtView (c : Chip) (p an pn : Nat) : (c.markAhead p an pn).mgmtView = c.mgmtView := by
  unfold Chip.markAhead Chip.sendContainer
  rw [Chip.setPort_mgmtView, apply_ite Chip.mgmtView, Chip.emit_mgmtView, ite_self]

@[simp] theorem Chip.abortAt_mgmtView (c : Chip) (p : Nat) (r : Release) (k : Nat) : (c.abortAt p r k).mgmtView = c.mgmtView := by
  unfold Chip.abortAt Chip.sendContainer
  split <;> simp

@[simp] theorem Chip.abortRelease_mgmtView (c : Chip) (p : Nat) (r : Release) : (c.abortRelease p r).1.mgmtView = c.mgmtView := by
  unfold Chip.abortRelease
  dsimp only
  split
  · rfl
  · exact (Chip.bump_mgmtView _ (bank_high (by decide))).trans (Chip.abortAt_mgmtView _ _ _ _)

@[simp] theorem Chip.discardPn_mgmtView (c : Chip) (r : Release) : (c.discardPn r).mgmtView = c.mgmtView := by
  unfold Chip.discardPn
  split <;> rfl

@[simp] theorem Chip.abortReleases_mgmtView (c : Chip) : c.abortReleases.mgmtView = c.mgmtView := by
  refine foldl_keeps (fun c p => ?_) _ _
  dsimp only
  split
  · rfl
  · rw [Chip.setPort_mgmtView, foldl_keeps Chip.discardPn_mgmtView, Chip.abortRelease_mgmtView]

/-! ## The buffer and what its frames teach -/

@[simp] theorem Chip.setPipe_mgmtView (c : Chip) (k : Nat) (x : Pipe) : (c.setPipe k x).mgmtView = c.mgmtView := rfl

@[simp] theorem Chip.setMac_mgmtView (c : Chip) (k pos : Nat) (e : MacEntry) : (c.setMac k pos e).mgmtView = c.mgmtView := by
  have hused : 0xA000 ≤ (F.FWD_MAC_STATUS_used k).reg := bank_high (by decide)
  have hstatic : 0xA000 ≤ (F.FWD_MAC_STATIC_static k).reg := bank_high (by decide)
  unfold Chip.setMac
  rw [Chip.wr_mgmtView _ hstatic, Chip.wr_mgmtView _ hused, Chip.setPipe_mgmtView]

@[simp] theorem Chip.moveOnce_mgmtView (c : Chip) (k : Nat) : (c.moveOnce k).mgmtView = c.mgmtView := by
  unfold Chip.moveOnce Chip.mark
  dsimp only
  split
  · rfl
  · split
    · rw [Chip.wr_mgmtView _ (bank_high (by decide)), Chip.wr_mgmtView _ (bank_high (by decide)), Chip.setPipe_mgmtView,
        Chip.setMac_mgmtView]
    · split <;> simp

@[simp] theorem Chip.finishChain_mgmtView (c : Chip) (k : Nat) : (c.finishChain k).mgmtView = c.mgmtView :=
  foldl_keeps (fun c _ => Chip.moveOnce_mgmtView c k) _ c

@[simp] theorem Chip.setLearn_mgmtView (c : Chip) (k i : Nat) (l : Option Learn) : (c.setLearn k i l).mgmtView = c.mgmtView := rfl

@[simp] theorem Chip.learnWithdraw_mgmtView (c : Chip) (f : Frame) : (c.learnWithdraw f).mgmtView = c.mgmtView := by
  have hcount (c : Chip) (k : Nat) : (c.bump (R.FWD_WITHDRAW k)).mgmtView = c.mgmtView := Chip.bump_mgmtView c (bank_high (by decide))
  unfold Chip.learnWithdraw
  split
  · rfl
  · split
    · rfl
    · dsimp only
      split_ifs
      · simp [hcount]
      · split
        · split_ifs <;> simp [hcount]
        · simp [hcount]

@[simp] theorem Chip.settlePool_mgmtView (c : Chip) : c.settlePool.mgmtView = c.mgmtView := Chip.wr_mgmtView c (by decide) _

theorem Chip.mgmtView_of_dataAndRegs {c d : Chip} {as : List Nat} (h : Chip.dataAndRegs c d as) (has : ∀ a ∈ as, 0xA000 ≤ a) :
    d.mgmtView = c.mgmtView :=
  Chip.mgmtView_of_word h.power (congrArg Chip.ao h.1 :) fun a _ hhigh =>
    h.word fun hmem => by have := has a hmem; omega

@[simp] theorem Chip.freeFrame_mgmtView (c : Chip) (i : Nat) : (c.freeFrame i).mgmtView = c.mgmtView :=
  Chip.mgmtView_of_dataAndRegs (c.dataAndRegs_freeFrame i) (by decide)

@[simp] theorem Chip.releaseQ_mgmtView (c : Chip) (q n : Nat) : (c.releaseQ q n).mgmtView = c.mgmtView :=
  Chip.wr_mgmtView c (bank_high (by decide)) _

@[simp] theorem Chip.discard_mgmtView (c : Chip) (i : Nat) : (c.discard i).mgmtView = c.mgmtView := by
  unfold Chip.discard
  split
  · rfl
  · rw [Chip.freeFrame_mgmtView, foldl_keeps fun c _ => Chip.releaseQ_mgmtView c _ _]

@[simp] theorem Chip.stopEngines_mgmtView (c : Chip) : c.stopEngines.mgmtView = c.mgmtView := by
  refine foldl_keeps (fun c e => ?_) _ _
  split
  · exact Chip.wr_mgmtView _ (bank_high (by decide)) _
  · rfl

@[simp] theorem Chip.emptyBuffer_mgmtView (c : Chip) : c.emptyBuffer.mgmtView = c.mgmtView := by
  unfold Chip.emptyBuffer Chip.sat32
  dsimp only
  rw [Chip.settlePool_mgmtView, foldl_keeps fun c _ => Chip.wr_mgmtView c (bank_high (by decide)) _, Chip.setWord_mgmtView _ (by decide)]
  exact (Chip.stopEngines_mgmtView _).trans (foldl_keeps Chip.discard_mgmtView _ c)

/-! ## Lines and nodes of the vault -/

theorem Chip.vault_mgmtView (c : Chip) (v : Vault) : ({ c with vault := v } : Chip).mgmtView = c.mgmtView := rfl

@[simp] theorem Chip.setNode_mgmtView (c : Chip) (level i : Nat) (n : Node) : (c.setNode level i n).mgmtView = c.mgmtView := rfl

@[simp] theorem Chip.tagNode_mgmtView (c : Chip) (level i : Nat) : (c.tagNode level i).mgmtView = c.mgmtView := rfl

@[simp] theorem Chip.rewriteLeaf_mgmtView (c : Chip) (leaf : Nat) (n : Node) : (c.rewriteLeaf leaf n).mgmtView = c.mgmtView := rfl

@[simp] theorem Chip.retagChildren_mgmtView (c : Chip) (level i : Nat) : (c.retagChildren level i).mgmtView = c.mgmtView :=
  foldl_keeps (fun c _ => Chip.tagNode_mgmtView c _ _) _ c

@[simp] theorem Chip.bumpChild_mgmtView (c : Chip) (level i k : Nat) : (c.bumpChild level i k).mgmtView = c.mgmtView := by
  have hcount (c : Chip) : (c.bump R.VLT_OVERFLOW).mgmtView = c.mgmtView := Chip.bump_mgmtView c (by decide)
  unfold Chip.bumpChild
  dsimp only
  split_ifs <;> simp [hcount]

@[simp] theorem Chip.markDirty_mgmtView (c : Chip) (level i : Nat) : (c.markDirty level i).mgmtView = c.mgmtView := by
  unfold Chip.markDirty
  dsimp only
  split <;> rfl

@[simp] theorem Chip.settleNode_mgmtView (c : Chip) (level i : Nat) : (c.settleNode level i).mgmtView = c.mgmtView := by
  unfold Chip.settleNode
  dsimp only
  split
  · rfl
  · rw [Chip.tagNode_mgmtView]
    split
    · rfl
    · exact (Chip.markDirty_mgmtView _ _ _).trans (Chip.bumpChild_mgmtView _ _ _ _)

@[simp] theorem Chip.settleLevel_mgmtView (c : Chip) (level : Nat) : (c.settleLevel level).mgmtView = c.mgmtView :=
  foldl_keeps (fun c _ => Chip.settleNode_mgmtView c _ _) _ c

@[simp] theorem Chip.vaultSleep_mgmtView (c : Chip) : c.vaultSleep.mgmtView = c.mgmtView := by
  unfold Chip.vaultSleep
  split
  · rw [Chip.wr_mgmtView _ (by decide), Chip.vault_mgmtView, foldl_keeps Chip.settleLevel_mgmtView]
  · rfl

@[simp] theorem Chip.areaWrote_mgmtView (c : Chip) (line : Nat) : (c.areaWrote line).mgmtView = c.mgmtView := by
  unfold Chip.areaWrote
  split
  · rfl
  · rw [Chip.markDirty_mgmtView, Chip.bumpChild_mgmtView]
    rfl

@[simp] theorem Chip.epochWrote_mgmtView (c : Chip) (sc e : Nat) : (c.epochWrote sc e).mgmtView = c.mgmtView := by
  unfold Chip.epochWrote
  split
  · rfl
  · exact Chip.areaWrote_mgmtView _ _

@[simp] theorem Chip.keepEpochs_mgmtView (c : Chip) (keep : Nat → Bool) : (c.keepEpochs keep).mgmtView = c.mgmtView :=
  foldl_keeps (fun c _ => Chip.epochWrote_mgmtView c _ _) _ _

/-! ## SAs -/

@[simp] theorem Chip.noteNosa_mgmtView (c : Chip) (p : Nat) : (c.noteNosa p).mgmtView = c.mgmtView := by
  unfold Chip.noteNosa
  split
  · rfl
  · refine foldl_keeps (fun c h => ?_) _ c
    split <;> rfl

@[simp] theorem Chip.dropOpen_mgmtView (c : Chip) (sc : Nat) : (c.dropOpen sc).mgmtView = c.mgmtView := by
  unfold Chip.dropOpen
  split
  · rfl
  · dsimp only
    split
    · rfl
    · exact Chip.setWord_mgmtView _ (bank_high (by decide)) _

@[simp] theorem Chip.retireSa_mgmtView (c : Chip) (i : Nat) : (c.retireSa i).mgmtView = c.mgmtView := by
  unfold Chip.retireSa
  dsimp only
  split
  · simp
  · split <;> simp

@[simp] theorem Chip.settleLink_mgmtView (c : Chip) (p : Nat) : (c.settleLink p).mgmtView = c.mgmtView := by
  have hadopt : 0xA000 ≤ R.SAS_LINK_ADOPT p := bank_high (by decide)
  have hstatus : 0xA000 ≤ (F.SAS_LINK_STATUS_secret p).reg := bank_high (by decide)
  unfold Chip.settleLink
  rw [Chip.setNum_mgmtView _ hadopt, Chip.wr_mgmtView _ hstatus, apply_ite Chip.mgmtView, Chip.setPort_mgmtView, ite_self]

@[simp] theorem Chip.retireWhenDone_mgmtView (c : Chip) (p i : Nat) : (c.retireWhenDone p i).mgmtView = c.mgmtView := by
  unfold Chip.retireWhenDone Chip.dropEpochKey
  dsimp only
  split_ifs <;> simp

@[simp] theorem Chip.loadEpoch_mgmtView (c : Chip) (h : Chan) (e g : Nat) : (c.loadEpoch h e g).mgmtView = c.mgmtView := by
  have hforced (c : Chip) : (c.bump (R.SAS_RETIRE_FORCED (pipeOf h.port))).mgmtView = c.mgmtView :=
    Chip.bump_mgmtView c (bank_high (by decide))
  unfold Chip.loadEpoch Chip.installSa
  dsimp only
  split_ifs <;> simp [hforced]

@[simp] theorem Chip.setSc_mgmtView (c : Chip) (sc : Nat) (x : ScRun) : (c.setSc sc x).mgmtView = c.mgmtView := rfl

@[simp] theorem Chip.loadFirst_mgmtView (c : Chip) (h : Chan) : (c.loadFirst h).mgmtView = c.mgmtView := by
  unfold Chip.loadFirst
  split
  · rfl
  · dsimp only
    split <;> simp

@[simp] theorem Chip.retireDue_mgmtView (c : Chip) (p : Nat) : (c.retireDue p).mgmtView = c.mgmtView := by
  refine foldl_keeps (fun c h => ?_) _ c
  rw [Chip.loadFirst_mgmtView]
  refine foldl_keeps (fun c i => ?_) _ c
  split <;> simp

@[simp] theorem Chip.dropBuffer_mgmtView (c : Chip) : c.dropBuffer.mgmtView = c.mgmtView := by
  unfold Chip.dropBuffer
  dsimp only
  rw [foldl_keeps Chip.retireDue_mgmtView, Chip.emptyBuffer_mgmtView, foldl_keeps Chip.learnWithdraw_mgmtView]

@[simp] theorem Chip.retireAll_mgmtView (c : Chip) : c.retireAll.mgmtView = c.mgmtView := by
  refine foldl_keeps (fun c p => ?_) _ _
  have hadopt : 0xA000 ≤ R.SAS_LINK_ADOPT p := bank_high (by decide)
  rw [Chip.setNum_mgmtView _ hadopt, Chip.wr_mgmtView _ (bank_high (by decide))]

/-! ## The public-key engine and lookaside requests -/

theorem Chip.pke_mgmtView (c : Chip) (x : Pke) : ({ c with pke := x } : Chip).mgmtView = c.mgmtView := rfl

@[simp] theorem Chip.pkeSync_mgmtView (c : Chip) : c.pkeSync.mgmtView = c.mgmtView := by
  unfold Chip.pkeSync Chip.wrb
  dsimp only
  rw [Chip.setWord_mgmtView _ (by decide), Chip.wr_mgmtView _ (by decide), Chip.wr_mgmtView _ (by decide), Chip.wr_mgmtView _ (by decide)]

@[simp] theorem Chip.pkeWipe_mgmtView (c : Chip) : c.pkeWipe.mgmtView = c.mgmtView := by
  unfold Chip.pkeWipe Chip.pkeBusy
  split
  · rfl
  · rw [Chip.setNum_mgmtView _ (by decide), Chip.pke_mgmtView, Chip.wr_mgmtView _ (by decide), Chip.bump_mgmtView _ (by decide),
      Chip.pke_mgmtView]

@[simp] theorem Chip.wipePke_mgmtView (c : Chip) : c.wipePke.mgmtView = c.mgmtView := by
  unfold Chip.wipePke
  rw [Chip.pkeSync_mgmtView, Chip.pkeWipe_mgmtView]
  split <;> rfl

@[simp] theorem Chip.dropRequests_mgmtView (c : Chip) : c.dropRequests.mgmtView = c.mgmtView := by
  refine foldl_keeps (fun c r => ?_) _ _
  rw [Chip.wr_mgmtView _ (bank_high (by decide)), Chip.wr_mgmtView _ (bank_high (by decide))]

/-! ## Ports -/

theorem port_high {b n k : Nat} (h : 0xA000 ≤ b) : 0xA000 ≤ b + n + k := bank_high (bank_high h)

@[simp] theorem Chip.portDark_mgmtView (c : Chip) (p : Nat) : (c.portDark p).mgmtView = c.mgmtView := by
  unfold Chip.portDark
  split
  · rfl
  · rw [Chip.emit_mgmtView, Chip.wr_mgmtView _ (port_high (by decide)), Chip.wr_mgmtView _ (port_high (by decide)),
      Chip.wr_mgmtView _ (port_high (by decide))]

@[simp] theorem Chip.haltSignals_mgmtView (c : Chip) : c.haltSignals.mgmtView = c.mgmtView := by
  refine foldl_keeps (fun c p => ?_) _ c
  split
  · rfl
  · rw [Chip.emit_mgmtView, Chip.wr_mgmtView _ (port_high (by decide))]

end Sys2Proof.Machine
end

section
/-! PROOFS of the family of the start, O5: main power (R37, R393, R433). -/

namespace Sys2Proof.Machine

/-! ## What a tamper source does keeps main power -/

@[simp] theorem Chip.eraseKeys_power (c : Chip) : c.eraseKeys.power = c.power := by
  have herased (d : Chip) : (d.dropRequests.retireAll.wipePke).power = d.power := Chip.power_of_mgmtView (by simp)
  unfold Chip.eraseKeys
  simp only [Chip.wr_power, herased]

@[simp] theorem Chip.domainErase_power (c : Chip) : c.domainErase.power = c.power := rfl

@[simp] theorem Chip.haltRecord_power (c : Chip) (erased : Bool) : (c.haltRecord erased).power = c.power := Chip.record_power ..

@[simp] theorem Chip.enterHalt_power (c : Chip) (cause source : Nat) (erased : Bool) : (c.enterHalt cause source erased).power = c.power := by
  have hstopped (d : Chip) : (d.abortReleases.wipePke.vaultSleep.haltSignals).power = d.power := Chip.power_of_mgmtView (by simp)
  unfold Chip.enterHalt
  dsimp only
  split_ifs
  · simp
  · rfl
  · simp
  · simp [hstopped]

@[simp] theorem Chip.respond_power (c : Chip) (cls n : Nat) : (c.respond cls n).power = c.power := by
  unfold Chip.respond
  dsimp only
  split_ifs <;> simp

@[simp] theorem Chip.noteDetection_power (c : Chip) (d : Detection) : (c.noteDetection d).power = c.power := by
  unfold Chip.noteDetection
  dsimp only
  split_ifs <;> rfl

@[simp] theorem Chip.logWrite_power (c : Chip) (d : Detection) (cls : Nat) (onCell : Bool) : (c.logWrite d cls onCell).2.power = c.power := rfl

@[simp] theorem Chip.fireSource_power (c : Chip) (d : Detection) : (c.fireSource d).power = c.power := by
  unfold Chip.fireSource
  dsimp only
  split_ifs <;> simp

@[simp] theorem Chip.fireOnCell_power (c : Chip) (d : Detection) : (c.fireOnCell d).power = c.power := by
  unfold Chip.fireOnCell
  dsimp only
  split_ifs <;> simp

/-! ## Commands of the always-on domain -/

/-- A step of the always-on domain that keeps main power. -/
theorem State.always_power {s t : State} {f : Chip → Chip} (hx : s.always f = .next t) (hf : (f s.chip).power = s.chip.power) :
    t.chip.power = s.chip.power := by
  cases hx
  exact hf

theorem backupCellConnect_power {s t : State} (hx : execBackupCellConnect s = .next t) : t.chip.power = s.chip.power := by
  unfold execBackupCellConnect at hx
  refine State.always_power hx ?_
  dsimp only
  split_ifs <;> rfl

theorem backupCellRemoval_power {s t : State} (hx : execBackupCellRemoval s = .next t) : t.chip.power = s.chip.power := by
  unfold execBackupCellRemoval at hx
  refine State.always_power hx ?_
  dsimp only
  split <;> rfl

theorem sourceRearm_power {n : Nat} {s t : State} (hx : execSourceRearm n s = .next t) : t.chip.power = s.chip.power := by
  have hmesh (c : Chip) (l : List Nat) :
      (l.foldl (fun c m => (c.wr (F.TMP_MESH_seq_fail m) 0).wr (F.TMP_MESH_res_fail m) 0) c).power = c.power :=
    foldl_keeps (view := Chip.power) (fun c m => by rw [Chip.wr_power, Chip.wr_power]) l c
  unfold execSourceRearm at hx
  split at hx
  · refine State.always_power hx ?_
    dsimp only
    split_ifs <;> simp [hmesh]
  · cases hx

theorem cellSampleWindow_power {ds : List Detection} {s t : State} (hx : execCellSampleWindow ds s = .next t) :
    t.chip.power = s.chip.power := by
  unfold execCellSampleWindow at hx
  refine State.always_power hx ?_
  dsimp only
  split
  · rfl
  · exact foldl_keeps (view := Chip.power) Chip.fireOnCell_power ds _

theorem debugLockoutExpiry_power {s t : State} (hx : execDebugLockoutExpiry s = .next t) : t.chip.power = s.chip.power := by
  unfold execDebugLockoutExpiry at hx
  refine State.always_power hx ?_
  dsimp only
  split_ifs <;> rfl

theorem detectorDisagreement_power {n : Nat} {on : Bool} {s t : State} (hx : execDetectorDisagreement n on s = .next t) :
    t.chip.power = s.chip.power := by
  unfold execDetectorDisagreement at hx
  split at hx
  · refine State.always_power hx ?_
    dsimp only
    split_ifs <;> simp
  · cases hx

/-! ## The rules -/

theorem unpoweredUnmovedRule_holds : unpoweredUnmovedRule := by
  intro i s t hp hi hx
  obtain ⟨f, rfl⟩ := exec_next hi hx
  simp [hp]

theorem powerKeptRule_holds : powerKeptRule := by
  intro i s t hx hon hoff
  by_cases hi : i.ofAlwaysOn = false
  · obtain ⟨f, rfl⟩ := exec_next hi hx
    cases hp : s.chip.power <;> simp [hp]
  · cases i with
    | powerOn a b c d e => exact absurd rfl (hon a b c d e)
    | mainPowerLoss => exact absurd rfl hoff
    | backupCellConnect => exact backupCellConnect_power hx
    | backupCellRemoval => exact backupCellRemoval_power hx
    | sourceRearm n => exact sourceRearm_power hx
    | cellSampleWindow ds => exact cellSampleWindow_power hx
    | debugLockoutExpiry => exact debugLockoutExpiry_power hx
    | detectorDisagreement n on => exact detectorDisagreement_power hx
    | _ => exact absurd rfl hi

/-- Settles O5, by its two rules: that the commands outside the always-on domain leave a part without main power unmoved is the model's
choice (log entry 2); of the commands of the domain, the six that are neither POWER_ON nor MAIN_POWER_LOSS are gone through one by one. -/
theorem powerFrame : Obligations.PowerFrame := ⟨unpoweredUnmovedRule_holds, powerKeptRule_holds⟩

end Sys2Proof.Machine
end

section
/-! PROOFS of the family of the start, O11: the steps of a start, and starts that fail (R39, R46, R47, R48). -/

namespace Sys2Proof.Machine

/-! ## A step that is done -/

theorem goes_startStep {s : State} {r : StepIn} {P : Chip → Prop} (hp : s.chip.power = true) (hbusy : s.chip.start.busy = true)
    (hpow : (s.chip.startStep r).power = true) (h : P (s.chip.startStep r)) : Goes (.startStep r) s P := by
  have hstep : (if s.chip.start.busy then s.chip.startStep r else s.chip) = s.chip.startStep r := if_pos hbusy
  exact goes_act rfl hp (by rw [hstep]; exact hpow) (by rw [hstep]; exact h)

/-- The step at hand is shown, and the next one is at hand. -/
def Chip.stepDone (c : Chip) (n : Nat) (rest : List Nat) : Chip :=
  ({ c with start := { c.start with todo := rest, busy := rest != [] } }).wr F.MGT_START_STATUS_step n

/-- A step that passes, and neither ends the start nor turns to another one, counts as done. -/
theorem Chip.startStep_of_done {c d : Chip} {r : StepIn} {n : Nat} {rest : List Nat} (htodo : c.start.todo = n :: rest)
    (hok : r.stepOk = true) (hbusy : c.start.busy = true) (hd : c.doStep (c.rd F.MGT_START_STATUS_start_kind) n r = d)
    (hstart : d.start = c.start) (hkind : d.rd F.MGT_START_STATUS_start_kind = c.rd F.MGT_START_STATUS_start_kind) :
    c.startStep r = d.stepDone n rest := by
  unfold Chip.startStep
  rw [htodo]
  simp only [hok, hd, hstart, hkind, hbusy, htodo, Nat.le_refl, decide_true, beq_self_eq_true, Bool.and_self, Bool.not_true,
    Bool.false_eq_true, if_false, List.drop_one, List.tail_cons]
  rw [Chip.stepDone, hstart]

/-- A step that finds nothing to do: 4 and 15 of a cold start, 7 with sound memories, 18 and 19 of a management restart, 24 of the others. -/
def Chip.idleStep (c : Chip) (kind n : Nat) : Prop :=
  (kind = 1 ∧ (n = 4 ∨ n = 15)) ∨ (n = 7 ∧ c.start.scrubBad = false) ∨ (kind = 3 ∧ (n = 18 ∨ n = 19)) ∨ (kind ≠ 3 ∧ n = 24)

theorem Chip.doStep_of_idleStep {c : Chip} {kind n : Nat} (r : StepIn) (h : c.idleStep kind n) : c.doStep kind n r = c := by
  rcases h with ⟨rfl, rfl | rfl⟩ | ⟨rfl, hgood⟩ | ⟨rfl, rfl | rfl⟩ | ⟨hkind, rfl⟩
  · rfl
  · rfl
  · simp [Chip.doStep, hgood]
  · rfl
  · rfl
  · simp [Chip.doStep, Chip.stepMailbox, mgmtKind, hkind]

theorem Chip.doStep_22_warm (c : Chip) (r : StepIn) : c.doStep 2 22 r = c.wr F.MGT_START_STATUS_configured 1 := rfl

/-- What a step that is done shows, of a part that has changed in MGT_START_STATUS alone. -/
theorem Chip.stepDone_shows {c d : Chip} {n : Nat} {rest : List Nat} (hn : n < 32) (h : Chip.onlyRegs c d [R.MGT_START_STATUS])
    (hstart : d.start = c.start) :
    (d.stepDone n rest).rd F.MGT_START_STATUS_step = n ∧
      (d.stepDone n rest).start = { c.start with todo := rest, busy := rest != [] } ∧
      Chip.onlyRegs { c with start := (d.stepDone n rest).start } (d.stepDone n rest) [R.MGT_START_STATUS] := by
  obtain ⟨hsame, hword⟩ := h
  refine ⟨?_, ?_, ?_, fun a ha => ?_⟩
  · exact (Chip.rd_wr_same _ _ _ (by decide)).trans (Nat.mod_eq_of_lt hn)
  · rw [← hstart]
    rfl
  · rw [← hsame]
    rfl
  · exact (Chip.word_wr_other _ _ _ _ (List.ne_of_not_mem_cons ha)).trans (hword a ha)

theorem startStepsRule_holds : startStepsRule := by
  intro s r n rest hp hbusy htodo hok
  dsimp only
  refine ⟨fun hn hkind => ?_, fun hidle => ?_⟩
  · subst hn
    have hd : s.chip.doStep (s.chip.rd F.MGT_START_STATUS_start_kind) 22 r = s.chip.wr F.MGT_START_STATUS_configured 1 := by
      rw [hkind, Chip.doStep_22_warm]
    have hdone := Chip.startStep_of_done htodo hok hbusy hd rfl (Chip.rd_wr_apart _ _ _ _ (by decide) (by decide))
    refine goes_startStep hp hbusy (by rw [hdone]; exact hp) ?_
    rw [hdone]
    refine ⟨?_, Chip.stepDone_shows (by decide) (Chip.onlyRegs_wr _ _ _) rfl⟩
    rw [Chip.configured, Chip.flag, Chip.stepDone, Chip.rd_wr_apart _ _ _ _ (by decide) (by decide)]
    exact Chip.flag_wrb_same s.chip F.MGT_START_STATUS_configured true (by decide) rfl
  · have hd := Chip.doStep_of_idleStep (c := s.chip) r hidle
    have hdone := Chip.startStep_of_done htodo hok hbusy hd rfl rfl
    have hn : n < 32 := by omega
    refine goes_startStep hp hbusy (by rw [hdone]; exact hp) ?_
    rw [hdone]
    exact Chip.stepDone_shows hn ⟨rfl, fun _ _ => rfl⟩ rfl

/-! ## A failed start is recorded -/

/-- The times of the last three failed starts, once one fails now. -/
def Chip.failsNow (c : Chip) : List Nat := (c.ao.timer :: c.ao.fails).take 3

/-- The part with the failure of step `n` recorded: in the always-on domain, in its registers and in the recorder. -/
def Chip.failNoted (c : Chip) (n : Nat) : Chip :=
  let d := ((({ c with ao := { c.ao with fails := c.failsNow } } : Chip).wr F.MGT_START_STATUS_last_fail_step n).syncFails)
  d.record Sub.mgmt.n 0x16 1 0 d.startDetail

/-- The failures of the last 600 s, the present one among them. -/
def Chip.liveNow (c : Chip) : Nat := ({ c with ao := { c.ao with fails := c.failsNow } } : Chip).liveFails.length

theorem Chip.startFail_eq (c : Chip) (n : Nat) :
    c.startFail n =
      if (c.failNoted n).halted then (c.failNoted n).endStart false
      else if 3 ≤ (c.failNoted n).liveFails.length then ((c.failNoted n).wr F.TMP_START_FAILS_safe_latched 1).enterSafe
      else if c.rd F.MGT_START_STATUS_start_kind = mgmtKind then (c.failNoted n).startNow warmKind causeEscalated
      else if c.rd F.MGT_START_STATUS_start_kind = warmKind then (c.failNoted n).startNow coldKind causeEscalated
      else (c.failNoted n).endStart true := rfl

@[simp] theorem Chip.syncFails_power (c : Chip) : c.syncFails.power = c.power := rfl

@[simp] theorem Chip.failNoted_power (c : Chip) (n : Nat) : (c.failNoted n).power = c.power := Chip.record_power ..

@[simp] theorem Chip.failNoted_fails (c : Chip) (n : Nat) : (c.failNoted n).ao.fails = c.failsNow := Chip.record_ao_fails ..

@[simp] theorem Chip.failNoted_start (c : Chip) (n : Nat) : (c.failNoted n).start = c.start := Chip.record_start ..

/-- Registers that neither the failure nor its record touches. -/
theorem Chip.failNoted_word (c : Chip) (n : Nat) {a : Nat} (ha : a ∉ R.MGT_START_STATUS :: R.TMP_START_FAILS :: recWords) :
    (c.failNoted n).word a = c.word a := by
  simp only [List.mem_cons, not_or] at ha
  obtain ⟨hstatus, hfails, hrec⟩ := ha
  refine (Chip.record_word _ _ _ _ _ _ _ hrec).trans ?_
  refine (Chip.word_wr_other _ _ _ _ hfails).trans ((Chip.word_wr_other _ _ _ _ hfails).trans ?_)
  exact Chip.word_wr_other _ _ _ _ hstatus

@[simp] theorem Chip.failNoted_halted (c : Chip) (n : Nat) : (c.failNoted n).halted = c.halted := by
  rw [Chip.halted, Chip.flag, Chip.rd, Chip.failNoted_word c n (by decide), Chip.halted, Chip.flag, Chip.rd]

theorem Chip.failNoted_lastFail (c : Chip) {n : Nat} (hn : n < 256) : (c.failNoted n).rd F.MGT_START_STATUS_last_fail_step = n := by
  refine (Chip.record_rd _ _ _ _ _ _ _ (by decide)).trans ?_
  refine (Chip.rd_wr_other _ _ _ _ (by decide)).trans ((Chip.rd_wr_other _ _ _ _ (by decide)).trans ?_)
  exact (Chip.rd_wr_same _ _ _ (by decide)).trans (Nat.mod_eq_of_lt hn)

theorem Chip.failNoted_kind (c : Chip) (n : Nat) :
    (c.failNoted n).rd F.MGT_START_STATUS_start_kind = c.rd F.MGT_START_STATUS_start_kind := by
  refine (Chip.record_rd _ _ _ _ _ _ _ (by decide)).trans ?_
  refine (Chip.rd_wr_other _ _ _ _ (by decide)).trans ((Chip.rd_wr_other _ _ _ _ (by decide)).trans ?_)
  exact Chip.rd_wr_apart _ _ _ _ (by decide) (by decide)

@[simp] theorem Chip.endStart_power (c : Chip) (retry : Bool) : (c.endStart retry).power = c.power := rfl

@[simp] theorem Chip.endStart_ao (c : Chip) (retry : Bool) : (c.endStart retry).ao = c.ao := rfl

@[simp] theorem Chip.endStart_rd (c : Chip) (retry : Bool) (f : Fld) : (c.endStart retry).rd f = c.rd f := rfl

@[simp] theorem Chip.failNoted_live (c : Chip) (n : Nat) : (c.failNoted n).liveFails.length = c.liveNow := by
  have htimer : (c.failNoted n).ao.timer = c.ao.timer := Chip.record_ao_timer ..
  rw [Chip.liveFails, Chip.failNoted_fails, htimer]
  rfl

/-! ## What follows a failed start -/

theorem Chip.startFail_of_halted {c : Chip} (n : Nat) (h : c.halted = true) : c.startFail n = (c.failNoted n).endStart false := by
  rw [Chip.startFail_eq, Chip.failNoted_halted, if_pos h]

section

variable {c : Chip} (n : Nat) (hrun : c.halted = false)

include hrun

theorem Chip.startFail_of_safe (hlive : 3 ≤ c.liveNow) :
    c.startFail n = ((c.failNoted n).wr F.TMP_START_FAILS_safe_latched 1).enterSafe := by
  rw [Chip.startFail_eq, Chip.failNoted_halted, hrun, if_neg Bool.false_ne_true, Chip.failNoted_live, if_pos hlive]

variable (hlive : c.liveNow < 3)

include hlive

/-- Fewer than three failures outside halt: what follows depends on the kind of the start. -/
theorem Chip.startFail_of_kind :
    c.startFail n =
      if c.rd F.MGT_START_STATUS_start_kind = mgmtKind then (c.failNoted n).startNow warmKind causeEscalated
      else if c.rd F.MGT_START_STATUS_start_kind = warmKind then (c.failNoted n).startNow coldKind causeEscalated
      else (c.failNoted n).endStart true := by
  rw [Chip.startFail_eq, Chip.failNoted_halted, hrun, if_neg Bool.false_ne_true, Chip.failNoted_live, if_neg (Nat.not_le.mpr hlive)]

theorem Chip.startFail_of_cold (hkind : c.rd F.MGT_START_STATUS_start_kind = 1) : c.startFail n = (c.failNoted n).endStart true := by
  rw [Chip.startFail_of_kind n hrun hlive, hkind, if_neg (by decide), if_neg (by decide)]

theorem Chip.startFail_of_warm (hkind : c.rd F.MGT_START_STATUS_start_kind = 2) : c.startFail n = (c.failNoted n).startNow 1 3 := by
  rw [Chip.startFail_of_kind n hrun hlive, hkind, if_neg (by decide), if_pos (by decide), coldKind, causeEscalated]

theorem Chip.startFail_of_mgmt (hkind : c.rd F.MGT_START_STATUS_start_kind = 3) : c.startFail n = (c.failNoted n).startNow 2 3 := by
  rw [Chip.startFail_of_kind n hrun hlive, hkind, if_pos (by decide), warmKind, causeEscalated]

end

/-! ## The start that follows -/

@[simp] theorem Chip.defaultClasses_ao (c : Chip) : c.defaultClasses.ao = c.ao :=
  foldl_keeps (view := Chip.ao) (fun _ _ => Chip.wr_ao _ _ _) _ c

@[simp] theorem Chip.coldReset_fails (c : Chip) : c.coldReset.ao.fails = c.ao.fails := by
  have hkept : c.coldKept.defaultClasses.ao.fails = c.ao.fails := by rw [Chip.defaultClasses_ao, Chip.coldKept]
  unfold Chip.coldReset
  revert hkept
  generalize c.coldKept.defaultClasses = d
  intro hkept
  dsimp only
  split
  · rw [Chip.wr_ao, Chip.setWord_ao, Chip.sat32_ao, hkept]
  · rw [Chip.setWord_ao, Chip.sat32_ao, hkept]

@[simp] theorem Chip.freshStart_fails (c : Chip) : c.freshStart.ao.fails = c.ao.fails := by
  unfold Chip.freshStart
  simp

theorem Chip.startBase_fails (c : Chip) (kind : Nat) : (c.startBase kind).ao.fails = c.ao.fails := by
  unfold Chip.startBase
  split
  · exact Chip.coldReset_fails c
  · rfl

/-- A start keeps the records of the failed ones. -/
theorem Chip.startNow_fails (c : Chip) (kind cause : Nat) : (c.startNow kind cause).ao.fails = c.ao.fails := by
  have hfresh : (c.startFresh kind).ao.fails = (c.startBase kind).ao.fails := by
    unfold Chip.startFresh
    split
    · rfl
    · exact Chip.freshStart_fails _
  rw [Chip.startNow_eq]
  simp only [Chip.record_ao_fails, Chip.setWord_ao, Chip.wr_ao, hfresh, Chip.startBase_fails]

/-! ## The safe state -/

/-- The part with every port down and dark, TX disable asserted on every managed module, and nothing left to send. -/
def Chip.darkened (c : Chip) : Chip :=
  (List.range 120).foldl (fun c n => if c.flag (F.PRT_CFG_managed n) then c.wr (F.PRT_MOD_STATUS_tx_disabled n) 1 else c)
    ((List.range 144).foldl Chip.portDark c.abortReleases.dropBuffer.retireAll.wipePke)

theorem Chip.darkened_mgmtView (c : Chip) : c.darkened.mgmtView = c.mgmtView := by
  refine (foldl_keeps (fun c n => ?_) _ _).trans ((foldl_keeps Chip.portDark_mgmtView _ _).trans (by simp))
  split
  · exact Chip.wr_mgmtView _ (port_high (by decide)) _
  · rfl

/-- The darkened part without its keys, vault and image, at the end of its start. -/
def Chip.closed (c : Chip) : Chip :=
  { c with
    keys := { c.keys with e := none, slots := [], rings := [] }, vault := {}, img := none, pm := { c.pm with on := false }
    start := { ordered := c.start.ordered, scrubBad := c.start.scrubBad, badPairs := c.start.badPairs } }

theorem Chip.closed_mgmtView (c : Chip) : c.closed.mgmtView = c.mgmtView := rfl

/-- The part with its vault and its root shown as closed. -/
def Chip.locked (c : Chip) : Chip :=
  (((c.darkened.closed.wr F.VLT_STATUS_state 0).wr F.VLT_KEYID_live 0).wr F.VLT_STATUS_flush_active 0).wr F.KEY_STATUS_root 0

theorem Chip.locked_mgmtView (c : Chip) : c.locked.mgmtView = c.mgmtView := by
  rw [Chip.locked, Chip.wr_mgmtView _ (by decide), Chip.wr_mgmtView _ (by decide), Chip.wr_mgmtView _ (by decide),
    Chip.wr_mgmtView _ (by decide), Chip.closed_mgmtView, Chip.darkened_mgmtView]

theorem Chip.locked_busy (c : Chip) : c.locked.start.busy = false := by
  simp only [Chip.locked, Chip.wr_start, Chip.closed]

/-- The part as the safe state shows it, ahead of its record. -/
def Chip.safeShown (c : Chip) : Chip := (c.locked.wr F.MGT_START_STATUS_safe_state 1).wr F.MGT_START_STATUS_configured 0

theorem Chip.enterSafe_eq (c : Chip) : c.enterSafe = (c.safeShown.record Sub.mgmt.n 0x16 1 0 c.safeShown.startDetail).syncLifecycle := rfl

theorem Chip.safeShown_word (c : Chip) {a : Nat} (hlow : 0x4000 ≤ a) (hhigh : a < 0xA000) (ha : a ≠ R.MGT_START_STATUS) :
    c.safeShown.word a = c.word a := by
  rw [Chip.safeShown, Chip.word_wr_other _ _ _ _ ha, Chip.word_wr_other _ _ _ _ ha, Chip.word_of_mgmtView c.locked_mgmtView hlow hhigh]

theorem Chip.enterSafe_power (c : Chip) : c.enterSafe.power = c.power := by
  rw [Chip.enterSafe_eq, Chip.syncLifecycle, Chip.wr_power, Chip.record_power, Chip.safeShown, Chip.wr_power, Chip.wr_power,
    Chip.power_of_mgmtView c.locked_mgmtView]

theorem Chip.enterSafe_fails (c : Chip) : c.enterSafe.ao.fails = c.ao.fails := by
  rw [Chip.enterSafe_eq, Chip.syncLifecycle, Chip.wr_ao, Chip.record_ao_fails, Chip.safeShown, Chip.wr_ao, Chip.wr_ao,
    Chip.ao_of_mgmtView c.locked_mgmtView]

theorem Chip.enterSafe_busy (c : Chip) : c.enterSafe.start.busy = false := by
  rw [Chip.enterSafe_eq, Chip.syncLifecycle, Chip.wr_start, Chip.record_start, Chip.safeShown, Chip.wr_start, Chip.wr_start,
    Chip.locked_busy]

/-- Fields outside KEY_STATUS are as they are shown ahead of the record. -/
theorem Chip.enterSafe_rd (c : Chip) {f : Fld} (h : f.reg ∉ R.KEY_STATUS :: recWords) : c.enterSafe.rd f = c.safeShown.rd f := by
  simp only [List.mem_cons, not_or] at h
  rw [Chip.enterSafe_eq, Chip.syncLifecycle, Chip.rd_wr_other _ _ _ _ h.1, Chip.record_rd _ _ _ _ _ _ _ h.2]

theorem Chip.enterSafe_safe (c : Chip) : c.enterSafe.safe = true := by
  rw [Chip.safe, Chip.flag, Chip.enterSafe_rd c (by decide), Chip.safeShown,
    Chip.rd_wr_apart _ _ _ _ (by decide) (by decide),
    Chip.rd_wr_same _ _ _ (by decide)]
  rfl

/-- The latch of the safe state is as it was set. -/
theorem Chip.enterSafe_latched (c : Chip) : c.enterSafe.flag F.TMP_START_FAILS_safe_latched = c.flag F.TMP_START_FAILS_safe_latched := by
  rw [Chip.flag, Chip.enterSafe_rd c (by decide), Chip.rd, Chip.safeShown_word c (by decide) (by decide) (by decide), Chip.flag, Chip.rd]

/-! ## The rule of failed starts -/

/-- What a command that makes the start fail at step `n` comes to (R46, R47), clause by clause of O11. -/
def startFailsAs (s : State) (n : Nat) (i : Instr) : Prop :=
  (s.chip.halted = true → Goes i s fun c => c.rd F.MGT_START_STATUS_last_fail_step = n ∧ c.ao.fails = s.chip.failsNow ∧
    c.start = { s.chip.start with busy := false, todo := [], retry := false }) ∧
  (s.chip.halted = false → s.chip.liveNow < 3 → s.chip.rd F.MGT_START_STATUS_start_kind = 1 → Goes i s fun c =>
    c.rd F.MGT_START_STATUS_last_fail_step = n ∧ c.ao.fails = s.chip.failsNow ∧
      c.start = { s.chip.start with busy := false, todo := [], retry := true }) ∧
  (s.chip.halted = false → s.chip.liveNow < 3 → s.chip.rd F.MGT_START_STATUS_start_kind = 2 → Goes i s fun c =>
    c.begun 1 3 ∧ c.ao.fails = s.chip.failsNow) ∧
  (s.chip.halted = false → s.chip.liveNow < 3 → s.chip.rd F.MGT_START_STATUS_start_kind = 3 → Goes i s fun c =>
    c.begun 2 3 ∧ c.ao.fails = s.chip.failsNow) ∧
  (s.chip.halted = false → 3 ≤ s.chip.liveNow → Goes i s fun c => c.safe = true ∧ c.flag F.TMP_START_FAILS_safe_latched = true ∧
    c.start.busy = false ∧ c.ao.fails = s.chip.failsNow)

theorem startFailsAs_of_startFail {s : State} {n : Nat} {i : Instr} (hp : s.chip.power = true) (hn : n < 256)
    (hi : exec i s = s.act fun _ => s.chip.startFail n) : startFailsAs s n i := by
  have hgoes {P : Chip → Prop} {d : Chip} (hd : s.chip.startFail n = d) (hpow : d.power = true) (h : P d) : Goes i s P :=
    goes_act hi hp (by rw [hd]; exact hpow) (by rw [hd]; exact h)
  have hnoted : (s.chip.failNoted n).power = true := (Chip.failNoted_power _ _).trans hp
  have hended (retry : Bool) : ((s.chip.failNoted n).endStart retry).rd F.MGT_START_STATUS_last_fail_step = n ∧
      ((s.chip.failNoted n).endStart retry).ao.fails = s.chip.failsNow ∧
      ((s.chip.failNoted n).endStart retry).start = { s.chip.start with busy := false, todo := [], retry := retry } := by
    refine ⟨by rw [Chip.endStart_rd, Chip.failNoted_lastFail _ hn], by rw [Chip.endStart_ao, Chip.failNoted_fails], ?_⟩
    rw [Chip.endStart, Chip.failNoted_start]
  refine ⟨fun hhalt => ?_, fun hrun hlive hkind => ?_, fun hrun hlive hkind => ?_, fun hrun hlive hkind => ?_, fun hrun hlive => ?_⟩
  · exact hgoes (Chip.startFail_of_halted n hhalt) (by rw [Chip.endStart_power, hnoted]) (hended false)
  · exact hgoes (Chip.startFail_of_cold n hrun hlive hkind) (by rw [Chip.endStart_power, hnoted]) (hended true)
  · exact hgoes (Chip.startFail_of_warm n hrun hlive hkind) ((Chip.startNow_power _ _ _).trans hnoted)
      ⟨Chip.startNow_begun _ 1 3 hnoted (by decide), by rw [Chip.startNow_fails, Chip.failNoted_fails]⟩
  · exact hgoes (Chip.startFail_of_mgmt n hrun hlive hkind) ((Chip.startNow_power _ _ _).trans hnoted)
      ⟨Chip.startNow_begun _ 2 3 hnoted (by decide), by rw [Chip.startNow_fails, Chip.failNoted_fails]⟩
  · refine hgoes (Chip.startFail_of_safe n hrun hlive) (by rw [Chip.enterSafe_power, Chip.wr_power, hnoted])
      ⟨Chip.enterSafe_safe _, ?_, Chip.enterSafe_busy _, by rw [Chip.enterSafe_fails, Chip.wr_ao, Chip.failNoted_fails]⟩
    rw [Chip.enterSafe_latched]
    exact Chip.flag_wrb_same (s.chip.failNoted n) _ true (by decide) rfl

/-- A start that has failed is over, or it is a start of another kind. -/
theorem Chip.startFail_ends {c : Chip} (n : Nat) (hp : c.power = true) :
    (c.startFail n).start.busy = false ∨
      (c.startFail n).rd F.MGT_START_STATUS_start_kind ≠ c.rd F.MGT_START_STATUS_start_kind := by
  have hkind (k : Nat) (hk : k < 16) : ((c.failNoted n).startNow k causeEscalated).rd F.MGT_START_STATUS_start_kind = k := by
    obtain ⟨-, -, -, -, hkind, -⟩ := Chip.startNow_begun (c.failNoted n) k causeEscalated ((Chip.failNoted_power _ _).trans hp) hk
    exact hkind
  rw [Chip.startFail_eq]
  split_ifs with _ _ hmgmt hwarm
  · exact .inl rfl
  · exact .inl (Chip.enterSafe_busy _)
  · exact .inr (by rw [hkind _ (by decide), hmgmt]; decide)
  · exact .inr (by rw [hkind _ (by decide), hwarm]; decide)
  · exact .inl rfl

/-- A step that fails, or step 7 on memories that a scrub has found bad, fails the start. -/
theorem Chip.startStep_of_fail {c : Chip} {r : StepIn} {n : Nat} {rest : List Nat} (hp : c.power = true)
    (htodo : c.start.todo = n :: rest) (h : r.stepOk = false ∨ (n = 7 ∧ c.start.scrubBad = true)) : c.startStep r = c.startFail n := by
  unfold Chip.startStep
  rw [htodo]
  dsimp only
  cases hok : r.stepOk
  · rfl
  · obtain ⟨rfl, hbad⟩ : n = 7 ∧ c.start.scrubBad = true := by simpa [hok] using h
    have hd : c.doStep (c.rd F.MGT_START_STATUS_start_kind) 7 r = c.startFail 7 := by simp [Chip.doStep, hbad]
    rw [hd]
    rcases Chip.startFail_ends 7 hp with hbusy | hkind
    · simp [hbusy]
    · simp [hkind]

theorem startFailsRule_holds : startFailsRule := by
  intro s n rest hp hbusy htodo hn
  refine ⟨fun r hfail => ?_, fun hfinal => ?_, fun hfinal => ?_⟩
  · refine startFailsAs_of_startFail hp hn ?_
    change (s.act fun c => if c.start.busy then c.startStep r else c) = _
    simp only [State.act, hbusy, if_true, Chip.startStep_of_fail hp htodo hfail]
  · refine startFailsAs_of_startFail hp hn ?_
    change execStartTimeout s = _
    simp only [execStartTimeout, State.act, htodo, hbusy, hfinal, Bool.and_self, if_true]
  · refine goes_act (f := fun _ => s.chip) ?_ hp hp rfl
    change execStartTimeout s = _
    simp only [execStartTimeout, State.act, htodo, hbusy, hfinal, Bool.and_false, Bool.false_eq_true, if_false]

/-- Settles O11, by its two rules (R39, R46, R47): that a start that fails in halt leaves the part in halt, and what the safe state keeps,
are the model's reading (log entry 48); the time limit counts until the final step (log entry 60). -/
theorem startSteps : Obligations.StartSteps := ⟨startStepsRule_holds, startFailsRule_holds⟩

end Sys2Proof.Machine
end

section
/-! PROOFS of the family of the start, O14: the flash devices and the journal (R53, R54, R423). -/

namespace Sys2Proof.Machine

/-! ## Writes of flash -/

theorem Chip.flashGood_of_word {c d : Chip} (h : d.word R.MGT_FLASH_STATUS = c.word R.MGT_FLASH_STATUS) (f : Nat) :
    d.flashGood f = c.flashGood f := by
  have hrd (x : Fld) (hx : x.reg = R.MGT_FLASH_STATUS) : d.flag x = c.flag x := by
    rw [Chip.flag, Chip.rd, hx, h, Chip.flag, Chip.rd, hx]
  rw [Chip.flashGood, Chip.flashGood, hrd _ rfl, hrd _ rfl]

/-- A write of flash reaches every healthy device and nothing else. -/
theorem Chip.onFlash_eq (c : Chip) (g : Flash → Flash) :
    c.onFlash g = { c with
      flash0 := if c.flashGood 0 then g c.flash0 else c.flash0
      flash1 := if c.flashGood 1 then g c.flash1 else c.flash1 } := by
  have hgood1 : (if c.flashGood 0 then { c with flash0 := g c.flash0 } else c).flashGood 1 = c.flashGood 1 := by
    split <;> exact Chip.flashGood_of_word rfl 1
  unfold Chip.onFlash
  dsimp only
  rw [hgood1]
  split_ifs <;> rfl

/-- The count of erases changes nothing but the counts. -/
theorem Chip.countErase_eq (c : Chip) (d first n : Nat) : ∃ h, c.countErase d first n = { c with health := h } := ⟨_, rfl⟩

theorem Chip.countErases_eq (c : Chip) (first n : Nat) : ∃ h, c.countErases first n = { c with health := h } := by
  unfold Chip.countErases
  dsimp only
  split_ifs
  · exact ⟨_, rfl⟩
  · exact ⟨_, rfl⟩
  · exact ⟨_, rfl⟩
  · exact ⟨c.health, rfl⟩

/-! ## Failure and retry of a device -/

/-- The field of MGT_FLASH_STATUS that marks a device as failed. -/
def failedFld (d : Nat) : Fld := if d = 0 then F.MGT_FLASH_STATUS_dev0_failed else F.MGT_FLASH_STATUS_dev1_failed

theorem Chip.flashGood_eq (c : Chip) (d : Nat) : c.flashGood d = !c.flag (failedFld d) := by
  unfold Chip.flashGood failedFld
  split <;> rfl

/-- The marks of the two devices and of blocked persistence are bits of their own. -/
theorem failedFld_layout : ∀ d < 2, (failedFld d).inWord = true ∧ (failedFld d).w = 1 ∧ (failedFld d).reg = R.MGT_FLASH_STATUS ∧
    (failedFld d).apart (failedFld (1 - d)) = true ∧ F.MGT_FLASH_STATUS_persist_blocked.apart (failedFld d) = true := by decide

section

variable (c : Chip) {d : Nat} (hd : d < 2)

include hd

theorem Chip.flashGood_mark (failed : Bool) : (c.wrb (failedFld d) failed).flashGood d = !failed := by
  obtain ⟨hin, hw, -⟩ := failedFld_layout d hd
  rw [Chip.flashGood_eq, Chip.flag_wrb_same _ _ _ hin hw]

theorem Chip.flashGood_mark_other (failed : Bool) : (c.wrb (failedFld d) failed).flashGood (1 - d) = c.flashGood (1 - d) := by
  obtain ⟨hin, -, -, hapart, -⟩ := failedFld_layout d hd
  rw [Chip.flashGood_eq, Chip.flag, Chip.wrb, Chip.rd_wr_apart _ _ _ _ hin hapart, Chip.flashGood_eq, Chip.flag]

theorem Chip.flashGood_block (b : Bool) : (c.wrb F.MGT_FLASH_STATUS_persist_blocked b).flashGood d = c.flashGood d := by
  obtain ⟨-, -, -, -, hblock⟩ := failedFld_layout d hd
  rw [Chip.flashGood_eq, Chip.flag, Chip.wrb, Chip.rd_wr_apart _ _ _ _ (by decide) hblock, Chip.flashGood_eq, Chip.flag]

end

/-- The flash devices as the part shows them, with device `d` marked and persistence blocked or not. -/
def Chip.flashMarked (c : Chip) (d : Nat) (failed blocked : Bool) : Chip :=
  (c.wrb (failedFld d) failed).wrb F.MGT_FLASH_STATUS_persist_blocked blocked

theorem Chip.flashMarked_shows (c : Chip) {d : Nat} (hd : d < 2) (failed blocked : Bool) :
    (c.flashMarked d failed blocked).flashGood d = (!failed) ∧
      (c.flashMarked d failed blocked).flashGood (1 - d) = c.flashGood (1 - d) ∧
      (c.flashMarked d failed blocked).persistBlocked = blocked := by
  refine ⟨?_, ?_, Chip.flag_wrb_same _ _ _ (by decide) rfl⟩
  · rw [Chip.flashMarked, Chip.flashGood_block _ hd, Chip.flashGood_mark _ hd]
  · rw [Chip.flashMarked, Chip.flashGood_block _ (by omega), Chip.flashGood_mark_other _ hd]

theorem Chip.flashMarked_noted (c : Chip) {d : Nat} (hd : d < 2) (failed blocked : Bool) :
    Chip.noted c (c.flashMarked d failed blocked) [R.MGT_FLASH_STATUS] := by
  obtain ⟨-, -, hreg, -⟩ := failedFld_layout d hd
  exact (Chip.noted_wr _ _ _ (by simp [hreg])).wr _ _ (by decide)

/-- A record, with its attention or without, leaves what the part shows of its flash devices. -/
theorem Chip.flashShown_of_noted {c d : Chip} (h : Chip.noted c d []) (f : Nat) :
    d.flashGood f = c.flashGood f ∧ d.persistBlocked = c.persistBlocked := by
  obtain ⟨-, -, -, -, hword⟩ := h
  have hstatus := hword R.MGT_FLASH_STATUS (by decide) (by decide)
  refine ⟨Chip.flashGood_of_word hstatus f, ?_⟩
  exact congrArg (fun w => F.MGT_FLASH_STATUS_persist_blocked.get w != 0) hstatus

theorem Chip.flashFailed_eq {c : Chip} {d : Nat} (hd : d < 2) (hgood : c.flashGood d = true) :
    c.flashFailed d = (c.flashMarked d true (!c.flashGood (1 - d))).alert Sub.mgmt.n 0x14 d
      ((c.flashMarked d true (!c.flashGood (1 - d))).word R.MGT_FLASH_STATUS).toNat := by
  have hblocked : (!(c.wrb (failedFld d) true).flashGood 0 && !(c.wrb (failedFld d) true).flashGood 1) = !c.flashGood (1 - d) := by
    have hmark := Chip.flashGood_mark c hd true
    have hother := Chip.flashGood_mark_other c hd true
    have hcases : d = 0 ∨ d = 1 := by omega
    rcases hcases with rfl | rfl
    · rw [hmark, hother]; rfl
    · rw [hmark, hother, Bool.and_comm]; rfl
  have hmark : c.wr (if d = 0 then F.MGT_FLASH_STATUS_dev0_failed else F.MGT_FLASH_STATUS_dev1_failed) 1 = c.wrb (failedFld d) true := rfl
  rw [Chip.flashFailed, if_neg (by simp [hgood])]
  dsimp only
  rw [hmark, hblocked, Chip.flashMarked]

/-- A device that fails is marked, and persistence is blocked when the other has failed too. -/
theorem goes_flashDeviceFail {s : State} {d : Nat} (hd : d < 2) (hp : s.chip.power = true) (hgood : s.chip.flashGood d = true) :
    Goes (.flashDeviceFail d) s fun c => c.flashGood d = false ∧ c.flashGood (1 - d) = s.chip.flashGood (1 - d) ∧
      c.persistBlocked = (!s.chip.flashGood (1 - d)) ∧ Chip.noted s.chip c [R.MGT_FLASH_STATUS] := by
  have hfailed := Chip.flashFailed_eq hd hgood
  obtain ⟨hmark, hother, hblocked⟩ := Chip.flashMarked_shows s.chip hd true (!s.chip.flashGood (1 - d))
  have hnoted := Chip.flashMarked_noted s.chip hd true (!s.chip.flashGood (1 - d))
  revert hfailed hmark hother hblocked hnoted
  generalize s.chip.flashMarked d true (!s.chip.flashGood (1 - d)) = m
  intro hfailed hmark hother hblocked hnoted
  have hshown := Chip.flashShown_of_noted (Chip.noted_alert m Sub.mgmt.n 0x14 d (m.word R.MGT_FLASH_STATUS).toNat [])
  have hall := hnoted.alert Sub.mgmt.n 0x14 d (m.word R.MGT_FLASH_STATUS).toNat
  refine goes_actOn rfl (decide_eq_true hd) hp ?_ ?_
  · rw [hfailed]
    exact (congrArg Chip.power hall.1).trans hp
  · rw [hfailed]
    exact ⟨(hshown d).1.trans hmark, (hshown (1 - d)).1.trans hother, (hshown d).2.trans hblocked, hall⟩

/-- Device 0 holds what device 1 holds, and the erases of its sectors are counted. -/
def Chip.copiedFrom1 (c : Chip) (h : Health) : Chip := { c with health := h, flash0 := c.flash1 }

theorem Chip.flashBack_0_eq {c : Chip} (hgood : c.flashGood 1 = true) :
    ∃ h, c.flashBack 0 = ((c.copiedFrom1 h).flashMarked 0 false false).record Sub.mgmt.n 0x14 0 0
      (((c.copiedFrom1 h).flashMarked 0 false false).word R.MGT_FLASH_STATUS).toNat := by
  obtain ⟨h, hcount⟩ := Chip.countErase_eq c 0 0 512
  refine ⟨h, ?_⟩
  unfold Chip.flashBack
  simp only [hgood, hcount, Bool.not_true, Bool.false_eq_true, if_false, if_true]
  rw [Chip.copiedFrom1, Chip.flashMarked, failedFld, if_pos rfl]
  rfl

/-- Device 0, once it passes its retry, holds what device 1 holds. -/
theorem goes_flashRetry_0 {s : State} (hp : s.chip.power = true) (hfw : s.chip.firmware = true) (hbad : s.chip.flashGood 0 = false)
    (hgood : s.chip.flashGood 1 = true) :
    Goes (.flashRetry 0 true) s fun c =>
      c.flashGood 0 = true ∧ c.persistBlocked = false ∧ c.flash0.half0 = s.chip.flash1.half0 ∧ c.flash0.half1 = s.chip.flash1.half1 ∧
        c.flash0.slot0 = s.chip.flash1.slot0 ∧ c.flash0.slot1 = s.chip.flash1.slot1 ∧ c.flash0.history = s.chip.flash1.history ∧
        { c.flash1 with flushRun := s.chip.flash1.flushRun } = s.chip.flash1 := by
  obtain ⟨h, hback⟩ := Chip.flashBack_0_eq hgood
  obtain ⟨hmark, -, hblocked⟩ := Chip.flashMarked_shows (s.chip.copiedFrom1 h) (d := 0) (by decide) false false
  have hflash0 : ((s.chip.copiedFrom1 h).flashMarked 0 false false).flash0 = s.chip.flash1 := by
    rw [Chip.flashMarked, Chip.wrb_flash0, Chip.wrb_flash0, Chip.copiedFrom1]
  have hflash1 : ((s.chip.copiedFrom1 h).flashMarked 0 false false).flash1 = s.chip.flash1 := by
    rw [Chip.flashMarked, Chip.wrb_flash1, Chip.wrb_flash1, Chip.copiedFrom1]
  have hpow : ((s.chip.copiedFrom1 h).flashMarked 0 false false).power = s.chip.power := by
    rw [Chip.flashMarked, Chip.wrb_power, Chip.wrb_power, Chip.copiedFrom1]
  revert hback hmark hblocked hflash0 hflash1 hpow
  generalize (s.chip.copiedFrom1 h).flashMarked 0 false false = m
  intro hback hmark hblocked hflash0 hflash1 hpow
  have hrec := Chip.noted_record m Sub.mgmt.n 0x14 0 0 (m.word R.MGT_FLASH_STATUS).toNat []
  have hshown := Chip.flashShown_of_noted hrec 0
  obtain ⟨-, -, -, hkept, -⟩ := hrec
  refine goes_act (f := fun _ => s.chip.flashBack 0) ?_ hp ?_ ?_
  · change (s.act fun c => if c.firmware && true && !c.flashGood 0 then c.flashBack 0 else c) = _
    simp only [State.act, hfw, hbad, Bool.and_self, Bool.not_false, if_true]
  · rw [hback, Chip.record_power, hpow, hp]
  · rw [hback]
    refine ⟨hshown.1.trans hmark, hshown.2.trans hblocked, ?_, ?_, ?_, ?_, ?_, by rw [← hflash1]; exact hkept⟩
    · rw [Chip.record_flash0_half0, hflash0]
    · rw [Chip.record_flash0_half1, hflash0]
    · rw [Chip.record_flash0_slot0, hflash0]
    · rw [Chip.record_flash0_slot1, hflash0]
    · rw [Chip.record_flash0_history, hflash0]

theorem flashDevicesRule_holds : flashDevicesRule := fun _ hp =>
  ⟨fun hgood => goes_flashDeviceFail (d := 0) (by decide) hp hgood, fun hgood => goes_flashDeviceFail (d := 1) (by decide) hp hgood,
    fun hfw hbad hgood => goes_flashRetry_0 hp hfw hbad hgood⟩

/-! ## The journal -/

theorem Chip.beginOrdered_of_none {c : Chip} (h : c.start.ordered = 0) : c.beginOrdered = c := by
  simp [Chip.beginOrdered, h]

/-- Only an entry that keeps a PN ahead of need sets something besides flash when it is committed. -/
theorem Chip.committed_of_ne {c : Chip} {op : JOp} (h : ∀ i v, op ≠ .pnCeiling i v) : c.committed op = c := by
  cases op with
  | pnCeiling i v => exact absurd rfl (h i v)
  | _ => rfl

/-- The oldest waiting entry, which answers no mailbox, leaves the queue: onto every healthy device, or unwritten while both are failed. -/
theorem Chip.commitEntry_of_cons {c : Chip} {e : JEntry} {es : List JEntry} (hq : c.jpend = e :: es) (hfn : 2 ≤ e.fn)
    (hop : ∀ i v, e.op ≠ .pnCeiling i v) :
    c.commitEntry = { c with
      jpend := es
      flash0 := if !c.persistBlocked && c.flashGood 0 then c.flash0.journal c.jhalf e else c.flash0
      flash1 := if !c.persistBlocked && c.flashGood 1 then c.flash1.journal c.jhalf e else c.flash1 } := by
  have hblocked : ({ c with jpend := es } : Chip).persistBlocked = c.persistBlocked := rfl
  have hgood (f : Nat) : ({ c with jpend := es } : Chip).flashGood f = c.flashGood f := Chip.flashGood_of_word rfl f
  unfold Chip.commitEntry
  rw [hq]
  dsimp only
  rw [if_pos (by omega), hblocked, Chip.onFlash_eq, Chip.committed_of_ne hop, hgood, hgood]
  cases c.persistBlocked <;> rfl

/-- A full half 0 goes into half 1 as a snapshot, on both devices. -/
theorem Chip.compact_of_half0 {c : Chip} (hopen : c.persistBlocked = false) (hgood0 : c.flashGood 0 = true)
    (hgood1 : c.flashGood 1 = true) (hhalf : c.jhalf = 0) :
    ∃ h, c.compact = { c with
      jhalf := 1, health := h
      flash0 := { c.flash0 with half1 := netEntries c.flash0.half0, half0 := [] }
      flash1 := { c.flash1 with half1 := netEntries c.flash1.half0, half0 := [] } } := by
  obtain ⟨h, hcount⟩ := Chip.countErases_eq (c.onFlash fun f =>
    if c.jhalf = 0 then { f with half1 := netEntries f.half0, half0 := [] } else { f with half0 := netEntries f.half1, half1 := [] })
    (400 + 32 * c.jhalf) 32
  refine ⟨h, ?_⟩
  unfold Chip.compact
  rw [if_neg (by simp [hopen])]
  dsimp only
  rw [hcount, Chip.onFlash_eq, hgood0, hgood1, hhalf]
  rfl

theorem journalRule_holds : journalRule := by
  intro s e es hp hordered
  refine ⟨fun hq hfn hop => ?_, fun hopen hgood0 hgood1 hhalf => ?_⟩
  · have hd := Chip.commitEntry_of_cons hq hfn hop
    have hexec : exec .journalCommit s = s.act fun _ => s.chip.commitEntry := by
      change s.act (fun c => c.commitEntry.beginOrdered) = _
      have hnone : s.chip.commitEntry.start.ordered = 0 := by rw [hd]; exact hordered
      simp only [State.act, Chip.beginOrdered_of_none hnone]
    refine goes_act hexec hp (by rw [hd]; exact hp) ?_
    rw [hd]
    exact ⟨rfl, rfl, rfl, rfl⟩
  · obtain ⟨h, hd⟩ := Chip.compact_of_half0 hopen hgood0 hgood1 hhalf
    refine goes_act (f := Chip.compact) rfl hp (by rw [hd]; exact hp) ?_
    rw [hd]
    exact ⟨rfl, rfl, rfl, rfl, rfl, rfl, rfl, rfl⟩

/-- Settles O14, by its two rules (R53, R54, R423): that an entry is dropped unwritten while both devices are failed, and what the snapshot of
a compaction holds, are the model's reading (log entries 19 and 54). -/
theorem flashAndJournal : Obligations.FlashAndJournal := ⟨flashDevicesRule_holds, journalRule_holds⟩

end Sys2Proof.Machine
end

section
/-! PROOFS of the family of the start, O48: the mailbox commands of the always-on domain, of the access units and of the starts (R49,
R410, R461, R469). -/

namespace Sys2Proof.Machine

/-! ## Short commands that change nothing of their mailbox -/

theorem Chip.mbSame_refl (f : Nat) (c : Chip) : Chip.mbSame f c c := ⟨rfl, fun _ _ => rfl, fun _ _ _ => rfl⟩

theorem Chip.fn_le_of_accepts {c : Chip} {h : Mb} {k : CmdClass} (hacc : c.mbAccepts h k) : h.fn ≤ 1 := by
  obtain ⟨-, hready, -⟩ := hacc
  simp only [Chip.mbReady, Bool.and_eq_true, decide_eq_true_eq] at hready
  obtain ⟨⟨⟨⟨hfn, -⟩, -⟩, -⟩, -⟩ := hready
  exact hfn

/-- An accepted command whose own rule writes no register of the mailboxes is served, and leaves what its rule does. -/
theorem did_of {i : Instr} {s : State} {h : Mb} {k : CmdClass} {body : Chip → Chip × Answer} {d : Chip} {a : Answer} {P : Chip → Prop}
    (hexec : exec i s = s.act fun c => c.mbRun h k body) (hacc : s.chip.mbAccepts h k) (hbody : body (s.chip.mbStarted h) = (d, a))
    (hpow : d.power = true) (hlow : ∀ x < 0x204, d.word x = (s.chip.mbStarted h).word x) (hP : P d) :
    Did i s h (a.shown k) (a.shownResult k) a.jop.toList P := by
  have hfn := Chip.fn_le_of_accepts hacc
  refine ⟨d, served_of hexec hacc (by rw [hbody]) (by rw [hbody]; exact Chip.mbSame_refl _ _) hpow (fun x hx => ?_) (by rw [hbody]), hP⟩
  rw [hbody]
  refine hlow x ?_
  simp only [R.HST_MB_CONS, R.HST_MB_LAST_SEQ, List.mem_cons, List.not_mem_nil, or_false] at hx
  omega

/-- An accepted command that its own rule refuses changes nothing. -/
theorem served_of_refuse {i : Instr} {s : State} {h : Mb} {k : CmdClass} {body : Chip → Chip × Answer} {code : Nat}
    (hexec : exec i s = s.act fun c => c.mbRun h k body) (hacc : s.chip.mbAccepts h k) (hcode : code ≠ Code.ok)
    (hbody : body (s.chip.mbStarted h) = refuse (s.chip.mbStarted h) code) : Served i s h (s.chip.mbStarted h) (some code) 0 [] := by
  obtain ⟨hpow, -⟩ := id hacc
  have hshown : ({ code := code } : Answer).shown k = some code := by simp [Answer.shown, hcode]
  obtain ⟨d, hserved, rfl⟩ := did_of (P := (· = s.chip.mbStarted h)) hexec hacc hbody hpow (fun _ _ => rfl) rfl
  rw [Answer.shownResult, hshown] at hserved
  exact hserved

/-! ## TAMPER_LOG_CLEAR (R410) -/

/-- The part with an empty tamper log. -/
def Chip.logCleared (c : Chip) : Chip :=
  (({ c with ao := { c.ao with log := [], pinned := none } } : Chip).wr F.TMP_STATUS_log_count 0).wr F.TMP_STATUS_log_newest 0

theorem Chip.onlyRegs_logCleared (c : Chip) : Chip.onlyRegs { c with ao := c.logCleared.ao } c.logCleared [R.TMP_STATUS] :=
  (Chip.onlyRegs_wr { c with ao := { c.ao with log := [], pinned := none } } F.TMP_STATUS_log_count 0).trans (Chip.onlyRegs_wr _ F.TMP_STATUS_log_newest 0)

theorem Chip.logCleared_shows (c : Chip) : c.logCleared.rd F.TMP_STATUS_log_count = 0 ∧ c.logCleared.rd F.TMP_STATUS_log_newest = 0 := by
  constructor
  · rw [Chip.logCleared, Chip.rd_wr_apart _ _ _ _ (by decide) (by decide), Chip.rd_wr_same _ _ _ (by decide), Nat.zero_mod]
  · rw [Chip.logCleared, Chip.rd_wr_same _ _ _ (by decide), Nat.zero_mod]

/-- The rule of TAMPER_LOG_CLEAR. -/
def Chip.clearLog (c : Chip) : Chip × Answer :=
  if c.flag F.TMP_STATUS_tamper_latch then refuse c Code.busy else (c.logCleared, {})

theorem exec_tamperLogClear (h : Mb) (s : State) :
    exec (.tamperLogClear h) s = s.act fun c => c.mbRun h { opcode := 0x0005 } Chip.clearLog := rfl

section

variable {s : State} {h : Mb} (htaken : taken h (.tamperLogClear h) s)

include htaken

theorem accepts_of_tamperLogClear : s.chip.mbAccepts h { opcode := 0x0005 } := by
  obtain ⟨k, hk, hacc⟩ := htaken
  cases hk
  exact hacc

theorem latch_of_tamperLogClear : (s.chip.mbStarted h).flag F.TMP_STATUS_tamper_latch = s.chip.flag F.TMP_STATUS_tamper_latch :=
  Chip.mbStarted_flag_high _ _ (Chip.fn_le_of_accepts (accepts_of_tamperLogClear htaken)) _ (by decide)

theorem tamperLogClear_of_latched (hlatch : s.chip.flag F.TMP_STATUS_tamper_latch = true) :
    Served (.tamperLogClear h) s h (s.chip.mbStarted h) (some Code.busy) 0 [] := by
  have hbusy : (s.chip.mbStarted h).clearLog = refuse (s.chip.mbStarted h) Code.busy := by
    rw [Chip.clearLog, latch_of_tamperLogClear htaken, hlatch, if_pos rfl]
  exact served_of_refuse (exec_tamperLogClear h s) (accepts_of_tamperLogClear htaken) (by decide) hbusy

theorem tamperLogClear_of_unlatched (hlatch : s.chip.flag F.TMP_STATUS_tamper_latch = false) :
    Did (.tamperLogClear h) s h (some Code.ok) 0 [] fun d =>
      d.ao = { s.chip.ao with log := [], pinned := none } ∧ d.rd F.TMP_STATUS_log_count = 0 ∧ d.rd F.TMP_STATUS_log_newest = 0 ∧
        Chip.onlyRegs { s.chip.mbStarted h with ao := d.ao } d [R.TMP_STATUS] := by
  have hacc := accepts_of_tamperLogClear htaken
  have hclear : (s.chip.mbStarted h).clearLog = ((s.chip.mbStarted h).logCleared, {}) := by
    rw [Chip.clearLog, latch_of_tamperLogClear htaken, hlatch, if_neg Bool.false_ne_true]
  have honly := Chip.onlyRegs_logCleared (s.chip.mbStarted h)
  have hpow : (s.chip.mbStarted h).logCleared.power = true := honly.power.trans hacc.1
  have hao : (s.chip.mbStarted h).logCleared.ao = { s.chip.ao with log := [], pinned := none } := rfl
  obtain ⟨hcount, hnewest⟩ := Chip.logCleared_shows (s.chip.mbStarted h)
  refine did_of (a := {}) (exec_tamperLogClear h s) hacc hclear hpow (fun x hx => ?_) ⟨hao, hcount, hnewest, honly⟩
  refine honly.2 x ?_
  rw [List.mem_singleton, R.TMP_STATUS]
  omega

end

/-! ## ACU_WRITE (R469) -/

/-- The part with a region set and its unit marked as narrowed. -/
def Chip.regionSet (c : Chip) (u r size sub perm base : Nat) : Chip := (c.setRegion u r size sub perm base).wr (F.ACU_STATUS_narrowed u) 1

/-- What a region allows lies apart from its base and from its unit's status. -/
theorem acu_regs_ne (u : Nat) {r : Nat} (hr : r ≤ 15) :
    R.ACU_REGION_CFG u r ≠ R.ACU_REGION_BASE u r ∧ R.ACU_STATUS u ≠ R.ACU_REGION_BASE u r ∧ R.ACU_STATUS u ≠ R.ACU_REGION_CFG u r := by
  simp only [R.ACU_REGION_CFG, R.ACU_REGION_BASE, R.ACU_STATUS]
  omega

theorem Chip.onlyRegs_regionSet (c : Chip) (u r size sub perm base : Nat) :
    Chip.onlyRegs c (c.regionSet u r size sub perm base) [R.ACU_REGION_BASE u r, R.ACU_REGION_CFG u r, R.ACU_STATUS u] := by
  have hwrite (d : Chip) (x : Fld) (v : Nat) (hx : x.reg ∈ [R.ACU_REGION_BASE u r, R.ACU_REGION_CFG u r, R.ACU_STATUS u]) :
      Chip.onlyRegs d (d.wr x v) [R.ACU_REGION_BASE u r, R.ACU_REGION_CFG u r, R.ACU_STATUS u] :=
    (Chip.onlyRegs_wr d x v).mono (by simpa using hx)
  refine ((((hwrite c (F.ACU_REGION_BASE_base u r) _ ?_).trans (hwrite _ (F.ACU_REGION_CFG_size_log2 u r) _ ?_)).trans
    (hwrite _ (F.ACU_REGION_CFG_sub_disable u r) _ ?_)).trans (hwrite _ (F.ACU_REGION_CFG_perm u r) _ ?_)).trans
    (hwrite _ (F.ACU_STATUS_narrowed u) _ ?_) <;>
  simp [F.ACU_REGION_BASE_base, F.ACU_REGION_CFG_size_log2, F.ACU_REGION_CFG_sub_disable, F.ACU_REGION_CFG_perm, F.ACU_STATUS_narrowed]

theorem Chip.regionSet_shows (c : Chip) {u r size sub perm base : Nat} (hr : r ≤ 15) (hsize : size < 32) (hsub : sub < 256)
    (hperm : perm < 8) :
    (c.regionSet u r size sub perm base).rd (F.ACU_REGION_BASE_base u r) = base % 2 ^ 32 ∧
      (c.regionSet u r size sub perm base).rd (F.ACU_REGION_CFG_size_log2 u r) = size ∧
      (c.regionSet u r size sub perm base).rd (F.ACU_REGION_CFG_sub_disable u r) = sub ∧
      (c.regionSet u r size sub perm base).rd (F.ACU_REGION_CFG_perm u r) = perm ∧
      (c.regionSet u r size sub perm base).flag (F.ACU_STATUS_narrowed u) = true := by
  obtain ⟨hcfg, hstatus, hstatus'⟩ := acu_regs_ne u hr
  have hother (d : Chip) (x y : Fld) (v : Nat) (hne : y.reg ≠ x.reg) : (d.wr x v).rd y = d.rd y := Chip.rd_wr_other _ _ _ _ hne
  unfold Chip.regionSet Chip.setRegion
  dsimp only
  refine ⟨?_, ?_, ?_, ?_, Chip.flag_wrb_same _ (F.ACU_STATUS_narrowed u) true rfl rfl⟩
  · rw [hother _ _ _ _ hstatus.symm, hother _ _ _ _ hcfg.symm, hother _ _ _ _ hcfg.symm, hother _ _ _ _ hcfg.symm]
    exact Chip.rd_wr_same _ _ _ rfl
  · rw [hother _ _ _ _ hstatus'.symm, Chip.rd_wr_apart _ _ _ _ rfl (by simp [Fld.apart, F.ACU_REGION_CFG_perm, F.ACU_REGION_CFG_size_log2]),
      Chip.rd_wr_apart _ _ _ _ rfl (by simp [Fld.apart, F.ACU_REGION_CFG_sub_disable, F.ACU_REGION_CFG_size_log2])]
    exact (Chip.rd_wr_same _ _ _ rfl).trans (Nat.mod_eq_of_lt hsize)
  · rw [hother _ _ _ _ hstatus'.symm, Chip.rd_wr_apart _ _ _ _ rfl (by simp [Fld.apart, F.ACU_REGION_CFG_perm, F.ACU_REGION_CFG_sub_disable])]
    exact (Chip.rd_wr_same _ _ _ rfl).trans (Nat.mod_eq_of_lt hsub)
  · rw [hother _ _ _ _ hstatus'.symm]
    exact (Chip.rd_wr_same _ _ _ rfl).trans (Nat.mod_eq_of_lt hperm)

/-- The fields of a region that R466 allows fit. -/
theorem regionOk_bounds {size sub perm base : Nat} (hok : regionOk size sub perm base = true) : size < 32 ∧ sub < 256 ∧ perm < 8 := by
  simp only [regionOk, Bool.and_eq_true, Bool.or_eq_true, decide_eq_true_eq, beq_iff_eq] at hok
  omega

section

variable {s : State} {h : Mb} {u r size sub perm base : Nat} (hu : u ≤ 2) (hr : r ≤ 15) (hok : regionOk size sub perm base = true)

include hu hr hok

theorem Chip.acuWrite_of_ok (c : Chip) :
    c.acuWrite u r size sub perm base =
      if (List.range 4096).any (fun k => c.widens (c.setRegion u r size sub perm base) u k) then refuse c Code.denied
      else (c.regionSet u r size sub perm base, {}) := by
  have hrange : (decide (2 < u) || decide (15 < r) || !regionOk size sub perm base) = false := by
    simp only [hok, Bool.not_true, Bool.or_false, Bool.or_eq_false_iff, decide_eq_false_iff_not]
    omega
  rw [Chip.acuWrite, hrange, if_neg Bool.false_ne_true]
  dsimp only
  rw [Chip.regionSet]

variable (htaken : taken h (.acuWrite h u r size sub perm base) s)

include htaken

theorem acuWrite_of_widening
    (hwide : (List.range 4096).any (fun k => (s.chip.mbStarted h).widens ((s.chip.mbStarted h).setRegion u r size sub perm base) u k) = true) :
    Served (.acuWrite h u r size sub perm base) s h (s.chip.mbStarted h) (some Code.denied) 0 [] := by
  obtain ⟨k, hk, hacc⟩ := htaken
  cases hk
  exact served_of_refuse rfl hacc (by decide) ((Chip.acuWrite_of_ok hu hr hok _).trans (if_pos hwide))

theorem acuWrite_of_narrowing
    (hwide : (List.range 4096).any (fun k => (s.chip.mbStarted h).widens ((s.chip.mbStarted h).setRegion u r size sub perm base) u k) = false) :
    Did (.acuWrite h u r size sub perm base) s h (some Code.ok) 0 [] fun d =>
      d.rd (F.ACU_REGION_BASE_base u r) = base % 2 ^ 32 ∧ d.rd (F.ACU_REGION_CFG_size_log2 u r) = size ∧
        d.rd (F.ACU_REGION_CFG_sub_disable u r) = sub ∧ d.rd (F.ACU_REGION_CFG_perm u r) = perm ∧
        d.flag (F.ACU_STATUS_narrowed u) = true ∧
        Chip.onlyRegs (s.chip.mbStarted h) d [R.ACU_REGION_BASE u r, R.ACU_REGION_CFG u r, R.ACU_STATUS u] := by
  obtain ⟨k, hk, hacc⟩ := htaken
  cases hk
  obtain ⟨hpow, -⟩ := id hacc
  obtain ⟨hsize, hsub, hperm⟩ := regionOk_bounds hok
  obtain ⟨hshowBase, hshowSize, hshowSub, hshowPerm, hshowUnit⟩ := Chip.regionSet_shows (s.chip.mbStarted h) (u := u) (base := base) hr hsize hsub hperm
  have honly := Chip.onlyRegs_regionSet (s.chip.mbStarted h) u r size sub perm base
  refine did_of (a := {}) (k := { opcode := 0x0006 }) rfl hacc ((Chip.acuWrite_of_ok hu hr hok _).trans (if_neg (by simp [hwide])))
    (honly.power.trans hpow) (fun x hx => ?_) ⟨hshowBase, hshowSize, hshowSub, hshowPerm, hshowUnit, honly⟩
  refine honly.2 x ?_
  simp only [R.ACU_REGION_CFG, R.ACU_REGION_BASE, R.ACU_STATUS, List.mem_cons, List.not_mem_nil, or_false]
  omega

end

/-! ## START_FAIL_CLEAR (R49) -/

theorem startFailClear_asks {s : State} {h : Mb} (htaken : taken h (.startFailClear h) s) :
    Did (.startFailClear h) s h (some Code.ok) 0 [] fun d =>
      d = { s.chip.mbStarted h with ao := { (s.chip.mbStarted h).ao with failClear := true } } := by
  obtain ⟨k, hk, hacc⟩ := htaken
  cases hk
  obtain ⟨hpow, -⟩ := id hacc
  exact did_of (a := {}) (k := { opcode := 0x0106, safe := true, halt := true }) rfl hacc rfl hpow (fun _ _ => rfl) rfl

/-! ## What a start keeps -/

@[simp] theorem Chip.defaultClasses_data (c : Chip) : c.defaultClasses.data = c.data :=
  foldl_keeps (view := Chip.data) (fun _ _ => Chip.wr_data _ _ _) _ c

@[simp] theorem Chip.defaultClasses_vault (c : Chip) : c.defaultClasses.vault = c.vault :=
  foldl_keeps (view := Chip.vault) (fun _ _ => Chip.wr_vault _ _ _) _ c

/-- The reset of a cold start leaves nothing of the datapath and of the vault. -/
theorem Chip.coldReset_empties (c : Chip) : c.coldReset.data = {} ∧ c.coldReset.vault = {} := by
  have hdata : c.coldKept.defaultClasses.data = {} := by rw [Chip.defaultClasses_data, Chip.coldKept]
  have hvault : c.coldKept.defaultClasses.vault = {} := by rw [Chip.defaultClasses_vault, Chip.coldKept]
  unfold Chip.coldReset
  revert hdata hvault
  generalize c.coldKept.defaultClasses = d
  intro hdata hvault
  dsimp only
  split
  · rw [Chip.wr_data, Chip.setWord_data, Chip.sat32_data, Chip.wr_vault, Chip.setWord_vault, Chip.sat32_vault]
    exact ⟨hdata, hvault⟩
  · rw [Chip.setWord_data, Chip.sat32_data, Chip.setWord_vault, Chip.sat32_vault]
    exact ⟨hdata, hvault⟩

/-- What a start that is not cold keeps of the part, but for the time base. -/
def Chip.heldBy (d c : Chip) : Prop := d.data = c.data ∧ d.keys = c.keys ∧ d.vault = c.vault

theorem Chip.freshStart_heldBy (c : Chip) : c.freshStart.heldBy c ∧ c.freshStart.time = c.time := by
  unfold Chip.freshStart Chip.heldBy
  simp

theorem Chip.startNow_fresh (c : Chip) (kind cause : Nat) :
    (c.startNow kind cause).heldBy (c.startFresh kind) ∧ (c.startNow kind cause).time = (c.startFresh kind).time := by
  rw [Chip.startNow_eq]
  simp [Chip.heldBy]

theorem Chip.startNow_cold_empties (c : Chip) (cause : Nat) : (c.startNow coldKind cause).data = {} ∧ (c.startNow coldKind cause).vault = {} := by
  obtain ⟨⟨hdata, -, hvault⟩, -⟩ := Chip.startNow_fresh c coldKind cause
  obtain ⟨⟨hdata', -, hvault'⟩, -⟩ := Chip.freshStart_heldBy (c.startArmed coldKind)
  obtain ⟨hempty, hempty'⟩ := Chip.coldReset_empties c
  exact ⟨(hdata.trans hdata').trans hempty, (hvault.trans hvault').trans hempty'⟩

theorem Chip.startNow_warm_keeps (c : Chip) (cause : Nat) :
    (c.startNow warmKind cause).heldBy c ∧ (c.startNow warmKind cause).time = c.time := by
  obtain ⟨⟨hdata, hkeys, hvault⟩, htime⟩ := Chip.startNow_fresh c warmKind cause
  obtain ⟨⟨hdata', hkeys', hvault'⟩, htime'⟩ := Chip.freshStart_heldBy (c.startArmed warmKind)
  exact ⟨⟨hdata.trans hdata', hkeys.trans hkeys', hvault.trans hvault'⟩, htime.trans htime'⟩

theorem Chip.startNow_mgmt_keeps (c : Chip) (cause : Nat) : (c.startNow mgmtKind cause).heldBy c := (Chip.startNow_fresh c mgmtKind cause).1

/-! ## The start commands (R461) -/

/-- The class of a start command. -/
def startClass (opcode : Nat) : CmdClass := { opcode := opcode, safe := true, halt := true }

/-- The part that a start command leaves before the start begins. -/
def Chip.startOrdered (c : Chip) (h : Mb) (opcode kind : Nat) : Chip := c.mbRun h (startClass opcode) fun c => c.orderStart kind

theorem Chip.drainReplies_ready (c : Chip) (f : Nat) {r : Reply} {code result : Nat} (hans : r.answer = some (code, result)) :
    Chip.drainReplies f false [r] c = (c.sendReply f r code result, []) := by
  simp [Chip.drainReplies, hans]

theorem Chip.tableAdd_replies (c : Chip) (f : Nat) (d : Done) : ((c.tableAdd f d).mb f).replies = (c.mb f).replies := by
  rw [Chip.tableAdd, Chip.setMb_mb]

/-- A ready reply is written at once where no other waits. -/
theorem Chip.queueReply_replies {c : Chip} {f : Nat} {r : Reply} {code result : Nat} (hrep : (c.mb f).replies = [])
    (hans : r.answer = some (code, result)) : ((c.queueReply f r).mb f).replies = [] := by
  have hone : ((c.setMb f { c.mb f with replies := (c.mb f).replies ++ [r] }).mb f).replies = [r] := by
    rw [Chip.setMb_mb]
    exact congrArg (· ++ [r]) hrep
  rw [Chip.queueReply, Chip.flushReplies, hone, Chip.drainReplies_ready _ _ hans, Chip.setMb_mb]

/-- The reply of a command that succeeds without output. -/
def okReply (h : Mb) (k : CmdClass) : Reply :=
  { seq := h.seq, opcode := k.opcode, intr := h.intr, dup := false, answer := some (Code.ok, 0), outAddr := h.outAddr, writeFail := h.writeFail }

/-- A short command that succeeds enters the completion table, and its reply is ready. -/
theorem Chip.mbAnswer_of_short (c : Chip) (h : Mb) {k : CmdClass} (hshort : k.long = false) :
    c.mbAnswer h k {} = (c.tableAdd h.fn { seq := h.seq, code := some Code.ok }).queueReply h.fn (okReply h k) := by
  unfold Chip.mbAnswer
  simp only [hshort, Bool.false_and, Bool.false_eq_true, if_false]
  rw [okReply]

theorem Chip.mbAnswer_replies {c : Chip} {h : Mb} {k : CmdClass} (hshort : k.long = false) (hrep : (c.mb h.fn).replies = []) :
    ((c.mbAnswer h k {}).mb h.fn).replies = [] := by
  rw [Chip.mbAnswer_of_short c h hshort]
  exact Chip.queueReply_replies ((Chip.tableAdd_replies c h.fn _).trans hrep) rfl

/-- Only mailbox 0 takes commands that are not open to both functions. -/
theorem Chip.fn_eq_zero_of_accepts {c : Chip} {h : Mb} {k : CmdClass} (hacc : c.mbAccepts h k) (hpf1 : k.pf1 = false) : h.fn = 0 := by
  have hfn := Chip.fn_le_of_accepts hacc
  obtain ⟨-, -, -, -, hrefuse⟩ := hacc
  by_contra hne
  have hone : h.fn = 1 := by omega
  simp only [Chip.mbRefuse, hone, hpf1, Bool.not_false] at hrefuse
  split at hrefuse <;> cases hrefuse

theorem Chip.idle_of_accepts {c : Chip} {h : Mb} {k : CmdClass} (hacc : c.mbAccepts h k) : c.start.busy = false := by
  obtain ⟨-, hready, -⟩ := hacc
  simp only [Chip.mbReady, Chip.mbServed, Bool.and_eq_true, Bool.not_eq_true'] at hready
  obtain ⟨⟨⟨⟨-, ⟨-, hidle⟩, -⟩, -⟩, -⟩, -⟩ := hready
  exact hidle

section

variable {c : Chip} {h : Mb} {opcode kind : Nat} (hacc : c.mbAccepts h (startClass opcode)) (hord : c.start.ordered = 0)

include hacc

theorem Chip.startOrdered_replies (hrep : c.mb0.replies = []) : (c.startOrdered h opcode kind).mb0.replies = [] := by
  have hfn := Chip.fn_eq_zero_of_accepts hacc rfl
  have hbody : ((c.mbStarted h).orderStart kind).2 = {} := rfl
  have hnone : (((c.mbStarted h).orderStart kind).1.mb h.fn).replies = [] := by
    rw [hfn]
    exact hrep
  have hanswer := Chip.mbAnswer_replies (k := startClass opcode) rfl hnone
  rw [hfn] at hanswer
  rw [Chip.startOrdered, Chip.mbRun_accepted c h (startClass opcode) _ hacc, hbody]
  exact hanswer

include hord

/-- A start command leaves its order; its reply changes the mailbox alone. -/
theorem Chip.replied_startOrdered :
    Chip.replied h.fn { c.mbStarted h with start := { c.start with ordered := kind } } (c.startOrdered h opcode kind) := by
  have hbody : (c.mbStarted h).orderStart kind = ({ c.mbStarted h with start := { c.start with ordered := kind } }, {}) := by
    have hnone : (c.mbStarted h).start.ordered = 0 := hord
    rw [Chip.orderStart, if_pos hnone]
    rfl
  obtain ⟨hreplied, -⟩ := Chip.mbAnswer_spec { c.mbStarted h with start := { c.start with ordered := kind } } h (startClass opcode) {}
    (Chip.fn_le_of_accepts hacc)
  rw [Chip.startOrdered, Chip.mbRun_accepted c h (startClass opcode) _ hacc, hbody]
  exact hreplied

theorem Chip.startOrdered_keeps :
    (c.startOrdered h opcode kind).power = c.power ∧ (c.startOrdered h opcode kind).start = { c.start with ordered := kind } ∧
      (c.startOrdered h opcode kind).heldBy c ∧ (c.startOrdered h opcode kind).time = c.time ∧
      (c.startOrdered h opcode kind).halted = c.halted := by
  have hfn := Chip.fn_le_of_accepts hacc
  obtain ⟨hsame, hword, -⟩ := Chip.replied_startOrdered (kind := kind) hacc hord
  refine ⟨(congrArg Chip.power hsame :), (congrArg Chip.start hsame :), ⟨(congrArg Chip.data hsame :), (congrArg Chip.keys hsame :),
    (congrArg Chip.vault hsame :)⟩, (congrArg Chip.time hsame :), ?_⟩
  have hhalt : (c.startOrdered h opcode kind).word R.MGT_HALT = c.word R.MGT_HALT := by
    refine (hword R.MGT_HALT ?_).trans (Chip.mbStarted_word_high c h hfn _ (by decide))
    simp only [replyWords, R.HST_MB_RPROD, R.HST_MB_STATUS, R.HST_ATTN, R.HST_MSIX_PBA, R.MGT_HALT, List.mem_cons, List.not_mem_nil, or_false]
    omega
  exact congrArg (fun w => F.MGT_HALT_halted.get w != 0) hhalt

/-- The part as the ordered start begins. -/
def Chip.orderTaken (c : Chip) : Chip := { c with start := { c.start with ordered := 0 } }

/-- Once no reply waits the start begins that was ordered. -/
theorem Chip.beginOrdered_startOrdered (hrep : c.mb0.replies = []) (hkind : kind ≠ 0) (hrun : c.halted = false ∨ kind ≠ warmKind) :
    (c.startOrdered h opcode kind).beginOrdered = (c.startOrdered h opcode kind).orderTaken.startNow kind causeHost := by
  obtain ⟨-, hstart, -, -, hhalted⟩ := Chip.startOrdered_keeps (kind := kind) hacc hord
  have hreplies := Chip.startOrdered_replies (kind := kind) hacc hrep
  have hidle := Chip.idle_of_accepts hacc
  revert hstart hhalted hreplies
  generalize c.startOrdered h opcode kind = d
  intro hstart hhalted hreplies
  have hexit : d.orderTaken.exitKind kind = kind := by
    have hhalted' : d.orderTaken.halted = c.halted := hhalted
    rw [Chip.exitKind, hhalted', if_neg]
    rcases hrun with hrun | hrun <;> simp [hrun]
  have hidle' : d.orderTaken.start.busy = false := by rw [Chip.orderTaken, hstart, hidle]
  have hordered : d.start.ordered = kind := by rw [hstart]
  have hbegin : d.beginOrdered = d.orderTaken.beginStart kind causeHost := by
    unfold Chip.beginOrdered
    rw [hreplies, hordered]
    simp [hkind, Chip.orderTaken]
  rw [hbegin, Chip.beginStart, hexit, hidle']
  rfl

end

/-- A start command begins its start for the host, of the part as it was but for the mailbox. -/
theorem goes_startCommand {i : Instr} {s : State} {h : Mb} {opcode kind : Nat} {P : Chip → Prop}
    (hexec : exec i s = s.act fun c => (c.startOrdered h opcode kind).beginOrdered) (hacc : s.chip.mbAccepts h (startClass opcode))
    (hord : s.chip.start.ordered = 0) (hrep : s.chip.mb0.replies = []) (hkind : kind ≠ 0 ∧ kind < 16)
    (hrun : s.chip.halted = false ∨ kind ≠ warmKind)
    (hP : ∀ d : Chip, d.heldBy s.chip → d.time = s.chip.time → P (d.startNow kind causeHost)) :
    Goes i s fun d => d.begun kind causeHost ∧ P d := by
  obtain ⟨hpow, -⟩ := id hacc
  obtain ⟨hpow', -, hheld, htime, -⟩ := Chip.startOrdered_keeps (kind := kind) hacc hord
  have hbegin := Chip.beginOrdered_startOrdered hacc hord hrep hkind.1 hrun
  have hon : (s.chip.startOrdered h opcode kind).orderTaken.power = true := hpow'.trans hpow
  refine goes_act hexec hpow (by rw [hbegin, Chip.startNow_power, hon]) ?_
  rw [hbegin]
  exact ⟨Chip.startNow_begun _ _ _ hon hkind.2, hP _ hheld htime⟩

section

variable {s : State} {h : Mb} (hord : s.chip.start.ordered = 0) (hrep : s.chip.mb0.replies = [])

include hord hrep

theorem goes_coldStart (hacc : s.chip.mbAccepts h { opcode := 0x0100, safe := true, halt := true }) :
    Goes (.coldStart h) s fun d => d.begun 1 2 ∧ d.data = {} ∧ d.vault = {} :=
  goes_startCommand (opcode := 0x0100) (kind := coldKind) rfl hacc hord hrep (by decide) (.inr (by decide))
    fun d _ _ => Chip.startNow_cold_empties d causeHost

theorem goes_warmStart (hrun : s.chip.halted = false) (hacc : s.chip.mbAccepts h { opcode := 0x0101, safe := true, halt := true }) :
    Goes (.warmStart h) s fun d =>
      d.begun 2 2 ∧ d.data = s.chip.data ∧ d.keys = s.chip.keys ∧ d.vault = s.chip.vault ∧ d.time = s.chip.time :=
  goes_startCommand (opcode := 0x0101) (kind := warmKind) rfl hacc hord hrep (by decide) (.inl hrun) fun d hheld htime => by
    obtain ⟨hdata, hkeys, hvault⟩ := hheld
    obtain ⟨⟨hdata', hkeys', hvault'⟩, htime'⟩ := Chip.startNow_warm_keeps d causeHost
    exact ⟨hdata'.trans hdata, hkeys'.trans hkeys, hvault'.trans hvault, htime'.trans htime⟩

theorem goes_mgmtRestart (hacc : s.chip.mbAccepts h { opcode := 0x0102, safe := true, halt := true }) :
    Goes (.mgmtRestart h) s fun d => d.begun 3 2 ∧ d.data = s.chip.data ∧ d.keys = s.chip.keys ∧ d.vault = s.chip.vault :=
  goes_startCommand (opcode := 0x0102) (kind := mgmtKind) rfl hacc hord hrep (by decide) (.inr (by decide)) fun d hheld _ => by
    obtain ⟨hdata, hkeys, hvault⟩ := hheld
    obtain ⟨hdata', hkeys', hvault'⟩ := Chip.startNow_mgmt_keeps d causeHost
    exact ⟨hdata'.trans hdata, hkeys'.trans hkeys, hvault'.trans hvault⟩

end

/-- Settles O48, command by command (R49, R410, R461, R469). That a start begins once the replies of mailbox 0 are written, the codes of
the commands and what widens a region are the model's reading (log entries 48, 58 and 69); a warm start asked of a part in halt is not
stated. -/
theorem mailboxStarts : Obligations.MailboxStarts := by
  intro s h
  exact ⟨tamperLogClear_of_latched, tamperLogClear_of_unlatched,
    fun u r size sub perm base hu hr hok htaken => ⟨acuWrite_of_narrowing hu hr hok htaken, acuWrite_of_widening hu hr hok htaken⟩,
    startFailClear_asks,
    fun hord hrep => ⟨goes_coldStart hord hrep, goes_warmStart hord hrep, goes_mgmtRestart hord hrep⟩⟩

end Sys2Proof.Machine
end

section
/-! PROOFS of the family of the start, O49: the image commands (R57, R69, R71, R460). IMAGE_ACTIVATE writes the descriptor onto the healthy
devices alone. The statement asks for a new preference whatever the devices are, so it fails where both are marked as failed and
persistence is not blocked; a state of the model may be so, though the failure of a device blocks persistence with the last one. -/

namespace Sys2Proof.Machine

/-- The first entry of mailbox 0. -/
def firstEntry : Mb := { fn := 0, seq := 1 }

/-- A configured part whose mailbox 0 holds one entry: slot 1 is verified, both flash devices are marked as failed, and persistence is not
blocked. -/
def unwritable : Chip :=
  [(F.MGT_START_STATUS_configured, 1), (F.HST_LINK_pf0_bme, 1), (F.HST_MB_CFG_log2_entries 0, 4), (F.HST_MB_CFG_enable 0, 1),
    (F.HST_MB_PROD_prod 0, 1), (F.MGT_SLOT_STATUS_valid 1, 1), (F.MGT_FLASH_STATUS_dev0_failed, 1),
    (F.MGT_FLASH_STATUS_dev1_failed, 1)].foldl (fun c x => c.wr x.1 x.2)
    { power := true, start := { released := true, endpoint := true }, time := { running := true } }

theorem unwritable_marks :
    unwritable.flashGood 0 = false ∧ unwritable.flashGood 1 = false ∧ unwritable.persistBlocked = false ∧
      unwritable.flag (F.MGT_SLOT_STATUS_valid 1) = true := by decide

/-- The activation of slot 1 is accepted. -/
theorem unwritable_taken : taken firstEntry (.imageActivate firstEntry 1) { chip := unwritable } :=
  ⟨_, rfl, by decide, by decide, by decide, by decide, by decide⟩

/-- It goes on, and slot 1 is not preferred: no device took the descriptor. -/
theorem unwritable_activated {t : State} (h : exec (.imageActivate firstEntry 1) { chip := unwritable } = .next t) :
    t.chip.flag (F.MGT_SLOT_STATUS_preferred 1) = false := by
  have hrun : (match exec (.imageActivate firstEntry 1) { chip := unwritable } with
    | .next t => t.chip.flag (F.MGT_SLOT_STATUS_preferred 1)
    | _ => true) = false := by decide
  rwa [h] at hrun

/-- Outside the registers of its mailbox a served command leaves the flags of the part that its statement names. -/
theorem Chip.mbSame_flag {c d : Chip} {f : Nat} (h : Chip.mbSame f d c) (x : Fld) (hx : x.reg ∉ mbWords f) : c.flag x = d.flag x := by
  obtain ⟨-, hword, -⟩ := h
  rw [Chip.flag, Chip.rd, hword _ hx, Chip.flag, Chip.rd]

/-- Refutes O49: in `unwritable`, IMAGE_ACTIVATE of the verified slot 1 is accepted, its descriptor reaches no device, and slot 1 is not
the preferred one. What the clause of IMAGE_ACTIVATE lacks is a healthy device; the model's choices of log entries 47 and 59 play no part
in it. -/
theorem not_mailboxImages : ¬ Obligations.MailboxImages := by
  unfold Obligations.MailboxImages
  intro hall
  obtain ⟨-, -, hactivate, -⟩ := hall { chip := unwritable } firstEntry
  obtain ⟨-, -, -, hvalid⟩ := unwritable_marks
  obtain ⟨d, ⟨t, hexec, -, hsame, -⟩, hpreferred, -⟩ := hactivate 1 (by decide) hvalid unwritable_taken
  have hflag := Chip.mbSame_flag hsame (F.MGT_SLOT_STATUS_preferred 1) (by decide)
  rw [unwritable_activated hexec, hpreferred] at hflag
  cases hflag

end Sys2Proof.Machine
end

section
/-! PROOFS of the family of the line ports, what its commands share: fields of one register, the registers of a port, and what tells whether
a port works (R14, R72, R87, R102, R431). -/

namespace Sys2Proof.Machine

/-! ## Fields of one register -/

/-- The bits of two fields do not meet, should they lie in one register. -/
def Fld.clears (f g : Fld) : Bool := decide (f.lo + f.w ≤ g.lo) || decide (g.lo + g.w ≤ f.lo)

/-- A write of a field leaves those alone whose bits it does not meet. -/
theorem Chip.rd_wr_clears (c : Chip) (f g : Fld) (v : Nat) (hf : f.inWord = true) (h : f.clears g = true) : (c.wr f v).rd g = c.rd g := by
  refine Chip.rd_wr_apart c f g v hf ?_
  rw [Fld.apart, Bool.or_assoc, Bool.or_eq_true]
  exact .inr h

theorem Chip.flag_wr_clears (c : Chip) (f g : Fld) (v : Nat) (hf : f.inWord = true) (h : f.clears g = true) : (c.wr f v).flag g = c.flag g := by
  rw [Chip.flag, Chip.rd_wr_clears c f g v hf h, Chip.flag]

/-- A field reads the same in two parts that hold the same word there. -/
theorem Chip.rd_of_word {c d : Chip} {f : Fld} (h : d.word f.reg = c.word f.reg) : d.rd f = c.rd f := by rw [Chip.rd, h, Chip.rd]

theorem Chip.flag_of_word {c d : Chip} {f : Fld} (h : d.word f.reg = c.word f.reg) : d.flag f = c.flag f := by
  rw [Chip.flag, Chip.rd_of_word h, Chip.flag]

/-! ## The state of a port -/

@[simp] theorem Chip.port_setPort_same (c : Chip) (p : Nat) (x : Port) : (c.setPort p x).port p = x := Sparse.get_set_same _ _ _ _

theorem Chip.port_setPort_other (c : Chip) {p q : Nat} (x : Port) (h : q ≠ p) : (c.setPort p x).port q = c.port q :=
  Sparse.get_set_other _ _ _ _ _ h

theorem Chip.port_of_data {c d : Chip} (h : d.data = c.data) (p : Nat) : d.port p = c.port p := by rw [Chip.port, h, Chip.port]

@[simp] theorem Chip.delin_setDelin_same (c : Chip) (p : Nat) (x : Delin) : (c.setDelin p x).delin p = x := Sparse.get_set_same _ _ _ _

theorem Chip.delin_of_data {c d : Chip} (h : d.data = c.data) (p : Nat) : d.delin p = c.delin p := by rw [Chip.delin, h, Chip.delin]

theorem Chip.onlyRegs.data {c d : Chip} {as : List Nat} (h : Chip.onlyRegs c d as) : d.data = c.data := (congrArg Chip.data h.1 :)

/-- Changes of registers alone are the same whatever the delineation of a port then becomes. -/
theorem Chip.onlyRegs.setDelin {c d : Chip} {as : List Nat} (h : Chip.onlyRegs c d as) (p : Nat) (x : Delin) :
    Chip.onlyRegs (c.setDelin p x) (d.setDelin p x) as :=
  ⟨(congrArg (Chip.setDelin · p x) h.1 :), h.2⟩

theorem Chip.onlyRegs.seek {c d : Chip} {as : List Nat} (h : Chip.onlyRegs c d as) (p pos : Nat) :
    Chip.onlyRegs (c.setDelin p { c.delin p with pos := pos, due := none, last := false }) (d.seek p pos) as := by
  rw [Chip.seek, Chip.delin_of_data h.data]
  exact h.setDelin p _

/-! ## Ports that work -/

theorem Chip.power_of_receives {c : Chip} {p : Nat} (h : c.receives p = true) : c.power = true := by
  simp only [Chip.receives, Bool.and_eq_true] at h
  exact h.1.1

theorem Chip.isDenast_of_word {c d : Chip} {p : Nat} (h : d.word (R.PRT_CFG p) = c.word (R.PRT_CFG p)) : d.isDenast p = c.isDenast p := by
  rw [Chip.isDenast, Chip.encap, Chip.rd_of_word h, Chip.isDenast, Chip.encap]

/-! ## Commands that act where a port works -/

/-- A command does what its step makes of the part, when that is `d`. -/
theorem goes_actOn_of_eq {i : Instr} {s : State} {ok : Bool} {f : Chip → Chip} {d : Chip} {P : Chip → Prop} (hx : exec i s = s.actOn ok f)
    (ho : ok = true) (hp : s.chip.power = true) (hd : f s.chip = d) (hpow : d.power = s.chip.power) (h : P d) : Goes i s P := by
  subst hd
  exact goes_actOn hx ho hp (hpow.trans hp) h

/-- A command whose guard holds does its step. -/
theorem goes_guarded {i : Instr} {s : State} {ok : Bool} {guard : Chip → Bool} {f : Chip → Chip} {P : Chip → Prop}
    (hx : exec i s = s.actOn ok fun c => if guard c then f c else c) (ho : ok = true) (hp : s.chip.power = true) (hg : guard s.chip = true)
    (hpow : (f s.chip).power = s.chip.power) (h : P (f s.chip)) : Goes i s P :=
  goes_actOn_of_eq hx ho hp (if_pos hg) hpow h

end Sys2Proof.Machine
end

section
/-! PROOFS of the family of the line ports, O24: signal, locks, auto-negotiation and training of a port (R74, R87, R513, R516). -/

namespace Sys2Proof.Machine

/-- A port's status word is not its configuration. -/
theorem prtCfg_ne_status (p : Nat) : R.PRT_CFG p ≠ R.PRT_STATUS p := by simp only [R.PRT_CFG, R.PRT_STATUS]; omega

theorem prtDenStatus_ne_status (p : Nat) : R.PRT_DEN_STATUS p ≠ R.PRT_STATUS p := by
  simp only [R.PRT_DEN_STATUS, R.PRT_STATUS]; omega

/-- What a write of a port's status word leaves of its configuration. -/
theorem Chip.isDenast_wrb_status (c : Chip) {p : Nat} {f : Fld} (hf : f.reg = R.PRT_STATUS p) (b : Bool) : (c.wrb f b).isDenast p = c.isDenast p :=
  Chip.isDenast_of_word (Chip.word_wr_other _ _ _ _ (hf ▸ prtCfg_ne_status p))

/-- A lock or the signal of a port in its status word: set as it is told, and nothing else changes. -/
theorem Chip.wrb_status_shows (c : Chip) {p : Nat} {f : Fld} (hf : f.reg = R.PRT_STATUS p) (hin : f.inWord = true) (hw : f.w = 1) (b : Bool) :
    (c.wrb f b).flag f = b ∧ Chip.onlyRegs c (c.wrb f b) [R.PRT_STATUS p] :=
  ⟨Chip.flag_wrb_same c f b hin hw, hf ▸ Chip.onlyRegs_wr c f _⟩

/-- Outside SYNC nothing but the state of the hunt changes when the port loses its place. -/
theorem Chip.leaveSync_of_not_sync {c : Chip} {p : Nat} (h : c.rd (F.PRT_DEN_STATUS_state p) ≠ 2) :
    c.leaveSync p = (c.wr (F.PRT_DEN_STATUS_state p) 0).wr (F.PRT_DEN_STATUS_presync_count p) 0 := if_pos (by simpa using h)

section

variable {s : State} {p : Nat} (hp : p < 144) (hrec : s.chip.receives p = true)
include hp hrec

/-- SIGNAL_CHANGE, but of an uplink that loses its signal. -/
theorem goes_signalChange {on : Bool} (h : on = true ∨ p < 96) :
    Goes (.signalChange p on) s fun c => c.flag (F.PRT_STATUS_signal p) = on ∧ Chip.onlyRegs s.chip c [R.PRT_STATUS p] := by
  have hkeeps : (on || decide (p < 96)) = true := by simpa using h
  exact goes_actOn_of_eq (d := s.chip.wrb (F.PRT_STATUS_signal p) on) rfl (decide_eq_true hp) (Chip.power_of_receives hrec)
    (by simp only [hrec, hkeeps]; rfl) rfl (Chip.wrb_status_shows s.chip rfl rfl rfl on)

/-- An uplink that loses its signal must negotiate and train anew. -/
theorem goes_signalChange_uplink_lost (hup : 96 ≤ p) : Goes (.signalChange p false) s fun c =>
    c.flag (F.PRT_STATUS_signal p) = false ∧ (c.port p).anDone = false ∧ (c.port p).trained = false ∧ ∀ q, q ≠ p → c.port q = s.chip.port q := by
  have hloses : (false || decide (p < 96)) = false := by simpa using hup
  refine goes_actOn_of_eq (d := (s.chip.wrb (F.PRT_STATUS_signal p) false).setPort p { s.chip.port p with anDone := false, trained := false })
    rfl (decide_eq_true hp) (Chip.power_of_receives hrec) (by simp only [hrec, hloses]; rfl) rfl ?_
  refine ⟨(Chip.wrb_status_shows s.chip rfl rfl rfl false).1, ?_, ?_, fun q hq => Chip.port_setPort_other _ _ hq⟩ <;>
    rw [Chip.port_setPort_same]

theorem goes_cdrLockChange (on : Bool) : Goes (.cdrLockChange p on) s fun c =>
    c.flag (F.PRT_STATUS_cdr_lock p) = on ∧ Chip.onlyRegs s.chip c [R.PRT_STATUS p] :=
  goes_guarded (guard := fun c => c.receives p) rfl (decide_eq_true hp) (Chip.power_of_receives hrec) hrec rfl
    (Chip.wrb_status_shows s.chip rfl rfl rfl on)

theorem goes_pcsLockChange (hden : s.chip.isDenast p = false) (on : Bool) : Goes (.pcsLockChange p on) s fun c =>
    c.flag (F.PRT_STATUS_pcs_ready p) = on ∧ Chip.onlyRegs s.chip c [R.PRT_STATUS p] :=
  goes_guarded (guard := fun c => c.receives p && !c.isDenast p) rfl (decide_eq_true hp) (Chip.power_of_receives hrec)
    (by rw [hrec, hden]; rfl) rfl (Chip.wrb_status_shows s.chip rfl rfl rfl on)

/-- The lock on the alignment markers of a port that runs the Ethernet PCS. -/
theorem goes_alignmentLockChange_ethernet (hden : s.chip.isDenast p = false) (on : Bool) : Goes (.alignmentLockChange p on) s fun c =>
    c.flag (F.PRT_STATUS_am_lock p) = on ∧ Chip.onlyRegs s.chip c [R.PRT_STATUS p] := by
  have hden' := (Chip.isDenast_wrb_status s.chip (f := F.PRT_STATUS_am_lock p) rfl on).trans hden
  exact goes_actOn_of_eq (d := s.chip.wrb (F.PRT_STATUS_am_lock p) on) rfl (decide_eq_true hp) (Chip.power_of_receives hrec)
    (by simp only [hrec, hden']; rfl) rfl (Chip.wrb_status_shows s.chip rfl rfl rfl on)

/-- With its lock a Denast port begins its hunt at the first byte after the marker. -/
theorem goes_alignmentLockChange_gained (hden : s.chip.isDenast p = true) : Goes (.alignmentLockChange p true) s fun c =>
    c.flag (F.PRT_STATUS_am_lock p) = true ∧
      Chip.onlyRegs (s.chip.setDelin p { s.chip.delin p with pos := 0, due := none, last := false }) c [R.PRT_STATUS p] := by
  have hden' := (Chip.isDenast_wrb_status s.chip (f := F.PRT_STATUS_am_lock p) rfl true).trans hden
  obtain ⟨hflag, honly⟩ := Chip.wrb_status_shows s.chip (p := p) (f := F.PRT_STATUS_am_lock p) rfl rfl rfl true
  exact goes_actOn_of_eq (d := (s.chip.wrb (F.PRT_STATUS_am_lock p) true).seek p 0) rfl (decide_eq_true hp) (Chip.power_of_receives hrec)
    (by simp only [hrec, hden']; rfl) rfl ⟨hflag, honly.seek p 0⟩

/-- A Denast port that loses its lock outside SYNC begins its hunt anew. -/
theorem goes_alignmentLockChange_lost (hden : s.chip.isDenast p = true) (hst : s.chip.rd (F.PRT_DEN_STATUS_state p) ≠ 2) :
    Goes (.alignmentLockChange p false) s fun c => c.flag (F.PRT_STATUS_am_lock p) = false ∧ c.rd (F.PRT_DEN_STATUS_state p) = 0 ∧
      Chip.onlyRegs (s.chip.setDelin p { s.chip.delin p with due := none, last := false }) c [R.PRT_STATUS p, R.PRT_DEN_STATUS p] := by
  have hden' := (Chip.isDenast_wrb_status s.chip (f := F.PRT_STATUS_am_lock p) rfl false).trans hden
  have hst' : (s.chip.wrb (F.PRT_STATUS_am_lock p) false).rd (F.PRT_DEN_STATUS_state p) ≠ 2 := by
    rwa [Chip.wrb, Chip.rd_wr_other _ _ _ _ (prtDenStatus_ne_status p)]
  obtain ⟨hflag, honly⟩ := Chip.wrb_status_shows s.chip (p := p) (f := F.PRT_STATUS_am_lock p) rfl rfl rfl false
  have honly' : Chip.onlyRegs s.chip ((s.chip.wrb (F.PRT_STATUS_am_lock p) false).leaveSync p) [R.PRT_STATUS p, R.PRT_DEN_STATUS p] := by
    rw [Chip.leaveSync_of_not_sync hst']
    exact ((honly.mono (by simp)).trans ((Chip.onlyRegs_wr _ _ _).mono (by simp [F.PRT_DEN_STATUS_state]))).trans
      ((Chip.onlyRegs_wr _ _ _).mono (by simp [F.PRT_DEN_STATUS_presync_count]))
  refine goes_actOn_of_eq (d := ((s.chip.wrb (F.PRT_STATUS_am_lock p) false).leaveSync p).seek p (s.chip.delin p).pos) rfl
    (decide_eq_true hp) (Chip.power_of_receives hrec) (by simp only [hrec, hden']; rfl) honly'.power ⟨?_, ?_, honly'.seek p _⟩
  · change (Chip.leaveSync _ p).flag _ = false
    rw [Chip.leaveSync_of_not_sync hst', Chip.flag_of_word (Chip.word_wr_other _ _ _ _ (prtDenStatus_ne_status p).symm),
      Chip.flag_of_word (Chip.word_wr_other _ _ _ _ (prtDenStatus_ne_status p).symm), hflag]
  · change (Chip.leaveSync _ p).rd _ = 0
    rw [Chip.leaveSync_of_not_sync hst', Chip.rd_wr_clears _ _ _ _ rfl rfl, Chip.rd_wr_same _ _ _ rfl]
    rfl

theorem goes_uplinkAutonegComplete (hup : 96 ≤ p) :
    Goes (.uplinkAutonegComplete p) s fun c => c = s.chip.setPort p { s.chip.port p with anDone := true } :=
  goes_guarded (guard := fun c => c.receives p) rfl (by simp [hup, hp]) (Chip.power_of_receives hrec) hrec rfl rfl

theorem goes_uplinkTrainingComplete (hup : 96 ≤ p) (han : (s.chip.port p).anDone = true) :
    Goes (.uplinkTrainingComplete p) s fun c => c = s.chip.setPort p { s.chip.port p with trained := true } :=
  goes_guarded (guard := fun c => c.receives p && (c.port p).anDone) rfl (by simp [hup, hp]) (Chip.power_of_receives hrec)
    (by rw [hrec, han]; rfl) rfl rfl

theorem goes_autonegRestart (hup : 96 ≤ p) (han : (s.chip.port p).anDone = true) (htrained : (s.chip.port p).trained = false) :
    Goes (.autonegRestart p) s fun c => c = s.chip.setPort p { s.chip.port p with anDone := false } :=
  goes_guarded (guard := fun c => c.receives p && (c.port p).anDone && !(c.port p).trained) rfl (by simp [hup, hp])
    (Chip.power_of_receives hrec) (by rw [hrec, han, htrained]; rfl) rfl rfl

end

/-- Settles O24, command by command (R74, R513, R516): that an uplink which loses its signal negotiates and trains anew is the model's
reading (log entry 37). -/
theorem portLocks : Obligations.PortLocks := fun _ _ on hp hrec =>
  ⟨fun hline => goes_signalChange hp hrec (.inr hline), goes_signalChange_uplink_lost hp hrec, goes_cdrLockChange hp hrec on,
    fun hden => goes_alignmentLockChange_ethernet hp hrec hden on, goes_alignmentLockChange_gained hp hrec,
    goes_alignmentLockChange_lost hp hrec, fun hden => goes_pcsLockChange hp hrec hden on,
    fun hup => ⟨goes_uplinkAutonegComplete hp hrec hup, goes_uplinkTrainingComplete hp hrec hup, goes_autonegRestart hp hrec hup⟩⟩

end Sys2Proof.Machine
end

section
/-! PROOFS of the family of the line ports, how a defect enters and leaves where no signal fail begins or ends with it (R102, R104). -/

namespace Sys2Proof.Machine

/-! ## Changes of some registers, whatever else changes -/

/-- Outside the addresses `as` every register holds in `d` the word that it holds in `c`. -/
def Chip.wordsBut (as : List Nat) (c d : Chip) : Prop := ∀ a, a ∉ as → d.word a = c.word a

theorem Chip.wordsBut_refl (as : List Nat) (c : Chip) : Chip.wordsBut as c c := fun _ _ => rfl

theorem Chip.wordsBut.trans {as : List Nat} {b c d : Chip} (h : Chip.wordsBut as b c) (k : Chip.wordsBut as c d) : Chip.wordsBut as b d :=
  fun a ha => (k a ha).trans (h a ha)

theorem Chip.wordsBut.mono {as bs : List Nat} {c d : Chip} (h : Chip.wordsBut as c d) (hsub : as ⊆ bs) : Chip.wordsBut bs c d :=
  fun a ha => h a fun hm => ha (hsub hm)

theorem Chip.wordsBut_wr (c : Chip) (f : Fld) (v : Nat) : Chip.wordsBut [f.reg] c (c.wr f v) :=
  fun _ ha => Chip.word_wr_other _ _ _ _ (by simpa using ha)

theorem Chip.wordsBut.rd {as : List Nat} {c d : Chip} (h : Chip.wordsBut as c d) {f : Fld} (hf : f.reg ∉ as) : d.rd f = c.rd f :=
  Chip.rd_of_word (h _ hf)

theorem Chip.wordsBut.flag {as : List Nat} {c d : Chip} (h : Chip.wordsBut as c d) {f : Fld} (hf : f.reg ∉ as) : d.flag f = c.flag f :=
  Chip.flag_of_word (h _ hf)

theorem Chip.wordsBut.setPort {as : List Nat} {c d : Chip} (h : Chip.wordsBut as c d) (p : Nat) (x : Port) : Chip.wordsBut as c (d.setPort p x) := h

theorem Chip.wordsBut_ite {as : List Nat} {c d : Chip} {b : Prop} [Decidable b] (h : Chip.wordsBut as c d) :
    Chip.wordsBut as c (if b then d else c) := by
  split
  · exact h
  · exact Chip.wordsBut_refl _ _

/-! ## Changes that only note what is reported -/

/-- Between `c` and `d` main power and the delineation stand as they did, and so does port `p` but for which defects have been reported. -/
def Chip.notes (p : Nat) (c d : Chip) : Prop :=
  d.power = c.power ∧ d.data.delin = c.data.delin ∧ { d.port p with reported := 0 } = { c.port p with reported := 0 }

theorem Chip.notes_of_data {p : Nat} {c d : Chip} (hpow : d.power = c.power) (h : d.data = c.data) : Chip.notes p c d :=
  ⟨hpow, congrArg Data.delin h, by rw [Chip.port_of_data h]⟩

theorem Chip.notes_refl (p : Nat) (c : Chip) : Chip.notes p c c := Chip.notes_of_data rfl rfl

theorem Chip.notes.trans {p : Nat} {b c d : Chip} (h : Chip.notes p b c) (k : Chip.notes p c d) : Chip.notes p b d := by
  obtain ⟨hpow, hdelin, hport⟩ := h
  obtain ⟨kpow, kdelin, kport⟩ := k
  exact ⟨kpow.trans hpow, kdelin.trans hdelin, kport.trans hport⟩

theorem Chip.notes_setReported (p r : Nat) (c : Chip) : Chip.notes p c (c.setPort p { c.port p with reported := r }) :=
  ⟨rfl, rfl, by rw [Chip.port_setPort_same]⟩

/-! ## The registers of a port that its defects show in -/

/-- The register of a port's defects is neither one of its other registers nor one that a record changes. -/
theorem prtDefect_ne_status (p : Nat) : R.PRT_DEFECT p ≠ R.PRT_STATUS p := by simp only [R.PRT_DEFECT, R.PRT_STATUS]; omega

theorem port_not_rec {a : Nat} (h : 0x9000 ≤ a) : a ∉ recWords := by
  have hlow : ∀ b ∈ recWords, b < 0x9000 := by decide
  exact fun ha => Nat.not_lt.mpr h (hlow a ha)

theorem prtDefect_not_rec (p : Nat) : R.PRT_DEFECT p ∉ recWords := port_not_rec (by simp only [R.PRT_DEFECT]; omega)

theorem prtStatus_not_rec (p : Nat) : R.PRT_STATUS p ∉ recWords := port_not_rec (by simp only [R.PRT_STATUS]; omega)

theorem defectIx_lt (d : Defect) : defectIx d < 9 := by cases d <;> decide

/-- A mask of nine bits with one more bit set has nine bits. -/
theorem add_two_pow_lt {n k : Nat} (hn : n < 2 ^ 9) (hk : k < 9) (h : bit n k = false) : n + 2 ^ k < 2 ^ 9 := by
  simp only [bit, beq_eq_false_iff_ne] at h
  interval_cases k <;> omega

/-! ## Reports -/

/-- A report changes the registers of records, and whether the defects have been reported. -/
theorem Chip.report_keeps (c : Chip) (p : Nat) : Chip.wordsBut recWords c (c.report p) ∧ Chip.notes p c (c.report p) := by
  unfold Chip.report
  split
  · exact ⟨Chip.wordsBut_refl _ _, Chip.notes_refl _ _⟩
  · split
    · exact ⟨Chip.wordsBut_refl _ _, Chip.notes_refl _ _⟩
    · exact ⟨fun a ha => Chip.alert_word _ _ _ _ _ _ ha,
        (Chip.notes_setReported p _ c).trans (Chip.notes_of_data (Chip.alert_power ..) (Chip.alert_data ..))⟩

/-! ## A defect that is not there, or a part in halt -/

theorem Chip.enterDefect_of_present {c : Chip} {p : Nat} {d : Defect} (h : bit (c.rd (F.PRT_DEFECT_current p)) (defectIx d) = true) :
    c.enterDefect p d = c := by
  unfold Chip.enterDefect
  rw [if_pos (by rw [h]; rfl)]

theorem Chip.exitDefect_of_absent {c : Chip} {p : Nat} {d : Defect} (h : bit (c.rd (F.PRT_DEFECT_current p)) (defectIx d) = false) :
    c.exitDefect p d = c := by
  unfold Chip.exitDefect
  rw [if_pos (by rw [h]; rfl)]

theorem Chip.enterDefect_of_halted {c : Chip} {p : Nat} {d : Defect} (h : c.halted = true) : c.enterDefect p d = c := by
  unfold Chip.enterDefect
  rw [if_pos (by simp [h])]

theorem Chip.exitDefect_of_halted {c : Chip} {p : Nat} {d : Defect} (h : c.halted = true) : c.exitDefect p d = c := by
  unfold Chip.exitDefect
  rw [if_pos (by simp [h])]

/-! ## A defect enters -/

/-- The defect of place `k` shows in the current and the latched bits. -/
def Chip.defectShown (c : Chip) (p k : Nat) : Chip :=
  (c.wr (F.PRT_DEFECT_current p) (c.rd (F.PRT_DEFECT_current p) + 2 ^ k)).wr (F.PRT_DEFECT_latched p)
    ((c.wr (F.PRT_DEFECT_current p) (c.rd (F.PRT_DEFECT_current p) + 2 ^ k)).rd (F.PRT_DEFECT_latched p) ||| 2 ^ k)

/-- A fault signal that an Ethernet port receives shows in its status. -/
def Chip.faultShown (c : Chip) (p k v : Nat) : Chip :=
  let c := if k = 6 && !c.isDenast p then c.wr (F.PRT_STATUS_local_fault_rx p) v else c
  if k = 8 && !c.isDenast p then c.wr (F.PRT_STATUS_remote_fault_rx p) v else c

theorem Chip.wordsBut_faultShown (c : Chip) (p k v : Nat) : Chip.wordsBut [R.PRT_STATUS p] c (c.faultShown p k v) :=
  (Chip.wordsBut_ite (Chip.wordsBut_wr c (F.PRT_STATUS_local_fault_rx p) v)).trans
    (Chip.wordsBut_ite (Chip.wordsBut_wr _ (F.PRT_STATUS_remote_fault_rx p) v))

theorem Chip.faultShown_data (c : Chip) (p k v : Nat) : (c.faultShown p k v).data = c.data ∧ (c.faultShown p k v).power = c.power := by
  unfold Chip.faultShown
  dsimp only
  split_ifs <;> exact ⟨rfl, rfl⟩

theorem Chip.defectShown_shows (c : Chip) {p k : Nat} (hk : k < 9) (habs : bit (c.rd (F.PRT_DEFECT_current p)) k = false) :
    (c.defectShown p k).rd (F.PRT_DEFECT_current p) = c.rd (F.PRT_DEFECT_current p) + 2 ^ k ∧
      (c.defectShown p k).rd (F.PRT_DEFECT_latched p) = c.rd (F.PRT_DEFECT_latched p) ||| 2 ^ k ∧
      (c.defectShown p k).flag (F.PRT_DEFECT_sf p) = c.flag (F.PRT_DEFECT_sf p) := by
  have hcur := add_two_pow_lt (Chip.rd_lt c (F.PRT_DEFECT_current p)) hk habs
  have hlatch : c.rd (F.PRT_DEFECT_latched p) ||| 2 ^ k < 2 ^ 9 :=
    Nat.or_lt_two_pow (Chip.rd_lt c (F.PRT_DEFECT_latched p)) (Nat.pow_lt_pow_right (by decide) hk)
  refine ⟨?_, ?_, ?_⟩
  · rw [Chip.defectShown, Chip.rd_wr_clears _ _ _ _ rfl rfl, Chip.rd_wr_same _ _ _ rfl]
    exact Nat.mod_eq_of_lt hcur
  · rw [Chip.defectShown, Chip.rd_wr_same _ _ _ rfl, Chip.rd_wr_clears _ _ _ _ rfl rfl]
    exact Nat.mod_eq_of_lt hlatch
  · rw [Chip.defectShown, Chip.flag_wr_clears _ _ _ _ rfl rfl, Chip.flag_wr_clears _ _ _ _ rfl rfl]

/-- The registers in which a defect of a port shows and is recorded. -/
def defectWords (p : Nat) : List Nat := R.PRT_DEFECT p :: R.PRT_STATUS p :: recWords

theorem Chip.wordsBut_defectShown (c : Chip) (p k : Nat) : Chip.wordsBut [R.PRT_DEFECT p] c (c.defectShown p k) :=
  (Chip.wordsBut_wr c (F.PRT_DEFECT_current p) _).trans (Chip.wordsBut_wr _ (F.PRT_DEFECT_latched p) _)

/-- The reading of a defect's entry when no signal fail begins with it. -/
theorem Chip.enterDefect_eq {c : Chip} {p : Nat} {d : Defect} (hrun : c.halted = false)
    (habs : bit (c.rd (F.PRT_DEFECT_current p)) (defectIx d) = false)
    (hsf : if defectIx d < 7 then c.flag (F.PRT_DEFECT_sf p) = true else c.flag (F.PRT_DEFECT_sf p) = false ∨ defectIx d = 8) :
    c.enterDefect p d = ((((c.defectShown p (defectIx d)).faultShown p (defectIx d) 1).report p).seeDefects p) := by
  obtain ⟨-, -, hflag⟩ := Chip.defectShown_shows c (defectIx_lt d) habs
  have hsame := (Chip.wordsBut_faultShown (c.defectShown p (defectIx d)) p (defectIx d) 1).flag (f := F.PRT_DEFECT_sf p)
    (by simpa [F.PRT_DEFECT_sf] using prtDefect_ne_status p)
  have hdeg : (defectIx d = 7 && c.flag (F.PRT_DEFECT_sf p)) = false := by
    by_cases h7 : defectIx d = 7
    · simpa [h7] using hsf
    · simp [h7]
  have hkeeps : (defectIx d < 7 && !((c.defectShown p (defectIx d)).faultShown p (defectIx d) 1).flag (F.PRT_DEFECT_sf p)) = false := by
    rw [hsame, hflag]
    by_cases h7 : defectIx d < 7
    · rw [if_pos h7] at hsf
      simp [hsf]
    · simp [h7]
  unfold Chip.enterDefect
  rw [if_neg (by rw [habs, hdeg, hrun]; decide)]
  change (Chip.report (if (defectIx d < 7 && !((c.defectShown p (defectIx d)).faultShown p (defectIx d) 1).flag (F.PRT_DEFECT_sf p)) then _ else
    (c.defectShown p (defectIx d)).faultShown p (defectIx d) 1) p).seeDefects p = _
  rw [if_neg (by rw [hkeeps]; decide)]

theorem Chip.enterDefect_shows {c : Chip} {p : Nat} {d : Defect} (hrun : c.halted = false)
    (habs : bit (c.rd (F.PRT_DEFECT_current p)) (defectIx d) = false)
    (hsf : if defectIx d < 7 then c.flag (F.PRT_DEFECT_sf p) = true else c.flag (F.PRT_DEFECT_sf p) = false ∨ defectIx d = 8) :
    (c.enterDefect p d).power = c.power ∧ (c.enterDefect p d).rd (F.PRT_DEFECT_current p) = c.rd (F.PRT_DEFECT_current p) + 2 ^ defectIx d ∧
      (c.enterDefect p d).rd (F.PRT_DEFECT_latched p) = c.rd (F.PRT_DEFECT_latched p) ||| 2 ^ defectIx d ∧
      Chip.wordsBut (defectWords p) c (c.enterDefect p d) := by
  obtain ⟨hcur, hlatch, -⟩ := Chip.defectShown_shows c (defectIx_lt d) habs
  have hshown := Chip.wordsBut_defectShown c p (defectIx d)
  have hfault := Chip.wordsBut_faultShown (c.defectShown p (defectIx d)) p (defectIx d) 1
  obtain ⟨hreport, hnotes, -⟩ := Chip.report_keeps ((c.defectShown p (defectIx d)).faultShown p (defectIx d) 1) p
  have hrest : Chip.wordsBut (R.PRT_STATUS p :: recWords) (c.defectShown p (defectIx d)) (c.enterDefect p d) := by
    rw [Chip.enterDefect_eq hrun habs hsf]
    exact (hfault.mono (by simp)).trans (hreport.mono (List.subset_cons_self _ _))
  have hreg : R.PRT_DEFECT p ∉ R.PRT_STATUS p :: recWords := by
    simpa using ⟨prtDefect_ne_status p, prtDefect_not_rec p⟩
  refine ⟨?_, (hrest.rd hreg).trans hcur, (hrest.rd hreg).trans hlatch,
    (hshown.mono (by simp [defectWords])).trans (hrest.mono (List.subset_cons_self _ _))⟩
  rw [Chip.enterDefect_eq hrun habs hsf]
  exact hnotes.trans (Chip.faultShown_data _ _ _ _).2

/-! ## A defect leaves -/

theorem Chip.dropDefect_keeps (c : Chip) (p k : Nat) :
    Chip.wordsBut (R.PRT_DEFECT p :: recWords) c (c.dropDefect p k) ∧ Chip.notes p c (c.dropDefect p k) := by
  unfold Chip.dropDefect
  dsimp only
  have hshown := (Chip.wordsBut_wr c (F.PRT_DEFECT_current p) (c.rd (F.PRT_DEFECT_current p) - 2 ^ k)).mono (bs := R.PRT_DEFECT p :: recWords)
    (by simp [F.PRT_DEFECT_current])
  split
  · exact ⟨Chip.wordsBut_refl _ _, Chip.notes_refl _ _⟩
  · split
    · exact ⟨hshown, Chip.notes_of_data rfl rfl⟩
    · exact ⟨hshown.trans fun a ha => Chip.record_word _ _ _ _ _ _ _ fun hr => ha (List.mem_cons_of_mem _ hr),
        (Chip.notes_of_data rfl rfl).trans ((Chip.notes_setReported p _ (c.wr (F.PRT_DEFECT_current p) _)).trans
          (Chip.notes_of_data (Chip.record_power ..) (Chip.record_data ..)))⟩

/-- The current bits lose the defect, and the latched ones keep it. -/
theorem Chip.dropDefect_shows (c : Chip) {p k : Nat} (hpres : bit (c.rd (F.PRT_DEFECT_current p)) k = true) :
    (c.dropDefect p k).rd (F.PRT_DEFECT_current p) = c.rd (F.PRT_DEFECT_current p) - 2 ^ k ∧
      (c.dropDefect p k).rd (F.PRT_DEFECT_latched p) = c.rd (F.PRT_DEFECT_latched p) ∧
      (c.dropDefect p k).flag (F.PRT_DEFECT_sf p) = c.flag (F.PRT_DEFECT_sf p) := by
  have hrec : Chip.wordsBut recWords (c.wr (F.PRT_DEFECT_current p) (c.rd (F.PRT_DEFECT_current p) - 2 ^ k)) (c.dropDefect p k) := by
    unfold Chip.dropDefect
    dsimp only
    rw [hpres, if_neg (by decide)]
    split
    · exact Chip.wordsBut_refl _ _
    · exact fun a ha => Chip.record_word _ _ _ _ _ _ _ ha
  refine ⟨?_, ?_, ?_⟩
  · rw [hrec.rd (prtDefect_not_rec p), Chip.rd_wr_same _ _ _ rfl]
    exact Nat.mod_eq_of_lt ((Nat.sub_le _ _).trans_lt (Chip.rd_lt c _))
  · rw [hrec.rd (prtDefect_not_rec p), Chip.rd_wr_clears _ _ _ _ rfl rfl]
  · rw [hrec.flag (prtDefect_not_rec p), Chip.flag_wr_clears _ _ _ _ rfl rfl]

/-- What the exit of the defect of place `k` shows in the status of its port: a fault signal or AIS that it received is over. -/
def Chip.faultOver (c : Chip) (p k : Nat) : Chip :=
  let c := if k = 6 && !c.isDenast p then c.wr (F.PRT_STATUS_local_fault_rx p) 0 else c
  let c := if k = 6 && c.isDenast p then (c.wr (F.PRT_STATUS_ais_rx p) 0).setPort p { c.port p with aisRun := 0 } else c
  if k = 8 && !c.isDenast p then c.wr (F.PRT_STATUS_remote_fault_rx p) 0 else c

theorem Chip.wordsBut_faultOver (c : Chip) (p k : Nat) : Chip.wordsBut [R.PRT_STATUS p] c (c.faultOver p k) :=
  ((Chip.wordsBut_ite (Chip.wordsBut_wr c (F.PRT_STATUS_local_fault_rx p) 0)).trans
    (Chip.wordsBut_ite ((Chip.wordsBut_wr _ (F.PRT_STATUS_ais_rx p) 0).setPort p _))).trans
      (Chip.wordsBut_ite (Chip.wordsBut_wr _ (F.PRT_STATUS_remote_fault_rx p) 0))

theorem Chip.faultOver_power (c : Chip) (p k : Nat) : (c.faultOver p k).power = c.power := by
  unfold Chip.faultOver
  dsimp only
  split_ifs <;> rfl

/-- Only AIS and the fault signals show in the status of a port. -/
theorem Chip.faultOver_of_lt {c : Chip} {p k : Nat} (h : k < 6) : c.faultOver p k = c := by
  have h6 : k ≠ 6 := by omega
  have h8 : k ≠ 8 := by omega
  simp [Chip.faultOver, h6, h8]

/-- What a defect's exit leaves when no signal fail ends with it. -/
theorem Chip.exitDefect_eq {c : Chip} {p : Nat} {d : Defect} (hrun : c.halted = false)
    (hpres : bit (c.rd (F.PRT_DEFECT_current p)) (defectIx d) = true)
    (hsf : c.flag (F.PRT_DEFECT_sf p) = false ∨ isSf (c.rd (F.PRT_DEFECT_current p) - 2 ^ defectIx d) = true) :
    c.exitDefect p d = ((c.dropDefect p (defectIx d)).faultOver p (defectIx d)).report p := by
  obtain ⟨hcur, -, hflag⟩ := Chip.dropDefect_shows c hpres
  have hreg : R.PRT_DEFECT p ∉ [R.PRT_STATUS p] := by simpa using prtDefect_ne_status p
  have hsame := Chip.wordsBut_faultOver (c.dropDefect p (defectIx d)) p (defectIx d)
  have hstays : (((c.dropDefect p (defectIx d)).faultOver p (defectIx d)).flag (F.PRT_DEFECT_sf p) &&
      !isSf (((c.dropDefect p (defectIx d)).faultOver p (defectIx d)).rd (F.PRT_DEFECT_current p))) = false := by
    rw [hsame.flag hreg, hsame.rd hreg, hcur, hflag]
    rcases hsf with h | h <;> simp [h]
  unfold Chip.exitDefect
  rw [if_neg (by rw [hpres, hrun]; decide)]
  change Chip.report (if (((c.dropDefect p (defectIx d)).faultOver p (defectIx d)).flag (F.PRT_DEFECT_sf p) &&
      !isSf (((c.dropDefect p (defectIx d)).faultOver p (defectIx d)).rd (F.PRT_DEFECT_current p))) then _ else
    (c.dropDefect p (defectIx d)).faultOver p (defectIx d)) p = _
  rw [if_neg (by rw [hstays]; decide)]

theorem Chip.exitDefect_shows {c : Chip} {p : Nat} {d : Defect} (hrun : c.halted = false)
    (hpres : bit (c.rd (F.PRT_DEFECT_current p)) (defectIx d) = true)
    (hsf : c.flag (F.PRT_DEFECT_sf p) = false ∨ isSf (c.rd (F.PRT_DEFECT_current p) - 2 ^ defectIx d) = true) :
    (c.exitDefect p d).power = c.power ∧ (c.exitDefect p d).rd (F.PRT_DEFECT_current p) = c.rd (F.PRT_DEFECT_current p) - 2 ^ defectIx d ∧
      (c.exitDefect p d).rd (F.PRT_DEFECT_latched p) = c.rd (F.PRT_DEFECT_latched p) ∧
      Chip.wordsBut (defectWords p) c (c.exitDefect p d) := by
  obtain ⟨hcur, hlatch, -⟩ := Chip.dropDefect_shows c hpres
  obtain ⟨hdrop, hdropped, -⟩ := Chip.dropDefect_keeps c p (defectIx d)
  obtain ⟨hreport, hnotes, -⟩ := Chip.report_keeps ((c.dropDefect p (defectIx d)).faultOver p (defectIx d)) p
  have hrest : Chip.wordsBut (R.PRT_STATUS p :: recWords) (c.dropDefect p (defectIx d)) (c.exitDefect p d) := by
    rw [Chip.exitDefect_eq hrun hpres hsf]
    exact ((Chip.wordsBut_faultOver _ _ _).mono (by simp)).trans (hreport.mono (List.subset_cons_self _ _))
  have hreg : R.PRT_DEFECT p ∉ R.PRT_STATUS p :: recWords := by
    simpa using ⟨prtDefect_ne_status p, prtDefect_not_rec p⟩
  refine ⟨?_, (hrest.rd hreg).trans hcur, (hrest.rd hreg).trans hlatch,
    (hdrop.mono (List.cons_subset_cons _ (List.subset_cons_self _ _))).trans (hrest.mono (List.subset_cons_self _ _))⟩
  rw [Chip.exitDefect_eq hrun hpres hsf]
  exact hnotes.trans ((Chip.faultOver_power _ _ _).trans hdropped)

/-- A defect that shows in no status word leaves nothing changed but its register, the record and the reports. -/
theorem Chip.exitDefect_notes {c : Chip} {p : Nat} {d : Defect} (hrun : c.halted = false) (hd : defectIx d < 6)
    (hpres : bit (c.rd (F.PRT_DEFECT_current p)) (defectIx d) = true)
    (hsf : c.flag (F.PRT_DEFECT_sf p) = false ∨ isSf (c.rd (F.PRT_DEFECT_current p) - 2 ^ defectIx d) = true) :
    Chip.wordsBut (R.PRT_DEFECT p :: recWords) c (c.exitDefect p d) ∧ Chip.notes p c (c.exitDefect p d) := by
  obtain ⟨hdrop, hdropped⟩ := Chip.dropDefect_keeps c p (defectIx d)
  obtain ⟨hreport, hnotes⟩ := Chip.report_keeps (c.dropDefect p (defectIx d)) p
  rw [Chip.exitDefect_eq hrun hpres hsf, Chip.faultOver_of_lt hd]
  exact ⟨hdrop.trans (hreport.mono (List.subset_cons_self _ _)), hdropped.trans hnotes⟩

end Sys2Proof.Machine
end

section
/-! PROOFS of the family of the line ports, O25: link state of the ports, and their defects (R74, R75, R102). -/

namespace Sys2Proof.Machine

/-! ## Changes of the performance counts alone -/

/-- A part differs from itself in nothing, its performance counts neither. -/
theorem Chip.eq_with_pm (c : Chip) : ∃ m, c = { c with pm := m } := ⟨c.pm, rfl⟩

theorem Chip.same_but_pm {c d : Chip} {m : Pm} (h : d = { c with pm := m }) : d.power = c.power ∧ ∀ a, d.word a = c.word a := by
  subst h
  exact ⟨rfl, fun _ => rfl⟩

/-- A fold whose steps change nothing but the performance counts changes nothing else. -/
theorem Chip.foldl_pm {α : Type} {g : Chip → α → Chip} (h : ∀ c x, ∃ m, g c x = { c with pm := m }) (l : List α) (c : Chip) :
    ∃ m, l.foldl g c = { c with pm := m } := by
  induction l generalizing c with
  | nil => exact Chip.eq_with_pm c
  | cons x l ih =>
    obtain ⟨m, hm⟩ := h c x
    obtain ⟨n, hn⟩ := ih (g c x)
    exact ⟨n, by rw [List.foldl_cons, hn, hm]⟩

theorem Chip.noteNosa_eq (c : Chip) (p : Nat) : ∃ m, c.noteNosa p = { c with pm := m } := by
  unfold Chip.noteNosa
  split
  · exact Chip.eq_with_pm c
  · refine Chip.foldl_pm (fun c h => ?_) _ c
    split
    · exact Chip.eq_with_pm c
    · exact ⟨_, rfl⟩

/-! ## Up and down -/

/-- The status word of a port that is declared up. -/
def Chip.shownUp (c : Chip) (p : Nat) : Chip := (c.wr (F.PRT_STATUS_link_up p) 1).wr (F.PRT_STATUS_link_changed p) 1

/-- The status word of a port that is declared down. -/
def Chip.shownDown (c : Chip) (p : Nat) : Chip :=
  ((c.wr (F.PRT_STATUS_link_up p) 0).wr (F.PRT_STATUS_link_changed p) 1).sat (F.PRT_STATUS_link_downs p) 1

theorem Chip.shownUp_shows (c : Chip) (p : Nat) :
    (c.shownUp p).flag (F.PRT_STATUS_link_up p) = true ∧ (c.shownUp p).flag (F.PRT_STATUS_link_changed p) = true ∧
      ∀ a, a ≠ R.PRT_STATUS p → (c.shownUp p).word a = c.word a := by
  refine ⟨?_, ?_, fun a ha => ?_⟩
  · rw [Chip.shownUp, Chip.flag_wr_clears _ _ _ _ rfl rfl, Chip.flag, Chip.rd_wr_same _ _ _ rfl]
    rfl
  · rw [Chip.shownUp, Chip.flag, Chip.rd_wr_same _ _ _ rfl]
    rfl
  · rw [Chip.shownUp, Chip.word_wr_other _ _ _ _ ha, Chip.word_wr_other _ _ _ _ ha]

theorem Chip.shownDown_shows (c : Chip) (p : Nat) :
    (c.shownDown p).flag (F.PRT_STATUS_link_up p) = false ∧ (c.shownDown p).flag (F.PRT_STATUS_link_changed p) = true ∧
      (c.shownDown p).rd (F.PRT_STATUS_link_downs p) = min (c.rd (F.PRT_STATUS_link_downs p) + 1) 65535 ∧
      ∀ a, a ≠ R.PRT_STATUS p → (c.shownDown p).word a = c.word a := by
  refine ⟨?_, ?_, ?_, fun a ha => ?_⟩
  · rw [Chip.shownDown, Chip.sat, Chip.flag_wr_clears _ _ _ _ rfl rfl, Chip.flag_wr_clears _ _ _ _ rfl rfl, Chip.flag,
      Chip.rd_wr_same _ _ _ rfl]
    rfl
  · rw [Chip.shownDown, Chip.sat, Chip.flag_wr_clears _ _ _ _ rfl rfl, Chip.flag, Chip.rd_wr_same _ _ _ rfl]
    rfl
  · rw [Chip.shownDown, Chip.sat, Chip.rd_wr_same _ _ _ rfl, Chip.rd_wr_clears _ _ _ _ rfl rfl, Chip.rd_wr_clears _ _ _ _ rfl rfl]
    have hw : (F.PRT_STATUS_link_downs p).w = 16 := rfl
    norm_num only [hw]
    omega
  · rw [Chip.shownDown, Chip.sat, Chip.word_wr_other _ _ _ _ ha, Chip.word_wr_other _ _ _ _ ha, Chip.word_wr_other _ _ _ _ ha]

/-- In halt, and of an uplink, the declaration shows in the status word, and cNOSA is noted besides. -/
theorem Chip.linkUp_eq {c : Chip} {p : Nat} (h : c.halted = true ∨ 96 ≤ p) : ∃ m, c.linkUp p = { c.shownUp p with pm := m } := by
  have hlink : c.linkUp p = if (c.shownUp p).halted then c.shownUp p else ((c.shownUp p).mkaStart p).noteNosa p := rfl
  have hhalted : (c.shownUp p).halted = c.halted :=
    Chip.flag_of_word ((c.shownUp_shows p).2.2 _ (by simp only [F.MGT_HALT_halted, R.MGT_HALT, R.PRT_STATUS]; omega))
  rw [hlink, hhalted]
  rcases h with h | h
  · rw [if_pos h]
    exact Chip.eq_with_pm _
  · have hmka : (c.shownUp p).mkaStart p = c.shownUp p := by
      have hline : ¬ p < 96 := Nat.not_lt.mpr h
      simp [Chip.mkaStart, Chip.isMacsec, hline]
    rw [hmka]
    split
    · exact Chip.eq_with_pm _
    · exact Chip.noteNosa_eq _ p

/-- What an uplink that goes down does besides, when it keeps its MAC entries: it is counted. -/
def Chip.downCounted (c : Chip) (p : Nat) : Chip := c.setPerf p { c.perf p with downs := (c.perf p).downs + 1 }

/-- In halt, and of an uplink that keeps its MAC entries, the declaration shows in the status word, and is counted besides. -/
theorem Chip.linkDown_eq {c : Chip} {p : Nat} (h : c.halted = true ∨ 96 ≤ p) (hflush : c.flushOnDown p = false) :
    ∃ m, c.linkDown p = { c.shownDown p with pm := m } := by
  have hlink : c.linkDown p = if (c.shownDown p).halted then c.shownDown p else
      (fun d : Chip => if d.flushOnDown p then (List.range 4).foldl (fun c k => c.flush k (some p) none false) d else d)
        (if ((c.shownDown p).downCounted p).isDenast p then ((c.shownDown p).downCounted p).partnerLost p
          else if ((c.shownDown p).downCounted p).isMacsec p then
            (((c.shownDown p).downCounted p).mkaPeersGone p).setMka p (fun m => { m with running := false })
          else (c.shownDown p).downCounted p) := rfl
  have hhalted : (c.shownDown p).halted = c.halted :=
    Chip.flag_of_word ((c.shownDown_shows p).2.2.2 _ (by simp only [F.MGT_HALT_halted, R.MGT_HALT, R.PRT_STATUS]; omega))
  rw [hlink, hhalted]
  rcases h with h | h
  · rw [if_pos h]
    exact Chip.eq_with_pm _
  · have hline : ¬ p < 96 := Nat.not_lt.mpr h
    have hden (d : Chip) : d.isDenast p = false := by simp [Chip.isDenast, hline]
    have hsec (d : Chip) : d.isMacsec p = false := by simp [Chip.isMacsec, hline]
    have hkeeps : ((c.shownDown p).downCounted p).flushOnDown p = false := hflush
    simp only [hden, hsec, hkeeps, Bool.false_eq_true, if_false]
    split
    · exact Chip.eq_with_pm _
    · exact ⟨_, rfl⟩

/-! ## The rules -/

theorem linkStateRule_holds : linkStateRule := by
  intro s p hp hrec hplain hflush
  have hpow := Chip.power_of_receives hrec
  refine ⟨fun hup hdown => ?_, fun hdown hup => ?_⟩
  · obtain ⟨m, hm⟩ := Chip.linkUp_eq hplain
    obtain ⟨hkeep, hword⟩ := Chip.same_but_pm hm
    obtain ⟨hflag, hchanged, hrest⟩ := Chip.shownUp_shows s.chip p
    exact goes_guarded (guard := fun c => c.receives p && c.upCond p && !c.flag (F.PRT_STATUS_link_up p)) (f := fun c => c.linkUp p) rfl
      (decide_eq_true hp) hpow (by rw [hrec, hup, hdown]; rfl) hkeep
      ⟨(Chip.flag_of_word (hword _)).trans hflag, (Chip.flag_of_word (hword _)).trans hchanged, fun a ha => (hword a).trans (hrest a ha)⟩
  · obtain ⟨m, hm⟩ := Chip.linkDown_eq hplain hflush
    obtain ⟨hkeep, hword⟩ := Chip.same_but_pm hm
    obtain ⟨hflag, hchanged, hdowns, hrest⟩ := Chip.shownDown_shows s.chip p
    exact goes_guarded (guard := fun c => c.receives p && !c.upCond p && c.flag (F.PRT_STATUS_link_up p)) (f := fun c => c.linkDown p) rfl
      (decide_eq_true hp) hpow (by rw [hrec, hup, hdown]; rfl) hkeep
      ⟨(Chip.flag_of_word (hword _)).trans hflag, (Chip.flag_of_word (hword _)).trans hchanged,
        (Chip.rd_of_word (hword _)).trans hdowns, fun a ha => (hword a).trans (hrest a ha)⟩

theorem Chip.running_of_watched {c : Chip} {p : Nat} (h : c.watched p = true) : c.running = true := by
  simp only [Chip.watched, Bool.and_eq_true] at h
  exact h.1

theorem Chip.not_halted_of_running {c : Chip} (h : c.running = true) : c.halted = false := by
  simp only [Chip.running, Bool.and_eq_true, Bool.not_eq_true'] at h
  exact h.2

theorem defectsRule_holds : defectsRule := by
  intro s p d hp hwatched
  have hrun := Chip.running_of_watched hwatched
  have hrest {c : Chip} (h : Chip.wordsBut (defectWords p) s.chip c) (a : Nat) (hdef : a ≠ R.PRT_DEFECT p) (hst : a ≠ R.PRT_STATUS p)
      (hnot : a ∉ recWords) : c.word a = s.chip.word a := h a (by simp [defectWords, hdef, hst, hnot])
  refine ⟨fun hcause habs hsf => ?_, fun hgone hpres hsf => ?_⟩
  · obtain ⟨hpow, hcur, hlatch, hwords⟩ := Chip.enterDefect_shows (Chip.not_halted_of_running hrun) habs hsf
    exact goes_guarded (guard := fun c => c.watched p && c.defectCause p d) (f := fun c => c.enterDefect p d) rfl (decide_eq_true hp)
      (Chip.power_of_running hrun) (by rw [hwatched, hcause]; rfl) hpow ⟨hcur, hlatch, hrest hwords⟩
  · obtain ⟨hpow, hcur, hlatch, hwords⟩ := Chip.exitDefect_shows (Chip.not_halted_of_running hrun) hpres hsf
    exact goes_guarded (guard := fun c => c.watched p && c.defectGone p d) (f := fun c => c.exitDefect p d) rfl (decide_eq_true hp)
      (Chip.power_of_running hrun) (by rw [hwatched, hgone]; rfl) hpow ⟨hcur, hlatch, hrest hwords⟩

/-- Settles O25, by its two rules (R74, R75, R102): that the hold times and the spans of the criteria have run is the command's own
criterion (log entry 60). -/
theorem linksAndDefects : Obligations.LinksAndDefects := ⟨linkStateRule_holds, defectsRule_holds⟩

end Sys2Proof.Machine
end

section
/-! PROOFS of the family of the line ports, O26, first part: Denast delineation (R79, R87, R88). -/

namespace Sys2Proof.Machine

/-! ## Registers of a Denast port -/

theorem prtDefect_ne_denStatus (p : Nat) : R.PRT_DEFECT p ≠ R.PRT_DEN_STATUS p := by
  simp only [R.PRT_DEFECT, R.PRT_DEN_STATUS]; omega

theorem prtDenCorr_ne_denStatus (p : Nat) : R.PRT_DEN_CORR p ≠ R.PRT_DEN_STATUS p := by
  simp only [R.PRT_DEN_CORR, R.PRT_DEN_STATUS]; omega

theorem prtDenHunt_ne_denStatus (p : Nat) : R.PRT_DEN_HUNT p ≠ R.PRT_DEN_STATUS p := by
  simp only [R.PRT_DEN_HUNT, R.PRT_DEN_STATUS]; omega

theorem prtDenHunt_ne_status (p : Nat) : R.PRT_DEN_HUNT p ≠ R.PRT_STATUS p := by
  simp only [R.PRT_DEN_HUNT, R.PRT_STATUS]; omega

theorem prtDenStatus_not_rec (p : Nat) : R.PRT_DEN_STATUS p ∉ recWords := port_not_rec (by simp only [R.PRT_DEN_STATUS]; omega)

theorem Chip.rd_setPort (c : Chip) (p : Nat) (x : Port) (f : Fld) : (c.setPort p x).rd f = c.rd f := rfl

theorem Chip.word_setPort (c : Chip) (p : Nat) (x : Port) (a : Nat) : (c.setPort p x).word a = c.word a := rfl

theorem Chip.power_setPort (c : Chip) (p : Nat) (x : Port) : (c.setPort p x).power = c.power := rfl

theorem Chip.delin_setPort (c : Chip) (p : Nat) (x : Port) (q : Nat) : (c.setPort p x).delin q = c.delin q := rfl

theorem Chip.flag_setPort (c : Chip) (p : Nat) (x : Port) (f : Fld) : (c.setPort p x).flag f = c.flag f := rfl

/-! ## Leaving one state for another -/

/-- A header that was the last before the hunt has none after it. -/
theorem Chip.used_of_not_last {c : Chip} {p : Nat} (h : (c.delin p).last = false) : c.used p = c := by
  rw [Chip.used, h]
  exact if_neg (by decide)

/-- What the exit of a defect that shows in no status word changes, when no signal fail ends with it, be the defect there or not. -/
theorem Chip.exitDefect_keeps {c : Chip} {p : Nat} {d : Defect} (hd : defectIx d < 6)
    (h : bit (c.rd (F.PRT_DEFECT_current p)) (defectIx d) = false ∨ isSf (c.rd (F.PRT_DEFECT_current p) - 2 ^ defectIx d) = true) :
    Chip.wordsBut (R.PRT_DEFECT p :: recWords) c (c.exitDefect p d) ∧ Chip.notes p c (c.exitDefect p d) := by
  cases hrun : c.halted with
  | true =>
    rw [Chip.exitDefect_of_halted hrun]
    exact ⟨Chip.wordsBut_refl _ _, Chip.notes_refl _ _⟩
  | false =>
    cases hpres : bit (c.rd (F.PRT_DEFECT_current p)) (defectIx d) with
    | false =>
      rw [Chip.exitDefect_of_absent hpres]
      exact ⟨Chip.wordsBut_refl _ _, Chip.notes_refl _ _⟩
    | true => exact Chip.exitDefect_notes hrun hd hpres (.inr (h.resolve_left (by simp [hpres])))

/-- SYNC as the status words and the port show it, before the defect leaves. -/
def Chip.syncShown (c : Chip) (p : Nat) : Chip :=
  (((((c.wr (F.PRT_DEN_STATUS_state p) 2).wr (F.PRT_DEN_STATUS_presync_count p) 0).wr (F.PRT_DEN_STATUS_bad_run p) 0).wr
    (F.PRT_STATUS_pcs_ready p) 1).setPort p { c.port p with helloOn := true })

theorem Chip.syncShown_shows (c : Chip) (p : Nat) : (c.syncShown p).rd (F.PRT_DEN_STATUS_state p) = 2 ∧
    (c.syncShown p).flag (F.PRT_STATUS_pcs_ready p) = true ∧ ((c.syncShown p).port p).helloOn = true ∧
      (c.syncShown p).rd (F.PRT_DEFECT_current p) = c.rd (F.PRT_DEFECT_current p) := by
  refine ⟨?_, ?_, by rw [Chip.syncShown, Chip.port_setPort_same], ?_⟩
  · rw [Chip.syncShown, Chip.rd_setPort, Chip.rd_wr_other _ _ _ _ (prtDenStatus_ne_status p),
      Chip.rd_wr_clears _ _ _ _ rfl rfl, Chip.rd_wr_clears _ _ _ _ rfl rfl, Chip.rd_wr_same _ _ _ rfl]
    rfl
  · rw [Chip.syncShown, Chip.flag_setPort, Chip.flag, Chip.rd_wr_same _ _ _ rfl]
    rfl
  · rw [Chip.syncShown, Chip.rd_setPort, Chip.rd_wr_other _ _ _ _ (prtDefect_ne_status p),
      Chip.rd_wr_other _ _ _ _ (prtDefect_ne_denStatus p), Chip.rd_wr_other _ _ _ _ (prtDefect_ne_denStatus p),
      Chip.rd_wr_other _ _ _ _ (prtDefect_ne_denStatus p)]

/-- SYNC is entered: dLOD leaves, where no signal fail ends with it. -/
theorem Chip.enterSync_shows {c : Chip} {p : Nat}
    (h : bit (c.rd (F.PRT_DEFECT_current p)) 5 = false ∨ isSf (c.rd (F.PRT_DEFECT_current p) - 2 ^ 5) = true) :
    (c.enterSync p).power = c.power ∧ (c.enterSync p).rd (F.PRT_DEN_STATUS_state p) = 2 ∧
      (c.enterSync p).flag (F.PRT_STATUS_pcs_ready p) = true ∧ ((c.enterSync p).port p).helloOn = true ∧
      (c.enterSync p).delin p = c.delin p := by
  obtain ⟨hstate, hready, hhello, hdefect⟩ := Chip.syncShown_shows c p
  obtain ⟨hwords, hpow, hdelin, hport⟩ := Chip.exitDefect_keeps (c := c.syncShown p) (p := p) (d := .dLOD) (by decide) (by rw [hdefect]; exact h)
  have hsync : c.enterSync p = (c.syncShown p).exitDefect p .dLOD := rfl
  have hden : R.PRT_DEN_STATUS p ∉ R.PRT_DEFECT p :: recWords := by
    simpa using ⟨(prtDefect_ne_denStatus p).symm, prtDenStatus_not_rec p⟩
  have hst : R.PRT_STATUS p ∉ R.PRT_DEFECT p :: recWords := by
    simpa using ⟨(prtDefect_ne_status p).symm, prtStatus_not_rec p⟩
  rw [hsync]
  exact ⟨hpow, (hwords.rd hden).trans hstate, (hwords.flag hst).trans hready, (congrArg Port.helloOn hport :).trans hhello,
    by rw [Chip.delin, hdelin]; rfl⟩

/-- The hunt as the status words of a port that was in SYNC show it. -/
def Chip.huntShown (c : Chip) (p : Nat) : Chip :=
  ((((c.wr (F.PRT_DEN_STATUS_state p) 0).wr (F.PRT_DEN_STATUS_presync_count p) 0).wr (F.PRT_DEN_STATUS_bad_run p) 0).wr
    (F.PRT_DEN_STATUS_seq_known p) 0).wr (F.PRT_STATUS_pcs_ready p) 0

/-- A port that was in SYNC begins its hunt, before the defect enters. -/
def Chip.huntBegun (c : Chip) (p : Nat) : Chip :=
  ((c.huntShown p).setPort p { (c.huntShown p).port p with rxSeq := none, icvRun := 0, aisRun := 0 }).bump (R.PRT_DEN_HUNT p)

theorem Chip.wordsBut_huntShown (c : Chip) (p : Nat) : Chip.wordsBut [R.PRT_DEN_STATUS p, R.PRT_STATUS p] c (c.huntShown p) :=
  (((((Chip.wordsBut_wr _ _ _).mono (by simp [F.PRT_DEN_STATUS_state])).trans
    ((Chip.wordsBut_wr _ _ _).mono (by simp [F.PRT_DEN_STATUS_presync_count]))).trans
    ((Chip.wordsBut_wr _ _ _).mono (by simp [F.PRT_DEN_STATUS_bad_run]))).trans
    ((Chip.wordsBut_wr _ _ _).mono (by simp [F.PRT_DEN_STATUS_seq_known]))).trans
    ((Chip.wordsBut_wr _ _ _).mono (by simp [F.PRT_STATUS_pcs_ready]))

theorem Chip.huntShown_state (c : Chip) (p : Nat) : (c.huntShown p).rd (F.PRT_DEN_STATUS_state p) = 0 := by
  rw [Chip.huntShown, Chip.rd_wr_other _ _ _ _ (prtDenStatus_ne_status p), Chip.rd_wr_clears _ _ _ _ rfl rfl,
    Chip.rd_wr_clears _ _ _ _ rfl rfl, Chip.rd_wr_clears _ _ _ _ rfl rfl, Chip.rd_wr_same _ _ _ rfl]
  rfl

theorem Chip.huntShown_data (c : Chip) (p : Nat) : (c.huntShown p).data = c.data ∧ (c.huntShown p).power = c.power := ⟨rfl, rfl⟩

theorem Chip.huntBegun_shows (c : Chip) (p : Nat) : (c.huntBegun p).power = c.power ∧ (c.huntBegun p).rd (F.PRT_DEN_STATUS_state p) = 0 ∧
    ((c.huntBegun p).port p).rxSeq = none ∧ (c.huntBegun p).word (R.PRT_DEN_HUNT p) = c.word (R.PRT_DEN_HUNT p) + 1 ∧
      (c.huntBegun p).delin p = c.delin p := by
  obtain ⟨hdata, hpow⟩ := Chip.huntShown_data c p
  refine ⟨?_, ?_, ?_, ?_, ?_⟩
  · rw [Chip.huntBegun, Chip.bump_power, Chip.power_setPort, hpow]
  · rw [Chip.huntBegun, Chip.rd_bump_other _ _ _ (prtDenHunt_ne_denStatus p).symm, Chip.rd_setPort, Chip.huntShown_state]
  · rw [Chip.huntBegun, Chip.port_of_data (Chip.bump_data _ _), Chip.port_setPort_same]
  · rw [Chip.huntBegun, Chip.word_bump_same, Chip.word_setPort,
      Chip.wordsBut_huntShown c p _ (by simpa using ⟨prtDenHunt_ne_denStatus p, prtDenHunt_ne_status p⟩)]
  · rw [Chip.huntBegun, Chip.delin_of_data (Chip.bump_data _ _), Chip.delin_setPort, Chip.delin_of_data hdata]

theorem Chip.huntBegun_halted (c : Chip) (p : Nat) : (c.huntBegun p).halted = c.halted := by
  have hfar : R.MGT_HALT ≠ R.PRT_DEN_HUNT p ∧ R.MGT_HALT ≠ R.PRT_DEN_STATUS p ∧ R.MGT_HALT ≠ R.PRT_STATUS p := by
    simp only [R.MGT_HALT, R.PRT_DEN_HUNT, R.PRT_DEN_STATUS, R.PRT_STATUS]; omega
  obtain ⟨hhunt, hden, hst⟩ := hfar
  have hword : (c.huntBegun p).word R.MGT_HALT = c.word R.MGT_HALT := by
    rw [Chip.huntBegun, Chip.word_bump_other _ _ _ hhunt, Chip.word_setPort, Chip.wordsBut_huntShown c p _ (by simpa using ⟨hden, hst⟩)]
  exact Chip.flag_of_word hword

/-- In halt a port that leaves SYNC enters no defect. -/
theorem Chip.leaveSync_of_halted {c : Chip} {p : Nat} (hst : c.rd (F.PRT_DEN_STATUS_state p) = 2) (hhalt : c.halted = true) :
    c.leaveSync p = c.huntBegun p :=
  (if_neg (by rw [hst]; decide)).trans (Chip.enterDefect_of_halted ((Chip.huntBegun_halted c p).trans hhalt))

/-! ## A header at the position examined, state by state (R87, R88) -/

section

variable {c : Chip} {p : Nat} {header control : Bytes} (hlast : (c.delin p).last = false)
include hlast

theorem Chip.denHeader_hunt (hst : c.rd (F.PRT_DEN_STATUS_state p) = 0) :
    c.denHeader p header control = if headerFits (c.denMax p) (denMask header) control then
      ((c.wr (F.PRT_DEN_STATUS_state p) 1).wr (F.PRT_DEN_STATUS_presync_count p) 0).setDelin p
        { pos := (c.delin p).pos + containerLen (be (denMask header) 0 2) control, cand := (c.delin p).pos }
    else c.seek p ((c.delin p).pos + 1) := by
  simp only [Chip.denHeader, Chip.used_of_not_last hlast, hst, Nat.reduceEqDiff, if_false]

theorem Chip.denHeader_presync (hst : c.rd (F.PRT_DEN_STATUS_state p) = 1) :
    c.denHeader p header control = if headerFits (c.denMax p) (denMask header) control then
      (if c.rd (F.PRT_DEN_STATUS_presync_count p) + 1 = 3 then c.enterSync p
        else c.wr (F.PRT_DEN_STATUS_presync_count p) (c.rd (F.PRT_DEN_STATUS_presync_count p) + 1)).seek p
          ((c.delin p).pos + containerLen (be (denMask header) 0 2) control)
    else ((c.wr (F.PRT_DEN_STATUS_state p) 0).wr (F.PRT_DEN_STATUS_presync_count p) 0).seek p ((c.delin p).cand + 1) := by
  simp only [Chip.denHeader, Chip.used_of_not_last hlast, hst, Nat.reduceEqDiff, if_false, if_true]
  cases headerFits (c.denMax p) (denMask header) control <;> rfl

theorem Chip.denHeader_sync (hst : c.rd (F.PRT_DEN_STATUS_state p) = 2) :
    c.denHeader p header control = c.syncHeader p (denMask header) control := by
  simp only [Chip.denHeader, Chip.used_of_not_last hlast, hst, if_true]

end

theorem headerFits_of_not_coreOk {max : Nat} {h control : Bytes} (hcore : coreOk h = false) : headerFits max h control = false := by
  rw [headerFits, hcore, Bool.false_and]

/-- A header beyond correction ends SYNC. -/
theorem Chip.syncHeader_lost {c : Chip} {p : Nat} {h control : Bytes} (hcore : coreOk h = false) (hnone : corrected h = none) :
    c.syncHeader p h control = (c.leaveSync p).seek p ((c.delin p).pos + 1) := by
  simp only [Chip.syncHeader, headerFits_of_not_coreOk hcore, hcore, hnone, Bool.false_eq_true, if_false]

/-- A header with one bit in error is counted and used, short of the third bad one in a row. -/
theorem Chip.syncHeader_corrected {c : Chip} {p : Nat} {h g control : Bytes} (hcore : coreOk h = false) (hsome : corrected h = some g)
    (hpli : pliOk (c.denMax p) (be g 0 2) control = true) (hrun : c.rd (F.PRT_DEN_STATUS_bad_run p) < 2) :
    c.syncHeader p h control =
      ((c.bump (R.PRT_DEN_CORR p)).useHeader p (be g 0 2) control).wr (F.PRT_DEN_STATUS_bad_run p) (c.rd (F.PRT_DEN_STATUS_bad_run p) + 1) := by
  have hbad : (c.bump (R.PRT_DEN_CORR p)).rd (F.PRT_DEN_STATUS_bad_run p) = c.rd (F.PRT_DEN_STATUS_bad_run p) :=
    Chip.rd_bump_other _ _ _ (prtDenCorr_ne_denStatus p).symm
  have hless : c.rd (F.PRT_DEN_STATUS_bad_run p) + 1 < 3 := by omega
  simp only [Chip.syncHeader, headerFits_of_not_coreOk hcore, hcore, hsome, hpli, hbad, hless, Bool.false_eq_true, Bool.not_true, if_false,
    if_true]

theorem Chip.onlyRegs.useHeader {c d : Chip} {as : List Nat} (h : Chip.onlyRegs c d as) (p pli : Nat) (control : Bytes) :
    Chip.onlyRegs (c.setDelin p { c.delin p with pos := (c.delin p).pos + containerLen pli control, due := some pli })
      (d.useHeader p pli control) as := by
  rw [Chip.useHeader, Chip.delin_of_data h.data]
  exact h.setDelin p _

theorem Chip.rd_setDelin (c : Chip) (p : Nat) (x : Delin) (f : Fld) : (c.setDelin p x).rd f = c.rd f := rfl

theorem Chip.power_seek (c : Chip) (p pos : Nat) : (c.seek p pos).power = c.power := rfl

theorem Chip.rd_seek (c : Chip) (p pos : Nat) (f : Fld) : (c.seek p pos).rd f = c.rd f := rfl

theorem Chip.flag_seek (c : Chip) (p pos : Nat) (f : Fld) : (c.seek p pos).flag f = c.flag f := rfl

theorem Chip.word_seek (c : Chip) (p pos a : Nat) : (c.seek p pos).word a = c.word a := rfl

theorem Chip.port_seek (c : Chip) (p pos q : Nat) : (c.seek p pos).port q = c.port q := rfl

theorem Chip.delin_seek (c : Chip) (p pos : Nat) : (c.seek p pos).delin p = { c.delin p with pos := pos, due := none, last := false } :=
  Chip.delin_setDelin_same _ _ _

theorem Chip.rd_useHeader (c : Chip) (p pli : Nat) (control : Bytes) (f : Fld) : (c.useHeader p pli control).rd f = c.rd f := rfl

theorem Chip.word_useHeader (c : Chip) (p pli : Nat) (control : Bytes) (a : Nat) : (c.useHeader p pli control).word a = c.word a := rfl

section

variable {s : State} {p : Nat} {header control : Bytes} (hp : p < 96) (hlen : header.length = 4) (hrec : s.chip.receives p = true)
  (hden : s.chip.isDenast p = true) (ham : s.chip.flag (F.PRT_STATUS_am_lock p) = true)
include hp hlen hrec hden ham

/-- DENAST_HEADER at a port that works with its lock. -/
theorem goes_denastHeader {d : Chip} {P : Chip → Prop} (hd : s.chip.denHeader p header control = d) (hpow : d.power = s.chip.power) (h : P d) :
    Goes (.denastHeader p header control) s P :=
  goes_actOn_of_eq rfl (by simp [hp, hlen]) (Chip.power_of_receives hrec) ((if_pos (by rw [hrec, hden, ham]; rfl)).trans hd) hpow h

variable (hlast : (s.chip.delin p).last = false)
include hlast

theorem goes_denastHeader_hunt_fits (hst : s.chip.rd (F.PRT_DEN_STATUS_state p) = 0)
    (hfits : headerFits (s.chip.denMax p) (denMask header) control = true) :
    Goes (.denastHeader p header control) s fun c =>
      (c.rd (F.PRT_DEN_STATUS_state p) = 1 ∧ c.rd (F.PRT_DEN_STATUS_presync_count p) = 0) ∧
        Chip.onlyRegs (s.chip.setDelin p
          { pos := (s.chip.delin p).pos + containerLen (be (denMask header) 0 2) control, cand := (s.chip.delin p).pos }) c
          [R.PRT_DEN_STATUS p] := by
  have honly : Chip.onlyRegs s.chip ((s.chip.wr (F.PRT_DEN_STATUS_state p) 1).wr (F.PRT_DEN_STATUS_presync_count p) 0) [R.PRT_DEN_STATUS p] :=
    (Chip.onlyRegs_wr _ (F.PRT_DEN_STATUS_state p) _).trans (Chip.onlyRegs_wr _ (F.PRT_DEN_STATUS_presync_count p) _)
  refine goes_denastHeader hp hlen hrec hden ham ((Chip.denHeader_hunt hlast hst).trans (if_pos hfits)) rfl
    ⟨⟨?_, ?_⟩, honly.setDelin p _⟩
  · rw [Chip.rd_setDelin, Chip.rd_wr_clears _ _ _ _ rfl rfl, Chip.rd_wr_same _ _ _ rfl]
    rfl
  · rw [Chip.rd_setDelin, Chip.rd_wr_same _ _ _ rfl]
    rfl

theorem goes_denastHeader_hunt_unfit (hst : s.chip.rd (F.PRT_DEN_STATUS_state p) = 0)
    (hfits : headerFits (s.chip.denMax p) (denMask header) control = false) :
    Goes (.denastHeader p header control) s fun c => c = s.chip.seek p ((s.chip.delin p).pos + 1) :=
  goes_denastHeader hp hlen hrec hden ham ((Chip.denHeader_hunt hlast hst).trans (if_neg (by simp [hfits]))) rfl rfl

theorem goes_denastHeader_presync_counts (hst : s.chip.rd (F.PRT_DEN_STATUS_state p) = 1)
    (hfits : headerFits (s.chip.denMax p) (denMask header) control = true) (hn : s.chip.rd (F.PRT_DEN_STATUS_presync_count p) < 2) :
    Goes (.denastHeader p header control) s fun c =>
      (c.rd (F.PRT_DEN_STATUS_state p) = 1 ∧
        c.rd (F.PRT_DEN_STATUS_presync_count p) = s.chip.rd (F.PRT_DEN_STATUS_presync_count p) + 1) ∧
      Chip.onlyRegs (s.chip.setDelin p { s.chip.delin p with
        pos := (s.chip.delin p).pos + containerLen (be (denMask header) 0 2) control, due := none, last := false }) c [R.PRT_DEN_STATUS p] := by
  have honly := Chip.onlyRegs_wr s.chip (F.PRT_DEN_STATUS_presync_count p) (s.chip.rd (F.PRT_DEN_STATUS_presync_count p) + 1)
  refine goes_denastHeader hp hlen hrec hden ham
    ((Chip.denHeader_presync hlast hst).trans ((if_pos hfits).trans (congrArg (Chip.seek · p _) (if_neg (by omega))))) rfl
    ⟨⟨?_, ?_⟩, honly.seek p _⟩
  · rw [Chip.rd_seek, Chip.rd_wr_clears _ _ _ _ rfl rfl, hst]
  · rw [Chip.rd_seek, Chip.rd_wr_same _ _ _ rfl]
    exact Nat.mod_eq_of_lt (show s.chip.rd (F.PRT_DEN_STATUS_presync_count p) + 1 < 4 by omega)

theorem goes_denastHeader_presync_syncs (hst : s.chip.rd (F.PRT_DEN_STATUS_state p) = 1)
    (hfits : headerFits (s.chip.denMax p) (denMask header) control = true) (hn : s.chip.rd (F.PRT_DEN_STATUS_presync_count p) = 2)
    (hdef : bit (s.chip.rd (F.PRT_DEFECT_current p)) 5 = false ∨ isSf (s.chip.rd (F.PRT_DEFECT_current p) - 2 ^ 5) = true) :
    Goes (.denastHeader p header control) s fun c => c.rd (F.PRT_DEN_STATUS_state p) = 2 ∧ c.flag (F.PRT_STATUS_pcs_ready p) = true ∧
      (c.port p).helloOn = true ∧ c.delin p = { s.chip.delin p with
        pos := (s.chip.delin p).pos + containerLen (be (denMask header) 0 2) control, due := none, last := false } := by
  obtain ⟨hpow, hstate, hready, hhello, hdelin⟩ := Chip.enterSync_shows hdef
  exact goes_denastHeader hp hlen hrec hden ham
    ((Chip.denHeader_presync hlast hst).trans ((if_pos hfits).trans (congrArg (Chip.seek · p _) (if_pos (by omega))))) hpow
    ⟨by rw [Chip.rd_seek, hstate], by rw [Chip.flag_seek, hready], by rw [Chip.port_seek, hhello], by rw [Chip.delin_seek, hdelin]⟩

theorem goes_denastHeader_presync_unfit (hst : s.chip.rd (F.PRT_DEN_STATUS_state p) = 1)
    (hfits : headerFits (s.chip.denMax p) (denMask header) control = false) :
    Goes (.denastHeader p header control) s fun c => c.rd (F.PRT_DEN_STATUS_state p) = 0 ∧
      Chip.onlyRegs (s.chip.setDelin p { s.chip.delin p with pos := (s.chip.delin p).cand + 1, due := none, last := false }) c
        [R.PRT_DEN_STATUS p] := by
  have honly : Chip.onlyRegs s.chip ((s.chip.wr (F.PRT_DEN_STATUS_state p) 0).wr (F.PRT_DEN_STATUS_presync_count p) 0) [R.PRT_DEN_STATUS p] :=
    (Chip.onlyRegs_wr _ (F.PRT_DEN_STATUS_state p) _).trans (Chip.onlyRegs_wr _ (F.PRT_DEN_STATUS_presync_count p) _)
  refine goes_denastHeader hp hlen hrec hden ham ((Chip.denHeader_presync hlast hst).trans (if_neg (by simp [hfits]))) rfl
    ⟨?_, honly.seek p _⟩
  rw [Chip.rd_seek, Chip.rd_wr_clears _ _ _ _ rfl rfl, Chip.rd_wr_same _ _ _ rfl]
  rfl

theorem goes_denastHeader_sync_fits (hst : s.chip.rd (F.PRT_DEN_STATUS_state p) = 2)
    (hfits : headerFits (s.chip.denMax p) (denMask header) control = true) :
    Goes (.denastHeader p header control) s fun c =>
      (c.rd (F.PRT_DEN_STATUS_bad_run p) = 0 ∧ c.rd (F.PRT_DEN_STATUS_state p) = 2) ∧
        Chip.onlyRegs (s.chip.setDelin p { s.chip.delin p with
          pos := (s.chip.delin p).pos + containerLen (be (denMask header) 0 2) control, due := some (be (denMask header) 0 2) }) c
          [R.PRT_DEN_STATUS p] := by
  refine goes_denastHeader hp hlen hrec hden ham ((Chip.denHeader_sync hlast hst).trans (if_pos hfits)) rfl
    ⟨⟨?_, ?_⟩, (Chip.onlyRegs_wr s.chip (F.PRT_DEN_STATUS_bad_run p) 0).useHeader p _ _⟩
  · rw [Chip.rd_useHeader, Chip.rd_wr_same _ _ _ rfl]
    rfl
  · rw [Chip.rd_useHeader, Chip.rd_wr_clears _ _ _ _ rfl rfl, hst]

theorem goes_denastHeader_sync_corrected {g : Bytes} (hst : s.chip.rd (F.PRT_DEN_STATUS_state p) = 2) (hcore : coreOk (denMask header) = false)
    (hsome : corrected (denMask header) = some g) (hpli : pliOk (s.chip.denMax p) (be g 0 2) control = true)
    (hrun : s.chip.rd (F.PRT_DEN_STATUS_bad_run p) < 2) :
    Goes (.denastHeader p header control) s fun c =>
      c.word (R.PRT_DEN_CORR p) = s.chip.word (R.PRT_DEN_CORR p) + 1 ∧
        c.rd (F.PRT_DEN_STATUS_bad_run p) = s.chip.rd (F.PRT_DEN_STATUS_bad_run p) + 1 ∧ c.rd (F.PRT_DEN_STATUS_state p) = 2 ∧
        Chip.onlyRegs (s.chip.setDelin p { s.chip.delin p with
          pos := (s.chip.delin p).pos + containerLen (be g 0 2) control, due := some (be g 0 2) }) c [R.PRT_DEN_STATUS p, R.PRT_DEN_CORR p] := by
  have honly := ((Chip.onlyRegs_bump s.chip (R.PRT_DEN_CORR p)).useHeader p (be g 0 2) control).mono
    (bs := [R.PRT_DEN_STATUS p, R.PRT_DEN_CORR p]) (by simp)
  refine goes_denastHeader hp hlen hrec hden ham ((Chip.denHeader_sync hlast hst).trans (Chip.syncHeader_corrected hcore hsome hpli hrun)) rfl
    ⟨?_, ?_, ?_, honly.trans ((Chip.onlyRegs_wr _ _ _).mono (by simp [F.PRT_DEN_STATUS_bad_run]))⟩
  · rw [Chip.word_wr_other _ _ _ _ (prtDenCorr_ne_denStatus p), Chip.word_useHeader, Chip.word_bump_same]
  · rw [Chip.rd_wr_same _ _ _ rfl]
    exact Nat.mod_eq_of_lt (show s.chip.rd (F.PRT_DEN_STATUS_bad_run p) + 1 < 4 by omega)
  · rw [Chip.rd_wr_clears _ _ _ _ rfl rfl, Chip.rd_useHeader, Chip.rd_bump_other _ _ _ (prtDenCorr_ne_denStatus p).symm, hst]

theorem goes_denastHeader_sync_lost (hst : s.chip.rd (F.PRT_DEN_STATUS_state p) = 2) (hhalt : s.chip.halted = true)
    (hcore : coreOk (denMask header) = false) (hnone : corrected (denMask header) = none) :
    Goes (.denastHeader p header control) s fun c =>
      c.rd (F.PRT_DEN_STATUS_state p) = 0 ∧ (c.port p).rxSeq = none ∧ c.word (R.PRT_DEN_HUNT p) = s.chip.word (R.PRT_DEN_HUNT p) + 1 ∧
        c.delin p = { s.chip.delin p with pos := (s.chip.delin p).pos + 1, due := none, last := false } := by
  obtain ⟨hpow, hstate, hseq, hhunt, hdelin⟩ := Chip.huntBegun_shows s.chip p
  have hlost : s.chip.denHeader p header control = (s.chip.huntBegun p).seek p ((s.chip.delin p).pos + 1) := by
    rw [Chip.denHeader_sync hlast hst, Chip.syncHeader_lost hcore hnone, Chip.leaveSync_of_halted hst hhalt]
  exact goes_denastHeader hp hlen hrec hden ham hlost ((Chip.power_seek _ _ _).trans hpow)
    ⟨by rw [Chip.rd_seek, hstate], by rw [Chip.port_seek, hseq], by rw [Chip.word_seek, hhunt], by rw [Chip.delin_seek, hdelin]⟩

end

theorem delineationRule_holds : delineationRule := by
  intro s p header control hp hlen hrec hden ham hlast
  exact ⟨goes_denastHeader_hunt_fits hp hlen hrec hden ham hlast, goes_denastHeader_hunt_unfit hp hlen hrec hden ham hlast,
    goes_denastHeader_presync_counts hp hlen hrec hden ham hlast, goes_denastHeader_presync_syncs hp hlen hrec hden ham hlast,
    goes_denastHeader_presync_unfit hp hlen hrec hden ham hlast, goes_denastHeader_sync_fits hp hlen hrec hden ham hlast,
    fun _ => goes_denastHeader_sync_corrected hp hlen hrec hden ham hlast, goes_denastHeader_sync_lost hp hlen hrec hden ham hlast⟩

end Sys2Proof.Machine
end

section
/-! PROOFS of the family of the line ports, O26, second part: the containers that a Denast port receives (R77 to R84, R90, R226). -/

namespace Sys2Proof.Machine

/-! ## A container that has come -/

theorem Chip.watched_of_awaits {c : Chip} {p pli : Nat} (h : c.awaits p pli = true) : c.watched p = true := by
  simp only [Chip.awaits, Bool.and_eq_true] at h
  obtain ⟨⟨⟨hwatched, -⟩, -⟩, -⟩ := h
  exact hwatched

theorem Chip.isDenast_of_awaits {c : Chip} {p pli : Nat} (h : c.awaits p pli = true) : c.isDenast p = true := by
  simp only [Chip.awaits, Bool.and_eq_true] at h
  obtain ⟨⟨-, hden⟩, -⟩ := h
  exact hden

theorem Chip.power_of_awaits {c : Chip} {p pli : Nat} (h : c.awaits p pli = true) : c.power = true :=
  Chip.power_of_running (Chip.running_of_watched (Chip.watched_of_awaits h))

theorem Chip.delin_taken (c : Chip) (p : Nat) : (c.taken p).delin p = { c.delin p with due := none } := Chip.delin_setDelin_same _ _ _

theorem Chip.port_taken (c : Chip) (p q : Nat) : (c.taken p).port q = c.port q := rfl

theorem Chip.word_taken (c : Chip) (p a : Nat) : (c.taken p).word a = c.word a := rfl

/-- A command that takes a container does its step, when its header was not the last before the hunt. -/
theorem goes_took {i : Instr} {s : State} {ok : Bool} {f : Chip → Chip} {p : Nat} {d : Chip} {P : Chip → Prop} (hx : exec i s = s.actOn ok f)
    (ho : ok = true) (hp : s.chip.power = true) (hd : f s.chip = d.used p) (hlast : (d.delin p).last = false)
    (hpow : d.power = s.chip.power) (h : P d) : Goes i s P :=
  goes_actOn_of_eq hx ho hp (hd.trans (Chip.used_of_not_last hlast)) hpow h

/-! ## Data containers (R82, R226) -/

/-- A data container ends a run of AIS containers. -/
def Chip.aisEnded (c : Chip) (p : Nat) : Chip := (c.setPort p { c.port p with aisRun := 0 }).wr (F.PRT_STATUS_ais_rx p) 0

/-- A data container takes the expected sequence, which moves on by one. -/
def Chip.seqMoved (c : Chip) (p seq : Nat) : Chip := c.setPort p { c.port p with rxSeq := some ((seq + 1) % 2 ^ 64) }

theorem Chip.port_aisEnded (c : Chip) (p : Nat) : (c.aisEnded p).port p = { c.port p with aisRun := 0 } :=
  Chip.port_setPort_same _ _ _

theorem Chip.dataContainer_of_noSeq {c : Chip} {p : Nat} (h : (c.port p).rxSeq = none) (payload icv : Bytes) :
    c.dataContainer p payload icv = (c.aisEnded p).bump (R.PRT_DEN_NOSEQ p) := by
  have hseq : ((c.aisEnded p).port p).rxSeq = none := by rw [Chip.port_aisEnded, h]
  rw [Chip.aisEnded] at hseq ⊢
  simp only [Chip.dataContainer, hseq]

theorem Chip.dataContainer_of_seq {c : Chip} {p seq : Nat} (h : (c.port p).rxSeq = some seq) (payload icv : Bytes) :
    c.dataContainer p payload icv = ((c.aisEnded p).seqMoved p seq).openContainer p seq payload icv := by
  have hseq : ((c.aisEnded p).port p).rxSeq = some seq := by rw [Chip.port_aisEnded, h]
  rw [Chip.seqMoved, Chip.aisEnded] at *
  simp only [Chip.dataContainer, hseq]

theorem Chip.openContainer_short {c : Chip} {p : Nat} {payload : Bytes} (hbox : c.boxesWaiting p < 2) (hlen : payload.length < 512) (seq : Nat)
    (icv : Bytes) : c.openContainer p seq payload icv = c.bump (R.CPH_RX_DEN_SHORT p) := by
  rw [Chip.openContainer, if_neg (Nat.not_le.mpr hbox), if_pos hlen]

/-- A container as the ingress cipher takes it. -/
def Chip.boxOf (c : Chip) (p seq : Nat) (payload icv : Bytes) (h : Chan) (i : Nat) : Box :=
  { port := p, sc := h.sc, sa := i, an := c.rd (F.PRT_DEN_STATUS_rx_an p), seq := seq,
    payload := gcmCrypt (c.sa i).key (denNonce (c.sa i) seq) payload,
    icvOk := gcmTag (c.sa i).key (denNonce (c.sa i) seq) (coreHeader payload.length) payload == icv,
    lane := (c.addBlock h.sc).pickInLane (pipeOf p), blocks := laneCycles payload.length, rx := (c.addBlock h.sc).rxStamp p }

/-- A container waits in the ingress cipher under the next number. -/
def Chip.boxTaken (c : Chip) (p : Nat) (h : Chan) (b : Box) : Chip :=
  (((c.addBlock h.sc).takeHold (pipeOf p) b.blocks).setBox c.data.nextId (some b)).setNextId (c.data.nextId + 1)

theorem Chip.openContainer_taken {c : Chip} {p seq i : Nat} {payload : Bytes} {h : Chan} (hbox : c.boxesWaiting p < 2)
    (hlen : 512 ≤ payload.length) (hchan : c.chan (c.denRxSc p) = some h) (hsa : c.rxSa h (c.rd (F.PRT_DEN_STATUS_rx_an p)) = some i)
    (hseq : max 1 ((c.sa i).nextPn - (c.sa i).w) ≤ seq) (hhold : (c.addBlock h.sc).holdTakes (pipeOf p) = true) (icv : Bytes) :
    c.openContainer p seq payload icv = c.boxTaken p h (c.boxOf p seq payload icv h i) := by
  rw [Chip.openContainer, if_neg (Nat.not_le.mpr hbox), if_neg (Nat.not_lt.mpr hlen)]
  simp only [hchan, hsa, Option.bind_some, Option.map_some, if_neg (Nat.not_lt.mpr hseq), hhold, Bool.not_true, Bool.false_eq_true, if_false]
  rfl

theorem Chip.holdTakes_of_words {c d : Chip} (h : ∀ a, 0x20000 ≤ a → d.word a = c.word a) (k : Nat) : d.holdTakes k = c.holdTakes k := by
  have hused : d.rd (F.CPH_HOLD_used k) = c.rd (F.CPH_HOLD_used k) :=
    Chip.rd_of_word (h _ (by simp only [F.CPH_HOLD_used, R.CPH_HOLD]; omega))
  have hstate (s : Nat) : d.rd (F.CPH_SLICE_STATUS_state s) = c.rd (F.CPH_SLICE_STATUS_state s) :=
    Chip.rd_of_word (h _ (by simp only [F.CPH_SLICE_STATUS_state, R.CPH_SLICE_STATUS]; omega))
  have hpipe (s : Nat) : d.rd (F.CPH_SLICE_STATUS_pipeline s) = c.rd (F.CPH_SLICE_STATUS_pipeline s) :=
    Chip.rd_of_word (h _ (by simp only [F.CPH_SLICE_STATUS_pipeline, R.CPH_SLICE_STATUS]; omega))
  simp only [Chip.holdTakes, Chip.inSlices, hused, hstate, hpipe]

/-- The part with the run of AIS ended and the sequence moved on: its containers, its SAs and its channels stand as before. -/
def Chip.dataCame (c : Chip) (p seq : Nat) : Chip := ((c.taken p).aisEnded p).seqMoved p seq

theorem Chip.dataCame_sas (c : Chip) (p seq : Nat) : (c.dataCame p seq).data.sas = c.data.sas ∧ (c.dataCame p seq).data.frames = c.data.frames ∧
    (c.dataCame p seq).data.nextId = c.data.nextId ∧ (c.dataCame p seq).power = c.power := ⟨rfl, rfl, rfl, rfl⟩

theorem Chip.dataCame_boxesWaiting (c : Chip) (p seq : Nat) : (c.dataCame p seq).boxesWaiting p = c.boxesWaiting p := rfl

theorem Chip.dataCame_chan (c : Chip) (p seq : Nat) : (c.dataCame p seq).chan ((c.dataCame p seq).denRxSc p) = c.chan (c.denRxSc p) := rfl

theorem Chip.dataCame_sa (c : Chip) (p seq i : Nat) : (c.dataCame p seq).sa i = c.sa i := rfl

theorem Chip.dataCame_rxSa (c : Chip) (p seq : Nat) (h : Chan) (an : Nat) : (c.dataCame p seq).rxSa h an = c.rxSa h an := rfl

theorem Chip.wordsBut_aisEnded (c : Chip) (p : Nat) : Chip.wordsBut [R.PRT_STATUS p] c (c.aisEnded p) :=
  Chip.wordsBut_wr (c.setPort p _) (F.PRT_STATUS_ais_rx p) 0

theorem Chip.wordsBut_dataCame (c : Chip) (p seq : Nat) : Chip.wordsBut [R.PRT_STATUS p] c (c.dataCame p seq) :=
  (Chip.wordsBut_aisEnded (c.taken p) p).setPort p _

theorem Chip.dataCame_rxAn (c : Chip) (p seq : Nat) : (c.dataCame p seq).rd (F.PRT_DEN_STATUS_rx_an p) = c.rd (F.PRT_DEN_STATUS_rx_an p) :=
  (Chip.wordsBut_dataCame c p seq).rd (by simpa [F.PRT_DEN_STATUS_rx_an] using prtDenStatus_ne_status p)

theorem Chip.dataCame_holdTakes {c : Chip} {p : Nat} (hp : p < 96) (seq k : Nat) : (c.dataCame p seq).holdTakes k = c.holdTakes k :=
  Chip.holdTakes_of_words (fun a ha => Chip.wordsBut_dataCame c p seq a (by simp only [List.mem_singleton, R.PRT_STATUS]; omega)) k

theorem Chip.port_dataCame (c : Chip) (p seq : Nat) :
    (c.dataCame p seq).port p = { c.port p with aisRun := 0, rxSeq := some ((seq + 1) % 2 ^ 64) } := by
  rw [Chip.dataCame, Chip.seqMoved, Chip.port_setPort_same, Chip.port_aisEnded, Chip.port_taken]

theorem Chip.port_dataCame_other (c : Chip) {p q : Nat} (h : q ≠ p) (seq : Nat) : (c.dataCame p seq).port q = c.port q :=
  (Chip.port_setPort_other _ _ h).trans (Chip.port_setPort_other _ _ h)

theorem Chip.delin_dataCame (c : Chip) (p seq : Nat) : (c.dataCame p seq).delin p = { c.delin p with due := none } := Chip.delin_taken _ _

theorem Chip.delin_aisEnded (c : Chip) (p : Nat) : (c.aisEnded p).delin p = c.delin p := rfl

theorem Chip.boxTaken_keeps (c : Chip) (p : Nat) (h : Chan) (b : Box) :
    (c.boxTaken p h b).power = c.power ∧ (c.boxTaken p h b).delin p = c.delin p ∧ (∀ q, (c.boxTaken p h b).port q = c.port q) ∧
      (c.boxTaken p h b).data.sas = c.data.sas ∧ (c.boxTaken p h b).data.frames = c.data.frames :=
  ⟨rfl, rfl, fun _ => rfl, rfl, rfl⟩

theorem Chip.boxTaken_box (c : Chip) (p : Nat) (h : Chan) (b : Box) :
    Sparse.get none (c.boxTaken p h b).data.boxes c.data.nextId = some b :=
  Sparse.get_set_same none (some b) c.data.boxes c.data.nextId

theorem Chip.boxTaken_nextId (c : Chip) (p : Nat) (h : Chan) (b : Box) : (c.boxTaken p h b).data.nextId = c.data.nextId + 1 := rfl

theorem Chip.addBlock_holdTakes (c : Chip) (sc k : Nat) : (c.addBlock sc).holdTakes k = c.holdTakes k := rfl

section

variable {s : State} {p : Nat} {payload icv : Bytes} (hp : p < 96) (hlast : (s.chip.delin p).last = false) (hicv : icv.length = 16)
  (hlen : 4 ≤ payload.length) (hawaits : s.chip.awaits p payload.length = true)
include hp hlast hicv hlen hawaits

/-- DENAST_DATA_CONTAINER of a container that was announced. -/
theorem goes_denastDataContainer {d : Chip} {P : Chip → Prop} (hd : (s.chip.taken p).dataContainer p payload icv = d)
    (hdelin : d.delin p = { s.chip.delin p with due := none }) (hpow : d.power = s.chip.power) (h : P d) :
    Goes (.denastDataContainer p payload icv) s P :=
  goes_took rfl (by simp [hp, hicv]) (Chip.power_of_awaits hawaits)
    ((if_pos (by rw [hawaits, decide_eq_true hlen]; rfl)).trans (congrArg (Chip.used · p) hd)) (by rw [hdelin]; exact hlast) hpow h

/-- Before any MARK the container is counted and dropped. -/
theorem goes_denastDataContainer_noSeq (hseq : (s.chip.port p).rxSeq = none) : Goes (.denastDataContainer p payload icv) s fun c =>
    c.word (R.PRT_DEN_NOSEQ p) = s.chip.word (R.PRT_DEN_NOSEQ p) + 1 ∧ (c.port p).aisRun = 0 ∧ c.flag (F.PRT_STATUS_ais_rx p) = false ∧
      (c.delin p).due = none ∧ ∀ a, a ≠ R.PRT_DEN_NOSEQ p → a ≠ R.PRT_STATUS p → c.word a = s.chip.word a := by
  have hne : R.PRT_DEN_NOSEQ p ≠ R.PRT_STATUS p := by simp only [R.PRT_DEN_NOSEQ, R.PRT_STATUS]; omega
  have hwords := Chip.wordsBut_aisEnded (s.chip.taken p) p
  have hdelin : (((s.chip.taken p).aisEnded p).bump (R.PRT_DEN_NOSEQ p)).delin p = { s.chip.delin p with due := none } := by
    rw [Chip.delin_of_data (Chip.bump_data _ _), Chip.delin_aisEnded, Chip.delin_taken]
  refine goes_denastDataContainer hp hlast hicv hlen hawaits (Chip.dataContainer_of_noSeq (c := s.chip.taken p) hseq payload icv) hdelin rfl
    ⟨?_, ?_, ?_, by rw [hdelin], fun a ha hst => ?_⟩
  · rw [Chip.word_bump_same, hwords _ (by simpa using hne), Chip.word_taken]
  · rw [Chip.port_of_data (Chip.bump_data _ _), Chip.port_aisEnded]
  · rw [Chip.flag, Chip.rd_bump_other _ _ _ hne.symm, Chip.aisEnded, Chip.rd_wr_same _ _ _ rfl]
    rfl
  · rw [Chip.word_bump_other _ _ _ ha, hwords _ (by simpa using hst), Chip.word_taken]

/-- A container that is too short is counted and dropped; it took its sequence. -/
theorem goes_denastDataContainer_short {seq : Nat} (hshort : payload.length < 512) (hseq : (s.chip.port p).rxSeq = some seq)
    (hbox : s.chip.boxesWaiting p < 2) : Goes (.denastDataContainer p payload icv) s fun c =>
      (c.port p).rxSeq = some ((seq + 1) % 2 ^ 64) ∧ c.word (R.CPH_RX_DEN_SHORT p) = s.chip.word (R.CPH_RX_DEN_SHORT p) + 1 ∧
        ∀ a, a ≠ R.CPH_RX_DEN_SHORT p → a ≠ R.PRT_STATUS p → c.word a = s.chip.word a := by
  have hne : R.CPH_RX_DEN_SHORT p ≠ R.PRT_STATUS p := by simp only [R.CPH_RX_DEN_SHORT, R.PRT_STATUS]; omega
  have hwords := Chip.wordsBut_dataCame s.chip p seq
  refine goes_denastDataContainer (d := (s.chip.dataCame p seq).bump (R.CPH_RX_DEN_SHORT p)) hp hlast hicv hlen hawaits
    ((Chip.dataContainer_of_seq (c := s.chip.taken p) hseq payload icv).trans
      (Chip.openContainer_short (by rw [← Chip.dataCame, Chip.dataCame_boxesWaiting]; exact hbox) hshort seq icv)) ?_ rfl
    ⟨?_, ?_, fun a ha hst => ?_⟩
  · rw [Chip.delin_of_data (Chip.bump_data _ _), Chip.delin_dataCame]
  · rw [Chip.port_of_data (Chip.bump_data _ _), Chip.port_dataCame]
  · rw [Chip.word_bump_same, hwords _ (by simpa using hne)]
  · rw [Chip.word_bump_other _ _ _ ha, hwords _ (by simpa using hst)]

/-- A container that names an accepting SA, passes the early replay check and finds hold store is deciphered, and waits for its verdict. -/
theorem goes_denastDataContainer_taken {seq i : Nat} {h : Chan} (hlong : 512 ≤ payload.length) (hseq : (s.chip.port p).rxSeq = some seq)
    (hbox : s.chip.boxesWaiting p < 2) (hchan : s.chip.chan (s.chip.denRxSc p) = some h)
    (hsa : s.chip.rxSa h (s.chip.rd (F.PRT_DEN_STATUS_rx_an p)) = some i)
    (hearly : max 1 ((s.chip.sa i).nextPn - (s.chip.sa i).w) ≤ seq) (hhold : s.chip.holdTakes (pipeOf p) = true) :
    Goes (.denastDataContainer p payload icv) s fun c =>
      (c.port p).rxSeq = some ((seq + 1) % 2 ^ 64) ∧ c.data.nextId = s.chip.data.nextId + 1 ∧ c.data.sas = s.chip.data.sas ∧
        c.data.frames = s.chip.data.frames ∧ (∀ q, q ≠ p → c.port q = s.chip.port q) ∧
        ∃ b, Sparse.get none c.data.boxes s.chip.data.nextId = some b ∧ b.port = p ∧ b.sa = i ∧ b.seq = seq ∧
          b.payload = gcmCrypt (s.chip.sa i).key (denNonce (s.chip.sa i) seq) payload ∧
          b.icvOk = (gcmTag (s.chip.sa i).key (denNonce (s.chip.sa i) seq) (coreHeader payload.length) payload == icv) := by
  obtain ⟨hsas, hframes, hnext, hpow⟩ := Chip.dataCame_sas s.chip p seq
  obtain ⟨hpow', hdelin, hport, hsas', hframes'⟩ :=
    Chip.boxTaken_keeps (s.chip.dataCame p seq) p h ((s.chip.dataCame p seq).boxOf p seq payload icv h i)
  have htaken : (s.chip.dataCame p seq).openContainer p seq payload icv =
      (s.chip.dataCame p seq).boxTaken p h ((s.chip.dataCame p seq).boxOf p seq payload icv h i) := by
    refine Chip.openContainer_taken ((Chip.dataCame_boxesWaiting _ _ _).trans_lt hbox) hlong ((Chip.dataCame_chan _ _ _).trans hchan) ?_ ?_ ?_ icv
    · rw [Chip.dataCame_rxAn, Chip.dataCame_rxSa, hsa]
    · rw [Chip.dataCame_sa]
      exact hearly
    · rw [Chip.addBlock_holdTakes, Chip.dataCame_holdTakes hp, hhold]
  refine goes_denastDataContainer hp hlast hicv hlen hawaits ((Chip.dataContainer_of_seq (c := s.chip.taken p) hseq payload icv).trans htaken)
    (hdelin.trans (Chip.delin_dataCame _ _ _)) (hpow'.trans hpow)
    ⟨?_, ?_, hsas'.trans hsas, hframes'.trans hframes, fun q hq => ?_, (s.chip.dataCame p seq).boxOf p seq payload icv h i, ?_, rfl, rfl, rfl, ?_, ?_⟩
  · rw [hport, Chip.port_dataCame]
  · rw [Chip.boxTaken_nextId, hnext]
  · rw [hport, Chip.port_dataCame_other _ hq]
  · rw [← hnext, Chip.boxTaken_box]
  · rw [Chip.boxOf, Chip.dataCame_sa]
  · rw [Chip.boxOf, Chip.dataCame_sa]

end

/-! ## Control containers (R79) -/

theorem Chip.controlContainer_bad {body : Bytes} (hcrc : body.drop (4 + be body 0 2) ≠ toLe (crc32 (body.take (4 + be body 0 2))) 4)
    (c : Chip) (p : Nat) : c.controlContainer p body = c.bump (R.PRT_DEN_CTRL_ERR p) :=
  if_pos (bne_iff_ne.mpr hcrc)

theorem Chip.controlContainer_hello {body : Bytes} (hcrc : body.drop (4 + be body 0 2) = toLe (crc32 (body.take (4 + be body 0 2))) 4)
    (htype : byteAt (slice body 4 (be body 0 2)) 0 = 0x01) (c : Chip) (p : Nat) :
    c.controlContainer p body = c.onHello p (slice body 4 (be body 0 2)) :=
  (if_neg (by rw [hcrc]; simp)).trans (if_pos htype)

/-- A control container whose CRC fails is counted and dropped. -/
theorem goes_denastControlContainer_bad {s : State} {p : Nat} {body : Bytes} (hp : p < 96) (hlast : (s.chip.delin p).last = false)
    (hawaits : s.chip.awaits p 2 = true) (hhead : controlHeadOk (body.take 4) = true) (hlen : body.length = be body 0 2 + 8)
    (hcrc : body.drop (4 + be body 0 2) ≠ toLe (crc32 (body.take (4 + be body 0 2))) 4) : Goes (.denastControlContainer p body) s fun c =>
      c.word (R.PRT_DEN_CTRL_ERR p) = s.chip.word (R.PRT_DEN_CTRL_ERR p) + 1 ∧
        Chip.onlyRegs (s.chip.setDelin p { s.chip.delin p with due := none }) c [R.PRT_DEN_CTRL_ERR p] :=
  goes_took (d := (s.chip.taken p).bump (R.PRT_DEN_CTRL_ERR p)) rfl (decide_eq_true hp) (Chip.power_of_awaits hawaits)
    ((if_pos (by rw [hawaits, hhead, hlen]; simp)).trans (congrArg (Chip.used · p) (Chip.controlContainer_bad hcrc _ p)))
    (by rw [Chip.delin_of_data (Chip.bump_data _ _), Chip.delin_taken]; exact hlast) rfl
    ⟨by rw [Chip.word_bump_same, Chip.word_taken], Chip.onlyRegs_bump (s.chip.taken p) _⟩

/-! ## MARK and AIS (R80, R90, R102) -/

/-- The AN and the remote defect indication of a MARK, in the status of the port. -/
def Chip.markShown (c : Chip) (p : Nat) (body : Bytes) : Chip :=
  (c.wr (F.PRT_DEN_STATUS_rx_an p) (byteAt body 0 % 4)).wrb (F.PRT_DEN_STATUS_rx_rdi p) (bit (byteAt body 0) 2)

/-- What a MARK says, in the status of the port and in its expected sequence. -/
def Chip.marked (c : Chip) (p : Nat) (body : Bytes) : Chip :=
  ((c.markShown p body).setPort p { (c.markShown p body).port p with rxSeq := some (be body 4 8) }).wr (F.PRT_DEN_STATUS_seq_known p) 1

theorem Chip.markShown_data (c : Chip) (p : Nat) (body : Bytes) : (c.markShown p body).data = c.data ∧ (c.markShown p body).power = c.power :=
  ⟨rfl, rfl⟩

theorem Chip.wordsBut_markShown (c : Chip) (p : Nat) (body : Bytes) : Chip.wordsBut [R.PRT_DEN_STATUS p] c (c.markShown p body) :=
  (Chip.wordsBut_wr c (F.PRT_DEN_STATUS_rx_an p) _).trans (Chip.wordsBut_wr _ (F.PRT_DEN_STATUS_rx_rdi p) _)

theorem Chip.port_marked (c : Chip) (p : Nat) (body : Bytes) : (c.marked p body).port p = { c.port p with rxSeq := some (be body 4 8) } := by
  rw [Chip.marked, Chip.port_of_data (Chip.wr_data _ _ _), Chip.port_setPort_same, Chip.port_of_data (Chip.markShown_data c p body).1]

theorem Chip.port_marked_other (c : Chip) {p q : Nat} (h : q ≠ p) (body : Bytes) : (c.marked p body).port q = c.port q := by
  rw [Chip.marked, Chip.port_of_data (Chip.wr_data _ _ _), Chip.port_setPort_other _ _ h, Chip.port_of_data (Chip.markShown_data c p body).1]

theorem Chip.marked_keeps (c : Chip) (p : Nat) (body : Bytes) : (c.marked p body).power = c.power ∧ (c.marked p body).delin p = c.delin p := by
  obtain ⟨hdata, hpow⟩ := Chip.markShown_data c p body
  rw [Chip.marked, Chip.wr_power, Chip.power_setPort, Chip.delin_of_data (Chip.wr_data _ _ _), Chip.delin_setPort, Chip.delin_of_data hdata]
  exact ⟨hpow, rfl⟩

theorem Chip.wordsBut_marked (c : Chip) (p : Nat) (body : Bytes) : Chip.wordsBut [R.PRT_DEN_STATUS p] c (c.marked p body) :=
  ((Chip.wordsBut_markShown c p body).setPort p _).trans (Chip.wordsBut_wr _ (F.PRT_DEN_STATUS_seq_known p) 1)

theorem Chip.marked_shows (c : Chip) (p : Nat) (body : Bytes) : (c.marked p body).flag (F.PRT_DEN_STATUS_seq_known p) = true ∧
    (c.marked p body).rd (F.PRT_DEN_STATUS_rx_an p) = byteAt body 0 % 4 ∧
      (c.marked p body).flag (F.PRT_DEN_STATUS_rx_rdi p) = bit (byteAt body 0) 2 := by
  refine ⟨?_, ?_, ?_⟩
  · rw [Chip.marked, Chip.flag, Chip.rd_wr_same _ _ _ rfl]
    rfl
  · rw [Chip.marked, Chip.rd_wr_clears _ _ _ _ rfl rfl, Chip.rd_setPort, Chip.markShown, Chip.wrb,
      Chip.rd_wr_clears _ _ _ _ rfl rfl, Chip.rd_wr_same _ _ _ rfl]
    exact Nat.mod_mod _ _
  · rw [Chip.marked, Chip.flag_wr_clears _ _ _ _ rfl rfl, Chip.flag_setPort, Chip.markShown, Chip.flag_wrb_same _ _ _ rfl rfl]

/-- A MARK that changes nothing of dRDI. -/
theorem Chip.mark_of_steady {c : Chip} {p : Nat} {body : Bytes} (hcrc : body.drop 12 = toLe (crc32 (body.take 12)) 4)
    (hrdi : bit (c.rd (F.PRT_DEFECT_current p)) 8 = bit (byteAt body 0) 2) : c.mark_ p body = c.marked p body := by
  have hsame : (c.marked p body).rd (F.PRT_DEFECT_current p) = c.rd (F.PRT_DEFECT_current p) :=
    (Chip.wordsBut_marked c p body).rd (by simpa [F.PRT_DEFECT_current] using prtDefect_ne_denStatus p)
  have hmark : c.mark_ p body =
      if bit (byteAt body 0) 2 then (c.marked p body).enterDefect p .dRDI else (c.marked p body).exitDefect p .dRDI :=
    if_neg (by rw [hcrc]; simp)
  rw [hmark]
  cases hbit : bit (byteAt body 0) 2 with
  | true => exact Chip.enterDefect_of_present (d := .dRDI) (by rw [hsame]; exact hrdi.trans hbit)
  | false => exact Chip.exitDefect_of_absent (d := .dRDI) (by rw [hsame]; exact hrdi.trans hbit)

theorem goes_denastMark {s : State} {p : Nat} {body : Bytes} (hp : p < 96) (hlast : (s.chip.delin p).last = false)
    (hawaits : s.chip.awaits p 3 = true) (hlen : body.length = 16) (hcrc : body.drop 12 = toLe (crc32 (body.take 12)) 4)
    (hrdi : bit (s.chip.rd (F.PRT_DEFECT_current p)) 8 = bit (byteAt body 0) 2) : Goes (.denastMark p body) s fun c =>
      (c.port p).rxSeq = some (be body 4 8) ∧ c.flag (F.PRT_DEN_STATUS_seq_known p) = true ∧
        c.rd (F.PRT_DEN_STATUS_rx_an p) = byteAt body 0 % 4 ∧ c.flag (F.PRT_DEN_STATUS_rx_rdi p) = bit (byteAt body 0) 2 ∧
        (∀ a, a ≠ R.PRT_DEN_STATUS p → c.word a = s.chip.word a) ∧ ∀ q, q ≠ p → c.port q = s.chip.port q := by
  obtain ⟨hpow, hdelin⟩ := Chip.marked_keeps (s.chip.taken p) p body
  obtain ⟨hknown, han, hrdi'⟩ := Chip.marked_shows (s.chip.taken p) p body
  have hwords := Chip.wordsBut_marked (s.chip.taken p) p body
  exact goes_took rfl (by simp [hp, hlen]) (Chip.power_of_awaits hawaits)
    ((if_pos hawaits).trans (congrArg (Chip.used · p) (Chip.mark_of_steady (c := s.chip.taken p) hcrc hrdi)))
    (by rw [hdelin, Chip.delin_taken]; exact hlast) hpow
    ⟨by rw [Chip.port_marked], hknown, han, hrdi', fun a ha => (hwords a (by simpa using ha)).trans (Chip.word_taken _ _ _),
      fun q hq => (Chip.port_marked_other _ hq body).trans (Chip.port_taken _ _ _)⟩

/-- An AIS container is shown, and counted toward AIS. -/
def Chip.aisSeen (c : Chip) (p : Nat) : Chip := (c.wr (F.PRT_STATUS_ais_rx p) 1).setPort p { c.port p with aisRun := (c.port p).aisRun + 1 }

theorem Chip.aisSeen_keeps (c : Chip) (p : Nat) : (c.aisSeen p).power = c.power ∧ (c.aisSeen p).delin p = c.delin p := ⟨rfl, rfl⟩

theorem Chip.aisSeen_shows (c : Chip) (p : Nat) : ((c.aisSeen p).port p).aisRun = (c.port p).aisRun + 1 ∧
    (c.aisSeen p).flag (F.PRT_STATUS_ais_rx p) = true ∧ Chip.wordsBut [R.PRT_STATUS p] c (c.aisSeen p) ∧
      ∀ q, q ≠ p → (c.aisSeen p).port q = c.port q := by
  refine ⟨by rw [Chip.aisSeen, Chip.port_setPort_same], ?_, (Chip.wordsBut_wr _ (F.PRT_STATUS_ais_rx p) 1).setPort p _,
    fun q hq => Chip.port_setPort_other _ _ hq⟩
  rw [Chip.aisSeen, Chip.flag_setPort, Chip.flag, Chip.rd_wr_same _ _ _ rfl]
  rfl

theorem goes_denastAisContainer {s : State} {p : Nat} (hp : p < 96) (hlast : (s.chip.delin p).last = false)
    (hawaits : s.chip.awaits p 1 = true) (hrun : (s.chip.port p).aisRun < 2) : Goes (.denastAisContainer p) s fun c =>
      (c.port p).aisRun = (s.chip.port p).aisRun + 1 ∧ c.flag (F.PRT_STATUS_ais_rx p) = true ∧
        (∀ a, a ≠ R.PRT_STATUS p → c.word a = s.chip.word a) ∧ ∀ q, q ≠ p → c.port q = s.chip.port q := by
  obtain ⟨hpow, hdelin⟩ := Chip.aisSeen_keeps (s.chip.taken p) p
  obtain ⟨hais, hflag, hwords, hports⟩ := Chip.aisSeen_shows (s.chip.taken p) p
  have hfew : ¬ 3 ≤ ((s.chip.taken p).port p).aisRun + 1 := by
    rw [Chip.port_taken]
    omega
  exact goes_took rfl (decide_eq_true hp) (Chip.power_of_awaits hawaits)
    ((if_neg (by rw [hawaits]; decide)).trans (congrArg (Chip.used · p) (if_neg hfew))) (d := (s.chip.taken p).aisSeen p)
    (by rw [hdelin, Chip.delin_taken]; exact hlast) hpow
    ⟨hais.trans (by rw [Chip.port_taken]), hflag, fun a ha => (hwords a (by simpa using ha)).trans (Chip.word_taken _ _ _),
      fun q hq => (hports q hq).trans (Chip.port_taken _ _ _)⟩

end Sys2Proof.Machine
end

section
/-! PROOFS of the family of the line ports, what the exchange with a partner leaves alone: the delineation of the ports and their MKA
sessions (R92 to R94, R266, R273, R275, R278). -/

namespace Sys2Proof.Machine

/-! ## Frames of firmware (R48, R180, R184) -/

/-- What sending a frame of firmware keeps: main power, the ports, the SAs and the delineation. -/
def Chip.sendView (c : Chip) : Bool × Sparse Port × Sparse Sa × Sparse Delin := (c.power, c.data.ports, c.data.sas, c.data.delin)

theorem Chip.sendView_of_data {c d : Chip} (hpow : d.power = c.power) (h : d.data = c.data) : d.sendView = c.sendView := by
  rw [Chip.sendView, Chip.sendView, hpow, h]

@[simp] theorem Chip.setFrame_sendView (c : Chip) (i : Nat) (f : Option Frame) : (c.setFrame i f).sendView = c.sendView := rfl

@[simp] theorem Chip.takeHeadroom_sendView (c : Chip) (n : Nat) : (c.takeHeadroom n).sendView = c.sendView :=
  Chip.sendView_of_data rfl rfl

@[simp] theorem Chip.giveHeadroom_sendView (c : Chip) (n : Nat) : (c.giveHeadroom n).sendView = c.sendView :=
  Chip.sendView_of_data rfl rfl

@[simp] theorem Chip.settlePool_sendView (c : Chip) : c.settlePool.sendView = c.sendView := Chip.sendView_of_data rfl rfl

@[simp] theorem Chip.chargeQ_sendView (c : Chip) (q n : Nat) : (c.chargeQ q n).sendView = c.sendView := Chip.sendView_of_data rfl rfl

@[simp] theorem Chip.bump_sendView (c : Chip) (a : Nat) : (c.bump a).sendView = c.sendView := Chip.sendView_of_data rfl rfl

@[simp] theorem Chip.addWide_sendView (c : Chip) (a k w n : Nat) : (c.addWide a k w n).sendView = c.sendView :=
  Chip.sendView_of_data (Chip.addWide_power _ _ _ _ _) (Chip.addWide_data _ _ _ _ _)

@[simp] theorem Chip.admitTest_sendView (c : Chip) (p q n bytes free : Nat) : (c.admitTest p q n bytes free).1.sendView = c.sendView := by
  unfold Chip.admitTest
  dsimp only
  split_ifs <;> simp

/-- The tests of a frame's queues, one after another. -/
theorem Chip.admitTests_sendView (c : Chip) (f : Frame) (dests : List Nat) (n known free : Nat) :
    (dests.foldl (fun (y : Chip × List Nat) p =>
      ((y.1.admitTest p (qOf p f.cls) n known free).1, if (y.1.admitTest p (qOf p f.cls) n known free).2 then y.2 ++ [p] else y.2)) (c, [])).1.sendView =
      c.sendView :=
  foldl_keeps (view := fun y : Chip × List Nat => y.1.sendView) (fun _ _ => Chip.admitTest_sendView _ _ _ _ _ _) dests (c, [])

@[simp] theorem Chip.chargeQs_sendView (c : Chip) (cls n : Nat) (qs : List Nat) :
    (qs.foldl (fun c p => c.chargeQ (qOf p cls) n) c).sendView = c.sendView :=
  foldl_keeps (view := Chip.sendView) (fun _ _ => Chip.chargeQ_sendView _ _ _) qs c

@[simp] theorem Chip.admitQueues_sendView (c : Chip) (i : Nat) (f : Frame) (dests : List Nat) (n known : Nat) :
    (c.admitQueues i f dests n known).1.sendView = c.sendView := by
  unfold Chip.admitQueues
  dsimp only
  split_ifs <;> simp [Chip.admitTests_sendView]

theorem Chip.sendView_of_admitQueues {c d : Chip} {i n known : Nat} {f : Frame} {dests : List Nat} {b : Bool}
    (h : c.admitQueues i f dests n known = (d, b)) : d.sendView = c.sendView := by
  rw [← Chip.admitQueues_sendView c i f dests n known, h]

@[simp] theorem Chip.link_sendView (c : Chip) (p cls i port : Nat) : (c.link p cls i port).sendView = c.sendView := rfl

@[simp] theorem Chip.emit_sendView (c : Chip) (o : Out) : (c.emit o).sendView = c.sendView := rfl

theorem Chip.nextId_sendView (c : Chip) (i : Nat) : ({ c with data := { c.data with nextId := i } } : Chip).sendView = c.sendView := rfl

@[simp] theorem Chip.mgmtSend_sendView (c : Chip) (p cls : Nat) (prot : Protection) (f : Bytes) :
    (c.mgmtSend p cls prot f).sendView = c.sendView := by
  unfold Chip.mgmtSend
  dsimp only
  split
  · rfl
  · split
    · next hd => exact (Chip.link_sendView _ _ _ _ _).trans ((Chip.sendView_of_admitQueues hd).trans (Chip.nextId_sendView _ _))
    · next hd => exact (Chip.emit_sendView _ _).trans ((Chip.sendView_of_admitQueues hd).trans (Chip.nextId_sendView _ _))

@[simp] theorem Chip.sendOwn_sendView (c : Chip) (p : Nat) (f : Bytes) : (c.sendOwn p f).sendView = c.sendView := by
  unfold Chip.sendOwn
  split <;> simp

@[simp] theorem Chip.sendLink_sendView (c : Chip) (p : Nat) (m : Bytes) : (c.sendLink p m).sendView = c.sendView := by
  unfold Chip.sendLink Chip.sendControl Chip.sendContainer
  split_ifs <;> simp

/-! ## MKA sessions and the delineation -/

/-- The MKA sessions of the ports and their delineation, which the exchange with a partner leaves as they are. -/
def Chip.lineView (c : Chip) : (Nat → Mka) × Sparse Delin := (fun q => (c.port q).mka, c.data.delin)

theorem Chip.mka_of_lineView {c d : Chip} (h : d.lineView = c.lineView) (p : Nat) : (d.port p).mka = (c.port p).mka :=
  congrFun (congrArg Prod.fst h) p

theorem Chip.delin_of_lineView {c d : Chip} (h : d.lineView = c.lineView) (p : Nat) : d.delin p = c.delin p :=
  congrArg (Sparse.get ({} : Delin) · p) (congrArg Prod.snd h)

theorem Chip.lineView_of_data {c d : Chip} (h : d.data = c.data) : d.lineView = c.lineView := by
  rw [Chip.lineView, Chip.lineView, h]
  simp only [Chip.port_of_data h]

theorem Chip.lineView_of_sendView {c d : Chip} (h : d.sendView = c.sendView) : d.lineView = c.lineView := by
  simp only [Chip.sendView, Prod.mk.injEq] at h
  obtain ⟨-, hports, -, hdelin⟩ := h
  simp only [Chip.lineView, Chip.port, hports, hdelin]

/-- A port may change in everything but its MKA session. -/
theorem Chip.setPort_lineView (c : Chip) (p : Nat) {x : Port} (h : x.mka = (c.port p).mka) : (c.setPort p x).lineView = c.lineView := by
  refine Prod.ext (funext fun q => ?_) rfl
  by_cases hq : q = p
  · subst hq
    exact (congrArg Port.mka (Chip.port_setPort_same c q x)).trans h
  · exact congrArg Port.mka (Chip.port_setPort_other c x hq)

@[simp] theorem Chip.setLink_lineView (c : Chip) (p : Nat) (f : Link → Link) : (c.setLink p f).lineView = c.lineView := Chip.setPort_lineView c p rfl

@[simp] theorem Chip.setSa_lineView (c : Chip) (i : Nat) (x : Sa) : (c.setSa i x).lineView = c.lineView := rfl

@[simp] theorem Chip.setSc_lineView (c : Chip) (sc : Nat) (x : ScRun) : (c.setSc sc x).lineView = c.lineView := rfl

@[simp] theorem Chip.setPeer_lineView (c : Chip) (i : Nat) (x : Peer) : (c.setPeer i x).lineView = c.lineView := rfl

@[simp] theorem Chip.wr_lineView (c : Chip) (f : Fld) (v : Nat) : (c.wr f v).lineView = c.lineView := rfl

@[simp] theorem Chip.wrb_lineView (c : Chip) (f : Fld) (b : Bool) : (c.wrb f b).lineView = c.lineView := rfl

@[simp] theorem Chip.setWord_lineView (c : Chip) (a : Nat) (w : W32) : (c.setWord a w).lineView = c.lineView := rfl

@[simp] theorem Chip.bump_lineView (c : Chip) (a : Nat) : (c.bump a).lineView = c.lineView := rfl

@[simp] theorem Chip.add_lineView (c : Chip) (a n : Nat) : (c.add a n).lineView = c.lineView := rfl

@[simp] theorem Chip.attn_lineView (c : Chip) (cls : Nat) : (c.attn cls).lineView = c.lineView := Chip.lineView_of_data (Chip.attn_data _ _)

@[simp] theorem Chip.record_lineView (c : Chip) (sub ev sev unit detail : Nat) : (c.record sub ev sev unit detail).lineView = c.lineView :=
  Chip.lineView_of_data (Chip.record_data ..)

@[simp] theorem Chip.setNum_lineView (c : Chip) (a k v : Nat) : (c.setNum a k v).lineView = c.lineView :=
  Chip.lineView_of_data (Chip.setNum_data ..)

/-! ## Epoch keys in the vault (R262) -/

theorem Chip.tagNode_data (c : Chip) (level i : Nat) : (c.tagNode level i).data = c.data := rfl

theorem Chip.retagChildren_data (c : Chip) (level i : Nat) : (c.retagChildren level i).data = c.data :=
  foldl_keeps (view := Chip.data) (fun c _ => Chip.tagNode_data c _ _) _ c

theorem Chip.bumpChild_data (c : Chip) (level i k : Nat) : (c.bumpChild level i k).data = c.data := by
  unfold Chip.bumpChild
  dsimp only
  split_ifs
  · rfl
  · exact Chip.retagChildren_data _ _ _
  · rfl

theorem Chip.markDirty_data (c : Chip) (level i : Nat) : (c.markDirty level i).data = c.data := by
  unfold Chip.markDirty
  dsimp only
  split <;> rfl

theorem Chip.areaWrote_data (c : Chip) (line : Nat) : (c.areaWrote line).data = c.data := by
  unfold Chip.areaWrote
  split
  · rfl
  · exact (Chip.markDirty_data _ _ _).trans (Chip.bumpChild_data _ _ _ _)

theorem Chip.epochWrote_data (c : Chip) (sc e : Nat) : (c.epochWrote sc e).data = c.data := by
  unfold Chip.epochWrote
  split
  · rfl
  · exact Chip.areaWrote_data _ _

@[simp] theorem Chip.keepEpochs_lineView (c : Chip) (keep : Nat → Bool) : (c.keepEpochs keep).lineView = c.lineView :=
  foldl_keeps (view := Chip.lineView) (fun _ _ => Chip.lineView_of_data (Chip.epochWrote_data _ _ _)) _ _

@[simp] theorem Chip.dropEpochKey_lineView (c : Chip) (sc e : Nat) : (c.dropEpochKey sc e).lineView = c.lineView := by
  unfold Chip.dropEpochKey
  split <;> simp

/-! ## SAs that retire (R250, R263) -/

@[simp] theorem Chip.noteNosa_lineView (c : Chip) (p : Nat) : (c.noteNosa p).lineView = c.lineView := by
  obtain ⟨m, hm⟩ := Chip.noteNosa_eq c p
  rw [hm]
  rfl

@[simp] theorem Chip.dropOpen_lineView (c : Chip) (sc : Nat) : (c.dropOpen sc).lineView = c.lineView := by
  unfold Chip.dropOpen
  split
  · rfl
  · dsimp only
    split
    · rfl
    · exact (Chip.add_lineView _ _ _).trans (Chip.setPort_lineView c _ rfl)

@[simp] theorem Chip.retireSa_lineView (c : Chip) (i : Nat) : (c.retireSa i).lineView = c.lineView := by
  unfold Chip.retireSa
  dsimp only
  split
  · simp
  · split <;> simp

@[simp] theorem Chip.settleLink_lineView (c : Chip) (p : Nat) : (c.settleLink p).lineView = c.lineView := by
  unfold Chip.settleLink
  rw [Chip.setNum_lineView, Chip.wr_lineView, apply_ite Chip.lineView, Chip.setPort_lineView, ite_self]
  rfl

@[simp] theorem Chip.retireWhenDone_lineView (c : Chip) (p i : Nat) : (c.retireWhenDone p i).lineView = c.lineView := by
  unfold Chip.retireWhenDone
  dsimp only
  split_ifs <;> simp

@[simp] theorem Chip.retireMka_lineView (c : Chip) (p : Nat) (pick : Sa → Bool) : (c.retireMka p pick).lineView = c.lineView := by
  refine foldl_keeps (fun c h => ?_) _ c
  refine foldl_keeps (fun c i => ?_) _ c
  split <;> simp

@[simp] theorem Chip.expireHold_lineView (c : Chip) (p : Nat) : (c.expireHold p).lineView = c.lineView := by
  have hchan (c : Chip) (h : Chan) : ((((h.sas.foldl (fun c i => c.retireWhenDone p i) c).setSc h.sc {}).keepEpochs
      (fun k => k / 2 ^ 64 != h.sc)).lineView) = c.lineView := by
    rw [Chip.keepEpochs_lineView, Chip.setSc_lineView, foldl_keeps fun c i => Chip.retireWhenDone_lineView c p i]
  unfold Chip.expireHold
  dsimp only
  rw [Chip.settleLink_lineView, foldl_keeps hchan, Chip.setPort_lineView, Chip.wr_lineView]
  rfl

/-! ## Partners (R92 to R94, R278) -/

@[simp] theorem Chip.leavePeer_lineView (c : Chip) (id : Bytes) : (c.leavePeer id).lineView = c.lineView := by
  unfold Chip.leavePeer
  split
  · rfl
  · split <;> simp

@[simp] theorem Chip.partnerLost_lineView (c : Chip) (p : Nat) : (c.partnerLost p).lineView = c.lineView := by
  unfold Chip.partnerLost
  split
  · rfl
  · dsimp only
    split_ifs <;> simp [Chip.setPort_lineView]

@[simp] theorem Chip.partnerUp_lineView (c : Chip) (p : Nat) (q : Partner) (ix : Nat) : (c.partnerUp p q ix).lineView = c.lineView := by
  unfold Chip.partnerUp
  dsimp only
  rw [Chip.record_lineView, Chip.attn_lineView, apply_ite Chip.lineView, Chip.wr_lineView, ite_self, Chip.wr_lineView, Chip.setWord_lineView,
    Chip.setPort_lineView]
  rfl

theorem Chip.enterPeer_lineView {c d : Chip} {id : Bytes} {denast : Bool} {i : Nat} (h : c.enterPeer id denast = some (i, d)) :
    d.lineView = c.lineView := by
  unfold Chip.enterPeer at h
  split at h
  · cases h
    rfl
  · obtain ⟨j, -, hj⟩ := Option.map_eq_some_iff.mp h
    cases hj
    rfl

@[simp] theorem Chip.checkTfc_lineView (c : Chip) (p : Nat) : (c.checkTfc p).lineView = c.lineView := by
  unfold Chip.checkTfc
  dsimp only
  rw [Chip.wrb_lineView, Chip.wrb_lineView, apply_ite Chip.lineView, Chip.attn_lineView, ite_self]

/-! ## Agreements (R266 to R271) -/

@[simp] theorem Chip.sendLink_lineView (c : Chip) (p : Nat) (m : Bytes) : (c.sendLink p m).lineView = c.lineView :=
  Chip.lineView_of_sendView (Chip.sendLink_sendView _ _ _)

@[simp] theorem Chip.kaStep_lineView (c : Chip) (p : Nat) (k : KaStep) : (c.kaStep p k).lineView = c.lineView := by
  rw [Chip.kaStep, Chip.wrb_lineView, Chip.setLink_lineView]

@[simp] theorem Chip.kaFailed_lineView (c : Chip) (p : Nat) : (c.kaFailed p).lineView = c.lineView := by
  unfold Chip.kaFailed
  dsimp only
  rw [Chip.kaStep_lineView, Chip.setLink_lineView, Chip.bump_lineView]

@[simp] theorem Chip.kaReject_lineView (c : Chip) (p session reason : Nat) : (c.kaReject p session reason).lineView = c.lineView := by
  unfold Chip.kaReject
  dsimp only
  rw [Chip.kaFailed_lineView, Chip.wr_lineView, Chip.sendLink_lineView]

@[simp] theorem Chip.random_lineView (c : Chip) (n : Nat) : (c.random n).2.lineView = c.lineView := rfl

@[simp] theorem Chip.fwJobs_lineView (c : Chip) (port : Option Nat) (l : List PkeJob) : (c.fwJobs port l).lineView = c.lineView := by
  refine foldl_keeps (view := Chip.lineView) (fun c j => ?_) l c
  rfl

@[simp] theorem Chip.kaOffer_lineView (c : Chip) (p : Nat) : (c.kaOffer p).lineView = c.lineView := by
  unfold Chip.kaOffer
  dsimp only
  split
  · simp
  · split <;> simp

@[simp] theorem Chip.kaStart_lineView (c : Chip) (p : Nat) : (c.kaStart p).lineView = c.lineView := by
  unfold Chip.kaStart
  split
  · rfl
  · dsimp only
    split_ifs <;> simp

/-! ## HELLO (R92, R93) -/

/-- The sender of a HELLO becomes the partner of the port, when it is not. -/
def Chip.helloNamed (c : Chip) (p : Nat) (q : Partner) : Chip :=
  if ((c.port p).partner.map (fun y => y.id == q.id && y.port == q.port)).getD false then c
  else ((c.partnerLost p).setPort p { (c.partnerLost p).port p with partner := some q }).setWord (R.PRT_PEER p)
    (BitVec.ofNat 32 (1 + 256 * q.port + 65536 * 65535))

theorem Chip.helloNamed_lineView (c : Chip) (p : Nat) (q : Partner) : (c.helloNamed p q).lineView = c.lineView := by
  unfold Chip.helloNamed
  split
  · rfl
  · rw [Chip.setWord_lineView, Chip.setPort_lineView, Chip.partnerLost_lineView]
    rfl

/-- What the largest payload and the report of a HELLO make of the port of its sender. -/
def Chip.helloTaken (c : Chip) (p : Nat) (m : Bytes) (q : Partner) : Chip :=
  if ((c.port p).partner.map (·.twoWay)).getD false then (c.setPort p { c.port p with maxPay := be m 22 2 }).checkTfc p
  else if !(slice m 24 16 == c.peerId && byteAt m 40 == p) then c
  else
    match c.enterPeer q.id true with
    | none => c.attn 8
    | some (i, c) => (((c.partnerUp p q i).setPort p { (c.partnerUp p q i).port p with maxPay := be m 22 2 }).checkTfc p).kaStart p

theorem Chip.helloTaken_lineView (c : Chip) (p : Nat) (m : Bytes) (q : Partner) : (c.helloTaken p m q).lineView = c.lineView := by
  unfold Chip.helloTaken
  split
  · rw [Chip.checkTfc_lineView, Chip.setPort_lineView]
    rfl
  · split
    · rfl
    · split
      · exact Chip.attn_lineView _ _
      · next hpeer =>
        rw [Chip.kaStart_lineView, Chip.checkTfc_lineView, Chip.setPort_lineView, Chip.partnerUp_lineView, Chip.enterPeer_lineView hpeer]
        rfl

theorem Chip.onHello_eq (c : Chip) (p : Nat) (m : Bytes) : c.onHello p m =
    if m.length != 48 || byteAt m 0 != 1 || byteAt m 1 != 1 then c.bump (R.PRT_DEN_CTRL_ERR p)
    else
      let q : Partner := { id := slice m 4 16, port := byteAt m 20 }
      (((c.helloNamed p q).setPort p { (c.helloNamed p q).port p with heard := some q })).helloTaken p m q := rfl

/-- A HELLO leaves the delineation alone, whatever it says. -/
theorem Chip.onHello_lineView (c : Chip) (p : Nat) (m : Bytes) : (c.onHello p m).lineView = c.lineView := by
  rw [Chip.onHello_eq]
  split
  · rfl
  · rw [Chip.helloTaken_lineView, Chip.setPort_lineView, Chip.helloNamed_lineView]
    rfl

end Sys2Proof.Machine
end

section
/-! PROOFS of the family of the line ports, O26, third part: a control container that carries a HELLO (R79, R92), and the obligation. -/

namespace Sys2Proof.Machine

theorem Chip.hears_taken (c : Chip) (p : Nat) : (c.taken p).hears p = c.hears p := rfl

theorem Chip.isDenast_taken (c : Chip) (p : Nat) : (c.taken p).isDenast p = c.isDenast p := rfl

theorem Chip.power_taken (c : Chip) (p : Nat) : (c.taken p).power = c.power := rfl

/-- What a HELLO makes of a port whose header was not the last before the hunt. -/
theorem Chip.used_onHello {c : Chip} {p : Nat} (hlast : (c.delin p).last = false) (m : Bytes) :
    ((c.taken p).onHello p m).used p = (c.taken p).onHello p m ∧
      ({ (c.taken p).onHello p m with power := true } : Chip).used p = { (c.taken p).onHello p m with power := true } := by
  have hdelin : ((c.taken p).onHello p m).delin p = { c.delin p with due := none } :=
    (Chip.delin_of_lineView (Chip.onHello_lineView _ _ _) p).trans (Chip.delin_taken _ _)
  have hstays : (((c.taken p).onHello p m).delin p).last = false := by
    rw [hdelin]
    exact hlast
  exact ⟨Chip.used_of_not_last hstays, Chip.used_of_not_last (c := { (c.taken p).onHello p m with power := true }) hstays⟩

/-- A HELLO in a control container is the HELLO that it carries. -/
theorem exec_denastControlContainer_hello {s : State} {p : Nat} {body : Bytes} (hp : p < 96) (hlast : (s.chip.delin p).last = false)
    (hawaits : s.chip.awaits p 2 = true) (hhears : s.chip.hears p = true) (hhead : controlHeadOk (body.take 4) = true)
    (hlen : body.length = be body 0 2 + 8) (hcrc : body.drop (4 + be body 0 2) = toLe (crc32 (body.take (4 + be body 0 2))) 4)
    (htype : byteAt (slice body 4 (be body 0 2)) 0 = 0x01) :
    ∃ t, exec (.hello p (slice body 4 (be body 0 2))) { s with chip := s.chip.taken p } = .next t ∧
      exec (.denastControlContainer p body) s = .next { t with chip := t.chip.used p } := by
  obtain ⟨hused, hpowered⟩ := Chip.used_onHello hlast (slice body 4 (be body 0 2))
  have hpow := Chip.power_of_awaits hawaits
  have hheard : ((s.chip.taken p).hears p && (s.chip.taken p).isDenast p) = true := by
    rw [Chip.hears_taken, Chip.isDenast_taken, hhears, Chip.isDenast_of_awaits hawaits]
    rfl
  have hguard : (s.chip.awaits p 2 && controlHeadOk (body.take 4) && body.length == be body 0 2 + 8) = true := by
    rw [hawaits, hhead, hlen]
    simp
  refine ⟨{ s with chip := { (s.chip.taken p).onHello p (slice body 4 (be body 0 2)) with power := true } }, ?_, ?_⟩
  · change execHello _ _ _ = _
    simp only [execHello, State.actOn, State.act, hp, decide_true, if_true, Chip.power_taken, hpow, hheard]
  · change execDenastControlContainer _ _ _ = _
    simp only [execDenastControlContainer, State.actOn, State.act, hp, decide_true, if_true, hpow, hguard,
      Chip.controlContainer_hello hcrc htype, hused, hpowered]

theorem containersRule_holds : containersRule := by
  intro s p payload icv body hp hlast
  exact ⟨fun hicv hlen hawaits => goes_denastDataContainer_noSeq hp hlast hicv hlen hawaits,
    fun _ hicv hlen hshort hawaits => goes_denastDataContainer_short hp hlast hicv hlen hawaits hshort,
    fun _ _ _ hicv hlong hawaits => goes_denastDataContainer_taken hp hlast hicv (by omega) hawaits hlong,
    fun hawaits => goes_denastControlContainer_bad hp hlast hawaits, fun hawaits => exec_denastControlContainer_hello hp hlast hawaits,
    fun hawaits => goes_denastMark hp hlast hawaits, fun hawaits => goes_denastAisContainer hp hlast hawaits⟩

/-- Settles O26, by the rules of delineation (R77, R79, R87, R88) and of the containers (R80, R82, R90, R93, R226): that a data container
clears the AIS that was shown is the model's reading (log entry 37), and so are that a header announces its container and that a HELLO in
its container is the HELLO that comes alone (log entry 38). -/
theorem denastReceive : Obligations.DenastReceive := ⟨delineationRule_holds, containersRule_holds⟩

end Sys2Proof.Machine
end

section
/-! PROOFS of the family of the line ports, O42: MKA sessions of a MACsec port (R94, R254, R275). -/

namespace Sys2Proof.Machine

/-! ## Guards -/

theorem Chip.running_of_hears {c : Chip} {p : Nat} (h : c.hears p = true) : c.running = true := by
  simp only [Chip.hears, Bool.and_eq_true] at h
  obtain ⟨⟨hwatched, -⟩, -⟩ := h
  exact Chip.running_of_watched hwatched

/-! ## The session and the partner of one port -/

theorem Chip.port_setMka (c : Chip) (p : Nat) (f : Mka → Mka) : (c.setMka p f).port p = { c.port p with mka := f (c.port p).mka } :=
  Chip.port_setPort_same _ _ _

theorem Chip.port_of_sendView {c d : Chip} (h : d.sendView = c.sendView) (p : Nat) : d.port p = c.port p := by
  simp only [Chip.sendView, Prod.mk.injEq] at h
  obtain ⟨-, hports, -, -⟩ := h
  rw [Chip.port, hports, Chip.port]

/-- The live peers of a port's session, and its partner. -/
def Chip.peersView (p : Nat) (c : Chip) : List MkaPeer × Option Partner := ((c.port p).mka.peers, (c.port p).partner)

theorem Chip.peersView_of_port {c d : Chip} {p : Nat} (h : d.port p = c.port p) : d.peersView p = c.peersView p := by
  rw [Chip.peersView, h, Chip.peersView]

/-- A change of the session that keeps its peers. -/
theorem Chip.setMka_peersView (c : Chip) (p : Nat) {f : Mka → Mka} (h : (f (c.port p).mka).peers = (c.port p).mka.peers) :
    (c.setMka p f).peersView p = c.peersView p := by
  rw [Chip.peersView, Chip.port_setMka, Chip.peersView, h]

theorem Chip.setLinkOf_peersView (c : Chip) (p : Nat) (l : Link) : (c.setPort p { c.port p with link := l }).peersView p = c.peersView p := by
  rw [Chip.peersView, Chip.port_setPort_same, Chip.peersView]

theorem Chip.installSa_peersView (c : Chip) (h : Chan) (an : Nat) (kv salt : Bytes) (x : Sa) (p : Nat) :
    (c.installSa h an kv salt x).peersView p = c.peersView p := rfl

theorem Chip.random_peersView (c : Chip) (n p : Nat) : (c.random n).2.peersView p = c.peersView p := rfl

/-- The next message number. -/
def Chip.mnRaised (c : Chip) (p : Nat) : Chip := c.setMka p (fun k => { k with mn := k.mn + 1 })

/-- An MKPDU that is sent has the next message number, and goes out as a frame of firmware. -/
theorem Chip.sendMkpdu_eq {c : Chip} {p : Nat} {e : Bytes} (he : c.mkaEntry p = some e) :
    ∃ f, f.take 6 = toBe 0x0180C2000003 6 ∧ c.sendMkpdu p = (c.mnRaised p).sendOwn p f := by
  unfold Chip.sendMkpdu
  rw [he]
  dsimp only
  rw [List.append_assoc, List.append_assoc]
  exact ⟨_, List.take_left' rfl, rfl⟩

theorem Chip.sendMkpdu_peersView (c : Chip) (p : Nat) : (c.sendMkpdu p).peersView p = c.peersView p := by
  cases he : c.mkaEntry p with
  | none => rw [Chip.sendMkpdu, he]
  | some e =>
    obtain ⟨f, -, hsend⟩ := Chip.sendMkpdu_eq he
    rw [hsend, Chip.peersView_of_port (Chip.port_of_sendView (Chip.sendOwn_sendView _ _ _) p), Chip.mnRaised, Chip.setMka_peersView]
    rfl

theorem Chip.installSak_peersView (c : Chip) (p : Nat) (k : Sak) : (c.installSak p k).peersView p = c.peersView p := by
  unfold Chip.installSak
  dsimp only
  split
  · exact Chip.setMka_peersView c p rfl
  · rw [Chip.setMka_peersView]
    · exact foldl_keeps (fun c h => Chip.installSa_peersView c _ _ _ _ _ p) _ c
    · rfl

theorem Chip.takeSak_peersView (c : Chip) (p : Nat) (k : Sak) (mi : Bytes) (mine : Bool) : (c.takeSak p k mi mine).peersView p = c.peersView p := by
  unfold Chip.takeSak
  dsimp only
  split
  · rw [Chip.setLinkOf_peersView, Chip.setMka_peersView]
    rfl
  · rw [Chip.installSak_peersView, Chip.setMka_peersView]
    rfl

/-- A key server that makes a new SAK keeps its peers and its partner. -/
theorem Chip.newSak_peersView (c : Chip) (p : Nat) : (c.newSak p).peersView p = c.peersView p := by
  unfold Chip.newSak
  split
  · rfl
  · dsimp only
    rw [Chip.sendMkpdu_peersView, Chip.takeSak_peersView, Chip.random_peersView]

/-! ## An MKPDU that is received (R275) -/

theorem Chip.partnerUp_data (c : Chip) (p : Nat) (q : Partner) (ix : Nat) :
    (c.partnerUp p q ix).data = (c.setPort p { c.port p with partner := some { q with twoWay := true } }).data := by
  unfold Chip.partnerUp
  dsimp only
  rw [Chip.record_data, Chip.attn_data, apply_ite Chip.data, Chip.wr_data, ite_self, Chip.wr_data, Chip.setWord_data]

theorem Chip.partnerUp_partner (c : Chip) (p : Nat) (q : Partner) (ix : Nat) :
    ((c.partnerUp p q ix).port p).partner = some { q with twoWay := true } := by
  rw [Chip.port_of_data (Chip.partnerUp_data c p q ix), Chip.port_setPort_same]

/-- The new live peer of a session. -/
def mkaPeerOf (d : Mkpdu) : MkaPeer := { mi := d.mi, sci := d.sci, priority := d.priority, fresh := d.fresh }

theorem Chip.mkaLive_shows {c : Chip} {p i : Nat} {d : Mkpdu} (hnew : (c.port p).mka.peers.any (fun q => q.mi == d.mi) = false)
    (hix : c.peerIx d.sci = some i) :
    ((c.mkaLive p d).port p).mka.peers = (c.port p).mka.peers ++ [mkaPeerOf d] ∧ ((c.mkaLive p d).port p).partner.isSome = true := by
  have henter : c.enterPeer d.sci false = some (i, c) := by rw [Chip.enterPeer, hix]
  have hlive : c.mkaLive p d = if ((c.setMka p (fun m => { m with peers := m.peers ++ [mkaPeerOf d] })).port p).partner.isSome
      then c.setMka p (fun m => { m with peers := m.peers ++ [mkaPeerOf d] })
      else (c.setMka p (fun m => { m with peers := m.peers ++ [mkaPeerOf d] })).partnerUp p { id := d.sci } i := by
    rw [Chip.mkaLive, hnew, henter]
    rfl
  rw [hlive]
  split
  · next hpartner => exact ⟨by rw [Chip.port_setMka], hpartner⟩
  · refine ⟨?_, by rw [Chip.partnerUp_partner]; rfl⟩
    rw [Chip.mka_of_lineView (Chip.partnerUp_lineView _ _ _ _) p, Chip.port_setMka]

/-- An MKPDU that names this part, and says nothing besides. -/
theorem Chip.onMkpdu_shows {c : Chip} {p i : Nat} {d : Mkpdu} (hrun : (c.port p).mka.running = true) (hicv : d.icvOk = true)
    (hme : d.liveMe = true) (hretire : d.retire = none) (hsak : d.sak = none) (hrx : d.allRx = false)
    (hnew : (c.port p).mka.peers.any (fun q => q.mi == d.mi) = false) (hix : c.peerIx d.sci = some i) :
    ((c.onMkpdu p d).port p).mka.peers = (c.port p).mka.peers ++ [mkaPeerOf d] ∧ ((c.onMkpdu p d).port p).partner.isSome = true := by
  have hstep : c.onMkpdu p d =
      if (c.mkaLive p d).keyServer p && !((c.mkaLive p d).port p).mka.mine then (c.mkaLive p d).newSak p else c.mkaLive p d := by
    simp [Chip.onMkpdu, hrun, hicv, hme, hretire, hsak, hrx]
  have hview : (c.onMkpdu p d).peersView p = (c.mkaLive p d).peersView p := by
    rw [hstep]
    split
    · exact Chip.newSak_peersView _ _
    · rfl
  simp only [Chip.peersView, Prod.mk.injEq] at hview
  obtain ⟨hpeers, hpartner⟩ := hview
  rw [hpeers, hpartner]
  exact Chip.mkaLive_shows hnew hix

/-! ## The last live peer goes (R94) -/

/-- A session without a live peer has forgotten its SAK. -/
def Mka.alone (k : Mka) : Mka :=
  { k with peers := [], kn := 0, an := 0, key := [], mine := false, rx := false, tx := false, wait := none, byte := none }

/-- The session of a port whose peers have gone runs on. -/
theorem Chip.mkaPeersGone_mka (c : Chip) (p : Nat) : ((c.mkaPeersGone p).port p).mka = Mka.alone (c.port p).mka := by
  have hleft : (((c.port p).mka.peers.foldl (fun c q => c.leavePeer q.sci) c).partnerLost p).lineView = c.lineView :=
    (Chip.partnerLost_lineView _ _).trans (foldl_keeps (fun c _ => Chip.leavePeer_lineView c _) _ c)
  have hgone : c.mkaPeersGone p = (((c.port p).mka.peers.foldl (fun c q => c.leavePeer q.sci) c).partnerLost p).setMka p Mka.alone := rfl
  rw [hgone, Chip.port_setMka, Chip.mka_of_lineView hleft]

section

variable {s : State} {p : Nat} (hp : p < 96) (hhears : s.chip.hears p = true)
include hp hhears

theorem goes_mkpduReceive {d : Mkpdu} {P : Chip → Prop} (hsec : s.chip.isMacsec p = true)
    (h : P { s.chip.onMkpdu p d with power := true }) : Goes (.mkpduReceive p d) s P := by
  have hexec : exec (.mkpduReceive p d) s = s.act fun c => if c.hears p && c.isMacsec p then c.onMkpdu p d else c :=
    if_pos (decide_eq_true hp)
  refine goes_act_powered hexec (Chip.power_of_running (Chip.running_of_hears hhears)) ?_
  rw [if_pos (by rw [hhears, hsec]; rfl)]
  exact h

/-- The hello timer sends an MKPDU with the next message number. -/
theorem goes_mkaHelloTimer {e : Bytes} (hrun : (s.chip.port p).mka.running = true) (he : s.chip.mkaEntry p = some e)
    (hserver : s.chip.keyServer p = false) : Goes (.mkaHelloTimer p) s fun c =>
      (c.port p).mka = { (s.chip.port p).mka with mn := (s.chip.port p).mka.mn + 1 } ∧ c.data.sas = s.chip.data.sas ∧
        ∃ f, f.take 6 = toBe 0x0180C2000003 6 ∧
          c = (s.chip.setMka p (fun k => { k with mn := k.mn + 1 })).mgmtSend p 7 .clear f := by
  have hrunning := Chip.running_of_hears hhears
  obtain ⟨f, hdest, hsend⟩ := Chip.sendMkpdu_eq he
  have hnot : (s.chip.mnRaised p).halted = false := Chip.not_halted_of_running hrunning
  have hown : s.chip.sendMkpdu p = (s.chip.mnRaised p).mgmtSend p 7 .clear f := hsend.trans (if_neg (by rw [hnot]; decide))
  have hsoft : s.chip.mkaSoft p = s.chip := if_neg (by simp [hserver])
  have hview := Chip.mgmtSend_sendView (s.chip.mnRaised p) p 7 .clear f
  have hport : ((s.chip.mnRaised p).mgmtSend p 7 .clear f).port p =
      { s.chip.port p with mka := { (s.chip.port p).mka with mn := (s.chip.port p).mka.mn + 1 } } :=
    (Chip.port_of_sendView hview p).trans (Chip.port_setMka _ _ _)
  refine goes_actOn_of_eq (d := (s.chip.mnRaised p).mgmtSend p 7 .clear f) rfl (decide_eq_true hp) (Chip.power_of_running hrunning)
    ((if_neg (by rw [hrunning, hrun]; decide)).trans ?_) (congrArg (·.1) hview) ⟨by rw [hport], congrArg (·.2.2.1) hview, f, hdest, rfl⟩
  dsimp only
  rw [hsoft, ite_self, hown]

/-- With no live peer left the session forgets its SAK, and runs on. -/
theorem goes_mkaLifeExpiry (hrun : (s.chip.port p).mka.running = true) : Goes (.mkaLifeExpiry p) s fun c =>
    (c.port p).mka = Mka.alone (s.chip.port p).mka := by
  have hrunning := Chip.running_of_hears hhears
  have hexec : exec (.mkaLifeExpiry p) s = s.act fun c => if c.running && (c.port p).mka.running then c.mkaPeersGone p else c :=
    if_pos (decide_eq_true hp)
  refine goes_act_powered hexec (Chip.power_of_running hrunning) ?_
  rw [if_pos (by rw [hrunning, hrun]; rfl)]
  exact Chip.mkaPeersGone_mka s.chip p

end

theorem Goes.mono {i : Instr} {s : State} {P Q : Chip → Prop} (h : Goes i s P) (hPQ : ∀ c, P c → Q c) : Goes i s Q := by
  obtain ⟨t, hexec, hrest, hP⟩ := h
  exact ⟨t, hexec, hrest, hPQ _ hP⟩

/-- Settles O42, command by command (R94, R254, R275): the liveness of peers and the coding of MKPDUs are those of IEEE 802.1X (log entry
41), and that MKPDUs are frames of firmware of class 7 is the model's choice (log entries 17 and 73). -/
theorem mkaSessions : Obligations.MkaSessions := by
  intro s p d hpow hp hhears hsec hrun
  refine ⟨fun hicv => ?_, fun i hicv hme hretire hsak hrx hnew hix => ?_, fun e he hserver => goes_mkaHelloTimer hp hhears hrun he hserver, ?_⟩
  · have hsame : s.chip.onMkpdu p d = s.chip := if_pos (by simp [hicv])
    exact goes_mkpduReceive hp hhears hsec (by rw [hsame, ← hpow])
  · exact goes_mkpduReceive hp hhears hsec (Chip.onMkpdu_shows hrun hicv hme hretire hsak hrx hnew hix)
  · refine (goes_mkaLifeExpiry hp hhears hrun).mono fun c hmka => ?_
    rw [hmka]
    exact ⟨rfl, rfl, rfl, rfl, rfl, rfl, hrun⟩

end Sys2Proof.Machine
end

section
/-! PROOFS of the family of the line ports, O28, first part: the line code, and the open container of a port without an SA (R78, R80 to
R83, R85). -/

namespace Sys2Proof.Machine

/-! ## The line code (R78) -/

/-- A receiver takes from a block the bytes that went into it. -/
theorem blockBytes_lineBlock {v : Bytes} (h : 32 ≤ v.length) : blockBytes (lineBlock v) = v.take 32 := by
  have hlen : (v.take 32).length = 32 := by simp [h]
  have hlt : leNat (v.take 32) < 256 ^ 32 := by simpa only [hlen] using leNat_lt (v.take 32)
  have hbits : (1 + 2 * leNat (v.take 32)) % 2 ^ 257 / 2 = leNat (v.take 32) := by
    norm_num at hlt ⊢
    omega
  have hback := toLe_leNat (v.take 32)
  rw [hlen] at hback
  rw [blockBytes, lineBlock, BitVec.toNat_ofNat, hbits, hback]

/-- The header bit of a block comes first and is set. -/
theorem lineBlock_header (v : Bytes) : (lineBlock v).getLsbD 0 = true := by
  rw [lineBlock, BitVec.getLsbD_ofNat]
  simp [Nat.testBit_zero]

/-- The whole blocks of a stream carry its bytes in order. -/
theorem blockBytes_lineBlocks (n : Nat) (v : Bytes) (h : v.length / 32 ≤ n) :
    ((lineBlocks n v).map blockBytes).flatten = v.take (32 * (v.length / 32)) := by
  induction n generalizing v with
  | zero =>
    rw [Nat.le_zero.mp h]
    rfl
  | succ n ih =>
    rw [lineBlocks]
    split
    · next hshort =>
      rw [Nat.div_eq_of_lt hshort]
      rfl
    · next hlong =>
      have hblocks : v.length / 32 = (v.drop 32).length / 32 + 1 := by
        rw [List.length_drop]
        omega
      rw [List.map_cons, List.flatten_cons, blockBytes_lineBlock (Nat.not_lt.mp hlong), ih _ (by omega), hblocks,
        Nat.mul_add, Nat.mul_one, Nat.add_comm, List.take_add]

theorem fillContainer_length : (fillContainer .idle).length = 4 ∧ (fillContainer .ais).length = 64 := by
  simp [fillContainer, denMask, coreHeader, toBe, toLe, fill]

theorem lineCodeRule_holds : lineCodeRule := fun b v hb =>
  ⟨lineBlock_header b, (blockBytes_lineBlock hb.ge).trans (List.take_of_length_le hb.le), blockBytes_lineBlocks _ v (Nat.div_le_self _ _),
    fillContainer_length.1, fillContainer_length.2⟩

/-! ## Without an SA -/

/-- The records of the open container and of those withdrawn leave the port. -/
def Chip.unsealedGone (c : Chip) (p : Nat) : Chip :=
  (c.setPort p { c.port p with openRecs := [], openHeld := false, shut := [] }).add (R.SAS_TX_NOSA (pipeOf p)) (c.port p).unsealed

theorem Chip.closeOpen_of_noSa {c : Chip} {p : Nat} (h : c.denSa p = none) : c.closeOpen p = c.unsealedGone p := by
  rw [Chip.closeOpen, h]
  rfl

theorem Chip.unsealedGone_shows (c : Chip) (p : Nat) : ((c.unsealedGone p).port p).openRecs = [] ∧ ((c.unsealedGone p).port p).shut = [] ∧
    (c.unsealedGone p).word (R.SAS_TX_NOSA (pipeOf p)) = c.word (R.SAS_TX_NOSA (pipeOf p)) + BitVec.ofNat 32 (c.port p).unsealed ∧
      (∀ a, a ≠ R.SAS_TX_NOSA (pipeOf p) → (c.unsealedGone p).word a = c.word a) ∧ (∀ q, q ≠ p → (c.unsealedGone p).port q = c.port q) ∧
      (c.unsealedGone p).out = c.out := by
  have hport : (c.unsealedGone p).port p = { c.port p with openRecs := [], openHeld := false, shut := [] } := Chip.port_setPort_same _ _ _
  exact ⟨by rw [hport], by rw [hport], Chip.word_setWord_same _ _ _, fun a ha => Chip.word_setWord_other _ _ _ _ ha,
    fun q hq => Chip.port_setPort_other _ _ hq, rfl⟩

section

variable {s : State} {p : Nat} (hp : p < 96) (hrun : s.chip.running = true) (hden : s.chip.isDenast p = true)
include hp hrun hden

/-- CONTAINER_CLOSE and DEN_CLOSE_TIMEOUT close what is open. -/
theorem goes_close {d : Chip} {P : Chip → Prop} (htfc : s.chip.denTfc p = 0) (hopen : (s.chip.port p).openRecs ≠ []) (hd : s.chip.closeOpen p = d)
    (hpow : d.power = s.chip.power) (h : P d) : Goes (.containerClose p) s P ∧ Goes (.denCloseTimeout p) s P := by
  have hguard : (s.chip.running && s.chip.isDenast p && s.chip.denTfc p = 0 && s.chip.mayClose p) = true := by
    simp [hrun, hden, htfc, Chip.mayClose, hopen]
  exact ⟨goes_actOn_of_eq rfl (decide_eq_true hp) (Chip.power_of_running hrun) ((if_pos hguard).trans hd) hpow h,
    goes_actOn_of_eq rfl (decide_eq_true hp) (Chip.power_of_running hrun) ((if_pos hguard).trans hd) hpow h⟩

omit hden in
theorem goes_tfcContainerSlot_noSa (hsa : s.chip.denSa p = none) : Goes (.tfcContainerSlot p) s fun c => c = s.chip :=
  goes_actOn_of_eq rfl (decide_eq_true hp) (Chip.power_of_running hrun) (if_neg (by simp [hsa])) rfl rfl

/-- A MARK while no container is on the wire names the AN and the sequence of the next one. -/
theorem goes_markSend {h : Chan} {i : Nat} (hsa : s.chip.denSa p = some (h, i)) (hrel : (s.chip.port p).release = []) :
    Goes (.markSend p) s fun c => c = s.chip.emit (.container p 3 (denMask (coreHeader 3) ++
      markBody (s.chip.sa i).an (s.chip.flag (F.PRT_DEN_STATUS_tx_rdi p)) (s.chip.sa i).nextPn)) := by
  have hmark : s.chip.sendMark p = s.chip.emit (.container p 3 (denMask (coreHeader 3) ++
      markBody (s.chip.sa i).an (s.chip.flag (F.PRT_DEN_STATUS_tx_rdi p)) (s.chip.sa i).nextPn)) := by
    rw [Chip.sendMark, if_neg (by rw [Chip.not_halted_of_running hrun]; decide), hsa]
    dsimp only
    rw [hrel]
    rfl
  exact goes_actOn_of_eq rfl (decide_eq_true hp) (Chip.power_of_running hrun) ((if_pos (by rw [hrun, hden]; rfl)).trans hmark) rfl rfl

end

theorem containerCloseRule_holds : containerCloseRule := by
  intro s p hp hrun hden
  exact ⟨fun htfc hopen hsa => goes_close hp hrun hden htfc hopen (Chip.closeOpen_of_noSa hsa) rfl (Chip.unsealedGone_shows s.chip p),
    fun _ hsa => goes_tfcContainerSlot_noSa hp hrun hsa, fun _ _ => goes_markSend hp hrun hden⟩

end Sys2Proof.Machine
end

section
/-! PROOFS of the family of the line ports, O28, second part: the open container sealed (R25, R81 to R86, R235, R253, R256). -/

namespace Sys2Proof.Machine

/-! ## What filling a container leaves alone -/

/-- What the payload of a container at port `p` leaves alone while it is put together: main power, the ports, the SAs, the image and the
configuration of the port. -/
def Chip.fillView (p : Nat) (c : Chip) : (Bool × Sparse Port × Sparse Sa × Sparse Delin) × Option Image × W32 :=
  (c.sendView, c.img, c.word (R.PRT_CFG p))

theorem Chip.fillView_emit (c : Chip) (p : Nat) (o : Out) : (c.emit o).fillView p = c.fillView p := rfl

theorem Chip.fillView_tcSat (c : Chip) (p : Nat) : (c.bump R.TIM_TC_SAT).fillView p = c.fillView p := by
  have hcfg : R.PRT_CFG p ≠ R.TIM_TC_SAT := by simp only [R.PRT_CFG, R.TIM_TC_SAT]; omega
  rw [Chip.fillView, Chip.fillView, Chip.bump_sendView, Chip.bump_img, Chip.word_bump_other _ _ _ hcfg]

theorem Chip.stampSent_fillView (c : Chip) (source q t p : Nat) : (c.stampSent source q t).fillView p = c.fillView p := by
  unfold Chip.stampSent
  split
  · exact Chip.fillView_emit _ _ _
  · rfl

theorem Chip.tcCorrect_fillView (c : Chip) (source q rx t : Nat) (f : Bytes) (p : Nat) :
    (c.tcCorrect source q rx t f).2.2.fillView p = c.fillView p := by
  unfold Chip.tcCorrect
  split
  · rfl
  · split
    · rfl
    · dsimp only
      split
      · exact Chip.fillView_tcSat _ _
      · rfl

/-- Of the records of a container only PTP messages leave a trace. -/
theorem Chip.fillPayload_fillView (q t : Nat) (rs : List DenRecord) (c : Chip) (o p : Nat) :
    (c.fillPayload q t rs o).2.2.fillView p = c.fillView p := by
  induction rs generalizing c o with
  | nil => rfl
  | cons r rs ih =>
    rw [Chip.fillPayload]
    cases r.ptp with
    | none => exact ih _ _
    | some x => exact (ih _ _).trans ((Chip.tcCorrect_fillView _ _ _ _ _ _ _).trans (Chip.stampSent_fillView _ _ _ _ _))

theorem Chip.freeNat_fillView (c : Chip) (w p : Nat) : (c.freeNat w).2.fillView p = c.fillView p := rfl

theorem Chip.takeLane_fillView (c : Chip) (l : Nat × Nat) (n p : Nat) : (c.takeLane l n).fillView p = c.fillView p := rfl

theorem Chip.sa_of_fillView {c d : Chip} {p : Nat} (h : d.fillView p = c.fillView p) (i : Nat) : d.sa i = c.sa i := by
  have hsas : d.data.sas = c.data.sas := congrArg (·.1.2.2.1) h
  rw [Chip.sa, hsas, Chip.sa]

theorem Chip.cfgNat_of_img {c d : Chip} (h : d.img = c.img) (t i n dflt : Nat) : d.cfgNat t i n dflt = c.cfgNat t i n dflt := by
  rw [Chip.cfgNat, Chip.rec1, Chip.recs, h, Chip.cfgNat, Chip.rec1, Chip.recs]

theorem Chip.softPn_of_img {c d : Chip} (h : d.img = c.img) (k : Chan) : d.softPn k = c.softPn k := by
  unfold Chip.softPn
  rw [Chip.cfgNat_of_img h]

theorem Chip.softOctets_of_img {c d : Chip} (h : d.img = c.img) (k : Chan) : d.softOctets k = c.softOctets k := Chip.cfgNat_of_img h _ _ _ _

/-! ## A PN is taken (R235, R253) -/

/-- SA `i` of a channel reaches no limit with its next PN. -/
def Chip.farFromLimits (c : Chip) (h : Chan) (i : Nat) : Prop :=
  (c.sa i).nextPn + 1 < hardLimit h.suite ∧ ((c.sa i).soft = true ∨ ((c.sa i).nextPn + 1 < c.softPn h ∧ c.softOctets h = 0))

theorem Chip.farFromLimits_of_fillView {c d : Chip} {p : Nat} (hv : d.fillView p = c.fillView p) {h : Chan} {i : Nat}
    (hfar : c.farFromLimits h i) : d.farFromLimits h i := by
  have himg : d.img = c.img := congrArg (·.2.1) hv
  rwa [Chip.farFromLimits, Chip.sa_of_fillView hv, Chip.softPn_of_img himg, Chip.softOctets_of_img himg]

/-- SA `i` gives a PN, and counts the frame and its octets. -/
def Chip.pnGiven (c : Chip) (i octets : Nat) : Chip :=
  c.setSa i { c.sa i with nextPn := (c.sa i).nextPn + 1, frames := (c.sa i).frames + 1, octets := (c.sa i).octets + octets }

/-- Away from its limits an SA that gives a PN has at most its ceiling raised. -/
theorem Chip.takePn_of_far {c : Chip} {h : Chan} {i : Nat} (hfar : c.farFromLimits h i) (octets : Nat) :
    (c.takePn h i octets).2 = (c.pnGiven i octets).raiseCeiling h i := by
  obtain ⟨hhard, hsoft⟩ := hfar
  have hsa : (c.pnGiven i octets).sa i = { c.sa i with
      nextPn := (c.sa i).nextPn + 1, frames := (c.sa i).frames + 1, octets := (c.sa i).octets + octets } := Chip.sa_setSa_same _ _ _
  have hsoftPn : (c.pnGiven i octets).softPn h = c.softPn h := rfl
  have hsoftOctets : (c.pnGiven i octets).softOctets h = c.softOctets h := rfl
  have hnosoft : ((c.softPn h ≤ (c.sa i).nextPn + 1 || (c.softOctets h != 0 && c.softOctets h ≤ (c.sa i).octets + octets)) && !(c.sa i).soft) = false := by
    rcases hsoft with hset | ⟨hpn, hoctets⟩
    · simp [hset]
    · simp [hoctets, Nat.not_le.mpr hpn]
  have hnohard : (hardLimit h.suite ≤ (c.sa i).nextPn + 1 && !(c.sa i).hard) = false := by simp [Nat.not_le.mpr hhard]
  change (c.pnGiven i octets).checkLimits h i = _
  unfold Chip.checkLimits
  simp only [hsa, hsoftPn, hsoftOctets, hnosoft, hnohard, Bool.false_eq_true, if_false]

theorem Chip.raiseCeiling_keeps (c : Chip) (h : Chan) (i : Nat) : (c.raiseCeiling h i).power = c.power ∧
    (c.raiseCeiling h i).data.ports = c.data.ports ∧ (c.raiseCeiling h i).regs = c.regs := by
  unfold Chip.raiseCeiling
  dsimp only
  split <;> exact ⟨rfl, rfl, rfl⟩

/-- What the PN that an SA gives leaves of the part, and what it shows on the SA. -/
theorem Chip.takePn_shows {c : Chip} {h : Chan} {i : Nat} (hfar : c.farFromLimits h i) (octets : Nat) :
    (c.takePn h i octets).2.power = c.power ∧ (c.takePn h i octets).2.data.ports = c.data.ports ∧ (c.takePn h i octets).2.regs = c.regs ∧
      ((c.takePn h i octets).2.sa i).nextPn = (c.sa i).nextPn + 1 ∧ ((c.takePn h i octets).2.sa i).frames = (c.sa i).frames + 1 := by
  obtain ⟨hpow, hports, hregs⟩ := Chip.raiseCeiling_keeps (c.pnGiven i octets) h i
  obtain ⟨hpn, hframes, -⟩ := Chip.sa_raiseCeiling (c.pnGiven i octets) h i
  have hsa : (c.pnGiven i octets).sa i = { c.sa i with
      nextPn := (c.sa i).nextPn + 1, frames := (c.sa i).frames + 1, octets := (c.sa i).octets + octets } := Chip.sa_setSa_same _ _ _
  rw [hsa] at hpn hframes
  rw [Chip.takePn_of_far hfar]
  exact ⟨hpow, hports, hregs, hpn, hframes⟩

/-! ## What waits for release (R86) -/

/-- On a Denast port nothing leaves the release list as it grows. -/
theorem Chip.settleRelease_of_denast {c : Chip} {p : Nat} (h : c.isDenast p = true) : c.settleRelease p = c := by
  refine foldl_fixed_of_mem fun _ _ => ?_
  split
  · exact if_neg (by simp [h])
  · rfl

theorem Chip.pushRelease_of_denast {c : Chip} {p : Nat} (h : c.isDenast p = true) (r : Release) :
    c.pushRelease p r = c.setPort p { c.port p with release := (c.port p).release ++ [r] } :=
  Chip.settleRelease_of_denast (c := c.setPort p { c.port p with release := (c.port p).release ++ [r] }) h

/-! ## A container closes -/

/-- The shape of a close: a free value, the payload, a lane, a PN, and the release list. -/
theorem Chip.closeWith_eq (c : Chip) (p : Nat) (h : Chan) (i : Nat) (lane : Nat × Nat) (rs : List DenRecord) (least : Nat) :
    ∃ t blocks octets r, c.closeWith p h i lane rs least =
      (((((c.freeNat 16).2.fillPayload p t rs 0).2.2.takeLane lane blocks).takePn h i octets).2).pushRelease p r := ⟨_, _, _, _, rfl⟩

/-- A container that closes takes one PN, and what is sealed waits for release. -/
theorem Chip.closeWith_shows {c : Chip} {p i : Nat} {h : Chan} (hden : c.isDenast p = true) (hfar : c.farFromLimits h i) (lane : Nat × Nat)
    (rs : List DenRecord) (least : Nat) : (c.closeWith p h i lane rs least).power = c.power ∧
      (∃ r, (c.closeWith p h i lane rs least).port p = { c.port p with release := (c.port p).release ++ [r] }) ∧
      ((c.closeWith p h i lane rs least).sa i).nextPn = (c.sa i).nextPn + 1 ∧
      ((c.closeWith p h i lane rs least).sa i).frames = (c.sa i).frames + 1 := by
  obtain ⟨t, blocks, octets, r, hclose⟩ := Chip.closeWith_eq c p h i lane rs least
  have hview : ((((c.freeNat 16).2.fillPayload p t rs 0).2.2.takeLane lane blocks)).fillView p = c.fillView p :=
    (Chip.takeLane_fillView _ _ _ _).trans ((Chip.fillPayload_fillView _ _ _ _ _ _).trans (Chip.freeNat_fillView _ _ _))
  rw [hclose]
  generalize (((c.freeNat 16).2.fillPayload p t rs 0).2.2.takeLane lane blocks) = d at hview
  obtain ⟨hpow, hports, hregs, hpn, hframes⟩ := Chip.takePn_shows (Chip.farFromLimits_of_fillView hview hfar) octets
  have hword : (d.takePn h i octets).2.word (R.PRT_CFG p) = c.word (R.PRT_CFG p) := by
    rw [Chip.word, hregs]
    exact congrArg (·.2.2) hview
  have hport : (d.takePn h i octets).2.port p = c.port p := by
    rw [Chip.port, hports]
    exact Chip.port_of_sendView (congrArg (·.1) hview) p
  rw [Chip.pushRelease_of_denast ((Chip.isDenast_of_word hword).trans hden)]
  refine ⟨hpow.trans (congrArg (·.1.1) hview), ⟨r, by rw [Chip.port_setPort_same, hport]⟩, ?_, ?_⟩
  · exact hpn.trans (by rw [Chip.sa_of_fillView hview])
  · exact hframes.trans (by rw [Chip.sa_of_fillView hview])

/-- The open container, without its records. -/
def Chip.opened (c : Chip) (p : Nat) : Chip := c.setPort p { c.port p with openRecs := [], openHeld := false }

theorem Chip.closeOpen_of_sa {c : Chip} {p i : Nat} {h : Chan} {lane : Nat × Nat} (hsa : c.denSa p = some (h, i)) (hheld : c.saHeld h i = false)
    (hlane : c.pickOutLane (pipeOf p) = some lane) (hshut : (c.port p).shut = []) :
    c.closeOpen p = (c.opened p).closeWith p h i lane (c.port p).openRecs (c.leastPayload p) := by
  have hsettle : c.settleShut p (c.port p).shut.length = c := by rw [hshut, List.length_nil, Chip.settleShut]
  rw [Chip.closeOpen, hsa]
  dsimp only
  rw [hsettle, hheld, if_neg (by decide), hlane]
  exact if_neg (by rw [hshut]; decide)

/-- The open container closes under its SA. -/
theorem Chip.closeOpen_shows {c : Chip} {p i : Nat} {h : Chan} (hden : c.isDenast p = true) (hsa : c.denSa p = some (h, i))
    (hheld : c.saHeld h i = false) (hlane : (c.pickOutLane (pipeOf p)).isSome = true) (hshut : (c.port p).shut = [])
    (hfar : c.farFromLimits h i) : (c.closeOpen p).power = c.power ∧ ((c.closeOpen p).port p).openRecs = [] ∧
      ((c.closeOpen p).sa i).nextPn = (c.sa i).nextPn + 1 ∧ ((c.closeOpen p).sa i).frames = (c.sa i).frames + 1 ∧
      ((c.closeOpen p).port p).release.length = (c.port p).release.length + 1 := by
  obtain ⟨lane, hlane⟩ := Option.isSome_iff_exists.mp hlane
  obtain ⟨hpow, ⟨r, hport⟩, hpn, hframes⟩ :=
    Chip.closeWith_shows (c := c.opened p) (p := p) hden hfar lane (c.port p).openRecs (c.leastPayload p)
  rw [Chip.closeOpen_of_sa hsa hheld hlane hshut]
  refine ⟨hpow, ?_, hpn, hframes, ?_⟩
  · rw [hport, Chip.opened, Chip.port_setPort_same]
  · rw [hport, Chip.opened, Chip.port_setPort_same, List.length_append, List.length_singleton]

theorem containerSealedRule_holds : containerSealedRule := by
  intro s p i h hp hrun hden hsa hheld hlane hshut hhard hsoft
  obtain ⟨hpow, hsealed⟩ := Chip.closeOpen_shows hden hsa hheld hlane hshut ⟨hhard, hsoft⟩
  refine ⟨fun htfc hopen => goes_close hp hrun hden htfc hopen rfl hpow hsealed, fun htfc hais hmis => ?_⟩
  exact goes_actOn_of_eq rfl (decide_eq_true hp) (Chip.power_of_running hrun) (if_pos (by simp [hrun, hden, htfc, hais, hmis, hsa])) hpow hsealed

/-- Settles O28, by its three rules (R76, R78, R81, R85, R86, R256): that a frame and its octets count when the PN is given is the model's
reading (log entry 31), and so is what it says of the head of the release list and of what a rewind withdrew (log entry 35). -/
theorem denastSend : Obligations.DenastSend := ⟨containerCloseRule_holds, containerSealedRule_holds, lineCodeRule_holds⟩

end Sys2Proof.Machine
end

section
/-! PROOFS of the family of defects and performance bins, O47: the mailbox commands that read (R113, R280, R303, R314, R410, R440, R453,
R460, R492). -/

namespace Sys2Proof.Machine

/-! ## What the reply of a short command puts out -/

theorem Chip.setMb_out (c : Chip) (f : Nat) (m : Mailbox) : (c.setMb f m).out = c.out := by
  unfold Chip.setMb
  split <;> rfl

/-- The reply entry shows registers alone (R451). -/
theorem Chip.replyEntry_of_regs {c d : Chip} (h : d.regs = c.regs) (f : Nat) (r : Reply) (code result : Nat) :
    d.replyEntry f r code result = c.replyEntry f r code result := by
  simp only [Chip.replyEntry, Chip.rd, Chip.word, h]

theorem Chip.num_of_regs {c d : Chip} (h : d.regs = c.regs) (a k : Nat) : d.num a k = c.num a k := by
  induction k generalizing a with
  | zero => rfl
  | succ k ih => rw [Chip.num, ih, Chip.word_regs d c h, Chip.num]

/-- What writing a reply puts out: its data, if it has any, and its entry (R450, R451). -/
def Chip.replyOuts (c : Chip) (f : Nat) (r : Reply) (code result : Nat) : List Out :=
  (if r.out = [] then [] else [.hostWrite f r.outAddr r.out]) ++
    [.hostWrite f (c.num (R.HST_MB_RBASE f) 2 + 32 * (c.rd (F.HST_MB_RPROD_rprod f) % 2 ^ c.rd (F.HST_MB_CFG_log2_entries f)))
      (c.replyEntry f r code result)]

theorem Chip.replyOuts_of_regs {c d : Chip} (h : d.regs = c.regs) (f : Nat) (r : Reply) (code result : Nat) :
    d.replyOuts f r code result = c.replyOuts f r code result := by
  simp only [Chip.replyOuts, Chip.replyEntry_of_regs h, Chip.num_of_regs h, Chip.rd_regs d c h]

/-- A reply of an enabled mailbox that raises no interrupt and does not fail. -/
theorem Chip.sendReply_out {c : Chip} {f : Nat} {r : Reply} (hen : c.flag (F.HST_MB_CFG_enable f) = true) (hdrop : r.drop = false)
    (hwrite : r.writeFail = false) (hintr : r.intr = false) (code result : Nat) :
    (c.sendReply f r code result).out = c.out ++ c.replyOuts f r code result := by
  unfold Chip.sendReply Chip.replyOuts
  simp only [hen, hdrop, hwrite, hintr, Bool.not_true, Bool.or_self, Bool.false_eq_true, if_false, Bool.false_and]
  by_cases hout : r.out = []
  · simp only [hout, if_true]
    split <;> simp
  · simp only [hout, if_false]
    split <;> simp [Chip.replyEntry_of_regs (c := c) (d := c.emit _) rfl, Chip.num_of_regs (c := c) (d := c.emit _) rfl]

/-- A ready reply that waits for none is put out at once (R452). -/
theorem Chip.queueReply_out {c : Chip} {f : Nat} {r : Reply} {code result : Nat} (hrep : (c.mb f).replies = [])
    (hans : r.answer = some (code, result)) (hen : c.flag (F.HST_MB_CFG_enable f) = true) (hdrop : r.drop = false)
    (hwrite : r.writeFail = false) (hintr : r.intr = false) : (c.queueReply f r).out = c.out ++ c.replyOuts f r code result := by
  have hone : ((c.setMb f { c.mb f with replies := (c.mb f).replies ++ [r] }).mb f).replies = [r] := by
    rw [Chip.setMb_mb]
    exact congrArg (· ++ [r]) hrep
  have hregs : (c.setMb f { c.mb f with replies := (c.mb f).replies ++ [r] }).regs = c.regs := Chip.setMb_regs ..
  have hen' : (c.setMb f { c.mb f with replies := (c.mb f).replies ++ [r] }).flag (F.HST_MB_CFG_enable f) = true := by
    rw [Chip.flag, Chip.rd_regs _ _ hregs, ← Chip.flag, hen]
  rw [Chip.queueReply, Chip.flushReplies, hone, Chip.drainReplies_ready _ _ hans]
  simp only [Chip.setMb_out, Chip.sendReply_out hen' hdrop hwrite hintr, Chip.replyOuts_of_regs hregs]

/-- The reply of a command that succeeds with these output data. -/
def dataReply (h : Mb) (k : CmdClass) (data : Bytes) : Reply :=
  { seq := h.seq, opcode := k.opcode, intr := h.intr, dup := false, answer := some (Code.ok, 0), out := data, outAddr := h.outAddr,
    writeFail := h.writeFail }

theorem Chip.mbAnswer_of_read (c : Chip) (h : Mb) {k : CmdClass} (hshort : k.long = false) (data : Bytes) :
    c.mbAnswer h k { out := data } = (c.tableAdd h.fn { seq := h.seq, code := some Code.ok }).queueReply h.fn (dataReply h k data) := by
  unfold Chip.mbAnswer
  simp only [hshort, Bool.false_and, Bool.false_eq_true, if_false]
  rw [dataReply]

/-! ## A command that reads -/

theorem Chip.enabled_of_accepts {c : Chip} {h : Mb} {k : CmdClass} (hacc : c.mbAccepts h k) : c.flag (F.HST_MB_CFG_enable h.fn) = true := by
  obtain ⟨-, hready, -⟩ := hacc
  simp only [Chip.mbReady, Chip.mbRunning, Bool.and_eq_true] at hready
  obtain ⟨⟨⟨-, ⟨⟨hen, -⟩, -⟩, -⟩, -⟩, -⟩ := hready
  exact hen

/-- What a command's own rule must make of the part as started, to be one that reads: main power, the mailboxes, and their registers
stand. -/
def Chip.keepsMailboxes (c d : Chip) : Prop :=
  d.power = c.power ∧ d.mb0 = c.mb0 ∧ d.mb1 = c.mb1 ∧ ∀ a < 0x200, d.word a = c.word a

theorem Chip.keepsMailboxes_refl (c : Chip) : c.keepsMailboxes c := ⟨rfl, rfl, rfl, fun _ _ => rfl⟩

/-- A short command whose own rule answers OK with data, and leaves the mailboxes alone, is one that reads. -/
theorem reads_of {i : Instr} {s : State} {h : Mb} {k : CmdClass} {body : Chip → Chip × Answer} {d : Chip} {data : Bytes}
    (htaken : taken h i s) (hclass : mailboxOf s.chip i = some (h, k)) (hshort : k.long = false)
    (hexec : exec i s = s.act fun c => c.mbRun h k body) (hbody : body (s.chip.mbStarted h) = (d, { out := data }))
    (hkeep : Chip.keepsMailboxes (s.chip.mbStarted h) d) : Reads i s h d data := by
  obtain ⟨k', hclass', hacc⟩ := htaken
  obtain rfl : k = k' := by simpa [hclass] using hclass'
  obtain ⟨hpow, hmb0, hmb1, hlow⟩ := hkeep
  have hfn := Chip.fn_le_of_accepts hacc
  have hpower : s.chip.power = true := hacc.1
  have hrun := Chip.mbRun_accepted s.chip h k body hacc
  rw [hbody] at hrun
  constructor
  · have hserved : Served i s h d _ _ _ := served_of hexec hacc (by rw [hbody]) (by rw [hbody]; exact Chip.mbSame_refl _ _)
      (hpow.trans hpower) (fun x hx => ?_) (by rw [hbody])
    · have hshown : ({ out := data } : Answer).shown k = some Code.ok := by simp [Answer.shown, hshort]
      rw [Answer.shownResult, hshown] at hserved
      exact hserved
    · rw [hbody]
      refine hlow x ?_
      simp only [R.HST_MB_CONS, R.HST_MB_LAST_SEQ, List.mem_cons, List.not_mem_nil, or_false] at hx
      omega
  · intro k' hclass' hrep hintr hwrite
    obtain rfl : k = k' := by simpa [hclass] using hclass'
    have hmb : d.mb h.fn = s.chip.mb h.fn := by
      rw [Chip.mb, hmb0, hmb1]
      rfl
    have hregs : (d.tableAdd h.fn { seq := h.seq, code := some Code.ok }).regs = d.regs := Chip.setMb_regs ..
    have hen : (d.tableAdd h.fn { seq := h.seq, code := some Code.ok }).flag (F.HST_MB_CFG_enable h.fn) = true := by
      rw [Chip.flag, Chip.rd_regs _ d hregs, ← Chip.flag, Chip.flag_of_word (c := s.chip.mbStarted h) (hlow _ ?_),
        Chip.flag_of_word (c := s.chip) (Chip.mbStarted_word _ _ _ ?_ ?_ ?_), Chip.enabled_of_accepts hacc] <;>
      simp only [F.HST_MB_CFG_enable, R.HST_MB_CFG, R.HST_MB_CONS, R.HST_MB_LAST_SEQ] <;> omega
    refine ⟨_, by rw [hexec, State.act, if_pos hpower, hrun], ?_⟩
    rw [Chip.mbAnswer_of_read d h hshort]
    refine (Chip.queueReply_out (r := dataReply h k data) ((Chip.tableAdd_replies ..).trans (by rw [hmb, hrep])) rfl hen rfl hwrite hintr).trans ?_
    rw [Chip.replyOuts_of_regs hregs, Chip.tableAdd, Chip.setMb_out, List.append_assoc]
    rfl

/-! ## STATUS_READ (R460): sixteen registers read as firmware reads them -/

/-- Between `c` and `d` nothing differs but the words at the addresses `as`, what wide reads latch, and the telemetry totals. -/
def Chip.readsOf (as : List Nat) (c d : Chip) : Prop := Chip.onlyRegs { c with shadows := d.shadows, tele := d.tele } d as

theorem Chip.readsOf.trans {as : List Nat} {b c d : Chip} (h : Chip.readsOf as b c) (k : Chip.readsOf as c d) : Chip.readsOf as b d := by
  obtain ⟨hc, hw⟩ := h
  obtain ⟨hd, kw⟩ := k
  refine ⟨?_, fun a ha => (kw a ha).trans (hw a ha)⟩
  calc { d with regs := b.regs }
      _ = { ({ d with regs := c.regs } : Chip) with regs := b.regs } := rfl
      _ = { ({ c with regs := b.regs } : Chip) with shadows := d.shadows, tele := d.tele } := by rw [hd]
      _ = { b with shadows := d.shadows, tele := d.tele } := by rw [hc]

theorem Chip.readsOf.mono {as bs : List Nat} {c d : Chip} (h : Chip.readsOf as c d) (hsub : as ⊆ bs) : Chip.readsOf bs c d :=
  Chip.onlyRegs.mono h hsub

theorem Chip.readsOf_refl (as : List Nat) (c : Chip) : Chip.readsOf as c c := ⟨rfl, fun _ _ => rfl⟩

theorem Chip.readsOf_latch (as : List Nat) (c : Chip) (init a k : Nat) (ws : List W32) : Chip.readsOf as c (c.latch init a k ws) := by
  induction k generalizing c a ws with
  | zero => exact Chip.readsOf_refl as c
  | succ k ih =>
    cases ws with
    | nil => exact Chip.readsOf_refl as c
    | cons w ws => exact Chip.readsOf.trans (c := { c with shadows := Sparse.set 0 c.shadows (shadowKey init a) w }) ⟨rfl, fun _ _ => rfl⟩ (ih _ _ _)

theorem Chip.readsOf_clearRc (c : Chip) (a : Nat) (d : RegDesc) : Chip.readsOf [a] c (c.clearRc a d) := by
  unfold Chip.clearRc
  split
  · exact Chip.readsOf_refl _ c
  · exact ⟨rfl, (Chip.onlyRegs_setWord _ a _).2⟩

/-- A read of a register that is no list of entries changes its own word alone. -/
theorem Chip.readsOf_readWord (c : Chip) (init : Nat) {a : Nat} (htca : a ≠ R.PRT_PM_TCA) (hcap : wordIx a (R.TIM_CAP 0) 5 16 = none) :
    Chip.readsOf [a] c (c.readWord init a).2 := by
  unfold Chip.readWord
  split
  · exact Chip.readsOf_refl _ c
  · rw [if_neg htca]
    split
    · exact Chip.readsOf_refl _ c
    · split
      · split
        · exact Chip.readsOf_latch ..
        · exact Chip.readsOf_refl _ c
      · rw [hcap]
        exact (Chip.readsOf_latch ..).trans (Chip.readsOf_clearRc ..)

theorem Chip.readsOf_readRegs (as : List Nat) (c : Chip) (h : ∀ a ∈ as, a ≠ R.PRT_PM_TCA ∧ wordIx a (R.TIM_CAP 0) 5 16 = none) :
    Chip.readsOf as c (Chip.readRegs as c).2 := by
  induction as generalizing c with
  | nil => exact Chip.readsOf_refl _ c
  | cons a as ih =>
    obtain ⟨htca, hcap⟩ := h a (by simp)
    have hrest := ih (c.readWord 0 a).2 fun b hb => h b (by simp [hb])
    exact ((Chip.readsOf_readWord c 0 htca hcap).mono (by simp)).trans (hrest.mono (by simp))

/-- The registers of STATUS_READ lie above those of the mailboxes, and none is a list of entries. -/
theorem statusRegs_plain : ∀ a ∈ statusRegs, 0x200 ≤ a ∧ a ≠ R.PRT_PM_TCA ∧ wordIx a (R.TIM_CAP 0) 5 16 = none := by decide

theorem Chip.keepsMailboxes_readRegs (c : Chip) : c.keepsMailboxes (Chip.readRegs statusRegs c).2 := by
  obtain ⟨hsame, hword⟩ := Chip.readsOf_readRegs statusRegs c fun a ha => (statusRegs_plain a ha).2
  refine ⟨(congrArg Chip.power hsame :), (congrArg Chip.mb0 hsame :), (congrArg Chip.mb1 hsame :), fun a ha => hword a fun hmem => ?_⟩
  have hhigh := (statusRegs_plain a hmem).1
  omega

theorem statusRead_reads {s : State} {h : Mb} (htaken : taken h (.statusRead h) s) :
    Reads (.statusRead h) s h (Chip.readRegs statusRegs (s.chip.mbStarted h)).2 (Chip.readRegs statusRegs (s.chip.mbStarted h)).1 :=
  reads_of htaken rfl rfl rfl rfl (Chip.keepsMailboxes_readRegs _)

/-! ## Commands that change nothing of the part -/

/-- A command whose own rule answers OK with data and changes nothing. -/
theorem reads_same {i : Instr} {s : State} {h : Mb} {k : CmdClass} {body : Chip → Chip × Answer} {data : Bytes}
    (htaken : taken h i s) (hclass : mailboxOf s.chip i = some (h, k)) (hshort : k.long = false)
    (hexec : exec i s = s.act fun c => c.mbRun h k body) (hbody : body (s.chip.mbStarted h) = (s.chip.mbStarted h, { out := data })) :
    Reads i s h (s.chip.mbStarted h) data :=
  reads_of htaken hclass hshort hexec hbody (Chip.keepsMailboxes_refl _)

theorem fn_le_of_taken {s : State} {h : Mb} {i : Instr} (htaken : taken h i s) : h.fn ≤ 1 := by
  obtain ⟨k, -, hacc⟩ := htaken
  exact Chip.fn_le_of_accepts hacc

theorem Chip.mbStarted_vaultOpen (c : Chip) {h : Mb} (hfn : h.fn ≤ 1) : (c.mbStarted h).vaultOpen = c.vaultOpen := by
  rw [Chip.vaultOpen, Chip.mbStarted_rd_high c h hfn _ (by decide), Chip.vaultOpen]

/-- HISTORY_READ of a source that is open, of an entity that has bins (R113, R460). -/
theorem historyRead_reads {s : State} {h : Mb} {kind source index count start : Nat} (hcount : 0 < count) (hmax : count ≤ 672)
    (hopen : source = 0 → s.chip.vaultOpen = true)
    (hknown : (kind = 0 ∧ source ≤ 1 ∧ index ≤ 143) ∨
      (kind = 1 ∧ source = 0 ∧ s.chip.data.chans.any (fun h => h.sc == index && !h.tx) = true))
    (htaken : taken h (.historyRead h kind source index count start) s) :
    let c := s.chip.mbStarted h
    let e := if kind = 0 then index else scEntity index
    let v := (((c.historyBins e (source == 1) start).take count).map (fun b => toLe b.start 8 ++ b.entry (kind == 0) false)).flatten
    Reads (.historyRead h kind source index count start) s h c (v ++ fill (56 * count - v.length) 0) := by
  have hvault := Chip.mbStarted_vaultOpen s.chip (fn_le_of_taken htaken)
  have hrange : (decide (1 < kind) || decide (1 < source) || decide (count = 0) || decide (672 < count) || decide (kind = 0) && decide (143 < index) ||
      decide (kind = 1) && decide (source = 1)) = false := by
    simp only [Bool.or_eq_false_iff, Bool.and_eq_false_iff, decide_eq_false_iff_not]
    omega
  have hready : (decide (source = 0) && !(s.chip.mbStarted h).vaultOpen) = false := by
    rw [hvault]
    by_cases hsource : source = 0
    · simp [hopen hsource]
    · simp [hsource]
  have hentity : (decide (kind = 0) || (s.chip.mbStarted h).data.chans.any (fun h => h.sc == index && !h.tx)) = true := by
    rcases hknown with ⟨hkind, -⟩ | ⟨-, -, hany⟩
    · simp [hkind]
    · rw [Bool.or_eq_true]
      exact .inr hany
  refine reads_same htaken rfl rfl rfl ?_
  unfold Chip.historyRead
  rw [if_neg (by simp [hrange]), if_neg (by simp [hready])]
  dsimp only
  rw [if_neg (by simp [hentity])]

theorem scStatus_reads {s : State} {h : Mb} {sc : Nat} (hsc : sc ≤ 65535) (htaken : taken h (.scStatus h sc) s) :
    let c := s.chip.mbStarted h
    let on := (s.chip.chan sc).isSome
    Reads (.scStatus h sc) s h c (toLe (c.scStatusWord sc) 4 ++ fill 4 0 ++ toLe (if on then (s.chip.scRun sc).epoch else 0) 8 ++
      toLe (if on then c.scSkip sc else 0) 8 ++ fill 8 0) :=
  reads_same htaken rfl rfl rfl (if_neg (Nat.not_lt.mpr hsc))

theorem keyInfo_reads {s : State} {h : Mb} {n : Nat} (hn : n < 1024) (htaken : taken h (.keyInfo h n) s) :
    Reads (.keyInfo h n) s h (s.chip.mbStarted h)
      (toLe (s.chip.slotInfo n) 4 ++ fill 4 0 ++ toLe (s.chip.slot n).expiry 8 ++ toLe (s.chip.slot n).uses 8 ++ fill 8 0) :=
  reads_same htaken rfl rfl rfl (if_neg (Nat.not_le.mpr hn))

theorem certRead_reads {s : State} {h : Mb} {sel : Nat} {item : Bytes} (hitem : (s.chip.mbStarted h).certItem sel = .ok item)
    (hlen : item.length ≤ h.outLen) (htaken : taken h (.certRead h sel) s) : Reads (.certRead h sel) s h (s.chip.mbStarted h) item := by
  refine reads_same htaken rfl rfl rfl ?_
  rw [hitem]
  exact if_neg (Nat.not_lt.mpr hlen)

/-! ## REC_READ (R440) -/

theorem Chip.mbStarted_recPlace (c : Chip) {h : Mb} (hfn : h.fn ≤ 1) (place slot : Nat) :
    (c.mbStarted h).recPlace place slot = c.recPlace place slot := by
  unfold Chip.recPlace Chip.readFlash Chip.flashGood
  rw [Chip.mbStarted_vaultOpen c hfn, Chip.mbStarted_flag_high c h hfn _ (by decide), Chip.mbStarted_flag_high c h hfn _ (by decide)]
  rfl

/-- The statuses that REC_READ returns: a free bit tells whether a SEAL verifies whose predecessor has left the place. -/
def shownStatuses (key : Bytes) (rs : List Bytes) (v : Nat) : List Nat := (sealStatuses key rs).map fun st => if st = 3 then 2 * (v % 2) else st

theorem recRead_reads {s : State} {h : Mb} {place count slot run seq : Nat} (hplace : place ≤ 2) (hcount : 0 < count) (hmax : count ≤ 64)
    (hslot : place = 1 → slot ≤ 6) (hlen : 36 * count ≤ h.outLen) (htaken : taken h (.recRead h place count slot run seq) s) :
    ∃ v, let rs := s.chip.recPlace place slot
      Reads (.recRead h place count slot run seq) s h { s.chip.mbStarted h with free := (s.chip.mbStarted h).free + 1 }
        ((recChosen (rs.zip (shownStatuses s.chip.keys.recKey rs v)) count run seq).map
          (fun o => o.elim recAbsent (fun x => recOut s.chip.keys.recKey x.1 x.2))).flatten := by
  have hfn := fn_le_of_taken htaken
  have hrange : (decide (2 < place) || decide (count = 0) || decide (64 < count) || decide (place = 1) && decide (6 < slot)) = false := by
    simp only [Bool.or_eq_false_iff, Bool.and_eq_false_iff, decide_eq_false_iff_not]
    omega
  refine ⟨Config.freeValue (s.chip.mbStarted h).free 1, reads_of htaken rfl rfl rfl ?_ ⟨rfl, rfl, rfl, fun _ _ => rfl⟩⟩
  unfold Chip.recRead
  rw [if_neg (by simp [hrange]), if_neg (Nat.not_lt.mpr hlen), Chip.mbStarted_recPlace _ hfn]
  refine congrArg (fun l : List Bytes => (({ s.chip.mbStarted h with free := (s.chip.mbStarted h).free + 1 }, { out := l.flatten }) : Chip × Answer))
    (List.map_congr_left fun o _ => ?_)
  cases o <;> rfl

/-! ## ATTEST (R314) -/

/-- The engine with one more of firmware's jobs (R328). -/
def Pke.given (port : Option Nat) (x : Pke) (j : PkeJob) : Pke :=
  { x with fwNext := (x.fwNext + 1) % 2 ^ 32, fwQueue := x.fwQueue ++ [{ j with num := x.fwNext, port := port }] }

/-- Firmware's jobs change the engine alone. -/
theorem Chip.fwJobs_eq (c : Chip) (port : Option Nat) (jobs : List PkeJob) :
    c.fwJobs port jobs = { c with pke := jobs.foldl (Pke.given port) c.pke } := by
  induction jobs generalizing c with
  | nil => rfl
  | cons j jobs ih => exact ih { c with pke := c.pke.given port j }

/-- The class of ATTEST (R460, R462). -/
def attestClass (c : Chip) : CmdClass := { opcode := 0x0406, long := true, pf1 := true, halt := true, safe := c.start.blank }

/-- The part after ATTEST has drawn its random bytes and given firmware's jobs to the engine. -/
def Chip.attested (c : Chip) (jobs : List PkeJob) : Chip := { c with free := c.free + 1, pke := (c.fwJobs none jobs).pke }

theorem Chip.fwJobs_random (c : Chip) (m : Nat) (jobs : List PkeJob) : (c.random m).2.fwJobs none jobs = c.attested jobs := by
  rw [Chip.attested, Chip.fwJobs_eq, Chip.fwJobs_eq]
  rfl

/-- What ATTEST's signatures over a nonce of `n` bytes come to. -/
def Chip.attestMade (c : Chip) (n : Nat) (nonce : Bytes) : Option Bytes × List PkeJob :=
  (c.random signRnd).2.attestSign (c.attestPayload c.overlayOf ((nonce ++ fill 64 0).take n)) (c.random signRnd).1

/-- The rule of ATTEST where neither the nonce, nor the commands that wait, nor the engine refuses it. -/
theorem Chip.attest_of_ready {c : Chip} {n outLen : Nat} (nonce : Bytes) (hmin : 16 ≤ n) (hmax : n ≤ 64) (hwait : c.attests < 4)
    (hpke : c.pkeOk = true) :
    c.attest nonce n outLen = match (c.attestMade n nonce).1 with
      | none => refuse (c.attested (c.attestMade n nonce).2) Code.fault
      | some st => if outLen < st.length then refuse c Code.length else (c.attested (c.attestMade n nonce).2, { out := st }) := by
  have hrange : (decide (n < 16) || decide (64 < n)) = false := by
    simp only [Bool.or_eq_false_iff, decide_eq_false_iff_not]
    omega
  unfold Chip.attest
  rw [if_neg (by simp [hrange]), if_neg (by omega), if_neg (by simp [hpke])]
  dsimp only
  rw [Chip.fwJobs_random]
  rfl

section

variable {s : State} {h : Mb} {n : Nat} {nonce : Bytes} (hmin : 16 ≤ n) (hmax : n ≤ 64) (hwait : s.chip.attests < 4)
  (hpke : s.chip.pkeOk = true) (htaken : taken h (.attest h n nonce) s)

include htaken

/-- An accepted ATTEST whose own rule leaves the engine with jobs, is served with its answer. -/
theorem attest_served {a : Answer} {jobs : List PkeJob}
    (hbody : (s.chip.mbStarted h).attest nonce n h.outLen = ((s.chip.mbStarted h).attested jobs, a)) :
    Served (.attest h n nonce) s h ((s.chip.mbStarted h).attested jobs) (a.shown (attestClass s.chip)) (a.shownResult (attestClass s.chip))
      a.jop.toList := by
  obtain ⟨k, hclass, hacc⟩ := htaken
  obtain rfl : attestClass s.chip = k := by simpa [mailboxOf, attestClass] using hclass
  obtain ⟨d, hserved, rfl⟩ := did_of (P := (· = (s.chip.mbStarted h).attested jobs)) (i := .attest h n nonce)
    (body := fun c => c.attest nonce n h.outLen) rfl hacc hbody
    hacc.1 (fun _ _ => rfl) rfl
  exact hserved

include hmin hmax hwait hpke

theorem attest_ready : (s.chip.mbStarted h).attest nonce n h.outLen = match ((s.chip.mbStarted h).attestMade n nonce).1 with
    | none => refuse ((s.chip.mbStarted h).attested ((s.chip.mbStarted h).attestMade n nonce).2) Code.fault
    | some st => if h.outLen < st.length then refuse (s.chip.mbStarted h) Code.length
        else ((s.chip.mbStarted h).attested ((s.chip.mbStarted h).attestMade n nonce).2, { out := st }) := by
  have hfn := fn_le_of_taken htaken
  refine Chip.attest_of_ready nonce hmin hmax hwait ?_
  rw [Chip.pkeOk, Chip.rbgOk, Chip.mbStarted_flag_high _ h hfn _ (by decide), Chip.mbStarted_flag_high _ h hfn _ (by decide)]
  exact hpke

theorem attest_of_made {st : Bytes} (hmade : ((s.chip.mbStarted h).attestMade n nonce).1 = some st) (hlen : st.length ≤ h.outLen) :
    Served (.attest h n nonce) s h ((s.chip.mbStarted h).attested ((s.chip.mbStarted h).attestMade n nonce).2) none 0 [] := by
  refine attest_served (a := { out := st }) htaken ?_
  rw [attest_ready hmin hmax hwait hpke htaken, hmade]
  exact if_neg (Nat.not_lt.mpr hlen)

theorem attest_of_failed (hmade : ((s.chip.mbStarted h).attestMade n nonce).1 = none) :
    Served (.attest h n nonce) s h ((s.chip.mbStarted h).attested ((s.chip.mbStarted h).attestMade n nonce).2) (some Code.fault) 0 [] := by
  refine attest_served (a := { code := Code.fault }) htaken ?_
  rw [attest_ready hmin hmax hwait hpke htaken, hmade]
  rfl

end

/-- Settles O47, command by command (R113, R280, R303, R314, R410, R440, R453, R460, R492). The statuses of REC_READ and the free bit among
them (log entry 24), the order of the bins of HISTORY_READ (log entry 43), the reading of sixteen registers by STATUS_READ and the codes of
ATTEST (log entry 58), and the bytes of a reply (log entry 70) are the model's reading. -/
theorem mailboxReads : Obligations.MailboxReads := by
  intro s h
  exact ⟨fun htaken => reads_same htaken rfl rfl rfl rfl, statusRead_reads,
    fun place count slot run seq hplace hcount hmax hslot hlen htaken => recRead_reads hplace hcount hmax hslot hlen htaken,
    fun kind source index count start hcount hmax hopen hknown htaken => historyRead_reads hcount hmax hopen hknown htaken,
    fun htaken => reads_same htaken rfl rfl rfl rfl, fun htaken => reads_same htaken rfl rfl rfl rfl,
    fun sc hsc htaken => scStatus_reads hsc htaken, fun n hn htaken => keyInfo_reads hn htaken,
    fun sel item hitem hlen htaken => certRead_reads hitem hlen htaken,
    fun n nonce hmin hmax hwait hpke htaken => ⟨fun st => attest_of_made hmin hmax hwait hpke htaken, attest_of_failed hmin hmax hwait hpke htaken⟩⟩

end Sys2Proof.Machine
end

section
/-! PROOFS of the family of defects and performance bins, O17, first part: registers that a write with its go bit fills (R7, R12). -/

namespace Sys2Proof.Machine

/-! ## Runs of words -/

/-- The part with the words `val 0` to `val (k - 1)` at the addresses `addr 0` to `addr (k - 1)`. -/
def Chip.putWords (c : Chip) (addr : Nat → Nat) (val : Nat → W32) (k : Nat) : Chip :=
  (List.range k).foldl (fun c w => c.setWord (addr w) (val w)) c

theorem Chip.putWords_succ (c : Chip) (addr : Nat → Nat) (val : Nat → W32) (k : Nat) :
    c.putWords addr val (k + 1) = (c.putWords addr val k).setWord (addr k) (val k) := by
  simp only [Chip.putWords, List.range_succ, List.foldl_append, List.foldl_cons, List.foldl_nil]

theorem Chip.onlyRegs_putWords (c : Chip) (addr : Nat → Nat) (val : Nat → W32) (k : Nat) :
    Chip.onlyRegs c (c.putWords addr val k) ((List.range k).map addr) := by
  induction k with
  | zero => exact ⟨rfl, fun _ _ => rfl⟩
  | succ k ih =>
    rw [Chip.putWords_succ, List.range_succ, List.map_append]
    exact (ih.mono (List.subset_append_left _ _)).trans ((Chip.onlyRegs_setWord _ _ _).mono (List.subset_append_right _ _))

theorem Chip.word_putWords (c : Chip) {addr : Nat → Nat} (val : Nat → W32) {k w : Nat} (hinj : addr.Injective) (hw : w < k) :
    (c.putWords addr val k).word (addr w) = val w := by
  induction k with
  | zero => cases hw
  | succ k ih =>
    rw [Chip.putWords_succ]
    rcases Nat.lt_succ_iff_lt_or_eq.mp hw with hw | rfl
    · rw [Chip.word_setWord_other _ _ _ _ (fun e => hw.ne (hinj e)), ih hw]
    · exact Chip.word_setWord_same _ _ _

/-! ## Numbers of two words -/

theorem Chip.onlyRegs_setNum (c : Chip) (a v : Nat) : Chip.onlyRegs c (c.setNum a 2 v) [a, a + 4] :=
  ((Chip.onlyRegs_setWord c a _).mono (by simp)).trans ((Chip.onlyRegs_setWord _ (a + 4) _).mono (by simp))

/-- A number reads the same in two parts that hold the same words there. -/
theorem Chip.num_of_word {c d : Chip} {a : Nat} (hlow : d.word a = c.word a) (hhigh : d.word (a + 4) = c.word (a + 4)) : d.num a 2 = c.num a 2 := by
  simp only [Chip.num, hlow, hhigh]

/-- A number written elsewhere leaves it alone. -/
theorem Chip.num_setNum_apart (c : Chip) {a b : Nat} (v : Nat) (h : b + 8 ≤ a ∨ a + 8 ≤ b) : (c.setNum a 2 v).num b 2 = c.num b 2 :=
  Chip.num_of_word (Chip.word_setNum_other _ _ _ _ _ (by omega)) (Chip.word_setNum_other _ _ _ _ _ (by omega))

/-- The part with the numbers `val 0` to `val (k - 1)` of two words each from `base` on. -/
def Chip.putNums (c : Chip) (base : Nat) (val : Nat → Nat) (k : Nat) : Chip :=
  (List.range k).foldl (fun c j => c.setNum (base + 8 * j) 2 (val j)) c

theorem Chip.putNums_succ (c : Chip) (base : Nat) (val : Nat → Nat) (k : Nat) :
    c.putNums base val (k + 1) = (c.putNums base val k).setNum (base + 8 * k) 2 (val k) := by
  simp only [Chip.putNums, List.range_succ, List.foldl_append, List.foldl_cons, List.foldl_nil]

theorem Chip.onlyRegs_putNums (c : Chip) (base : Nat) (val : Nat → Nat) (k : Nat) :
    Chip.onlyRegs c (c.putNums base val k) ((List.range (2 * k)).map fun w => base + 4 * w) := by
  induction k with
  | zero => exact ⟨rfl, fun _ _ => rfl⟩
  | succ k ih =>
    rw [Chip.putNums_succ]
    refine (ih.mono ?_).trans ((Chip.onlyRegs_setNum _ _ _).mono ?_)
    · exact List.map_subset _ (List.range_subset.mpr (by omega))
    · intro a ha
      simp only [List.mem_cons, List.not_mem_nil, or_false] at ha
      rcases ha with rfl | rfl
      · exact List.mem_map.mpr ⟨2 * k, List.mem_range.mpr (by omega), by omega⟩
      · exact List.mem_map.mpr ⟨2 * k + 1, List.mem_range.mpr (by omega), by omega⟩

theorem Chip.num_putNums (c : Chip) (base : Nat) (val : Nat → Nat) {k j : Nat} (hj : j < k) :
    (c.putNums base val k).num (base + 8 * j) 2 = val j % 2 ^ 64 := by
  induction k with
  | zero => cases hj
  | succ k ih =>
    rw [Chip.putNums_succ]
    rcases Nat.lt_succ_iff_lt_or_eq.mp hj with hj | rfl
    · rw [Chip.num_setNum_apart _ _ (by omega), ih hj]
    · exact Chip.num_setNum _ _ _ _

/-! ## What a write orders -/

/-- A permitted write that orders a copy does what the copy makes of the part. -/
theorem goes_hostWrite {i : Instr} {s : State} {init a : Nat} {f : Chip → Chip} {d : Chip} {P : Chip → Prop}
    (hexec : exec i s = s.act fun c => c.hostWrite init a f) (hp : s.chip.power = true) (hperm : permitted s.chip init a true)
    (hcopy : f s.chip = d) (hpow : d.power = s.chip.power) (h : P d) : Goes i s P := by
  subst hcopy
  exact goes_act (f := fun _ => f s.chip) (by simp only [hexec, State.act, Chip.hostWrite_of_permitted hperm]) hp (hpow.trans hp) h

/-- A selected place shown in a run of words: the selection reads back, the words read as what is shown, and nothing else changes. -/
theorem Chip.shownWords (c : Chip) (sel : Fld) {addr : Nat → Nat} (val : Nat → W32) (n k : Nat) (hin : sel.inWord = true)
    (hn : n < 2 ^ sel.w) (hinj : addr.Injective) (hapart : ∀ w, sel.reg ≠ addr w) :
    ((c.wr sel n).putWords addr val k).rd sel = n ∧ (∀ w, w < k → ((c.wr sel n).putWords addr val k).word (addr w) = val w) ∧
      Chip.onlyRegs c ((c.wr sel n).putWords addr val k) (sel.reg :: (List.range k).map addr) := by
  have honly := Chip.onlyRegs_putWords (c.wr sel n) addr val k
  have hsel : sel.reg ∉ (List.range k).map addr := by
    rintro hmem
    obtain ⟨w, -, hw⟩ := List.mem_map.mp hmem
    exact hapart w hw.symm
  refine ⟨?_, fun w hw => Chip.word_putWords _ _ hinj hw, ((Chip.onlyRegs_wr c sel n).mono (by simp)).trans (honly.mono (by simp))⟩
  rw [Chip.rd_of_word (honly.2 _ hsel), Chip.rd_wr_same _ _ _ hin, Nat.mod_eq_of_lt hn]

/-- The part with a selected place shown in a word and two numbers. -/
def Chip.showStatus (c : Chip) (sel : Fld) (n info : Nat) (x : W32) (a v b u : Nat) : Chip :=
  (((c.wr sel n).setWord info x).setNum a 2 v).setNum b 2 u

theorem Chip.showStatus_shows (c : Chip) {sel : Fld} {n info a b : Nat} (x : W32) (v u : Nat) (hin : sel.inWord = true) (hn : n < 2 ^ sel.w)
    (hinfo : sel.reg < info) (ha : info < a) (hb : a + 8 ≤ b) :
    (c.showStatus sel n info x a v b u).rd sel = n ∧ (c.showStatus sel n info x a v b u).word info = x ∧
      (c.showStatus sel n info x a v b u).num a 2 = v % 2 ^ 64 ∧ (c.showStatus sel n info x a v b u).num b 2 = u % 2 ^ 64 ∧
      Chip.onlyRegs c (c.showStatus sel n info x a v b u) [sel.reg, info, a, a + 4, b, b + 4] := by
  unfold Chip.showStatus
  have hlow (y : Nat) (hy : y < a) : ((((c.wr sel n).setWord info x).setNum a 2 v).setNum b 2 u).word y = ((c.wr sel n).setWord info x).word y := by
    rw [Chip.word_setNum_other _ _ _ _ _ (by omega), Chip.word_setNum_other _ _ _ _ _ (by omega)]
  refine ⟨?_, ?_, ?_, Chip.num_setNum _ _ _ _, ?_⟩
  · rw [Chip.rd_of_word (hlow _ (by omega)), Chip.rd_setWord_other _ _ _ _ (by omega), Chip.rd_wr_same _ _ _ hin, Nat.mod_eq_of_lt hn]
  · rw [hlow _ ha, Chip.word_setWord_same]
  · rw [Chip.num_setNum_apart _ _ (by omega)]
    exact Chip.num_setNum _ _ _ _
  · exact ((((Chip.onlyRegs_wr c sel n).mono (by simp)).trans ((Chip.onlyRegs_setWord _ info x).mono (by simp))).trans
      ((Chip.onlyRegs_setNum _ a v).mono (by simp))).trans ((Chip.onlyRegs_setNum _ b u).mono (by simp))

end Sys2Proof.Machine
end

section
/-! PROOFS of the family of defects and performance bins, O17, second part: the copies (R117, R136, R191, R247, R249, R300, R410). -/

namespace Sys2Proof.Machine

/-! ## The values that order a copy -/

/-- The value of a write that selects `n` in its lowest `k` bits, and sets its go bit above them. -/
theorem goValue {n k : Nat} (hn : n < 2 ^ k) (hk : k < 31) :
    bits (BitVec.ofNat 32 (n + 2 ^ k)).toNat 0 k = n ∧ bit (BitVec.ofNat 32 (n + 2 ^ k)).toNat k = true := by
  have hpow : 2 ^ k ≤ 2 ^ 30 := Nat.pow_le_pow_right (by omega) (by omega)
  have hvalue : (BitVec.ofNat 32 (n + 2 ^ k)).toNat = n + 2 ^ k := by
    rw [BitVec.toNat_ofNat, Nat.mod_eq_of_lt]
    omega
  have hpos := Nat.two_pow_pos k
  rw [hvalue, bits, bit, Nat.pow_zero, Nat.div_one, Nat.add_mod_right, Nat.mod_eq_of_lt hn, Nat.add_div_right _ hpos, Nat.div_eq_of_lt hn]
  exact ⟨rfl, rfl⟩

/-! ## Status registers -/

theorem Chip.groupCopy_of_go (c : Chip) {n : Nat} (hn : n < 16384) : c.groupCopy (BitVec.ofNat 32 (n + 2 ^ 14)) =
    (c.wr F.SWC_MC_SEL_group n).putWords R.SWC_MC_DATA (fun w => BitVec.ofNat 32 (c.group n / 2 ^ (32 * w))) 5 := by
  obtain ⟨hsel, hgo⟩ := goValue (k := 14) hn (by decide)
  unfold Chip.groupCopy
  simp only [hsel, hgo, Bool.not_true, Bool.false_eq_true, if_false]
  rfl

theorem Chip.logCopy_of_go (c : Chip) {n : Nat} (hn : n < 64) : c.logCopy (BitVec.ofNat 32 (n + 2 ^ 6)) =
    (c.wr F.TMP_LOG_SEL_index n).putWords R.TMP_LOG_DATA (fun w => BitVec.ofNat 32 (le (Sparse.get [] c.ao.log n) (4 * w) 4)) 4 := by
  obtain ⟨hsel, hgo⟩ := goValue (k := 6) hn (by decide)
  unfold Chip.logCopy
  simp only [hsel, hgo, Bool.not_true, Bool.false_eq_true, if_false]
  rfl

theorem Chip.slotCopy_of_go (c : Chip) {n : Nat} (hn : n < 1024) : c.slotCopy (BitVec.ofNat 32 (n + 2 ^ 10)) =
    c.showStatus F.KEY_SLOT_SEL_slot n R.KEY_SLOT_INFO (BitVec.ofNat 32 (c.slotInfo n)) R.KEY_SLOT_EXPIRY (c.slot n).expiry R.KEY_SLOT_USES
      (c.slot n).uses := by
  obtain ⟨hsel, hgo⟩ := goValue (k := 10) hn (by decide)
  unfold Chip.slotCopy
  simp only [hsel, hgo, Bool.not_true, Bool.false_eq_true, if_false]
  rfl

theorem Chip.scCopy_of_go (c : Chip) {n : Nat} (hn : n < 65536) : c.scCopy (BitVec.ofNat 32 (n + 2 ^ 16)) =
    c.showStatus F.SAS_SC_SEL_sc n R.SAS_SC_STATUS (BitVec.ofNat 32 (c.scStatusWord n)) R.SAS_SC_EPOCH
      (if (c.chan n).isSome then (c.scRun n).epoch else 0) R.SAS_SC_SKIP (if (c.chan n).isSome then c.scSkip n else 0) := by
  obtain ⟨hsel, hgo⟩ := goValue (k := 16) hn (by decide)
  unfold Chip.scCopy
  simp only [hsel, hgo, Bool.not_true, Bool.false_eq_true, if_false]
  rfl

theorem statusCopiesRule_holds : statusCopiesRule := by
  intro s init n hp
  refine ⟨fun hperm hn => ?_, fun hperm hn => ?_, fun hperm hn => ?_, fun hperm hn => ?_⟩
  · have hshown := Chip.shownWords s.chip F.SWC_MC_SEL_group (addr := R.SWC_MC_DATA) (fun w => BitVec.ofNat 32 (s.chip.group n / 2 ^ (32 * w))) n 5 rfl hn
      (fun _ _ h => by simp only [R.SWC_MC_DATA] at h; omega) (fun w => by simp only [F.SWC_MC_SEL_group, R.SWC_MC_SEL, R.SWC_MC_DATA]; omega)
    exact goes_hostWrite rfl hp hperm (Chip.groupCopy_of_go _ hn) hshown.2.2.power hshown
  · obtain ⟨hsel, hinfo, hexpiry, huses, honly⟩ := Chip.showStatus_shows s.chip (sel := F.KEY_SLOT_SEL_slot) (info := R.KEY_SLOT_INFO)
      (a := R.KEY_SLOT_EXPIRY) (b := R.KEY_SLOT_USES) (BitVec.ofNat 32 (s.chip.slotInfo n)) (s.chip.slot n).expiry (s.chip.slot n).uses rfl hn
      (by decide) (by decide) (by decide)
    exact goes_hostWrite rfl hp hperm (Chip.slotCopy_of_go _ hn) honly.power ⟨hsel, hinfo, hexpiry, huses, honly⟩
  · have hshown := Chip.shownWords s.chip F.TMP_LOG_SEL_index (addr := R.TMP_LOG_DATA)
      (fun w => BitVec.ofNat 32 (le (Sparse.get [] s.chip.ao.log n) (4 * w) 4)) n 4 rfl hn
      (fun _ _ h => by simp only [R.TMP_LOG_DATA] at h; omega) (fun w => by simp only [F.TMP_LOG_SEL_index, R.TMP_LOG_SEL, R.TMP_LOG_DATA]; omega)
    exact goes_hostWrite rfl hp hperm (Chip.logCopy_of_go _ hn) hshown.2.2.power hshown
  · obtain ⟨hsel, hinfo, hepoch, -, honly⟩ := Chip.showStatus_shows s.chip (sel := F.SAS_SC_SEL_sc) (info := R.SAS_SC_STATUS)
      (a := R.SAS_SC_EPOCH) (b := R.SAS_SC_SKIP) (BitVec.ofNat 32 (s.chip.scStatusWord n))
      (if (s.chip.chan n).isSome then (s.chip.scRun n).epoch else 0) (if (s.chip.chan n).isSome then s.chip.scSkip n else 0) rfl hn
      (by decide) (by decide) (by decide)
    exact goes_hostWrite rfl hp hperm (Chip.scCopy_of_go _ hn) honly.power ⟨hsel, hinfo, hepoch, honly⟩

/-! ## Counters -/

/-- Main power and the registers hold nothing of the datapath. -/
theorem Chip.withData_keeps (c : Chip) (x : Data) : ({ c with data := x } : Chip).power = c.power ∧ ({ c with data := x } : Chip).regs = c.regs :=
  ⟨rfl, rfl⟩

/-- The value of a write of CPH_SA_SEL that selects an SA, asks for its counters to be cleared or not, and sets go. -/
theorem saValue {n : Nat} (clear : Bool) (hn : n < 131072) :
    bits (BitVec.ofNat 32 (n + 2 ^ 17 * b2n clear + 2 ^ 18)).toNat 0 17 = n ∧
      bit (BitVec.ofNat 32 (n + 2 ^ 17 * b2n clear + 2 ^ 18)).toNat 17 = clear ∧
      bit (BitVec.ofNat 32 (n + 2 ^ 17 * b2n clear + 2 ^ 18)).toNat 18 = true := by
  cases clear <;> simp only [b2n, bits, bit, BitVec.toNat_ofNat, beq_iff_eq, beq_eq_false_iff_ne, Bool.false_eq_true, if_false, if_true] <;> omega

/-- The part with the context of an SA shown. -/
def Chip.saShown (c : Chip) (n : Nat) (clear : Bool) : Chip :=
  (((c.wr F.CPH_SA_SEL_sa n).wrb F.CPH_SA_SEL_clear clear).setWord R.CPH_SA_STATUS (BitVec.ofNat 32 (c.saStatusWord n))).putNums (R.CPH_SA_DATA 0)
    (fun k => (c.sa n).data.getD k 0) 6

/-- An SA whose counters are cleared. -/
def Sa.cleared (x : Sa) : Sa := { x with frames := 0, octets := 0, fails := 0, replays := 0 }

/-- The same part, with the counters of the SA cleared when that is asked for. -/
def Chip.saTaken (c : Chip) (n : Nat) (clear : Bool) : Chip := if clear then (c.saShown n clear).setSa n (c.sa n).cleared else c.saShown n clear

theorem Chip.saCopy_of_go (c : Chip) {n : Nat} (clear : Bool) (hn : n < 131072) :
    c.saCopy (BitVec.ofNat 32 (n + 2 ^ 17 * b2n clear + 2 ^ 18)) = c.saTaken n clear := by
  obtain ⟨hsel, hclear, hgo⟩ := saValue clear hn
  unfold Chip.saCopy
  simp only [hsel, hclear, hgo, Bool.not_true, Bool.false_eq_true, if_false]
  rfl

theorem Chip.onlyRegs_saShown (c : Chip) (n : Nat) (clear : Bool) :
    Chip.onlyRegs c (c.saShown n clear) (R.CPH_SA_SEL :: R.CPH_SA_STATUS :: (List.range 12).map R.CPH_SA_DATA) :=
  ((((Chip.onlyRegs_wr c F.CPH_SA_SEL_sa n).mono (by simp [F.CPH_SA_SEL_sa])).trans
    ((Chip.onlyRegs_wr _ F.CPH_SA_SEL_clear _).mono (by simp [F.CPH_SA_SEL_clear]))).trans
    ((Chip.onlyRegs_setWord _ R.CPH_SA_STATUS _).mono (by simp))).trans ((Chip.onlyRegs_putNums _ (R.CPH_SA_DATA 0) _ 6).mono (by decide))

/-- The word and the six numbers that are shown of an SA. -/
theorem Chip.saShown_shows (c : Chip) (n : Nat) (clear : Bool) :
    (c.saShown n clear).word R.CPH_SA_STATUS = BitVec.ofNat 32 (c.saStatusWord n) ∧
      ∀ k, k < 6 → (c.saShown n clear).num (R.CPH_SA_DATA (2 * k)) 2 = (c.sa n).data.getD k 0 % 2 ^ 64 := by
  refine ⟨?_, fun k hk => ?_⟩
  · refine ((Chip.onlyRegs_putNums _ (R.CPH_SA_DATA 0) _ 6).2 _ (by decide)).trans (Chip.word_setWord_same _ _ _)
  · have haddr : R.CPH_SA_DATA (2 * k) = R.CPH_SA_DATA 0 + 8 * k := by simp only [R.CPH_SA_DATA]; omega
    rw [haddr]
    exact Chip.num_putNums _ _ _ hk

theorem Chip.saTaken_keeps (c : Chip) (n : Nat) (clear : Bool) :
    (c.saTaken n clear).power = (c.saShown n clear).power ∧ (c.saTaken n clear).regs = (c.saShown n clear).regs := by
  unfold Chip.saTaken
  split
  · exact Chip.withData_keeps _ _
  · exact ⟨rfl, rfl⟩

theorem Chip.saTaken_sa (c : Chip) (n : Nat) (clear : Bool) :
    (c.saTaken n clear).sa n = (if clear then (c.sa n).cleared else c.sa n) ∧ ∀ i, i ≠ n → (c.saTaken n clear).sa i = c.sa i := by
  have hsa (i : Nat) : (c.saShown n clear).sa i = c.sa i := by rw [Chip.sa, (Chip.onlyRegs_saShown c n clear).data, Chip.sa]
  unfold Chip.saTaken
  split
  · exact ⟨Chip.sa_setSa_same _ _ _, fun i hi => by rw [Chip.sa_setSa, if_neg hi, hsa i]⟩
  · exact ⟨hsa n, fun i _ => hsa i⟩

theorem saStateCopy_shows {s : State} {init n : Nat} (clear : Bool) (hp : s.chip.power = true) (hperm : permitted s.chip init R.CPH_SA_SEL true)
    (hn : n < 131072) : Goes (.saStateCopy init (BitVec.ofNat 32 (n + 2 ^ 17 * b2n clear + 2 ^ 18))) s fun c =>
      c.word R.CPH_SA_STATUS = BitVec.ofNat 32 (s.chip.saStatusWord n) ∧
        (∀ k, k < 6 → c.num (R.CPH_SA_DATA (2 * k)) 2 = (s.chip.sa n).data.getD k 0 % 2 ^ 64) ∧
        c.sa n = (if clear then (s.chip.sa n).cleared else s.chip.sa n) ∧ (∀ i, i ≠ n → c.sa i = s.chip.sa i) ∧
        ∀ a, a ∉ R.CPH_SA_SEL :: R.CPH_SA_STATUS :: (List.range 12).map R.CPH_SA_DATA → c.word a = s.chip.word a := by
  obtain ⟨hstatus, hnums⟩ := Chip.saShown_shows s.chip n clear
  obtain ⟨hpow, hregs⟩ := Chip.saTaken_keeps s.chip n clear
  obtain ⟨hsame, hother⟩ := Chip.saTaken_sa s.chip n clear
  have honly := Chip.onlyRegs_saShown s.chip n clear
  have hword := Chip.word_regs _ _ hregs
  exact goes_hostWrite rfl hp hperm (Chip.saCopy_of_go _ clear hn) (hpow.trans honly.power)
    ⟨(hword _).trans hstatus, fun k hk => (Chip.num_of_regs hregs _ _).trans (hnums k hk), hsame, hother,
      fun a ha => (hword a).trans (honly.2 a ha)⟩

/-- The value of a write of FLW_CNT_SEL that selects a counter, asks for it to be cleared or not, and sets go. -/
theorem cntValue {n m : Nat} (clear : Bool) (hn : n < 16) (hm : m < 8192) :
    bits (BitVec.ofNat 32 (n + 2 ^ 4 * m + 2 ^ 17 * b2n clear + 2 ^ 18)).toNat 0 4 = n ∧
      bits (BitVec.ofNat 32 (n + 2 ^ 4 * m + 2 ^ 17 * b2n clear + 2 ^ 18)).toNat 4 13 = m ∧
      bit (BitVec.ofNat 32 (n + 2 ^ 4 * m + 2 ^ 17 * b2n clear + 2 ^ 18)).toNat 17 = clear ∧
      bit (BitVec.ofNat 32 (n + 2 ^ 4 * m + 2 ^ 17 * b2n clear + 2 ^ 18)).toNat 18 = true := by
  cases clear <;> simp only [b2n, bits, bit, BitVec.toNat_ofNat, beq_iff_eq, beq_eq_false_iff_ne, Bool.false_eq_true, if_false, if_true] <;> omega

/-- A program counter: frames and bytes. -/
def Chip.counterAt (c : Chip) (j : Nat) : Nat × Nat := Sparse.get (0, 0) c.data.counts j

/-- The part with a program counter at zero. -/
def Chip.zeroCounter (c : Chip) (i : Nat) : Chip := { c with data := { c.data with counts := Sparse.set (0, 0) c.data.counts i (0, 0) } }

theorem Chip.counterAt_zeroCounter (c : Chip) (i j : Nat) : (c.zeroCounter i).counterAt j = if j = i then (0, 0) else c.counterAt j := by
  change Sparse.get (0, 0) (Sparse.set (0, 0) c.data.counts i (0, 0)) j = _
  rw [Sparse.get_set, Chip.counterAt]

/-- The part with a program counter shown. -/
def Chip.counterShown (c : Chip) (n m : Nat) (clear : Bool) : Chip :=
  (((c.wr F.FLW_CNT_SEL_cluster n).wr F.FLW_CNT_SEL_index m).wrb F.FLW_CNT_SEL_clear clear).putNums (R.FLW_CNT_DATA 0)
    (fun k => [(c.counterAt (8192 * n + m)).1, (c.counterAt (8192 * n + m)).2].getD k 0) 2

/-- The same part, with the counter at zero when that is asked for. -/
def Chip.counterTaken (c : Chip) (n m : Nat) (clear : Bool) : Chip :=
  if clear then (c.counterShown n m clear).zeroCounter (8192 * n + m) else c.counterShown n m clear

theorem Chip.counterCopy_of_go (c : Chip) {n m : Nat} (clear : Bool) (hn : n < 16) (hm : m < 8192) :
    c.counterCopy (BitVec.ofNat 32 (n + 2 ^ 4 * m + 2 ^ 17 * b2n clear + 2 ^ 18)) =
      c.counterTaken n m clear := by
  obtain ⟨hcluster, hindex, hclear, hgo⟩ := cntValue clear hn hm
  unfold Chip.counterCopy
  simp only [hcluster, hindex, hclear, hgo, Bool.not_true, Bool.false_eq_true, if_false]
  rfl

theorem Chip.onlyRegs_counterShown (c : Chip) (n m : Nat) (clear : Bool) :
    Chip.onlyRegs c (c.counterShown n m clear) (R.FLW_CNT_SEL :: (List.range 4).map R.FLW_CNT_DATA) :=
  ((((Chip.onlyRegs_wr c F.FLW_CNT_SEL_cluster n).mono (by simp [F.FLW_CNT_SEL_cluster])).trans
    ((Chip.onlyRegs_wr _ F.FLW_CNT_SEL_index m).mono (by simp [F.FLW_CNT_SEL_index]))).trans
    ((Chip.onlyRegs_wr _ F.FLW_CNT_SEL_clear _).mono (by simp [F.FLW_CNT_SEL_clear]))).trans
    ((Chip.onlyRegs_putNums _ (R.FLW_CNT_DATA 0) _ 2).mono (by decide))

theorem Chip.counterTaken_keeps (c : Chip) (n m : Nat) (clear : Bool) :
    (c.counterTaken n m clear).power = (c.counterShown n m clear).power ∧ (c.counterTaken n m clear).regs = (c.counterShown n m clear).regs := by
  unfold Chip.counterTaken
  split
  · exact Chip.withData_keeps _ _
  · exact ⟨rfl, rfl⟩

theorem Chip.counterTaken_counterAt (c : Chip) (n m : Nat) (clear : Bool) :
    (c.counterTaken n m clear).counterAt (8192 * n + m) = (if clear then (0, 0) else c.counterAt (8192 * n + m)) ∧
      ∀ j, j ≠ 8192 * n + m → (c.counterTaken n m clear).counterAt j = c.counterAt j := by
  have hcount (j : Nat) : (c.counterShown n m clear).counterAt j = c.counterAt j := by
    rw [Chip.counterAt, (Chip.onlyRegs_counterShown c n m clear).data, Chip.counterAt]
  unfold Chip.counterTaken
  split
  · exact ⟨(Chip.counterAt_zeroCounter _ _ _).trans (if_pos rfl), fun j hj => by rw [Chip.counterAt_zeroCounter, if_neg hj, hcount j]⟩
  · exact ⟨hcount _, fun j _ => hcount j⟩

theorem flwCounterCopy_shows {s : State} {init n m : Nat} (clear : Bool) (hp : s.chip.power = true)
    (hperm : permitted s.chip init R.FLW_CNT_SEL true) (hn : n < 16) (hm : m < 8192) :
    Goes (.flwCounterCopy init (BitVec.ofNat 32 (n + 2 ^ 4 * m + 2 ^ 17 * b2n clear + 2 ^ 18))) s fun c =>
      c.num (R.FLW_CNT_DATA 0) 2 = (s.chip.counterAt (8192 * n + m)).1 % 2 ^ 64 ∧
        c.num (R.FLW_CNT_DATA 2) 2 = (s.chip.counterAt (8192 * n + m)).2 % 2 ^ 64 ∧
        c.counterAt (8192 * n + m) = (if clear then (0, 0) else s.chip.counterAt (8192 * n + m)) ∧
        (∀ j, j ≠ 8192 * n + m → c.counterAt j = s.chip.counterAt j) ∧
        ∀ a, a ∉ R.FLW_CNT_SEL :: (List.range 4).map R.FLW_CNT_DATA → c.word a = s.chip.word a := by
  have hframes : (s.chip.counterShown n m clear).num (R.FLW_CNT_DATA 0) 2 = (s.chip.counterAt (8192 * n + m)).1 % 2 ^ 64 :=
    Chip.num_putNums _ (R.FLW_CNT_DATA 0) _ (j := 0) (by decide)
  have hbytes : (s.chip.counterShown n m clear).num (R.FLW_CNT_DATA 2) 2 = (s.chip.counterAt (8192 * n + m)).2 % 2 ^ 64 :=
    Chip.num_putNums _ (R.FLW_CNT_DATA 0) _ (j := 1) (by decide)
  obtain ⟨hpow, hregs⟩ := Chip.counterTaken_keeps s.chip n m clear
  obtain ⟨hsame, hother⟩ := Chip.counterTaken_counterAt s.chip n m clear
  have honly := Chip.onlyRegs_counterShown s.chip n m clear
  exact goes_hostWrite rfl hp hperm (Chip.counterCopy_of_go _ clear hn hm) (hpow.trans honly.power)
    ⟨(Chip.num_of_regs hregs _ _).trans hframes, (Chip.num_of_regs hregs _ _).trans hbytes, hsame, hother,
      fun a ha => (Chip.word_regs _ _ hregs a).trans (honly.2 a ha)⟩

/-! ## Bins (R117) -/

/-- The value of a write of PRT_PM_CTRL that selects a bin of a port, and sets go. -/
theorem binValue {n m : Nat} (hn : n < 144) (hm : m < 35) :
    bit (BitVec.ofNat 32 (2 * n + 2 ^ 17 * m + 2 ^ 23)).toNat 0 = false ∧ bits (BitVec.ofNat 32 (2 * n + 2 ^ 17 * m + 2 ^ 23)).toNat 1 16 = n ∧
      bits (BitVec.ofNat 32 (2 * n + 2 ^ 17 * m + 2 ^ 23)).toNat 17 6 = m ∧ bit (BitVec.ofNat 32 (2 * n + 2 ^ 17 * m + 2 ^ 23)).toNat 23 = true := by
  simp only [bits, bit, BitVec.toNat_ofNat, beq_iff_eq, beq_eq_false_iff_ne]
  omega

/-- The 48 bytes that are shown of a bin, or of none. -/
def shownBin (m : Nat) (b : Option Bin) : Bytes := (b.map fun b => b.entry true (m == 0 || m == 33)).getD (fill 48 0)

/-- The part with a bin of a port selected. -/
def Chip.binSelected (c : Chip) (n m : Nat) : Chip := ((c.wrb F.PRT_PM_CTRL_kind false).wr F.PRT_PM_CTRL_index n).wr F.PRT_PM_CTRL_bin m

/-- What PRT_PM_STATUS shows of a bin of a selection that is legal. -/
def Chip.binStatus (c : Chip) (b : Option Bin) : Chip := (c.wrb F.PRT_PM_STATUS_valid b.isSome).wrb F.PRT_PM_STATUS_bad_select false

/-- The part with a selected bin of a port shown, or with none. -/
def Chip.binShown (c : Chip) (n m : Nat) (b : Option Bin) : Chip :=
  (((c.binSelected n m).binStatus b).setNum R.PRT_PM_START 2 ((b.map (·.start)).getD 0 % 2 ^ 48)).putWords R.PRT_PM_DATA
    (fun w => BitVec.ofNat 32 (le (shownBin m b) (4 * w) 4)) 12

theorem Chip.onlyRegs_binSelected (c : Chip) (n m : Nat) : Chip.onlyRegs c (c.binSelected n m) [R.PRT_PM_CTRL] :=
  ((Chip.onlyRegs_wr c F.PRT_PM_CTRL_kind _).trans (Chip.onlyRegs_wr _ F.PRT_PM_CTRL_index n)).trans (Chip.onlyRegs_wr _ F.PRT_PM_CTRL_bin m)

/-- The selection of a bin bears on none. -/
theorem Chip.binSelected_binOf (c : Chip) {n : Nat} (m : Nat) (hn : n < 144) : (c.binSelected n m).binOf n m = c.binOf n m := by
  have honly := Chip.onlyRegs_binSelected c n m
  have hpm : (c.binSelected n m).pm = c.pm := (congrArg Chip.pm honly.1 :)
  have hon : (c.binSelected n m).entityOn n = c.entityOn n := by
    have hcfg : (c.binSelected n m).rd (F.PRT_CFG_port_mode n) = c.rd (F.PRT_CFG_port_mode n) :=
      Chip.rd_of_word (honly.2 _ (by simp only [F.PRT_CFG_port_mode, R.PRT_CFG, R.PRT_PM_CTRL, List.mem_singleton]; omega))
    simp only [Chip.entityOn, hn, if_true, Chip.portOn, Chip.mode, hcfg]
  simp only [Chip.binOf, Chip.perf, hpm, hon]

theorem Chip.binCopy_of_go (c : Chip) {n m : Nat} (hn : n < 144) (hm : m < 35) :
    c.binCopy (BitVec.ofNat 32 (2 * n + 2 ^ 17 * m + 2 ^ 23)) = c.binShown n m (c.binOf n m) := by
  obtain ⟨hkind, hindex, hbin, hgo⟩ := binValue hn hm
  have hlegal : (decide (143 < n) || decide (34 < m)) = false := by
    simp only [Bool.or_eq_false_iff, decide_eq_false_iff_not]
    omega
  rw [← Chip.binSelected_binOf c m hn]
  unfold Chip.binCopy
  simp only [hkind, hindex, hbin, hgo, hlegal, Bool.not_true, Bool.not_false, Bool.true_and, Bool.true_or, Bool.or_false, Bool.false_eq_true, if_false]
  rfl

theorem Chip.onlyRegs_binShown (c : Chip) (n m : Nat) (b : Option Bin) : Chip.onlyRegs c (c.binShown n m b)
    (R.PRT_PM_CTRL :: R.PRT_PM_STATUS :: R.PRT_PM_START :: (R.PRT_PM_START + 4) :: (List.range 12).map R.PRT_PM_DATA) := by
  have hstatus : Chip.onlyRegs (c.binSelected n m) ((c.binSelected n m).binStatus b) [R.PRT_PM_STATUS] :=
    (Chip.onlyRegs_wr _ F.PRT_PM_STATUS_valid _).trans (Chip.onlyRegs_wr _ F.PRT_PM_STATUS_bad_select _)
  exact ((((Chip.onlyRegs_binSelected c n m).mono (by decide)).trans (hstatus.mono (by decide))).trans
    ((Chip.onlyRegs_setNum _ R.PRT_PM_START _).mono (by decide))).trans ((Chip.onlyRegs_putWords _ R.PRT_PM_DATA _ 12).mono (by decide))

theorem leNat_zeros (k : Nat) : leNat (List.replicate k (0 : Byte)) = 0 := by
  induction k with
  | zero => rfl
  | succ k ih => rw [List.replicate_succ, leNat, ih]; rfl

theorem le_fill_zero (n i k : Nat) : le (fill n 0) i k = 0 := by
  rw [le, slice, fill, List.drop_replicate, List.take_replicate, leNat_zeros]

/-- Whether a bin is shown, and its words: all zero where none is. -/
theorem Chip.binShown_shows (c : Chip) (n m : Nat) (b : Option Bin) :
    (c.binShown n m b).flag F.PRT_PM_STATUS_valid = b.isSome ∧ (c.binShown n m b).flag F.PRT_PM_STATUS_bad_select = false ∧
      (c.binShown n m b).num R.PRT_PM_START 2 = (b.map (·.start)).getD 0 % 2 ^ 48 ∧
      ∀ w, w < 12 → (c.binShown n m b).word (R.PRT_PM_DATA w) = BitVec.ofNat 32 (le (shownBin m b) (4 * w) 4) := by
  have hdata := Chip.onlyRegs_putWords (((c.binSelected n m).binStatus b).setNum R.PRT_PM_START 2 ((b.map (·.start)).getD 0 % 2 ^ 48)) R.PRT_PM_DATA
    (fun w => BitVec.ofNat 32 (le (shownBin m b) (4 * w) 4)) 12
  have hlow (a : Nat) (ha : a ≤ R.PRT_PM_START + 4) := hdata.2 a (by
    simp only [R.PRT_PM_START] at ha
    simp only [R.PRT_PM_DATA, List.mem_map, not_exists, not_and]
    omega)
  have hstatus : (c.binShown n m b).word R.PRT_PM_STATUS = ((c.binSelected n m).binStatus b).word R.PRT_PM_STATUS :=
    (hlow _ (by decide)).trans (Chip.word_setNum_other _ _ _ _ _ (by decide))
  refine ⟨?_, ?_, ?_, fun w hw => Chip.word_putWords _ _ (fun _ _ h => by simp only [R.PRT_PM_DATA] at h; omega) hw⟩
  · rw [Chip.flag_of_word hstatus, Chip.binStatus, Chip.wrb, Chip.flag_wr_clears _ _ _ _ rfl rfl, Chip.flag_wrb_same _ _ _ rfl rfl]
  · rw [Chip.flag_of_word hstatus, Chip.binStatus, Chip.flag_wrb_same _ _ _ rfl rfl]
  · refine (Chip.num_of_word (hlow _ (by decide)) (hlow _ (by decide))).trans ((Chip.num_setNum _ _ _ _).trans ?_)
    exact Nat.mod_eq_of_lt (by omega)

theorem pmBinCopy_shows {s : State} {init n m : Nat} (hp : s.chip.power = true) (hperm : permitted s.chip init R.PRT_PM_CTRL true) (hn : n < 144)
    (hm : m < 35) : Goes (.pmBinCopy init (BitVec.ofNat 32 (2 * n + 2 ^ 17 * m + 2 ^ 23))) s fun c =>
      c.flag F.PRT_PM_STATUS_valid = (s.chip.binOf n m).isSome ∧ c.flag F.PRT_PM_STATUS_bad_select = false ∧
        (∀ b, s.chip.binOf n m = some b → c.num R.PRT_PM_START 2 = b.start % 2 ^ 48 ∧
          ∀ w, w < 12 → c.word (R.PRT_PM_DATA w) = BitVec.ofNat 32 (le (b.entry true (m == 0 || m == 33)) (4 * w) 4)) ∧
        (s.chip.binOf n m = none → ∀ w, w < 12 → c.word (R.PRT_PM_DATA w) = 0) ∧
        Chip.onlyRegs s.chip c (R.PRT_PM_CTRL :: R.PRT_PM_STATUS :: R.PRT_PM_START :: (R.PRT_PM_START + 4) :: (List.range 12).map R.PRT_PM_DATA) := by
  have honly := Chip.onlyRegs_binShown s.chip n m (s.chip.binOf n m)
  obtain ⟨hvalid, hlegal, hstart, hwords⟩ := Chip.binShown_shows s.chip n m (s.chip.binOf n m)
  refine goes_hostWrite rfl hp hperm (Chip.binCopy_of_go _ hn hm) honly.power ⟨hvalid, hlegal, fun b hb => ?_, fun hb w hw => ?_, honly⟩
  · rw [hb] at hstart hwords ⊢
    exact ⟨hstart, hwords⟩
  · rw [hwords w hw, hb, shownBin, Option.map_none, Option.getD_none, le_fill_zero]
    rfl

theorem counterCopiesRule_holds : counterCopiesRule := by
  intro s init n m clear hp
  exact ⟨fun hperm hn => saStateCopy_shows clear hp hperm hn, fun hperm hn hm => flwCounterCopy_shows clear hp hperm hn hm,
    fun hperm hn hm => pmBinCopy_shows hp hperm hn hm⟩

/-- Settles O17, by its two rules (R117, R136, R191, R247, R249, R300, R410): the copies of channel bins and the value of the skip that
SC_STATE_COPY shows are not stated. -/
theorem copiedStatus : Obligations.CopiedStatus := ⟨statusCopiesRule_holds, counterCopiesRule_holds⟩

end Sys2Proof.Machine
end

section
/-! PROOFS of the wheel and of the end of a second, what the events of the wheel do when they are due (R383 to R389). -/

namespace Sys2Proof.Machine

/-! ## Changes of the time base's state and of some registers -/

/-- Between `c` and `d` nothing differs but what the time base holds and the registers at the addresses `as`. -/
def Chip.retimed (as : List Nat) (c d : Chip) : Prop := Chip.onlyRegs { c with time := d.time } d as

theorem Chip.retimed_iff {as : List Nat} {c d : Chip} :
    Chip.retimed as c d ↔ { d with regs := c.regs, time := c.time } = c ∧ Chip.wordsBut as c d := by
  refine and_congr_left fun _ => ⟨fun h => ?_, fun h => ?_⟩ <;> cases c <;> cases d <;> simp_all

theorem Chip.retimed.words {as : List Nat} {c d : Chip} (h : Chip.retimed as c d) : Chip.wordsBut as c d := (Chip.retimed_iff.mp h).2

theorem Chip.retimed.trans {as : List Nat} {b c d : Chip} (h : Chip.retimed as b c) (k : Chip.retimed as c d) : Chip.retimed as b d := by
  obtain ⟨hrest, hwords⟩ := Chip.retimed_iff.mp h
  obtain ⟨krest, kwords⟩ := Chip.retimed_iff.mp k
  refine Chip.retimed_iff.mpr ⟨?_, hwords.trans kwords⟩
  cases b; cases c; cases d; simp_all

theorem Chip.retimed.mono {as bs : List Nat} {c d : Chip} (h : Chip.retimed as c d) (hsub : as ⊆ bs) : Chip.retimed bs c d :=
  Chip.onlyRegs.mono h hsub

theorem Chip.retimed_withTime (as : List Nat) (c : Chip) (t : Time) : Chip.retimed as c { c with time := t } := ⟨rfl, fun _ _ => rfl⟩

theorem Chip.retimed_wr (c : Chip) (f : Fld) (v : Nat) : Chip.retimed [f.reg] c (c.wr f v) := Chip.onlyRegs_setWord c _ _

theorem Chip.retimed_add (c : Chip) (a n : Nat) : Chip.retimed [a] c (c.add a n) := Chip.onlyRegs_setWord c _ _

/-- What a change of the time base's state and of registers leaves as it is. -/
theorem Chip.retimed.keeps {as : List Nat} {c d : Chip} (h : Chip.retimed as c d) :
    d.power = c.power ∧ d.pm = c.pm ∧ d.keys = c.keys ∧ d.data = c.data ∧ d.out = c.out ∧ d.jpend = c.jpend ∧ d.img = c.img := by
  obtain ⟨hrest, -⟩ := Chip.retimed_iff.mp h
  cases c; cases d; simp_all

/-! ## Entries of the wheel -/

@[simp] theorem Chip.wheelPut_time (c : Chip) (n : Nat) (w : Option WheelEntry) :
    (c.wheelPut n w).time = { c.time with wheel := Sparse.set none c.time.wheel n w } := rfl

@[simp] theorem Chip.wheelPut_at_same (c : Chip) (n : Nat) (w : Option WheelEntry) : (c.wheelPut n w).wheelAt n = w := by
  rw [Chip.wheelAt, Chip.wheelPut_time, Sparse.get_set_same]

theorem Chip.wheelPut_at_other (c : Chip) {n m : Nat} (w : Option WheelEntry) (h : m ≠ n) : (c.wheelPut n w).wheelAt m = c.wheelAt m := by
  rw [Chip.wheelAt, Chip.wheelPut_time, Sparse.get_set_other' _ _ _ _ _ _ h, Chip.wheelAt]

theorem Chip.wheelPut_at (c : Chip) (n m : Nat) (w : Option WheelEntry) :
    (c.wheelPut n w).wheelAt m = if m = n then w else c.wheelAt m := by
  split
  · next h => rw [h, Chip.wheelPut_at_same]
  · next h => exact Chip.wheelPut_at_other c w h

theorem Chip.wheelAt_of_time {c d : Chip} (h : d.time = c.time) (n : Nat) : d.wheelAt n = c.wheelAt n := by rw [Chip.wheelAt, h, Chip.wheelAt]

theorem Chip.retimed_wheelPut (c : Chip) (n : Nat) (w : Option WheelEntry) : Chip.retimed [R.TIM_WHEEL] c (c.wheelPut n w) :=
  (Chip.retimed_withTime _ c _).trans (Chip.retimed_wr _ F.TIM_WHEEL_used _)

/-! ## An entry that is due -/

/-- What becomes of an entry that fires at `us`: a periodic one takes its next due time, and another is free. -/
def WheelEntry.again (w : WheelEntry) (us : Nat) : Option WheelEntry :=
  if w.period = 0 then none else some { w with due := w.due + w.period * ((us - w.due) / w.period + 1) }

theorem Chip.wheelFired_eq (c : Chip) (n : Nat) (w : WheelEntry) :
    c.wheelFired n w = (c.mark F.TIM_WHEEL_late_max_us (c.us - w.due)).wheelPut n (w.again c.us) := by
  unfold Chip.wheelFired WheelEntry.again
  split <;> rfl

theorem Chip.wheelFired_time (c : Chip) (n : Nat) (w : WheelEntry) :
    (c.wheelFired n w).time = { c.time with wheel := Sparse.set none c.time.wheel n (w.again c.us) } := by
  rw [Chip.wheelFired_eq, Chip.wheelPut_time, Chip.mark_time]

@[simp] theorem Chip.wheelFired_at_same (c : Chip) (n : Nat) (w : WheelEntry) : (c.wheelFired n w).wheelAt n = w.again c.us := by
  rw [Chip.wheelFired_eq, Chip.wheelPut_at_same]

theorem Chip.wheelFired_at_other (c : Chip) {n m : Nat} (w : WheelEntry) (h : m ≠ n) : (c.wheelFired n w).wheelAt m = c.wheelAt m := by
  rw [Chip.wheelFired_eq, Chip.wheelPut_at_other _ _ h]
  exact Chip.wheelAt_of_time (Chip.mark_time ..) m

theorem Chip.retimed_wheelFired (c : Chip) (n : Nat) (w : WheelEntry) : Chip.retimed [R.TIM_WHEEL] c (c.wheelFired n w) := by
  rw [Chip.wheelFired_eq]
  exact (Chip.retimed_wr c F.TIM_WHEEL_late_max_us _).trans (Chip.retimed_wheelPut _ _ _)

theorem Chip.wheelAt_of_wheelDue {c : Chip} {n : Nat} {w : WheelEntry} (h : c.wheelDue n = some w) : c.wheelAt n = some w := by
  unfold Chip.wheelDue at h
  split at h
  · cases h
  · next x hx =>
    split at h
    · exact hx.trans h
    · cases h

/-- The earliest due entry acts, unless a warm start holds its type back. -/
theorem Chip.fire_of_due {c : Chip} {n t : Nat} {w : WheelEntry} {f : WheelEntry → Chip → Chip} (hdue : c.wheelDue n = some w)
    (htype : w.type = t) (hback : (c.restarting && wheelHeldBack t) = false) : c.fire n t f = f w (c.wheelFired n w) := by
  simp only [Chip.fire, hdue, htype, hback, bne_self_eq_false, Bool.false_eq_true, if_false]

theorem goes_fire {i : Instr} {s : State} {n t : Nat} {w : WheelEntry} {f : WheelEntry → Chip → Chip} {P : Chip → Prop}
    (hx : exec i s = s.actOn (n < 4096) fun c => c.fire n t f) (hp : s.chip.power = true) (hn : n < 4096)
    (hdue : s.chip.wheelDue n = some w) (htype : w.type = t) (hback : (s.chip.restarting && wheelHeldBack t) = false)
    (hf : (f w (s.chip.wheelFired n w)).power = true) (h : P (f w (s.chip.wheelFired n w))) : Goes i s P := by
  refine goes_actOn hx (by simpa using hn) hp ?_ ?_ <;> rw [Chip.fire_of_due hdue htype hback]
  · exact hf
  · exact h

/-! ## Trains of triggers (R387, R389) -/

section
variable (c : Chip) (i ns : Nat)

theorem Chip.trigStart_trig : Sparse.get {} (c.trigStart i ns).time.trig i =
    { Sparse.get {} c.time.trig i with start := ns, next := ns * nsUnit } := Sparse.get_set_same ..

theorem Chip.trigStart_passed : (c.trigStart i ns).time.passed = c.time.passed := rfl

theorem Chip.trigStart_wheelAt (n : Nat) : (c.trigStart i ns).wheelAt n = c.wheelAt n := rfl

theorem Chip.trigStart_running : (c.trigStart i ns).flag (F.TIM_TRIG_STATUS_running i) = true :=
  Chip.flag_wrb_same _ (F.TIM_TRIG_STATUS_running i) true rfl rfl

theorem Chip.retimed_trigStart : Chip.retimed [R.TIM_TRIG_STATUS i] c (c.trigStart i ns) :=
  (Chip.retimed_withTime _ c _).trans (Chip.retimed_wr _ (F.TIM_TRIG_STATUS_running i) _)

end

/-- A single pulse whose instant lies in the span from `a` to `b` is the one pulse of it. -/
theorem Trigger.pulsesIn_single {t : Trigger} {a b : Nat} (hperiod : t.period = 0) (ha : a * nsUnit ≤ t.next) (hb : t.next ≤ b * nsUnit) :
    t.pulsesIn a b = 1 := by
  rw [Trigger.pulsesIn, if_neg (by simp [ha, hb]), if_pos hperiod]

/-- A single pulse of a running train that a step has passed is counted, and the train is over. -/
theorem Chip.missTrigger_single {c : Chip} {i a b : Nat} (hrun : c.flag (F.TIM_TRIG_STATUS_running i) = true)
    (hperiod : (Sparse.get {} c.time.trig i).period = 0) (hone : (Sparse.get {} c.time.trig i).pulsesIn (a + 1) b = 1) :
    ∃ t, c.missTrigger i a b = ({ c.add (R.TIM_TRIG_MISSED i) 1 with
      time := { c.time with trig := t } } : Chip).wr (F.TIM_TRIG_STATUS_running i) 0 := by
  simp only [Chip.missTrigger, hrun, hperiod, hone, Bool.not_true, Bool.false_eq_true, if_false]
  exact ⟨_, rfl⟩

end Sys2Proof.Machine
end

section
/-! PROOFS of the wheel and of the end of a second, the events of the wheel (R302, R384, R386, R389, R438). -/

namespace Sys2Proof.Machine

/-! ## Trains of triggers start and stop -/

/-- The train that a due entry `n` names has started at its instant. -/
def Chip.trainStarted (c : Chip) (n : Nat) (w : WheelEntry) : Chip := (c.wheelFired n w).trigStart (w.arg % 4) (w.due * 1000)

section
variable (c : Chip) (n : Nat) (w : WheelEntry)

theorem Chip.trainStarted_passed : (c.trainStarted n w).time.passed = c.time.passed :=
  (Chip.trigStart_passed _ _ _).trans (by rw [Chip.wheelFired_time])

theorem Chip.trainStarted_wheelAt : (c.trainStarted n w).wheelAt n = w.again c.us :=
  (Chip.trigStart_wheelAt _ _ _ n).trans (Chip.wheelFired_at_same c n w)

theorem Chip.trainStarted_trig : Sparse.get {} (c.trainStarted n w).time.trig (w.arg % 4) =
    { Sparse.get {} c.time.trig (w.arg % 4) with start := w.due * 1000, next := w.due * 1000 * nsUnit } := by
  rw [Chip.trainStarted, Chip.trigStart_trig, Chip.wheelFired_time]

theorem Chip.trainStarted_running : (c.trainStarted n w).flag (F.TIM_TRIG_STATUS_running (w.arg % 4)) = true := Chip.trigStart_running _ _ _

theorem Chip.retimed_trainStarted : Chip.retimed [R.TIM_WHEEL, R.TIM_TRIG_STATUS (w.arg % 4)] c (c.trainStarted n w) :=
  ((Chip.retimed_wheelFired _ _ _).mono (by simp)).trans ((Chip.retimed_trigStart _ _ _).mono (by simp))

end

theorem trigMissed_apart (i : Nat) : R.TIM_TRIG_MISSED i ∉ [R.TIM_WHEEL, R.TIM_TRIG_STATUS i] := by
  simp only [List.mem_cons, List.not_mem_nil, or_false, R.TIM_TRIG_MISSED, R.TIM_TRIG_STATUS, R.TIM_WHEEL]
  omega

section
variable {s : State} {n : Nat} {w : WheelEntry} (hp : s.chip.power = true) (hn : n < 4096) (hdue : s.chip.wheelDue n = some w)
include hp hn hdue

theorem goes_trigStart {d : Chip} {P : Chip → Prop} (htype : w.type = 1)
    (hd : (if (s.chip.trainStarted n w).time.passed < w.due * 1000 then s.chip.trainStarted n w else
      (s.chip.trainStarted n w).missTrigger (w.arg % 4) (w.due * 1000 - 1) (s.chip.trainStarted n w).time.passed) = d)
    (hpower : d.power = true) (h : P d) : Goes (.trigStart n) s P := by
  subst hd
  exact goes_fire (t := 1) rfl hp hn hdue htype (by simp [wheelHeldBack]) hpower h

/-- A train starts at the due instant. -/
theorem goes_trigStart_ahead (htype : w.type = 1) (hahead : s.chip.time.passed < w.due * 1000) :
    Goes (.trigStart n) s fun c => c.wheelAt n = w.again s.chip.us ∧ c.flag (F.TIM_TRIG_STATUS_running (w.arg % 4)) = true ∧
      (Sparse.get {} c.time.trig (w.arg % 4)).next = w.due * 1000 * nsUnit ∧
      Chip.onlyRegs { s.chip with time := c.time } c [R.TIM_WHEEL, R.TIM_TRIG_STATUS (w.arg % 4)] := by
  have hkeeps := Chip.retimed_trainStarted s.chip n w
  obtain ⟨hpower, -⟩ := hkeeps.keeps
  refine goes_trigStart hp hn hdue htype (if_pos (by rw [Chip.trainStarted_passed]; exact hahead)) (hpower.trans hp)
    ⟨Chip.trainStarted_wheelAt _ _ _, Chip.trainStarted_running _ _ _, ?_, hkeeps⟩
  rw [Chip.trainStarted_trig]

/-- A single pulse that a step has passed is counted and not emitted. -/
theorem goes_trigStart_passed (htype : w.type = 1) (hpos : 0 < w.due) (hpassed : w.due * 1000 ≤ s.chip.time.passed)
    (hperiod : (Sparse.get {} s.chip.time.trig (w.arg % 4)).period = 0) :
    Goes (.trigStart n) s fun c => c.wheelAt n = w.again s.chip.us ∧ c.flag (F.TIM_TRIG_STATUS_running (w.arg % 4)) = false ∧
      c.out = s.chip.out ∧ c.word (R.TIM_TRIG_MISSED (w.arg % 4)) = s.chip.word (R.TIM_TRIG_MISSED (w.arg % 4)) + 1 := by
  have hkeeps := Chip.retimed_trainStarted s.chip n w
  have htrig := Chip.trainStarted_trig s.chip n w
  have htime := Chip.trainStarted_passed s.chip n w
  have hat := Chip.trainStarted_wheelAt s.chip n w
  have hrun := Chip.trainStarted_running s.chip n w
  generalize hc : s.chip.trainStarted n w = c at hkeeps htrig htime hat hrun
  have hone : (Sparse.get {} c.time.trig (w.arg % 4)).pulsesIn (w.due * 1000 - 1 + 1) c.time.passed = 1 := by
    rw [htrig, htime, show w.due * 1000 - 1 + 1 = w.due * 1000 by omega]
    exact Trigger.pulsesIn_single hperiod le_rfl (Nat.mul_le_mul_right _ hpassed)
  obtain ⟨hpower, -, -, -, hout, -⟩ := hkeeps.keeps
  obtain ⟨t, hmiss⟩ := Chip.missTrigger_single hrun (by rw [htrig]; exact hperiod) hone
  refine goes_trigStart (d := c.missTrigger (w.arg % 4) (w.due * 1000 - 1) c.time.passed) hp hn hdue htype (by rw [hc, if_neg (by omega)]) ?_ ?_ <;>
    rw [hmiss]
  · exact hpower.trans hp
  refine ⟨hat, ?_, hout, ?_⟩
  · rw [Chip.flag, Chip.rd_wr_same _ _ _ rfl]
    rfl
  · rw [Chip.word_wr_other _ _ _ _ (by simp only [F.TIM_TRIG_STATUS_running, R.TIM_TRIG_MISSED, R.TIM_TRIG_STATUS]; omega)]
    exact (Chip.word_bump_same c _).trans (by rw [hkeeps.words _ (trigMissed_apart _)])

/-- A train stops. -/
theorem goes_trigStop (htype : w.type = 2) :
    Goes (.trigStop n) s fun c => c.wheelAt n = w.again s.chip.us ∧ c.flag (F.TIM_TRIG_STATUS_running (w.arg % 4)) = false ∧
      c.time.trig = s.chip.time.trig ∧ Chip.onlyRegs { s.chip with time := c.time } c [R.TIM_WHEEL, R.TIM_TRIG_STATUS (w.arg % 4)] := by
  have hkeeps : Chip.retimed [R.TIM_WHEEL, R.TIM_TRIG_STATUS (w.arg % 4)] s.chip
      ((s.chip.wheelFired n w).wr (F.TIM_TRIG_STATUS_running (w.arg % 4)) 0) :=
    ((Chip.retimed_wheelFired _ _ _).mono (by simp)).trans
      ((Chip.retimed_wr _ (F.TIM_TRIG_STATUS_running _) _).mono (by simp [F.TIM_TRIG_STATUS_running]))
  obtain ⟨hpower, -⟩ := hkeeps.keeps
  refine goes_fire (t := 2) rfl hp hn hdue htype (by simp [wheelHeldBack]) (hpower.trans hp) ⟨?_, ?_, ?_, hkeeps⟩
  · exact (Chip.wheelAt_of_time (Chip.wr_time ..) n).trans (Chip.wheelFired_at_same ..)
  · rw [Chip.flag, Chip.rd_wr_same _ _ _ rfl]
    rfl
  · rw [Chip.wr_time, Chip.wheelFired_time]

end

/-! ## A key slot expires (R302) -/

theorem Chip.slot_of_keys {c d : Chip} (h : d.keys = c.keys) (j : Nat) : d.slot j = c.slot j := by rw [Chip.slot, h, Chip.slot]

theorem Chip.slot_setSlot (c : Chip) (i j : Nat) (x : Slot) : (c.setSlot i x).slot j = if j = i then x else c.slot j := by
  split
  · next h => rw [h]; exact Sparse.get_set_same ..
  · next h => exact Sparse.get_set_other' _ _ _ _ _ _ h

/-- The expiry of a slot that is cleared is on the wheel and with firmware no longer. -/
def Chip.expiryGone (c : Chip) (n : Nat) : Chip :=
  let c := if (c.wheelAt (slotWheel n)).isSome then c.wheelPut (slotWheel n) none else c
  { c with time := { c.time with held := c.time.held.filter (fun x => x.1 != slotWheel n) } }

theorem Chip.retimed_expiryGone (c : Chip) (n : Nat) : Chip.retimed [R.TIM_WHEEL] c (c.expiryGone n) := by
  have hwheel : Chip.retimed [R.TIM_WHEEL] c (if (c.wheelAt (slotWheel n)).isSome then c.wheelPut (slotWheel n) none else c) := by
    split
    · exact Chip.retimed_wheelPut _ _ _
    · exact Chip.retimed_withTime _ c c.time
  exact hwheel.trans (Chip.retimed_withTime _ _ _)

/-- An entry of the wheel that is free stays free. -/
theorem Chip.expiryGone_free {c : Chip} {m : Nat} (n : Nat) (h : c.wheelAt m = none) : (c.expiryGone n).wheelAt m = none := by
  have hwheel : (if (c.wheelAt (slotWheel n)).isSome then c.wheelPut (slotWheel n) none else c).wheelAt m = none := by
    split
    · rw [Chip.wheelPut_at, h, ite_self]
    · exact h
  exact hwheel

theorem Chip.clearSlot_eq (c : Chip) {n : Nat} (h : c.slotInUse n = false) : c.clearSlot n = (c.expiryGone n).setSlot n {} := by
  obtain ⟨-, -, hkeys, -⟩ := (c.retimed_expiryGone n).keeps
  have hidle : (c.expiryGone n).slotInUse n = false := by rw [Chip.slotInUse, hkeys]; exact h
  exact if_neg (by rw [← Bool.not_eq_true] at hidle; exact hidle)

section
variable (c : Chip) (op : JOp)

theorem Chip.journalAhead_keeps : (c.journalAhead op).power = c.power ∧ (c.journalAhead op).keys = c.keys ∧
    (c.journalAhead op).time = c.time ∧ (c.journalAhead op).regs = c.regs := ⟨rfl, rfl, rfl, rfl⟩

end

/-- A slot that no request uses is empty after its expiry, and the journal takes an entry only for a persistent one that is filled. -/
theorem Chip.expireSlot_shows {c : Chip} {i m : Nat} (hidle : c.slotInUse i = false) (hfree : c.wheelAt m = none) :
    (c.expireSlot i).power = c.power ∧ (c.expireSlot i).wheelAt m = none ∧ (∀ j, (c.expireSlot i).slot j = if j = i then {} else c.slot j) ∧
      ((c.slot i).persistent = false → (c.expireSlot i).jpend = c.jpend) ∧ Chip.wordsBut [R.TIM_WHEEL] c (c.expireSlot i) := by
  have hclear : ∀ d : Chip, d.power = c.power → d.keys = c.keys → d.time = c.time → d.regs = c.regs →
      (d.clearSlot i).power = c.power ∧ (d.clearSlot i).wheelAt m = none ∧ (∀ j, (d.clearSlot i).slot j = if j = i then {} else c.slot j) ∧
        (d.clearSlot i).jpend = d.jpend ∧ Chip.wordsBut [R.TIM_WHEEL] c (d.clearSlot i) := by
    intro d hpower hkeys htime hregs
    obtain ⟨kpower, -, kkeys, -, -, kjpend, -⟩ := (d.retimed_expiryGone i).keeps
    rw [Chip.clearSlot_eq d (by rw [Chip.slotInUse, hkeys]; exact hidle)]
    refine ⟨kpower.trans hpower, ?_, fun j => ?_, kjpend, fun a ha => ?_⟩
    · exact Chip.expiryGone_free i ((Chip.wheelAt_of_time htime m).trans hfree)
    · rw [Chip.slot_setSlot, Chip.slot_of_keys (kkeys.trans hkeys)]
    · exact ((d.retimed_expiryGone i).words a ha).trans (Chip.word_regs _ _ hregs a)
  unfold Chip.expireSlot
  dsimp only
  split
  · next hkept =>
    obtain ⟨hpower, hkeys, htime, hregs⟩ := Chip.journalAhead_keeps c (.slotClear i)
    obtain ⟨kpower, kat, kslot, -, kwords⟩ := hclear _ hpower hkeys htime hregs
    refine ⟨kpower, kat, kslot, fun hnot => ?_, kwords⟩
    simp [hnot] at hkept
  · obtain ⟨kpower, kat, kslot, kjpend, kwords⟩ := hclear c rfl rfl rfl rfl
    exact ⟨kpower, kat, kslot, fun _ => kjpend, kwords⟩

theorem goes_slotExpiry {s : State} {n : Nat} {w : WheelEntry} (hp : s.chip.power = true) (hn : n < 4096)
    (hdue : s.chip.wheelDue n = some w) (htype : w.type = 4) (hperiod : w.period = 0) (hstart : s.chip.restarting = false)
    (hidle : s.chip.slotInUse (w.arg % 1024) = false) :
    Goes (.slotExpiry n) s fun c => c.wheelAt n = none ∧ c.slot (w.arg % 1024) = {} ∧
      (∀ j, j ≠ w.arg % 1024 → c.slot j = s.chip.slot j) ∧
      ((s.chip.slot (w.arg % 1024)).persistent = false → c.jpend = s.chip.jpend) ∧ ∀ a, a ≠ R.TIM_WHEEL → c.word a = s.chip.word a := by
  have hfired := Chip.retimed_wheelFired s.chip n w
  obtain ⟨hpower, -, hkeys, -, -, hjpend, -⟩ := hfired.keeps
  obtain ⟨kpower, kat, kslot, kjpend, kwords⟩ := Chip.expireSlot_shows (c := s.chip.wheelFired n w) (i := w.arg % 1024) (m := n)
    (by rw [Chip.slotInUse, hkeys]; exact hidle) (by rw [Chip.wheelFired_at_same, WheelEntry.again, if_pos hperiod])
  simp only [Chip.slot_of_keys hkeys] at kslot kjpend
  refine goes_fire (t := 4) rfl hp hn hdue htype (by rw [hstart]; rfl) (kpower.trans (hpower.trans hp)) ⟨kat, ?_, fun j hj => ?_, fun h => ?_,
    fun a ha => ?_⟩
  · rw [kslot, if_pos rfl]
  · rw [kslot, if_neg hj]
  · exact (kjpend h).trans hjpend
  · exact (hfired.words.trans kwords) a (by simpa using ha)

/-! ## A checkpoint of the recorder (R437, R438) -/

section
variable (c : Chip) (as : List Nat)

theorem Chip.noted_cow (x : Recorder) : Chip.noted c { c with cow := x } as := ⟨rfl, rfl, rfl, rfl, fun _ _ _ => rfl⟩

theorem Chip.noted_ring (l : List Bytes) : Chip.noted c { c with ao := { c.ao with ring := l } } as := ⟨rfl, rfl, rfl, rfl, fun _ _ _ => rfl⟩

theorem Chip.noted_recWord {a : Nat} (w : W32) (h : a ∈ recWords) : Chip.noted c (c.setWord a w) as :=
  ⟨rfl, rfl, rfl, rfl, fun _ _ hr => Chip.word_setWord_other _ _ _ _ fun e => hr (e ▸ h)⟩

theorem Chip.noted_storeRec (r : Bytes) : Chip.noted c (c.storeRec r) as := by
  refine Chip.noted_trans (Chip.noted_ring c as ((c.ao.ring ++ [r]).drop ((c.ao.ring ++ [r]).length - 64))) ?_
  unfold Chip.storeRec
  dsimp only
  split
  · exact Chip.noted_trans (Chip.noted_cow _ _ _) (Chip.noted_recWord _ _ (a := R.MGT_REC_STATUS) _ (by simp [recWords]))
  · split
    · exact Chip.noted_cow _ _ _
    · exact Chip.noted_trans (Chip.noted_cow _ _ _) (Chip.noted_recWord _ _ (a := R.MGT_REC_LOST) _ (by simp [recWords]))

theorem Chip.noted_seal : Chip.noted c c.seal as := by
  unfold Chip.seal
  split
  · exact Chip.noted_refl _ _
  · exact Chip.noted_trans (Chip.noted_storeRec _ _ _) (Chip.noted_cow _ _ _)

theorem Chip.seal_unsealed : c.seal.cow.unsealed = [] := by
  unfold Chip.seal
  split
  · next h => exact List.getLast?_eq_none_iff.mp h
  · rfl

theorem Chip.noted_checkpoint : Chip.noted c c.checkpoint as := Chip.noted_trans (Chip.noted_record _ _ _ _ _ _ _) (Chip.noted_seal _ _)

end

@[simp] theorem Chip.checkpoint_power (c : Chip) : c.checkpoint.power = c.power := by rw [Chip.checkpoint, Chip.seal_power, Chip.record_power]

@[simp] theorem Chip.checkpoint_time (c : Chip) : c.checkpoint.time = c.time := by rw [Chip.checkpoint, Chip.seal_time, Chip.record_time]

theorem goes_recCheckpoint {s : State} {n : Nat} {w : WheelEntry} (hp : s.chip.power = true) (hn : n < 4096)
    (hdue : s.chip.wheelDue n = some w) (htype : w.type = 8) (hstart : s.chip.restarting = false) :
    Goes (.recCheckpoint n) s fun c => c.wheelAt n = w.again s.chip.us ∧ c.cow.unsealed = [] ∧
      Chip.noted { s.chip with time := c.time } c [R.TIM_WHEEL] := by
  have hfired := Chip.retimed_wheelFired s.chip n w
  obtain ⟨hpower, -⟩ := hfired.keeps
  have htime := Chip.checkpoint_time (s.chip.wheelFired n w)
  refine goes_fire (t := 8) rfl hp hn hdue htype (by rw [hstart]; rfl) ?_ ⟨?_, Chip.seal_unsealed _, ?_⟩
  · rw [Chip.checkpoint_power, hpower, hp]
  · exact (Chip.wheelAt_of_time htime n).trans (Chip.wheelFired_at_same ..)
  · rw [htime]
    exact Chip.noted_trans (Chip.noted_regs hfired.1 hfired.2) (Chip.noted_checkpoint _ _)

/-! ## What firmware holds beyond the horizon (R386) -/

theorem Chip.retimed_wheelPuts (c : Chip) (l : List (Nat × WheelEntry)) :
    Chip.retimed [R.TIM_WHEEL] c (l.foldl (fun c x => c.wheelPut x.1 (some x.2)) c) ∧
      (l.foldl (fun c x => c.wheelPut x.1 (some x.2)) c).time.held = c.time.held := by
  induction l generalizing c with
  | nil => exact ⟨Chip.retimed_withTime _ c c.time, rfl⟩
  | cons x l ih => exact ⟨(Chip.retimed_wheelPut _ _ _).trans (ih _).1, (ih _).2⟩

/-- What firmware holds that now lies within the horizon goes on the wheel. -/
def Chip.placeHeld (c : Chip) : Chip :=
  (c.time.held.filter (fun x => x.2.due ≤ c.us + wheelHorizon)).foldl (fun c x => c.wheelPut x.1 (some x.2))
    { c with time := { c.time with held := c.time.held.filter (fun x => !(x.2.due ≤ c.us + wheelHorizon)) } }

theorem Chip.retimed_placeHeld (c : Chip) : Chip.retimed [R.TIM_WHEEL] c c.placeHeld :=
  (Chip.retimed_withTime _ c _).trans (Chip.retimed_wheelPuts _ _).1

theorem Chip.placeHeld_held (c : Chip) : c.placeHeld.time.held = c.time.held.filter (fun x => !(x.2.due ≤ c.us + wheelHorizon)) :=
  (Chip.retimed_wheelPuts _ _).2

theorem Chip.placeHeld_single {c : Chip} {m : Nat} {v : WheelEntry} (hone : c.time.held = [(m, v)]) (hnear : v.due ≤ c.us + wheelHorizon) :
    c.placeHeld.wheelAt m = some v := by
  have hplaced : c.time.held.filter (fun x => x.2.due ≤ c.us + wheelHorizon) = [(m, v)] := by simp [hone, hnear]
  unfold Chip.placeHeld
  rw [hplaced]
  exact Chip.wheelPut_at_same _ _ _

theorem goes_expiryHorizonCheck {s : State} (hp : s.chip.power = true) (hfw : s.chip.firmware = true) :
    Goes .expiryHorizonCheck s fun c =>
      c.time.held = s.chip.time.held.filter (fun x => !(x.2.due ≤ s.chip.us + wheelHorizon)) ∧
        (∀ m v, s.chip.time.held = [(m, v)] → v.due ≤ s.chip.us + wheelHorizon → c.wheelAt m = some v) ∧
        Chip.onlyRegs { s.chip with time := c.time } c [R.TIM_WHEEL] := by
  have hkeeps := Chip.retimed_placeHeld s.chip
  have hacts : (if !s.chip.firmware then s.chip else s.chip.placeHeld) = s.chip.placeHeld := by rw [hfw, Bool.not_true, if_neg Bool.false_ne_true]
  refine goes_act (f := fun c => if !c.firmware then c else c.placeHeld) rfl hp ?_ ?_ <;> rw [hacts]
  · exact hkeeps.keeps.1.trans hp
  · exact ⟨Chip.placeHeld_held _, fun m v => Chip.placeHeld_single, hkeeps⟩

end Sys2Proof.Machine
end

section
/-! PROOFS of the wheel and of the end of a second, the bins that close and are completed (R112 to R114). -/

namespace Sys2Proof.Machine

/-! ## A fold whose steps each touch one entity -/

section
variable {σ α β : Type} {g : σ → Nat → σ} {view : σ → α} {look : σ → Nat → β}

/-- Where a step at `x` leaves what is seen of every other entity, a fold over others leaves what is seen of `e`. -/
theorem foldl_apart (hother : ∀ s x y, y ≠ x → look (g s x) y = look s y) {l : List Nat} {e : Nat} (hnone : e ∉ l) (s : σ) :
    look (l.foldl g s) e = look s e := by
  induction l generalizing s with
  | nil => rfl
  | cons x l ih =>
    rw [List.mem_cons, not_or] at hnone
    exact (ih hnone.2 _).trans (hother s x e hnone.1)

/-- A fold over entities among which `e` is once does to `e` what the one step does, in a state that is `view`ed as the first one was. -/
theorem foldl_once (hview : ∀ s x, view (g s x) = view s) (hother : ∀ s x y, y ≠ x → look (g s x) y = look s y) {l : List Nat} {e : Nat}
    (hone : l.count e = 1) (s : σ) : ∃ t, view t = view s ∧ look t e = look s e ∧ look (l.foldl g s) e = look (g t e) e := by
  induction l generalizing s with
  | nil => simp at hone
  | cons x l ih =>
    by_cases hx : x = e
    · subst hx
      have hnone : x ∉ l := List.count_eq_zero.mp (by simpa [List.count_cons_self] using hone)
      exact ⟨s, rfl, rfl, foldl_apart hother hnone _⟩
    · rw [List.count_cons_of_ne hx] at hone
      obtain ⟨t, htview, htlook, ht⟩ := ih hone (g s x)
      exact ⟨t, htview.trans (hview s x), htlook.trans (hother s x e (Ne.symm hx)), ht⟩

end

/-- Each port is once among the entities that have bins. -/
theorem Chip.entities_count (c : Chip) {e : Nat} (he : e < 144) : c.entities.count e = 1 := by
  have hports : (List.range 144).count e = 1 := List.count_eq_one_of_mem List.nodup_range (List.mem_range.mpr he)
  have hchans : ((c.data.chans.filter (fun h => !h.tx)).map (fun h => scEntity h.sc)).count e = 0 := by
    rw [List.count_eq_zero]
    intro hmem
    obtain ⟨h, -, rfl⟩ := List.mem_map.mp hmem
    simp only [scEntity] at he
    omega
  rw [Chip.entities, List.count_append, hports, hchans]

/-! ## Entities -/

theorem Chip.perf_of_pm {c d : Chip} (h : d.pm = c.pm) (e : Nat) : d.perf e = c.perf e := by rw [Chip.perf, h, Chip.perf]

@[simp] theorem Chip.perf_setPerf_same (c : Chip) (e : Nat) (x : Perf) : (c.setPerf e x).perf e = x := Sparse.get_set_same ..

theorem Chip.perf_setPerf_other (c : Chip) {e f : Nat} (x : Perf) (h : f ≠ e) : (c.setPerf e x).perf f = c.perf f :=
  Sparse.get_set_other' _ _ _ _ _ _ h

theorem Chip.portOn_of_word {c d : Chip} {p : Nat} (h : d.word (R.PRT_CFG p) = c.word (R.PRT_CFG p)) : d.portOn p = c.portOn p := by
  rw [Chip.portOn, Chip.mode, Chip.rd_of_word (f := F.PRT_CFG_port_mode p) h, Chip.portOn, Chip.mode]

theorem Chip.entityOn_port (c : Chip) {e : Nat} (he : e < 144) : c.entityOn e = c.portOn e := if_pos he

/-! ## The fifteen-minute bins close -/

/-- The open bin of an entity closes, with the start and the mark of suspicion of its period. -/
def Chip.closeBin (start : Nat) (sus : Bool) (c : Chip) (e : Nat) : Chip :=
  c.setPerf e { c.perf e with
    old15 := some { (c.perf e).cur15 with start := start, suspect := sus, disabled := (c.perf e).cur15.disabled && !c.entityOn e }
    cur15 := {} }

/-- What closing bins leaves as it is. -/
def Chip.closeView (c : Chip) : Bool × Sparse W32 × Time × Option Image := (c.power, c.regs, c.time, c.img)

theorem Chip.closeView_iff {c d : Chip} :
    d.closeView = c.closeView ↔ d.power = c.power ∧ d.regs = c.regs ∧ d.time = c.time ∧ d.img = c.img := by
  simp only [Chip.closeView, Prod.mk.injEq]

theorem Chip.seconds_of_now {c d : Chip} (h : d.time.now = c.time.now) : d.seconds = c.seconds := by
  rw [Chip.seconds, Chip.ns, h, Chip.seconds, Chip.ns]

theorem Chip.binStart_of_img {c d : Chip} (himg : d.img = c.img) (len s : Nat) : d.binStart len s = c.binStart len s := by
  simp only [Chip.binStart, Chip.pmOffset, Chip.cfgInt, Chip.cfgNat, Chip.rec1, Chip.recs, himg]

/-- What a change of the entities alone leaves. -/
theorem Chip.withEnts_keeps (c : Chip) (l : Sparse Perf) :
    ({ c with pm := { c.pm with ents := l } } : Chip).closeView = c.closeView ∧
      ({ c with pm := { c.pm with ents := l } } : Chip).pm.crossed15 = c.pm.crossed15 := ⟨rfl, rfl⟩

theorem Chip.closeBin_keeps (start : Nat) (sus : Bool) (c : Chip) (e : Nat) :
    (Chip.closeBin start sus c e).closeView = c.closeView ∧ (Chip.closeBin start sus c e).pm.crossed15 = c.pm.crossed15 := Chip.withEnts_keeps _ _

theorem Chip.complete15_of_none {c : Chip} (h : (c.perf 0).old15 = none) : c.complete15 = c := by
  unfold Chip.complete15
  dsimp only
  rw [h]

theorem Chip.closeBins_port (c : Chip) (start : Nat) (sus : Bool) {e : Nat} (he : e < 144) :
    (c.entities.foldl (Chip.closeBin start sus) c).perf e = { c.perf e with
      old15 := some { (c.perf e).cur15 with start := start, suspect := sus, disabled := (c.perf e).cur15.disabled && !c.entityOn e }
      cur15 := {} } := by
  obtain ⟨d, hregs, hlook, hdone⟩ := foldl_once (g := Chip.closeBin start sus) (view := Chip.regs) (look := Chip.perf)
    (fun c e => (Chip.closeView_iff.mp (Chip.closeBin_keeps start sus c e).1).2.1) (fun c _ _ h => Chip.perf_setPerf_other c _ h)
    (c.entities_count he) c
  rw [hdone, Chip.closeBin, Chip.perf_setPerf_same, hlook, Chip.entityOn_port _ he, Chip.entityOn_port _ he,
    Chip.portOn_of_word (Chip.word_regs _ _ hregs _)]

theorem Chip.closeBins_closeView (c : Chip) (start : Nat) (sus : Bool) (l : List Nat) :
    (l.foldl (Chip.closeBin start sus) c).closeView = c.closeView :=
  foldl_keeps (g := Chip.closeBin start sus) (view := Chip.closeView) (fun c e => (Chip.closeBin_keeps start sus c e).1) l c

/-- The bins of the interval that the time base lies in open, after a period that began at `start`. -/
def Chip.openNext15 (start : Nat) (c : Chip) : Chip :=
  let c := { c with pm := { c.pm with dur15 := if c.pm.crossed15 then c.pm.cut15 - start else 900 } }
  { c with pm := { c.pm with start15 := c.binStart 900 c.seconds, suspect15 := c.pm.crossed15 || !c.flag F.TIM_STATE_acquired,
                             crossed15 := false } }

theorem Chip.close15_eq {c : Chip} (hdone : (c.perf 0).old15 = none) : c.close15 =
    (c.entities.foldl (Chip.closeBin c.pm.start15 (c.pm.suspect15 || c.pm.crossed15)) c).openNext15 c.pm.start15 := by
  unfold Chip.close15
  rw [Chip.complete15_of_none hdone]
  rfl

/-- The fifteen-minute bins of a part whose closed ones are completed close at a boundary that no step has crossed. -/
theorem Chip.close15_shows {c : Chip} (hdone : (c.perf 0).old15 = none) (hcrossed : c.pm.crossed15 = false) :
    c.close15.closeView = c.closeView ∧ c.close15.pm.start15 = c.binStart 900 c.seconds ∧ c.close15.pm.dur15 = 900 ∧
      ∀ e, e < 144 → c.close15.perf e = { c.perf e with
        old15 := some { (c.perf e).cur15 with
          start := c.pm.start15, suspect := c.pm.suspect15, disabled := (c.perf e).cur15.disabled && !c.entityOn e }
        cur15 := {} } := by
  have hbins := fun e (he : e < 144) => Chip.closeBins_port c c.pm.start15 c.pm.suspect15 he
  have hview := Chip.closeBins_closeView c c.pm.start15 c.pm.suspect15 c.entities
  have hkept : (c.entities.foldl (Chip.closeBin c.pm.start15 c.pm.suspect15) c).pm.crossed15 = false :=
    (foldl_keeps (g := Chip.closeBin c.pm.start15 c.pm.suspect15) (view := fun d => d.pm.crossed15)
      (fun d e => (Chip.closeBin_keeps _ _ d e).2) c.entities c).trans
      hcrossed
  rw [Chip.close15_eq hdone, hcrossed, Bool.or_false]
  generalize c.entities.foldl (Chip.closeBin c.pm.start15 c.pm.suspect15) c = d at hbins hview hkept
  obtain ⟨-, -, htime, himg⟩ := Chip.closeView_iff.mp hview
  have hstart : d.binStart 900 d.seconds = c.binStart 900 c.seconds := by
    rw [Chip.seconds_of_now (congrArg Time.now htime), Chip.binStart_of_img himg]
  exact ⟨hview, hstart, if_neg (by rw [hkept]; exact Bool.false_ne_true), hbins⟩

/-! ## A boundary (R112) -/

theorem Chip.wheelFree_lt {c : Chip} {lo hi m : Nat} (h : c.wheelFree lo hi = some m) : m < hi := by
  have hmem := List.mem_of_find?_eq_some h
  obtain ⟨k, hk, rfl⟩ := List.mem_map.mp hmem
  have hlt := List.mem_range.mp hk
  omega

/-- A range with a free entry has one while none of its free entries is taken. -/
theorem Chip.wheelFree_mono {c d : Chip} {lo hi : Nat} (hfree : ∀ m, c.wheelAt m = none → d.wheelAt m = none)
    (h : (c.wheelFree lo hi).isSome = true) : (d.wheelFree lo hi).isSome = true := by
  rw [Chip.wheelFree, List.find?_isSome] at h ⊢
  obtain ⟨m, hm, hnone⟩ := h
  exact ⟨m, hm, Option.isNone_iff_eq_none.mpr (hfree m (Option.isNone_iff_eq_none.mp hnone))⟩

/-- A boundary of the fifteen-minute bins alone, which no step has crossed, closes them and puts their completion on the wheel. -/
theorem Chip.boundary_shows {c : Chip} {due : Nat} (hlate : c.pm.crossed15 = false ∧ c.pm.crossedDay = false)
    (hquarter : c.pm.start15 + 900 ≤ c.seconds) (hday : c.seconds < c.pm.startDay + 86400) (hdone : (c.perf 0).old15 = none)
    (hroom : (c.wheelFree 0 512).isSome = true) :
    ∃ m, m < 512 ∧ c.boundary due = c.close15.wheelPut m (some { due := due + 10000000, type := 6, arg := 0 }) := by
  obtain ⟨hcross, hcrossDay⟩ := hlate
  obtain ⟨hview, -⟩ := Chip.close15_shows hdone hcross
  obtain ⟨-, -, htime, -⟩ := Chip.closeView_iff.mp hview
  obtain ⟨m, hm⟩ := Option.isSome_iff_exists.mp (Chip.wheelFree_mono (d := c.close15)
    (fun m h => (Chip.wheelAt_of_time htime m).trans h) hroom)
  refine ⟨m, Chip.wheelFree_lt hm, ?_⟩
  revert hm
  generalize hclosed : c.close15 = d
  intro hm
  unfold Chip.boundary
  rw [if_pos hquarter, hclosed]
  dsimp only
  rw [if_neg (Nat.not_le.mpr hday), hm, hcross, hcrossDay]
  rfl

theorem goes_binBoundary {s : State} {n : Nat} {w : WheelEntry} (hp : s.chip.power = true) (hn : n < 4096)
    (hdue : s.chip.wheelDue n = some w) (htype : w.type = 5) (hon : s.chip.pm.on = true)
    (hlate : s.chip.pm.crossed15 = false ∧ s.chip.pm.crossedDay = false) (hquarter : s.chip.pm.start15 + 900 ≤ s.chip.seconds)
    (hday : s.chip.seconds < s.chip.pm.startDay + 86400) (hdone : (s.chip.perf 0).old15 = none)
    (hroom : (s.chip.wheelFree 0 512).isSome = true) :
    Goes (.binBoundary n) s fun c =>
      (∀ e, e < 144 → (c.perf e).old15 = some { (s.chip.perf e).cur15 with
          start := s.chip.pm.start15
          suspect := s.chip.pm.suspect15
          disabled := (s.chip.perf e).cur15.disabled && !s.chip.entityOn e } ∧ (c.perf e).cur15 = {} ∧
        (c.perf e).curDay = (s.chip.perf e).curDay) ∧
      c.pm.start15 = s.chip.binStart 900 s.chip.seconds ∧ c.pm.dur15 = 900 ∧
      ∃ m, m < 512 ∧ c.wheelAt m = some { due := w.due + 10000000, type := 6, arg := 0 } := by
  have hfired := Chip.retimed_wheelFired s.chip n w
  obtain ⟨hpower, hpm, -, -, -, -, himg⟩ := hfired.keeps
  have hnow : (s.chip.wheelFired n w).seconds = s.chip.seconds := Chip.seconds_of_now (by rw [Chip.wheelFired_time])
  have hport : ∀ e, e < 144 → (s.chip.wheelFired n w).entityOn e = s.chip.entityOn e := fun e he => by
    rw [Chip.entityOn_port _ he, Chip.entityOn_port _ he]
    exact Chip.portOn_of_word (hfired.words _ (by simp only [List.mem_singleton, R.PRT_CFG, R.TIM_WHEEL]; omega))
  have hfree : ∀ m, s.chip.wheelAt m = none → (s.chip.wheelFired n w).wheelAt m = none := fun m h => by
    have hne : m ≠ n := fun e => by rw [e, Chip.wheelAt_of_wheelDue hdue] at h; cases h
    rw [Chip.wheelFired_at_other _ _ hne, h]
  have hold := (congrArg Perf.old15 (Chip.perf_of_pm hpm 0)).trans hdone
  obtain ⟨m, hm, hbound⟩ := Chip.boundary_shows (c := s.chip.wheelFired n w) (due := w.due) (by rw [hpm]; exact hlate)
    (by rw [hpm, hnow]; exact hquarter) (by rw [hpm, hnow]; exact hday) hold (Chip.wheelFree_mono hfree hroom)
  obtain ⟨hview, hstart, hdur, hbins⟩ := Chip.close15_shows hold (by rw [hpm]; exact hlate.1)
  obtain ⟨kpower, kpm, -⟩ := (Chip.retimed_wheelPut (s.chip.wheelFired n w).close15 m
    (some { due := w.due + 10000000, type := 6, arg := 0 })).keeps
  have hclosed : (s.chip.wheelFired n w).close15.power = s.chip.power := (Chip.closeView_iff.mp hview).1.trans hpower
  refine goes_fire (t := 5) rfl hp hn hdue htype (by simp [wheelHeldBack]) ?_ ?_ <;>
    rw [if_pos (by rw [hpm]; exact hon), hbound]
  · rw [kpower, hclosed, hp]
  · refine ⟨fun e he => ?_, ?_, ?_, m, hm, Chip.wheelPut_at_same _ _ _⟩
    · rw [Chip.perf_of_pm kpm, hbins e he, Chip.perf_of_pm hpm, hpm, hport e he]
      exact ⟨rfl, rfl, rfl⟩
    · rw [kpm, hstart, hnow, Chip.binStart_of_img himg]
    · rw [kpm, hdur]

end Sys2Proof.Machine
end

section
/-! PROOFS of the wheel and of the end of a second, the completion of closed bins (R113, R349). -/

namespace Sys2Proof.Machine

/-! ## What the part writes of its own areas leaves the performance state alone -/

theorem Chip.tagNode_pm (c : Chip) (level i : Nat) : (c.tagNode level i).pm = c.pm := rfl

theorem Chip.retagChildren_pm (c : Chip) (level i : Nat) : (c.retagChildren level i).pm = c.pm :=
  foldl_keeps (view := Chip.pm) (fun c _ => Chip.tagNode_pm c _ _) _ c

theorem Chip.bumpChild_pm (c : Chip) (level i k : Nat) : (c.bumpChild level i k).pm = c.pm := by
  unfold Chip.bumpChild
  dsimp only
  split_ifs
  · rfl
  · exact Chip.retagChildren_pm _ _ _
  · rfl

theorem Chip.markDirty_pm (c : Chip) (level i : Nat) : (c.markDirty level i).pm = c.pm := by
  unfold Chip.markDirty
  dsimp only
  split <;> rfl

theorem Chip.areaWrote_pm (c : Chip) (line : Nat) : (c.areaWrote line).pm = c.pm := by
  unfold Chip.areaWrote
  split
  · rfl
  · exact (Chip.markDirty_pm _ _ _).trans (Chip.bumpChild_pm _ _ _ _)

theorem Chip.binWrote_pm (c : Chip) (e : Nat) (j : Int) : (c.binWrote e j).pm = c.pm := by
  unfold Chip.binWrote
  dsimp only
  split
  · exact Chip.areaWrote_pm _ _
  · exact (Chip.areaWrote_pm _ _).trans (Chip.areaWrote_pm _ _)

/-! ## The closed fifteen-minute bin and the history on die of an entity -/

/-- The closed fifteen-minute bin of an entity, its history on die, and the number of the flash bin. -/
def Chip.history (c : Chip) (e : Nat) : Option Bin × List Bin := ((c.perf e).old15, (c.perf e).done15)

theorem Chip.history_of_pm {c d : Chip} (h : d.pm = c.pm) (e : Nat) : d.history e = c.history e := by
  rw [Chip.history, Chip.perf_of_pm h, Chip.history]

theorem Chip.history_setPerf_other (c : Chip) {e f : Nat} (x : Perf) (h : f ≠ e) : (c.setPerf e x).history f = c.history f := by
  rw [Chip.history, Chip.perf_setPerf_other _ _ h, Chip.history]

theorem Chip.history_setPerf_same (c : Chip) (e : Nat) (x : Perf) : (c.setPerf e x).history e = (x.old15, x.done15) := by
  rw [Chip.history, Chip.perf_setPerf_same]

/-- An entity whose closed bin and history on die stay. -/
theorem Chip.history_setPerf {c : Chip} {e : Nat} {x : Perf} (hold : x.old15 = (c.perf e).old15) (hdone : x.done15 = (c.perf e).done15) (f : Nat) :
    (c.setPerf e x).history f = c.history f := by
  by_cases h : f = e
  · rw [h, Chip.history_setPerf_same, hold, hdone, Chip.history]
  · exact Chip.history_setPerf_other c x h

/-- A change of the entities leaves the number of the flash bin. -/
theorem Chip.withEnts_binSeq (c : Chip) (l : Sparse Perf) : ({ c with pm := { c.pm with ents := l } } : Chip).pm.binSeq = c.pm.binSeq := rfl

theorem Chip.setPerf_binSeq (c : Chip) (e : Nat) (x : Perf) : (c.setPerf e x).pm.binSeq = c.pm.binSeq := Chip.withEnts_binSeq c _

/-- What the history of a part is seen to be, and the number of the flash bin. -/
def Chip.historyView (c : Chip) : Nat × (Nat → Option Bin × List Bin) := (c.pm.binSeq, c.history)

theorem Chip.historyView_of_pm {c d : Chip} (h : d.pm = c.pm) : d.historyView = c.historyView :=
  Prod.ext (congrArg Pm.binSeq h) (funext (Chip.history_of_pm h))

theorem Chip.setPerf_historyView {c : Chip} {e : Nat} {x : Perf} (hold : x.old15 = (c.perf e).old15) (hdone : x.done15 = (c.perf e).done15) :
    (c.setPerf e x).historyView = c.historyView := Prod.ext (Chip.setPerf_binSeq c e x) (funext (Chip.history_setPerf hold hdone))

theorem Chip.putVault15_historyView (c : Chip) (e : Nat) (b : Bin) : (c.putVault15 e b).historyView = c.historyView := by
  unfold Chip.putVault15
  split
  · rfl
  · rw [Chip.historyView_of_pm (Chip.binWrote_pm ..), Chip.setPerf_historyView (by rfl) (by rfl)]

theorem Chip.putVaultDay_historyView (c : Chip) (e : Nat) (b : Bin) : (c.putVaultDay e b).historyView = c.historyView := by
  unfold Chip.putVaultDay
  split
  · rfl
  · rw [Chip.historyView_of_pm (Chip.binWrote_pm ..), Chip.setPerf_historyView (by rfl) (by rfl)]

theorem Chip.history_of_view {c d : Chip} (h : d.historyView = c.historyView) (e : Nat) : d.history e = c.history e :=
  congrFun (congrArg Prod.snd h) e

theorem Chip.binSeq_of_view {c d : Chip} (h : d.historyView = c.historyView) : d.pm.binSeq = c.pm.binSeq := congrArg Prod.fst h

/-! ## Completion -/

/-- The closed fifteen-minute bin of an entity enters the history on die and in the vault. -/
def Chip.completeBin (c : Chip) (e : Nat) : Chip :=
  match (c.perf e).old15 with
  | none => c
  | some b => (c.setPerf e { c.perf e with old15 := none, done15 := (b :: (c.perf e).done15).take 32 }).putVault15 e b

theorem Chip.completeBin_binSeq (c : Chip) (e : Nat) : (c.completeBin e).pm.binSeq = c.pm.binSeq := by
  unfold Chip.completeBin
  split
  · rfl
  · exact (Chip.binSeq_of_view (Chip.putVault15_historyView _ _ _)).trans (Chip.setPerf_binSeq _ _ _)

theorem Chip.completeBin_other (c : Chip) (e f : Nat) (h : f ≠ e) : (c.completeBin e).history f = c.history f := by
  unfold Chip.completeBin
  split
  · rfl
  · exact (Chip.history_of_view (Chip.putVault15_historyView _ _ _) f).trans (Chip.history_setPerf_other c _ h)

theorem Chip.completeBin_same {c : Chip} {e : Nat} {b : Bin} {l : List Bin} (h : c.history e = (some b, l)) :
    (c.completeBin e).history e = (none, (b :: l).take 32) := by
  obtain ⟨hold, hdone⟩ := Prod.mk.inj h
  rw [Chip.completeBin, hold]
  dsimp only
  rw [Chip.history_of_view (Chip.putVault15_historyView _ _ _), Chip.history_setPerf_same, hdone]

/-- The closed bins of the ports are stored in flash as the next flash bin, and each goes on to the history. -/
theorem Chip.complete15_eq {c : Chip} {b : Bin} (hfirst : (c.perf 0).old15 = some b) (hflash : c.persistBlocked = false) :
    ∃ d : Chip, d.pm = { c.pm with binSeq := c.pm.binSeq + 1 } ∧ c.complete15 = c.entities.foldl Chip.completeBin d := by
  have hstored : ∀ (first n : Nat) (f : Flash → Flash), ((if n % 8 = 0 then c.countErases (first + n / 8) 1 else c).onFlash f).pm = c.pm := by
    intro first n f
    rw [Chip.onFlash_eq]
    dsimp only
    split
    · obtain ⟨h, hh⟩ := Chip.countErases_eq c (first + n / 8) 1
      rw [hh]
    · rfl
  unfold Chip.complete15
  dsimp only
  rw [hfirst, hflash]
  refine ⟨_, ?_, rfl⟩
  rw [if_neg Bool.false_ne_true, hstored]

theorem Chip.complete15_shows {c : Chip} {b : Bin} (hfirst : (c.perf 0).old15 = some b) (hflash : c.persistBlocked = false) :
    c.complete15.pm.binSeq = c.pm.binSeq + 1 ∧
      ∀ e x, e < 144 → (c.perf e).old15 = some x → c.complete15.history e = (none, (x :: (c.perf e).done15).take 32) := by
  obtain ⟨d, hpm, hdone⟩ := Chip.complete15_eq hfirst hflash
  have hseq : ∀ c e, (Chip.completeBin c e).pm.binSeq = c.pm.binSeq := Chip.completeBin_binSeq
  rw [hdone]
  refine ⟨(foldl_keeps (view := fun c => c.pm.binSeq) hseq _ d).trans (by rw [hpm]), fun e x he hx => ?_⟩
  obtain ⟨t, -, hlook, hlast⟩ := foldl_once (g := Chip.completeBin) (view := fun c => c.pm.binSeq) (look := Chip.history) hseq
    Chip.completeBin_other (c.entities_count he) d
  have hents : d.perf e = c.perf e := by rw [Chip.perf, hpm, Chip.perf]
  rw [hlast, Chip.completeBin_same (hlook.trans ?_)]
  rw [Chip.history, hents, hx]

/-- The closed day bin of an entity enters the history on die and in the vault. -/
def Chip.completeDayBin (c : Chip) (e : Nat) : Chip :=
  match (c.perf e).oldDay with
  | none => c
  | some b => (c.setPerf e { c.perf e with oldDay := none, doneDay := [b] }).putVaultDay e b

theorem Chip.completeDayBin_historyView (c : Chip) (e : Nat) : (c.completeDayBin e).historyView = c.historyView := by
  unfold Chip.completeDayBin
  split
  · rfl
  · rw [Chip.putVaultDay_historyView, Chip.setPerf_historyView (by rfl) (by rfl)]

/-- The completion of the day bins leaves the fifteen-minute history. -/
theorem Chip.completeDay_historyView (c : Chip) : c.completeDay.historyView = c.historyView :=
  foldl_keeps (g := Chip.completeDayBin) Chip.completeDayBin_historyView c.entities c

theorem goes_binComplete {s : State} {n : Nat} {w : WheelEntry} {b : Bin} (hp : s.chip.power = true) (hn : n < 4096)
    (hdue : s.chip.wheelDue n = some w) (htype : w.type = 6) (hstart : s.chip.mgmtRestarting = false)
    (hflash : s.chip.persistBlocked = false) (hfirst : (s.chip.perf 0).old15 = some b) :
    Goes (.binComplete n) s fun c =>
      (∀ e x, e < 144 → (s.chip.perf e).old15 = some x →
          (c.perf e).old15 = none ∧ (c.perf e).done15 = (x :: (s.chip.perf e).done15).take 32) ∧
        c.pm.binSeq = s.chip.pm.binSeq + 1 := by
  have hfired := Chip.retimed_wheelFired s.chip n w
  obtain ⟨-, hpm, -⟩ := hfired.keeps
  have hents := Chip.perf_of_pm hpm
  obtain ⟨hseq, hdone⟩ := Chip.complete15_shows (c := s.chip.wheelFired n w) (b := b) ((congrArg Perf.old15 (hents 0)).trans hfirst)
    ((hfired.words.flag (by decide)).trans hflash)
  have hview := Chip.completeDay_historyView (s.chip.wheelFired n w).complete15
  refine goes_act_powered (f := fun c => if c.mgmtRestarting && (c.wheelDue n).isSome then
      if c.start.deferred.contains n then c else { c with start := { c.start with deferred := c.start.deferred ++ [n] } }
    else c.fire n 6 fun _ c => c.complete15.completeDay) (if_pos (by simpa using hn)) hp ?_
  rw [hstart, Bool.false_and, if_neg Bool.false_ne_true, Chip.fire_of_due hdue htype (by simp [wheelHeldBack])]
  refine ⟨fun e x he hx => ?_, ?_⟩
  · have hbins := (Chip.history_of_view hview e).trans (hdone e x he ((congrArg Perf.old15 (hents e)).trans hx))
    rw [hents e] at hbins
    exact Prod.mk.inj hbins
  · exact (Chip.binSeq_of_view hview).trans (hseq.trans (by rw [hpm]))

end Sys2Proof.Machine
end

section
/-! PROOFS of the wheel and of the end of a second, the classification of seconds and the FEC counters (R105, R109 to R111, R115). -/

namespace Sys2Proof.Machine

/-! ## What the classification of a second leaves as it is -/

/-- Of the registers from the ports' on, those other than PRT_DEFECT of a port and the count of lost alerts. -/
def secondKept (a : Nat) : Bool := 0x9000 ≤ a && a % 64 != 12 && a != R.PRT_PM_TCA_LOST

theorem secondKept_iff {a : Nat} : secondKept a = true ↔ 0x9000 ≤ a ∧ a % 64 ≠ 12 ∧ a ≠ R.PRT_PM_TCA_LOST := by
  simp only [secondKept, Bool.and_eq_true, decide_eq_true_eq, bne_iff_ne, and_assoc]

/-- Main power, keys, the vault and the mailboxes, and the registers that seconds do not show in. -/
def Chip.secondView (c : Chip) : Bool × Keys × Vault × Mailbox × Mailbox × (Nat → W32) :=
  (c.power, c.keys, c.vault, c.mb0, c.mb1, fun a => if secondKept a then c.word a else 0)

theorem Chip.secondView_eq {c d : Chip} (hparts : d.power = c.power ∧ d.keys = c.keys ∧ d.vault = c.vault ∧ d.mb0 = c.mb0 ∧ d.mb1 = c.mb1)
    (hwords : ∀ a, secondKept a = true → d.word a = c.word a) : d.secondView = c.secondView := by
  obtain ⟨hpower, hkeys, hvault, hmb0, hmb1⟩ := hparts
  have hregs : (fun a => if secondKept a then d.word a else 0) = fun a => if secondKept a then c.word a else 0 := by
    funext a
    split
    · next h => exact hwords a h
    · rfl
  simp only [Chip.secondView, hpower, hkeys, hvault, hmb0, hmb1, hregs]

theorem Chip.word_of_secondView {c d : Chip} (h : d.secondView = c.secondView) {a : Nat} (ha : secondKept a = true) : d.word a = c.word a := by
  have hregs := congrFun (congrArg (·.2.2.2.2.2) h) a
  simpa only [Chip.secondView, ha, if_true] using hregs

theorem secondKept_not_rec {a : Nat} (h : secondKept a = true) : a ∉ recWords := port_not_rec (secondKept_iff.mp h).1

theorem secondKept_prtDefect (p : Nat) : secondKept (R.PRT_DEFECT p) = false := by
  have hmod : (R.PRT_DEFECT p) % 64 = 12 := by simp only [R.PRT_DEFECT]; omega
  simp [secondKept, hmod]

theorem Chip.setWord_secondView (c : Chip) {a : Nat} (w : W32) (h : secondKept a = false) : (c.setWord a w).secondView = c.secondView :=
  Chip.secondView_eq ⟨rfl, rfl, rfl, rfl, rfl⟩ fun b hb => Chip.word_setWord_other _ _ _ _ fun e => by rw [e, h] at hb; cases hb

theorem Chip.withPm_secondView (c : Chip) (m : Pm) : ({ c with pm := m } : Chip).secondView = c.secondView := rfl

theorem Chip.withData_secondView (c : Chip) (x : Data) : ({ c with data := x } : Chip).secondView = c.secondView := rfl

@[simp] theorem Chip.setPerf_secondView (c : Chip) (e : Nat) (x : Perf) : (c.setPerf e x).secondView = c.secondView := Chip.withPm_secondView c _

@[simp] theorem Chip.setPort_secondView (c : Chip) (p : Nat) (x : Port) : (c.setPort p x).secondView = c.secondView :=
  Chip.withData_secondView c _

@[simp] theorem Chip.wrDefect_secondView (c : Chip) (p : Nat) {f : Fld} (v : Nat) (hf : f.reg = R.PRT_DEFECT p) :
    (c.wr f v).secondView = c.secondView := Chip.setWord_secondView c _ (hf ▸ secondKept_prtDefect p)

@[simp] theorem Chip.attn_secondView (c : Chip) (cls : Nat) : (c.attn cls).secondView = c.secondView :=
  Chip.secondView_eq (by simp) fun _ ha => Chip.attn_word _ _ _ fun e => secondKept_not_rec ha (by simp [recWords, e])

@[simp] theorem Chip.record_secondView (c : Chip) (sub ev sev unit detail : Nat) :
    (c.record sub ev sev unit detail).secondView = c.secondView :=
  Chip.secondView_eq (by simp) fun _ ha => Chip.record_word _ _ _ _ _ _ _ (secondKept_not_rec ha)

@[simp] theorem Chip.alert_secondView (c : Chip) (sub ev unit detail : Nat) : (c.alert sub ev unit detail).secondView = c.secondView := by
  rw [Chip.alert, Chip.attn_secondView, Chip.record_secondView]

/-! ## Degraded seconds (R105) -/

@[simp] theorem Chip.report_secondView (c : Chip) (p : Nat) : (c.report p).secondView = c.secondView := by
  unfold Chip.report
  dsimp only
  split
  · rfl
  · split
    · rfl
    · rw [Chip.alert_secondView, Chip.setPort_secondView]

@[simp] theorem Chip.seeDefects_secondView (c : Chip) (p : Nat) : (c.seeDefects p).secondView = c.secondView := Chip.setPerf_secondView c p _

@[simp] theorem Chip.dropDefect_secondView (c : Chip) (p k : Nat) : (c.dropDefect p k).secondView = c.secondView := by
  unfold Chip.dropDefect
  dsimp only
  split
  · rfl
  · split
    · exact Chip.wrDefect_secondView c p _ rfl
    · rw [Chip.record_secondView, Chip.setPort_secondView]
      exact Chip.wrDefect_secondView c p _ rfl

/-- Without signal fail the entry of dDEG shows in PRT_DEFECT and in records alone. -/
theorem Chip.enterDeg_secondView {c : Chip} {p : Nat} (hsf : c.flag (F.PRT_DEFECT_sf p) = false) :
    (c.enterDefect p .dDEG).secondView = c.secondView := by
  cases hhalt : c.halted with
  | true => rw [Chip.enterDefect_of_halted hhalt]
  | false =>
    cases hpres : bit (c.rd (F.PRT_DEFECT_current p)) (defectIx .dDEG) with
    | true => rw [Chip.enterDefect_of_present hpres]
    | false =>
      rw [Chip.enterDefect_eq hhalt hpres (by rw [if_neg (by decide)]; exact .inl hsf), Chip.seeDefects_secondView, Chip.report_secondView]
      exact (Chip.wrDefect_secondView _ p _ rfl).trans (Chip.wrDefect_secondView _ p _ rfl)

/-- Without signal fail none ends with dDEG. -/
theorem Chip.exitDeg_secondView {c : Chip} {p : Nat} (hsf : c.flag (F.PRT_DEFECT_sf p) = false) :
    (c.exitDefect p .dDEG).secondView = c.secondView := by
  cases hhalt : c.halted with
  | true => rw [Chip.exitDefect_of_halted hhalt]
  | false =>
    cases hpres : bit (c.rd (F.PRT_DEFECT_current p)) (defectIx .dDEG) with
    | false => rw [Chip.exitDefect_of_absent hpres]
    | true =>
      have hover : ∀ d : Chip, d.faultOver p (defectIx .dDEG) = d := fun d => by simp [Chip.faultOver, defectIx]
      rw [Chip.exitDefect_eq hhalt hpres (.inl hsf), hover, Chip.report_secondView, Chip.dropDefect_secondView]

/-- What the runs of degraded and good seconds of a port make of dDEG. -/
def Chip.degSettled (m : Nat) (c : Chip) (p : Nat) : Chip :=
  if m ≤ (c.port p).degRun then c.enterDefect p .dDEG else if m ≤ (c.port p).goodRun then c.exitDefect p .dDEG else c

theorem Chip.degSettled_secondView (m : Nat) {c : Chip} {p : Nat} (hsf : c.flag (F.PRT_DEFECT_sf p) = false) :
    (Chip.degSettled m c p).secondView = c.secondView := by
  unfold Chip.degSettled
  split
  · exact Chip.enterDeg_secondView hsf
  · split
    · exact Chip.exitDeg_secondView hsf
    · rfl

theorem Chip.degSecond_secondView (c : Chip) (p : Nat) (degraded : Bool) : (c.degSecond p degraded).secondView = c.secondView := by
  unfold Chip.degSecond
  split
  · rfl
  · next hwatch =>
    have hsf : c.flag (F.PRT_DEFECT_sf p) = false := by
      rw [Bool.or_eq_true, not_or, Bool.not_eq_true] at hwatch
      exact hwatch.1
    exact (Chip.degSettled_secondView c.degM (c := c.setPort p _) hsf).trans (Chip.setPort_secondView c p _)

/-! ## Final seconds and their alerts (R110, R111, R115) -/

/-- An alert enters the log, or is counted as lost where that is full. -/
def Chip.tcaLogged (c : Chip) (w : Nat) : Chip :=
  if 64 ≤ c.pm.tca.length then c.sat32 R.PRT_PM_TCA_LOST 1 else { c with pm := { c.pm with tca := c.pm.tca ++ [BitVec.ofNat 32 w] } }

theorem Chip.tcaLogged_secondView (c : Chip) (w : Nat) : (c.tcaLogged w).secondView = c.secondView := by
  unfold Chip.tcaLogged
  split
  · exact Chip.setWord_secondView c _ (by decide)
  · exact Chip.withPm_secondView c _

theorem Chip.tca_secondView (c : Chip) (e i : Nat) (day : Bool) : (c.tca e i day).secondView = c.secondView :=
  (Chip.tcaLogged_secondView _ _).trans ((Chip.record_secondView _ _ _ _ _ _).trans (Chip.attn_secondView c 14))

theorem Chip.addFinal_secondView (c : Chip) (e s : Nat) (d : Bin) (day : Bool) : (c.addFinal e s d day).secondView = c.secondView :=
  (foldl_keeps (view := Chip.secondView) (fun c i => Chip.tca_secondView c e i day) _ _).trans (Chip.setPerf_secondView c e _)

theorem Chip.finalSecond_secondView (c : Chip) (e : Nat) (x : Second) (avail : Bool) : (c.finalSecond e x avail).secondView = c.secondView := by
  have hadded : ∀ d, ((c.addFinal e x.at_ d false).addFinal e x.at_ d true).secondView = c.secondView := fun d => by
    rw [Chip.addFinal_secondView, Chip.addFinal_secondView]
  unfold Chip.finalSecond
  by_cases hport : e < 144
  · exact (congrArg Chip.secondView (if_pos hport)).trans ((Chip.degSecond_secondView _ _ _).trans (hadded _))
  · exact (congrArg Chip.secondView (if_neg hport)).trans (hadded _)

theorem Chip.finalSeconds_secondView (c : Chip) (e : Nat) (l : List Second) (avail : Bool) :
    (l.foldl (fun c y => c.finalSecond e y avail) c).secondView = c.secondView :=
  foldl_keeps (view := Chip.secondView) (fun c y => Chip.finalSecond_secondView c e y avail) l c

theorem Chip.classify_secondView (c : Chip) (e : Nat) (x : Second) : (c.classify e x).secondView = c.secondView := by
  unfold Chip.classify
  dsimp only
  split
  · split
    · exact Chip.setPerf_secondView c e _
    · rw [Chip.finalSeconds_secondView, Chip.setPerf_secondView]
  · rw [Chip.finalSeconds_secondView, Chip.setPerf_secondView]

theorem Chip.chanSecond_secondView (c : Chip) (h : Chan) (s : Nat) (sf : Bool) : (c.chanSecond h s sf).secondView = c.secondView := by
  unfold Chip.chanSecond
  dsimp only
  rw [Chip.setPerf_secondView, Chip.classify_secondView]

/-! ## The second of a port -/

/-- The FEC counters of a port take what its blocks report. -/
def Chip.fecCounted (c : Chip) (p : Nat) (b : Blocks) : Chip :=
  if c.portFec p then (c.addWide (R.PRT_FEC_CORR p) 2 64 b.corrected).addWide (R.PRT_FEC_UNCORR p) 2 64 b.errored else c

theorem Chip.portSecond_secondView (c : Chip) (p s : Nat) (b : Blocks) : (c.portSecond p s b).secondView = (c.fecCounted p b).secondView := by
  unfold Chip.portSecond
  dsimp only
  rw [Chip.seeDefects_secondView, Chip.setPerf_secondView, Chip.classify_secondView, Chip.setPerf_secondView]
  rfl

end Sys2Proof.Machine
end

section
/-! PROOFS of the wheel and of the end of a second, O39: events of the wheel, and the end of a second (R109, R112, R302, R386, R389, R438). -/

namespace Sys2Proof.Machine

/-! ## The FEC counters of the ports (R105) -/

/-- The two FEC counters of a port. -/
def Chip.fecCounts (c : Chip) (p : Nat) : Nat × Nat := (c.num (R.PRT_FEC_CORR p) 2, c.num (R.PRT_FEC_UNCORR p) 2)

/-- Main power, keys, the vault, the mailboxes, and the configuration of the ports. -/
def Chip.secondRest (c : Chip) : Bool × Keys × Vault × Mailbox × Mailbox × (Nat → W32) :=
  (c.power, c.keys, c.vault, c.mb0, c.mb1, fun p => c.word (R.PRT_CFG p))

theorem prtFec_adjacent (p : Nat) : R.PRT_FEC_UNCORR p = R.PRT_FEC_CORR p + 8 := by simp only [R.PRT_FEC_UNCORR, R.PRT_FEC_CORR]; omega

theorem prtFec_apart {p q : Nat} (h : q ≠ p) : R.PRT_FEC_CORR q + 64 ≤ R.PRT_FEC_CORR p ∨ R.PRT_FEC_CORR p + 64 ≤ R.PRT_FEC_CORR q := by
  simp only [R.PRT_FEC_CORR]
  omega

theorem prtCfg_fec_apart (p q : Nat) : R.PRT_CFG q < R.PRT_FEC_CORR p ∨ R.PRT_FEC_CORR p + 16 ≤ R.PRT_CFG q := by
  simp only [R.PRT_FEC_CORR, R.PRT_CFG]
  omega

theorem secondKept_prtFec (p : Nat) {k : Nat} (hk : k = 0 ∨ k = 4 ∨ k = 8 ∨ k = 12) : secondKept (R.PRT_FEC_CORR p + k) = true := by
  simp only [secondKept_iff, R.PRT_FEC_CORR, R.PRT_PM_TCA_LOST]
  omega

theorem secondKept_prtCfg (p : Nat) : secondKept (R.PRT_CFG p) = true := by
  simp only [secondKept_iff, R.PRT_CFG, R.PRT_PM_TCA_LOST]
  omega

theorem Chip.fecCounts_of_words {c d : Chip} {p : Nat}
    (h : ∀ k, k = 0 ∨ k = 4 ∨ k = 8 ∨ k = 12 → d.word (R.PRT_FEC_CORR p + k) = c.word (R.PRT_FEC_CORR p + k)) :
    d.fecCounts p = c.fecCounts p := by
  rw [Chip.fecCounts, Chip.fecCounts, prtFec_adjacent,
    Chip.num_of_word (a := R.PRT_FEC_CORR p) (h 0 (by decide)) (h 4 (by decide)), Chip.num_of_word (h 8 (by decide)) (h 12 (by decide))]

theorem Chip.fecCounts_of_view {c d : Chip} (h : d.secondView = c.secondView) (p : Nat) : d.fecCounts p = c.fecCounts p :=
  Chip.fecCounts_of_words fun _ hk => Chip.word_of_secondView h (secondKept_prtFec p hk)

theorem Chip.secondRest_of_view {c d : Chip} (h : d.secondView = c.secondView) : d.secondRest = c.secondRest := by
  have hcfg : (fun p => d.word (R.PRT_CFG p)) = fun p => c.word (R.PRT_CFG p) :=
    funext fun p => Chip.word_of_secondView h (secondKept_prtCfg p)
  simp only [Chip.secondView, Prod.mk.injEq] at h
  obtain ⟨hpower, hkeys, hvault, hmb0, hmb1, -⟩ := h
  simp only [Chip.secondRest, hpower, hkeys, hvault, hmb0, hmb1, hcfg]

theorem Chip.word_of_secondRest {c d : Chip} (h : d.secondRest = c.secondRest) (p : Nat) : d.word (R.PRT_CFG p) = c.word (R.PRT_CFG p) :=
  congrFun (congrArg (·.2.2.2.2.2) h) p

theorem Chip.portFec_of_word {c d : Chip} {p : Nat} (h : d.word (R.PRT_CFG p) = c.word (R.PRT_CFG p)) : d.portFec p = c.portFec p := by
  rw [Chip.portFec, Chip.rd_of_word (f := F.PRT_CFG_fec p) h, Chip.portFec]

/-! ## What blocks add to the counters of their port -/

section
variable (c : Chip) (p : Nat) (b : Blocks)

theorem Chip.fecCounted_word {a : Nat} (h : a < R.PRT_FEC_CORR p ∨ R.PRT_FEC_CORR p + 16 ≤ a) : (c.fecCounted p b).word a = c.word a := by
  unfold Chip.fecCounted
  split
  · rw [prtFec_adjacent, Chip.addWide, Chip.word_setNum_other _ _ _ _ _ (by omega), Chip.addWide, Chip.word_setNum_other _ _ _ _ _ (by omega)]
  · rfl

theorem Chip.fecCounted_secondRest : (c.fecCounted p b).secondRest = c.secondRest := by
  have hcfg : (fun q => (c.fecCounted p b).word (R.PRT_CFG q)) = fun q => c.word (R.PRT_CFG q) :=
    funext fun q => Chip.fecCounted_word c p b (prtCfg_fec_apart p q)
  have hparts : (c.fecCounted p b).power = c.power ∧ (c.fecCounted p b).keys = c.keys ∧ (c.fecCounted p b).vault = c.vault ∧
      (c.fecCounted p b).mb0 = c.mb0 ∧ (c.fecCounted p b).mb1 = c.mb1 := by
    unfold Chip.fecCounted
    split <;> simp
  obtain ⟨hpower, hkeys, hvault, hmb0, hmb1⟩ := hparts
  simp only [Chip.secondRest, hpower, hkeys, hvault, hmb0, hmb1, hcfg]

theorem Chip.fecCounted_other {q : Nat} (h : q ≠ p) : (c.fecCounted p b).fecCounts q = c.fecCounts q :=
  Chip.fecCounts_of_words fun k hk => Chip.fecCounted_word c p b (by have hapart := prtFec_apart h; omega)

theorem Chip.fecCounted_same (hfec : c.portFec p = true) :
    (c.fecCounted p b).fecCounts p = (((c.fecCounts p).1 + b.corrected) % 2 ^ 64, ((c.fecCounts p).2 + b.errored) % 2 ^ 64) := by
  have hadj := prtFec_adjacent p
  rw [Chip.fecCounted, if_pos hfec]
  simp only [Chip.fecCounts, Chip.addWide]
  rw [Chip.num_setNum_apart _ _ (by omega), Chip.num_setNum, Chip.num_setNum, Chip.num_setNum_apart _ _ (by omega), Nat.mod_mod, Nat.mod_mod]

end

/-! ## The end of a second (R109) -/

/-- The blocks that a port counted in the second. -/
def blocksOf (l : List Blocks) (p : Nat) : Blocks := (l.find? (fun b => b.port == p)).getD { port := p, blocks := 0, errored := 0 }

/-- The receive channels' seconds end. -/
def Chip.chansSecond (c : Chip) : Chip := c.rxChans.foldl (fun d h => d.chanSecond h (c.seconds - 1) (d.perf h.port).sfSeen) c

theorem Chip.chansSecond_secondView (c : Chip) : c.chansSecond.secondView = c.secondView :=
  foldl_keeps (view := Chip.secondView) (fun d h => Chip.chanSecond_secondView d h _ _) _ c

/-- The ports' seconds end. -/
def Chip.portsSecond (c : Chip) (s : Nat) (blocks : List Blocks) (l : List Nat) : Chip :=
  l.foldl (fun c p => c.portSecond p s (blocksOf blocks p)) c

section
variable (c : Chip) (s : Nat) (blocks : List Blocks)

theorem Chip.portSecond_secondRest (p : Nat) (b : Blocks) : (c.portSecond p s b).secondRest = c.secondRest :=
  (Chip.secondRest_of_view (Chip.portSecond_secondView c p s b)).trans (Chip.fecCounted_secondRest c p b)

theorem Chip.portSecond_fecCounts (p q : Nat) (b : Blocks) : (c.portSecond p s b).fecCounts q = (c.fecCounted p b).fecCounts q :=
  Chip.fecCounts_of_view (Chip.portSecond_secondView c p s b) q

theorem Chip.portsSecond_secondRest (l : List Nat) : (c.portsSecond s blocks l).secondRest = c.secondRest :=
  foldl_keeps (view := Chip.secondRest) (fun c p => Chip.portSecond_secondRest c s p _) l c

theorem Chip.portsSecond_fecCounts {l : List Nat} {p : Nat} (hone : l.count p = 1) (hfec : c.portFec p = true) :
    (c.portsSecond s blocks l).fecCounts p =
      (((c.fecCounts p).1 + (blocksOf blocks p).corrected) % 2 ^ 64, ((c.fecCounts p).2 + (blocksOf blocks p).errored) % 2 ^ 64) := by
  obtain ⟨d, hrest, hcounts, hlast⟩ := foldl_once (g := fun c p => Chip.portSecond c p s (blocksOf blocks p)) (view := Chip.secondRest)
    (look := Chip.fecCounts) (fun c p => Chip.portSecond_secondRest c s p _)
    (fun c p q h => (Chip.portSecond_fecCounts c s p q _).trans (Chip.fecCounted_other c p _ h)) hone c
  have hfec' : d.portFec p = true := (Chip.portFec_of_word (Chip.word_of_secondRest hrest p)).trans hfec
  refine hlast.trans ?_
  rw [Chip.portSecond_fecCounts, Chip.fecCounted_same d p _ hfec', hcounts]

end

/-- A second ends for the channels, then for the enabled ports, and what the channels without an SA count changes nothing else. -/
theorem Chip.secondEnd_eq (c : Chip) (blocks : List Blocks) :
    ∃ m, c.secondEnd blocks =
      { c.chansSecond.portsSecond (c.seconds - 1) blocks ((List.range 144).filter c.chansSecond.portOn) with pm := m } :=
  Chip.foldl_pm Chip.noteNosa_eq _ _

theorem Chip.withPm_secondRest (c : Chip) (m : Pm) : ({ c with pm := m } : Chip).secondRest = c.secondRest := rfl

theorem Chip.withPm_fecCounts (c : Chip) (m : Pm) (p : Nat) : ({ c with pm := m } : Chip).fecCounts p = c.fecCounts p := rfl

/-- The enabled ports of a part name each of its enabled ports once. -/
theorem Chip.portsOn_count {c : Chip} {p : Nat} (hp : p < 144) (hon : c.portOn p = true) : ((List.range 144).filter c.portOn).count p = 1 :=
  List.count_eq_one_of_mem (List.nodup_range.filter _) (List.mem_filter.mpr ⟨List.mem_range.mpr hp, hon⟩)

theorem Chip.secondEnd_shows {c : Chip} {b : Blocks} (hport : b.port < 144) (hon : c.portOn b.port = true) (hfec : c.portFec b.port = true) :
    (c.secondEnd [b]).secondRest = c.secondRest ∧ (c.secondEnd [b]).fecCounts b.port =
      (((c.fecCounts b.port).1 + b.corrected) % 2 ^ 64, ((c.fecCounts b.port).2 + b.errored) % 2 ^ 64) := by
  have hview := Chip.chansSecond_secondView c
  have hcfg := Chip.word_of_secondView hview (secondKept_prtCfg b.port)
  have hblocks : blocksOf [b] b.port = b := by simp [blocksOf]
  obtain ⟨m, hm⟩ := Chip.secondEnd_eq c [b]
  rw [hm, Chip.withPm_secondRest, Chip.withPm_fecCounts, Chip.portsSecond_secondRest, Chip.portsSecond_fecCounts _ _ _
    (Chip.portsOn_count hport ((Chip.portOn_of_word hcfg).trans hon)) ((Chip.portFec_of_word hcfg).trans hfec), hblocks,
    Chip.fecCounts_of_view hview]
  exact ⟨Chip.secondRest_of_view hview, rfl⟩

theorem secondEndsRule_holds : secondEndsRule := by
  intro s b hrun hon hport henabled hfec
  obtain ⟨hrest, hcounts⟩ := Chip.secondEnd_shows hport henabled hfec
  simp only [Chip.secondRest, Prod.mk.injEq] at hrest
  obtain ⟨hpower, hkeys, hvault, hmb0, hmb1, -⟩ := hrest
  obtain ⟨hcorr, huncorr⟩ := Prod.mk.inj hcounts
  have hp := Chip.power_of_running hrun
  have hacts : (if !s.chip.halted && s.chip.pm.on then s.chip.secondEnd [b] else s.chip) = s.chip.secondEnd [b] :=
    if_pos (by rw [Chip.not_halted_of_running hrun, hon]; rfl)
  refine goes_act (f := fun c => if !c.halted && c.pm.on then c.secondEnd [b] else c) rfl hp ?_ ?_ <;> rw [hacts]
  · exact hpower.trans hp
  · exact ⟨hcorr, huncorr, hkeys, hvault, hmb0, hmb1⟩

/-! ## The events of the wheel -/

theorem wheelEventsRule_holds : wheelEventsRule := by
  intro s n w hp hn hdue
  refine ⟨goes_trigStart_ahead hp hn hdue, goes_trigStart_passed hp hn hdue, goes_trigStop hp hn hdue, goes_slotExpiry hp hn hdue, ?_,
    fun htype hstart hflash b => goes_binComplete hp hn hdue htype hstart hflash, goes_recCheckpoint hp hn hdue, goes_expiryHorizonCheck hp⟩
  intro htype hon hcrossed hcrossedDay
  exact goes_binBoundary hp hn hdue htype hon ⟨hcrossed, hcrossedDay⟩

/-- Settles O39, the events of the wheel and the end of a second each by its own rule (R109, R112, R302, R386, R389, R438). That a start of
a train may lie in the past (log entry 21, DEDUCED), when bins close and where FEC counts come from (log entry 43, DEDUCED) and what a warm
start holds back (log entry 66, DEDUCED) are the model's reading. -/
theorem wheelAndSeconds : Obligations.WheelAndSeconds := ⟨wheelEventsRule_holds, secondEndsRule_holds⟩

end Sys2Proof.Machine
end

section
/-! PROOFS of the family of the Sorrel engines, O51: the mailbox commands of the tables and programs of a cluster (R135, R149). -/

namespace Sys2Proof.Machine

/-! ## Tables of a cluster -/

@[simp] theorem Chip.table_setTable_same (c : Chip) (cl t : Nat) (l : List (Option TabEntry)) : (c.setTable cl t l).table cl t = l :=
  Sparse.get_set_same _ _ _ _

theorem Chip.table_setTable_other (c : Chip) {cl t cl' t' : Nat} (l : List (Option TabEntry)) (ht : t ≤ 6) (ht' : t' ≤ 6)
    (h : (cl', t') ≠ (cl, t)) : (c.setTable cl t l).table cl' t' = c.table cl' t' := by
  refine Sparse.get_set_other _ _ _ _ _ fun hkey => h ?_
  rw [Prod.mk.injEq]
  omega

/-- An answer that waits for the journal shows no code. -/
theorem Answer.shown_of_journaled {a : Answer} {op : JOp} (h : a.jop = some op) (k : CmdClass) :
    a.shown k = none ∧ a.shownResult k = 0 ∧ a.jop.toList = [op] := by
  have hshown : a.shown k = none := by simp [Answer.shown, h]
  exact ⟨hshown, by simp [Answer.shownResult, hshown], by simp [h]⟩

/-- An accepted command whose own rule is journaled and writes no register of the mailboxes is served, and leaves what its rule does. -/
theorem did_journaled {i : Instr} {s : State} {h : Mb} {k : CmdClass} {body : Chip → Chip × Answer} {d : Chip} {P : Chip → Prop}
    (hexec : exec i s = s.act fun c => c.mbRun h k body) (hacc : s.chip.mbAccepts h k)
    (hbody : body (s.chip.mbStarted h) = (d, { code := Code.committed, jop := some (.cmd i) })) (hpow : d.power = s.chip.power)
    (hlow : ∀ x < 0x204, d.word x = (s.chip.mbStarted h).word x) (hP : P d) : Did i s h none 0 [.cmd i] P := by
  obtain ⟨hpower, -⟩ := id hacc
  obtain ⟨hshown, hresult, hops⟩ := Answer.shown_of_journaled (a := { code := Code.committed, jop := some (.cmd i) }) rfl k
  have hdid := did_of hexec hacc hbody (hpow.trans hpower) hlow hP
  rwa [hshown, hresult, hops] at hdid

/-- What the statement says of a table after a write or a delete. -/
def Chip.tableIs (c : Chip) (h : Mb) (cl t : Nat) (l : List (Option TabEntry)) (d : Chip) : Prop :=
  d = (c.mbStarted h).setTable cl t l ∧ d.table cl t = l ∧ ∀ cl' t', t' ≤ 6 → (cl', t') ≠ (cl, t) → d.table cl' t' = c.table cl' t'

theorem Chip.tableIs_setTable (c : Chip) (h : Mb) {cl t : Nat} (ht : t ≤ 6) (l : List (Option TabEntry)) :
    c.tableIs h cl t l ((c.mbStarted h).setTable cl t l) :=
  ⟨rfl, Chip.table_setTable_same _ _ _ _, fun _ _ ht' hne => Chip.table_setTable_other _ l ht ht' hne⟩

section
variable {s : State} {h : Mb} {cl t key mask value : Nat} {l : List (Option TabEntry)} (ht : t ≤ 6)
include ht

theorem did_tableWrite (hwrite : (s.chip.mbStarted h).tableWrite (.sorrelTableWrite h cl t key mask value) cl t key mask value =
      ((s.chip.mbStarted h).setTable cl t l, { code := Code.committed, jop := some (.cmd (.sorrelTableWrite h cl t key mask value)) }))
    (htaken : taken h (.sorrelTableWrite h cl t key mask value) s) :
    Did (.sorrelTableWrite h cl t key mask value) s h none 0 [.cmd (.sorrelTableWrite h cl t key mask value)] (s.chip.tableIs h cl t l) := by
  obtain ⟨k, hk, hacc⟩ := htaken
  cases hk
  exact did_journaled rfl hacc hwrite rfl (fun _ _ => rfl) (Chip.tableIs_setTable _ _ ht _)

theorem did_tableDelete (hdelete : (s.chip.mbStarted h).tableDelete (.sorrelTableDelete h cl t key mask) cl t key mask =
      ((s.chip.mbStarted h).setTable cl t l, { code := Code.committed, jop := some (.cmd (.sorrelTableDelete h cl t key mask)) }))
    (htaken : taken h (.sorrelTableDelete h cl t key mask) s) :
    Did (.sorrelTableDelete h cl t key mask) s h none 0 [.cmd (.sorrelTableDelete h cl t key mask)] (s.chip.tableIs h cl t l) := by
  obtain ⟨k, hk, hacc⟩ := htaken
  cases hk
  exact did_journaled rfl hacc hdelete rfl (fun _ _ => rfl) (Chip.tableIs_setTable _ _ ht _)

end

/-! ## The rules of the table commands, kind by kind (R135) -/

section
variable {c : Chip} {cl t : Nat} (hcl : cl ≤ 15) (ht : t ≤ 6)
include hcl ht

theorem Chip.tableWrite_index {key mask value : Nat} (i : Instr) (hkind : (progTable (c.program cl) t).1 = 3)
    (hkey : key % 2 ^ 32 < (progTable (c.program cl) t).2.1) : c.tableWrite i cl t key mask value =
      (c.setTable cl t ((c.table cl t).set (key % 2 ^ 32) (some { value := value })), { code := Code.committed, jop := some (.cmd i) }) := by
  simp only [Chip.tableWrite]
  rw [hkind, if_neg (by simp; omega), if_pos rfl, if_neg (Nat.not_le.mpr hkey)]

theorem Chip.tableWrite_ternary {key mask value : Nat} (i : Instr) (hkind : (progTable (c.program cl) t).1 = 4)
    (hroom : ((c.table cl t).filterMap id).any (fun e => e.key == key && e.mask == mask) = true ∨ ((c.table cl t).filterMap id).length < 256) :
    c.tableWrite i cl t key mask value =
      (c.setTable cl t (putEntry (c.table cl t) (fun e => e.key == key && e.mask == mask) { key := key, mask := mask, value := value }),
        { code := Code.committed, jop := some (.cmd i) }) := by
  simp only [Chip.tableWrite]
  rw [hkind, if_neg (by simp; omega), if_neg (by decide), if_pos rfl, if_neg]
  rw [Bool.and_eq_true, Bool.not_eq_true', decide_eq_true_eq]
  rintro ⟨hnone, hfull⟩
  rcases hroom with hany | hfree
  · rw [hany] at hnone; cases hnone
  · omega

theorem Chip.tableWrite_exact {key mask value : Nat} (i : Instr) (hkind : (progTable (c.program cl) t).1 = 1 ∨ (progTable (c.program cl) t).1 = 2)
    (hkey : (progTable (c.program cl) t).1 = 1 → key < 2 ^ 32)
    (hroom : ((c.table cl t).filterMap id).any (fun e => e.key == key) = true ∨ c.exactUsed cl < 4096) :
    c.tableWrite i cl t key mask value =
      (c.setTable cl t (putEntry (c.table cl t) (fun e => e.key == key) { key := key, value := value }),
        { code := Code.committed, jop := some (.cmd i) }) := by
  simp only [Chip.tableWrite]
  rw [if_neg (by simp; omega), if_neg (by omega), if_neg (by omega), if_neg (by simp; omega), if_neg]
  rw [Bool.and_eq_true, Bool.not_eq_true', decide_eq_true_eq]
  rintro ⟨hnone, hfull⟩
  rcases hroom with hany | hfree
  · rw [hany] at hnone; cases hnone
  · omega

theorem Chip.tableDelete_index {key mask : Nat} (i : Instr) (hkind : (progTable (c.program cl) t).1 = 3)
    (hkey : key % 2 ^ 32 < (progTable (c.program cl) t).2.1) : c.tableDelete i cl t key mask =
      (c.setTable cl t ((c.table cl t).set (key % 2 ^ 32) none), { code := Code.committed, jop := some (.cmd i) }) := by
  simp only [Chip.tableDelete]
  rw [hkind, if_neg (by simp; omega), if_pos rfl, if_neg (Nat.not_le.mpr hkey)]

theorem Chip.tableDelete_ternary {key mask j : Nat} (i : Instr) (hkind : (progTable (c.program cl) t).1 = 4)
    (hfound : (c.table cl t).findIdx? (fun x => (x.map (fun e => e.key == key && e.mask == mask)).getD false) = some j) :
    c.tableDelete i cl t key mask = (c.setTable cl t ((c.table cl t).set j none), { code := Code.committed, jop := some (.cmd i) }) := by
  simp only [Chip.tableDelete]
  rw [hkind, if_neg (by simp; omega), if_neg (by decide), if_pos rfl, hfound]

theorem Chip.tableDelete_exact {key mask j : Nat} (i : Instr) (hkind : (progTable (c.program cl) t).1 = 1 ∨ (progTable (c.program cl) t).1 = 2)
    (hkey : (progTable (c.program cl) t).1 = 1 → key < 2 ^ 32)
    (hfound : (c.table cl t).findIdx? (fun x => (x.map (fun e => e.key == key)).getD false) = some j) :
    c.tableDelete i cl t key mask = (c.setTable cl t ((c.table cl t).set j none), { code := Code.committed, jop := some (.cmd i) }) := by
  simp only [Chip.tableDelete]
  rw [if_neg (by simp; omega), if_neg (by omega), if_neg (by omega), if_neg (by simp; omega), hfound]

end

/-! ## Overlays (R149) -/

theorem ne_nil_of_byteAt {v : Bytes} {i : Nat} (h : byteAt v i ≠ 0) : v ≠ [] := by
  rintro rfl
  exact h rfl

/-- A legal program carries version 1 (R148), so it is not empty. -/
theorem Chip.ne_nil_of_programOk {c : Chip} {v : Bytes} (h : c.programOk v = true) : v ≠ [] := by
  refine ne_nil_of_byteAt (i := 1) fun hzero => ?_
  simp [Chip.programOk, Machine.programOk, hzero] at h

theorem Chip.program_applyOverlay_same (c : Chip) (cl : Nat) {v : Bytes} (hv : v ≠ []) : (c.applyOverlay cl v).program cl = v := by
  have hcluster : (Sparse.get {} (c.applyOverlay cl v).data.clusters cl).overlay = v := by
    simp only [Chip.applyOverlay, Chip.wr_data, Sparse.get_set_same]
  rw [Chip.program]
  simp only [hcluster, bne_iff_ne, ne_eq, hv, not_false_eq_true, if_true]

theorem Chip.program_applyOverlay_other (c : Chip) {cl k : Nat} (v : Bytes) (h : k ≠ cl) : (c.applyOverlay cl v).program k = c.program k := by
  have hcluster : Sparse.get {} (c.applyOverlay cl v).data.clusters k = Sparse.get {} c.data.clusters k := by
    simp only [Chip.applyOverlay, Chip.wr_data]
    exact Sparse.get_set_other _ _ _ _ _ h
  simp only [Chip.program, hcluster]
  rfl

theorem Chip.applyOverlay_flag (c : Chip) (cl : Nat) (v : Bytes) :
    (c.applyOverlay cl v).flag (F.FLW_CL_STATUS_overlay_active cl) = true := by
  unfold Chip.applyOverlay
  rw [Chip.flag, Chip.rd_wr_same _ _ _ rfl]
  rfl

@[simp] theorem Chip.applyOverlay_power (c : Chip) (cl : Nat) (v : Bytes) : (c.applyOverlay cl v).power = c.power := rfl

@[simp] theorem Chip.applyOverlay_tables (c : Chip) (cl : Nat) (v : Bytes) : (c.applyOverlay cl v).data.tables = c.data.tables := rfl

theorem Chip.applyOverlay_word (c : Chip) {cl a : Nat} (v : Bytes) (ha : a ≠ R.FLW_CL_STATUS cl) : (c.applyOverlay cl v).word a = c.word a := by
  unfold Chip.applyOverlay
  rw [Chip.word_wr_other _ _ _ _ ha, Chip.word_wr_other _ _ _ _ ha]
  rfl

/-- A command that has been started finds the same programs legal. -/
theorem Chip.programOk_mbStarted (c : Chip) {h : Mb} (hfn : h.fn ≤ 1) (v : Bytes) : (c.mbStarted h).programOk v = c.programOk v := by
  have hencap (p : Nat) : (c.mbStarted h).encap p = c.encap p :=
    Chip.mbStarted_rd_high c h hfn _ (by simp only [F.PRT_CFG_encap, R.PRT_CFG]; omega)
  simp only [Chip.programOk, hencap]
  rfl

section
variable {c : Chip} {cl : Nat} {data : Bytes} (hcl : cl ≤ 15) (hbyte : byteAt (data.take (data.length - 3405)) 0 = cl)
include hcl hbyte

theorem Chip.sorrelOverlay_of_verified (i : Instr) (hok : c.programOk (data.take (data.length - 3405)) = true)
    (hsame : sameTables (data.take (data.length - 3405)) (c.program cl) = true)
    (hroom : progN (data.take (data.length - 3405)) + progN (c.program cl) ≤ 2048)
    (hsig : sigOk ((c.rec1 T.ownerId).getD []) (ascii "UNESQUE-SORREL" ++ Config.sha384 (data.take (data.length - 3405)))
      (data.drop (data.length - 3405)) = true) :
    c.sorrelOverlay i cl data = (c.applyOverlay cl (data.take (data.length - 3405)), { code := Code.committed, jop := some (.cmd i) }) := by
  simp only [Chip.sorrelOverlay]
  rw [if_neg (by simp [hbyte]; omega), if_neg (by simp [hsig]), if_neg (by simp [hok, hsame]; omega)]

theorem Chip.sorrelOverlay_of_unverified (i : Instr)
    (hsig : sigOk ((c.rec1 T.ownerId).getD []) (ascii "UNESQUE-SORREL" ++ Config.sha384 (data.take (data.length - 3405)))
      (data.drop (data.length - 3405)) ≠ true) : c.sorrelOverlay i cl data = refuse c Code.authFailure := by
  simp only [Chip.sorrelOverlay]
  rw [if_neg (by simp [hbyte]; omega), if_pos (by simpa using hsig)]

end

/-- Settles O51: the table commands by kind of table (R135), the overlay by its signature (R149). That a new entry takes the first free
place, and that the answer to a bad signature is AUTH_FAILURE, is the model's reading (log entry 33, DEDUCED). -/
theorem mailboxSorrel : Obligations.MailboxSorrel := by
  unfold Obligations.MailboxSorrel
  intro s h cl t key mask value hcl ht
  refine ⟨fun hkind hkey => ⟨?_, ?_⟩, fun hkind hroom => ?_, fun hkind hkey hroom => ?_, fun j hkind hfound => ?_,
    fun j hkind hkey hfound => ?_, fun hbyte hok hsame hroom htaken => ?_⟩
  · exact did_tableWrite ht (Chip.tableWrite_index hcl ht _ hkind hkey)
  · exact did_tableDelete ht (Chip.tableDelete_index hcl ht _ hkind hkey)
  · exact did_tableWrite ht (Chip.tableWrite_ternary hcl ht _ hkind hroom)
  · exact did_tableWrite ht (Chip.tableWrite_exact hcl ht _ hkind hkey hroom)
  · exact did_tableDelete ht (Chip.tableDelete_ternary hcl ht _ hkind hfound)
  · exact did_tableDelete ht (Chip.tableDelete_exact hcl ht _ hkind hkey hfound)
  · obtain ⟨k, hk, hacc⟩ := htaken
    cases hk
    have hok' := (s.chip.programOk_mbStarted (Chip.fn_le_of_accepts hacc) _).trans hok
    split
    · next hsig =>
      have hv := Chip.ne_nil_of_programOk hok
      have hrule := Chip.sorrelOverlay_of_verified hcl hbyte (.sorrelOverlay h cl) hok' hsame hroom hsig
      refine did_journaled rfl hacc hrule (Chip.applyOverlay_power _ cl _) (fun x hx => ?_)
        ⟨Chip.program_applyOverlay_same _ cl hv, fun j hj => Chip.program_applyOverlay_other _ _ hj,
          Chip.applyOverlay_tables _ cl _, Chip.applyOverlay_flag _ cl _⟩
      exact Chip.applyOverlay_word _ _ (by simp only [R.FLW_CL_STATUS]; omega)
    · next hsig => exact served_of_refuse rfl hacc (by decide) (Chip.sorrelOverlay_of_unverified hcl hbyte _ hsig)

end Sys2Proof.Machine
end

section
/-! PROOFS of the family of the Sorrel engines, the performance counters of an engine (R476 to R479): an event of it changes its own
registers there, and nothing else. -/

namespace Sys2Proof.Machine

theorem Chip.onlyRegs_refl (c : Chip) (as : List Nat) : Chip.onlyRegs c c as := ⟨rfl, fun _ _ => rfl⟩

/-- A fold whose steps change registers of `as` alone does so as a whole. -/
theorem Chip.onlyRegs_foldl {α : Type} {g : Chip → α → Chip} {as : List Nat} {l : List α}
    (h : ∀ c, ∀ x ∈ l, Chip.onlyRegs c (g c x) as) (c : Chip) : Chip.onlyRegs c (l.foldl g c) as := by
  induction l generalizing c with
  | nil => exact Chip.onlyRegs_refl c as
  | cons x l ih =>
    obtain ⟨hx, hl⟩ := List.forall_mem_cons.mp fun y hy c => h c y hy
    exact (hx c).trans (ih (fun c y hy => hl y hy c) _)

/-- The registers of engine `e` that an event of it can change: PC_FILT, and C0 to C5, of two words each. -/
def pcWords (e : Nat) : List Nat := R.HLT_PC_FILT e :: (List.range 12).map fun i => R.HLT_PC_CNT e 0 + 4 * i

theorem not_mem_pcWords {a : Nat} (e : Nat) (h : a < 0x50000) : a ∉ pcWords e := by
  simp only [pcWords, R.HLT_PC_FILT, R.HLT_PC_CNT, List.mem_cons, List.mem_map, List.mem_range, not_or, not_exists, not_and]
  exact ⟨by omega, fun i _ => by omega⟩

theorem pcCnt_mem_pcWords (e : Nat) {j : Nat} (hj : j < 6) : [R.HLT_PC_CNT e j, R.HLT_PC_CNT e j + 4] ⊆ pcWords e := by
  simp only [pcWords, R.HLT_PC_CNT, List.cons_subset, List.nil_subset, and_true, List.mem_cons, List.mem_map, List.mem_range]
  exact ⟨.inr ⟨2 * j, by omega, by omega⟩, .inr ⟨2 * j + 1, by omega, by omega⟩⟩

theorem Chip.onlyRegs_pcCount (c : Chip) (e v : Nat) {j : Nat} (hj : j < 6) :
    Chip.onlyRegs c (c.setNum (R.HLT_PC_CNT e j) 2 v) (pcWords e) :=
  (Chip.onlyRegs_setNum c _ v).mono (pcCnt_mem_pcWords e hj)

theorem Chip.onlyRegs_pcAdd (c : Chip) (e n : Nat) {j : Nat} (hj : j < 6) : Chip.onlyRegs c (c.pcAdd e j n) (pcWords e) := by
  unfold Chip.pcAdd
  dsimp only
  split_ifs
  · exact (Chip.onlyRegs_pcCount c e _ (by omega)).trans (Chip.onlyRegs_pcCount _ e _ (by omega))
  · exact (Chip.onlyRegs_pcCount c e _ hj).trans ((Chip.onlyRegs_wr _ (F.HLT_PC_FILT_overflow e) _).mono (by simp [pcWords, F.HLT_PC_FILT_overflow]))
  · exact Chip.onlyRegs_pcCount c e _ hj

theorem Chip.onlyRegs_pcEvent (c : Chip) (e ev n : Nat) (pd : Option Nat) : Chip.onlyRegs c (c.pcEvent e ev n pd) (pcWords e) := by
  unfold Chip.pcEvent
  dsimp only
  split_ifs
  · exact Chip.onlyRegs_refl c _
  · exact Chip.onlyRegs_refl c _
  · refine Chip.onlyRegs_foldl (fun c j hj => ?_) c
    split
    · exact Chip.onlyRegs_pcAdd c e n (List.mem_range.mp hj)
    · exact Chip.onlyRegs_refl c _

theorem Chip.onlyRegs_pcFrame (c : Chip) (e pd : Nat) (r : Run) (kept : Bool) : Chip.onlyRegs c (c.pcFrame e pd r kept) (pcWords e) := by
  have htold := ((Chip.onlyRegs_pcEvent c e 1 r.cycles none).trans (Chip.onlyRegs_pcEvent _ e 7 r.lookups (some pd))).trans
    (Chip.onlyRegs_pcEvent _ e 8 r.branches (some pd))
  unfold Chip.pcFrame
  dsimp only
  split
  · exact ((htold.trans (Chip.onlyRegs_pcEvent _ _ _ _ _)).trans (Chip.onlyRegs_pcEvent _ _ _ _ _)).trans (Chip.onlyRegs_pcEvent _ _ _ _ _)
  · exact htold.trans (Chip.onlyRegs_pcEvent _ _ _ _ _)

end Sys2Proof.Machine
end

section
/-! PROOFS of the family of the Sorrel engines, the flights of a cluster and the engines that take them (R119, R120, R125, R145, R146). -/

namespace Sys2Proof.Machine

/-! ## Registers of the engines and clusters -/

theorem engStatus_ne {e g : Nat} (h : g ≠ e) : R.FLW_ENG_STATUS g ≠ R.FLW_ENG_STATUS e := by
  simp only [R.FLW_ENG_STATUS]
  omega

theorem clStatus_ne_engStatus {cl : Nat} (e : Nat) (h : cl < 16) : R.FLW_CL_STATUS cl ≠ R.FLW_ENG_STATUS e := by
  simp only [R.FLW_CL_STATUS, R.FLW_ENG_STATUS]
  omega

theorem clEcc_ne_engStatus {cl : Nat} (e : Nat) (h : cl < 16) : R.FLW_CL_ECC cl ≠ R.FLW_ENG_STATUS e := by
  simp only [R.FLW_CL_ECC, R.FLW_ENG_STATUS]
  omega

theorem Chip.engState_of_word {c d : Chip} {e : Nat} (h : d.word (R.FLW_ENG_STATUS e) = c.word (R.FLW_ENG_STATUS e)) :
    d.engState e = c.engState e := Chip.rd_of_word h

/-- A field written with the value it holds leaves its word as it is. -/
theorem Fld.put_get (f : Fld) (h : f.inWord = true) (x : W32) : f.put x (f.get x) = x := by
  apply BitVec.eq_of_toNat_eq
  apply Nat.eq_of_testBit_eq
  intro i
  rw [Fld.testBit_put f h]
  split
  · next hi => rw [Fld.testBit_get, decide_eq_true (by omega), Bool.true_and, Nat.add_sub_cancel' hi.1]
  · rfl

theorem Chip.word_wr_rd (c : Chip) (f : Fld) (h : f.inWord = true) (a : Nat) : (c.wr f (c.rd f)).word a = c.word a := by
  rw [Chip.word_wr]
  split
  · next ha => rw [ha, Chip.rd, Fld.put_get f h]
  · rfl

/-! ## Flights -/

@[simp] theorem Chip.flights_setFlights_same (c : Chip) (k : Nat) (l : List Flight) : (c.setFlights k l).flights k = l :=
  Sparse.get_set_same _ _ _ _

theorem Chip.flights_setFlights_other (c : Chip) {k j : Nat} (l : List Flight) (h : j ≠ k) : (c.setFlights k l).flights j = c.flights j :=
  Sparse.get_set_other _ _ _ _ _ h

/-- No frame of a cluster waits for its re-execution when none of its flights that has no engine was dispatched before. -/
theorem Chip.awaitsAgain_eq_none {c : Chip} {cl : Nat} :
    c.awaitsAgain cl = none ↔ ∀ i < 12, ∀ x ∈ c.flights (12 * cl + i), x.idle = true → x.gen = 0 := by
  simp [Chip.awaitsAgain, flightIx, List.findSome?_eq_none_iff, List.findIdx?_eq_none_iff]

theorem Chip.runAgain_of_none {c : Chip} {cl : Nat} (h : c.awaitsAgain cl = none) : c.runAgain cl = c := by
  simp only [Chip.runAgain, h]

/-- The flights of a port and direction are of its cluster. -/
theorem flightKey_eq {p dir : Nat} (hdir : dir < 2) : ∃ i < 12, 2 * p + dir = 12 * clusterOf p + i :=
  ⟨2 * (p % 6) + dir, by omega, by simp only [clusterOf]; omega⟩

theorem Chip.awaitsAgain_of_flights {c d : Chip} {cl : Nat} (h : c.awaitsAgain cl = none)
    (hsub : ∀ k, ∀ x ∈ d.flights k, x ∈ c.flights k) : d.awaitsAgain cl = none := by
  rw [Chip.awaitsAgain_eq_none] at h ⊢
  exact fun i hi x hx => h i hi x (hsub _ x hx)

/-! ## Engines that can take a frame -/

theorem Chip.engineAt_lt (c : Chip) {cl li : Nat} (hcl : cl < 16) (hli : li < 12) : c.engineAt cl li < 208 := by
  unfold Chip.engineAt
  split <;> omega

theorem Chip.pickEngine_lt {c : Chip} {p dir e : Nat} (hp : p < 96) (h : c.pickEngine p dir = some e) : e < 208 := by
  have hcl : clusterOf p < 16 := by simp only [clusterOf]; omega
  have hmem : ∃ li < 12, c.engineAt (clusterOf p) li = e := by
    simp only [Chip.pickEngine] at h
    split at h
    · next hhome =>
      rw [List.contains_iff_mem, List.mem_filter, List.mem_range] at hhome
      exact ⟨portDir p dir, hhome.1, Option.some.inj h⟩
    · obtain ⟨li, hli, rfl⟩ := Option.map_eq_some_iff.mp h
      have hmem := List.mem_of_head? hli
      rw [List.mem_filter, List.mem_range] at hmem
      exact ⟨li, hmem.1, rfl⟩
  obtain ⟨li, hli, rfl⟩ := hmem
  exact c.engineAt_lt hcl hli

theorem Chip.not_engFree_of_fenced {c : Chip} {e : Nat} (h : c.engState e = engFenced) : c.engFree e = false := by
  simp [Chip.engFree, h, engFenced, engIdle, engRunning]

/-- A frame that waits for its re-execution goes to an engine of its cluster that is free, if there is one (R146). -/
theorem Chip.runAgain_cases (c : Chip) {cl : Nat} (hcl : cl < 16) :
    c.runAgain cl = c ∨ ∃ k j e, e < 208 ∧ c.engFree e = true ∧ c.runAgain cl = c.startOn k j e true .clean := by
  unfold Chip.runAgain
  split
  · exact .inl rfl
  · next k j _ =>
    split
    · exact .inl rfl
    · next e hfind =>
      have hmem := List.mem_of_find?_eq_some hfind
      simp only [List.mem_map, List.mem_range] at hmem
      obtain ⟨li, hli, rfl⟩ := hmem
      exact .inr ⟨k, j, _, c.engineAt_lt hcl hli, List.find?_some hfind, rfl⟩

/-! ## A program starts on an engine -/

/-- The flight at place `j` of key `k` as engine `e` takes it up: with its generation, and what the dispatcher preloads into g1. -/
def Chip.takenUp (c : Chip) (k j e : Nat) (ended : Bool) : Flight :=
  let x := (c.flights k).getD j {}
  { x with
    gen := if x.gen != 0 then x.gen else (Sparse.get {} c.data.clusters (clusterOf (k / 2))).gen + 1
    engine := some e
    ended := if x.gen != 0 then x.ended else ended || k % 2 == 1 }

/-- The run of a flight of key `k`, whose fetches meet `ecc` (R144). -/
def Chip.runOf (c : Chip) (k : Nat) (x : Flight) (ecc : Ecc) : Run :=
  let r := c.runFlight (k / 2) (k % 2) x x.ended
  if (eccFound ecc).2.isSome then c.fetchLost k x r else r

/-- The flight with its run beside it. -/
def Chip.inEngine (c : Chip) (k j e : Nat) (ended : Bool) (ecc : Ecc) : Flight :=
  let x := c.takenUp k j e ended
  let r := c.runOf k x ecc
  { x with run := some r, counted := x.counted || r.bad, due := c.cycle + r.cycles - 1 }

/-- What fetches met is counted (R144). -/
def Chip.fetchesCounted (c : Chip) (cl : Nat) (ecc : Ecc) : Chip :=
  let c := c.wr (F.FLW_CL_ECC_corrected cl) (c.rd (F.FLW_CL_ECC_corrected cl) + (eccFound ecc).1)
  c.wr (F.FLW_CL_ECC_uncorrectable cl) (c.rd (F.FLW_CL_ECC_uncorrectable cl) + b2n (eccFound ecc).2.isSome)

/-- Engine `e` is shown at work for a port and direction. -/
def Chip.shownRunning (c : Chip) (e pd : Nat) : Chip := (c.wr (F.FLW_ENG_STATUS_state e) engRunning).wr (F.FLW_ENG_STATUS_port_dir e) pd

/-- What the start of a program on engine `e` counts: a place that is not its port's, a re-execution, and a bad action not counted yet. -/
def Chip.startCounted (c : Chip) (k e : Nat) (again bad : Bool) : Chip :=
  let pd := portDir (k / 2) (k % 2)
  let c := c.pcEvent e 12 (b2n (c.placeOf e != pd)) (some pd)
  let c := c.pcEvent e 11 (b2n again) (some pd)
  if bad then (c.bump (R.FLW_BAD_ACTION k)).pcEvent e 10 1 (some pd) else c

theorem Chip.onlyRegs_startCounted (c : Chip) (k e : Nat) (again bad : Bool) :
    Chip.onlyRegs c (c.startCounted k e again bad) (R.FLW_BAD_ACTION k :: pcWords e) := by
  have hevent (c : Chip) (ev n : Nat) (pd : Option Nat) := (Chip.onlyRegs_pcEvent c e ev n pd).mono (List.subset_cons_self (R.FLW_BAD_ACTION k) _)
  have hbump (c : Chip) := (Chip.onlyRegs_bump c (R.FLW_BAD_ACTION k)).mono (bs := R.FLW_BAD_ACTION k :: pcWords e) (by simp)
  unfold Chip.startCounted
  dsimp only
  split
  · exact (((hevent _ _ _ _).trans (hevent _ _ _ _)).trans (hbump _)).trans (hevent _ _ _ _)
  · exact (hevent _ _ _ _).trans (hevent _ _ _ _)

/-- The registers after a start of place `j` of key `k` on engine `e`. -/
def Chip.startShown (c : Chip) (k j e : Nat) (ended : Bool) (ecc : Ecc) : Chip :=
  let x := c.takenUp k j e ended
  ((c.fetchesCounted (k / 12) ecc).shownRunning e (portDir (k / 2) (k % 2))).startCounted k e (((c.flights k).getD j {}).gen != 0)
    ((c.runOf k x ecc).bad && !x.counted)

section
variable (c : Chip) (k j e : Nat) (ended : Bool) (ecc : Ecc)

theorem Chip.startOn_eq :
    c.startOn k j e ended ecc = (c.startShown k j e ended ecc).setFlights k ((c.flights k).set j (c.inEngine k j e ended ecc)) := by
  have hcycle : (c.startShown k j e ended ecc).cycle = c.cycle := (congrArg Chip.cycle (Chip.onlyRegs_startCounted _ k e _ _).1 :)
  rw [Chip.inEngine, ← hcycle]
  rfl

theorem Chip.startOn_data : (c.startOn k j e ended ecc).data =
    { c.data with flights := Sparse.set [] c.data.flights k ((c.flights k).set j (c.inEngine k j e ended ecc)) } := by
  have hdata : (c.startShown k j e ended ecc).data = c.data := (Chip.onlyRegs_startCounted _ k e _ _).data
  rw [Chip.startOn_eq, Chip.setFlights, hdata]

theorem Chip.startOn_flights :
    (c.startOn k j e ended ecc).flights k = (c.flights k).set j (c.inEngine k j e ended ecc) := by
  rw [Chip.startOn_eq, Chip.flights_setFlights_same]

@[simp] theorem Chip.startOn_power : (c.startOn k j e ended ecc).power = c.power := by
  rw [Chip.startOn_eq]
  exact (Chip.onlyRegs_startCounted _ k e _ _).power

@[simp] theorem Chip.startOn_out : (c.startOn k j e ended ecc).out = c.out := by
  rw [Chip.startOn_eq]
  exact (congrArg Chip.out (Chip.onlyRegs_startCounted _ k e _ _).1 :)

/-- Below the registers of ports and directions a start shows the engine and the fetches. -/
theorem Chip.startOn_word {a : Nat} (ha : a < 0x34000) :
    (c.startOn k j e ended ecc).word a = ((c.fetchesCounted (k / 12) ecc).shownRunning e (portDir (k / 2) (k % 2))).word a := by
  rw [Chip.startOn_eq]
  refine (Chip.onlyRegs_startCounted _ k e _ _).2 a ?_
  rw [List.mem_cons, not_or]
  exact ⟨by simp only [R.FLW_BAD_ACTION]; omega, not_mem_pcWords e (by omega)⟩

end

theorem Chip.shownRunning_engState (c : Chip) (e pd : Nat) : (c.shownRunning e pd).engState e = engRunning := by
  rw [Chip.shownRunning, Chip.engState, Chip.rd_wr_clears _ _ _ _ rfl rfl, Chip.rd_wr_same _ _ _ rfl]
  rfl

theorem Chip.shownRunning_word (c : Chip) {e a : Nat} (pd : Nat) (h : a ≠ R.FLW_ENG_STATUS e) : (c.shownRunning e pd).word a = c.word a := by
  rw [Chip.shownRunning, Chip.word_wr_other _ _ _ _ h, Chip.word_wr_other _ _ _ _ h]

theorem Chip.fetchesCounted_word (c : Chip) {cl a : Nat} (ecc : Ecc) (h : a ≠ R.FLW_CL_ECC cl) :
    (c.fetchesCounted cl ecc).word a = c.word a := by
  unfold Chip.fetchesCounted
  rw [Chip.word_wr_other _ _ _ _ h, Chip.word_wr_other _ _ _ _ h]

/-- Fetches without errors change no register. -/
theorem Chip.fetchesCounted_clean (c : Chip) (cl a : Nat) : (c.fetchesCounted cl .clean).word a = c.word a :=
  (Chip.word_wr_rd _ (F.FLW_CL_ECC_uncorrectable cl) rfl a).trans (Chip.word_wr_rd c (F.FLW_CL_ECC_corrected cl) rfl a)

theorem Chip.fetchesCounted_counts (c : Chip) (cl : Nat) (ecc : Ecc) :
    (c.fetchesCounted cl ecc).rd (F.FLW_CL_ECC_corrected cl) = (c.rd (F.FLW_CL_ECC_corrected cl) + (eccFound ecc).1) % 65536 ∧
      (c.fetchesCounted cl ecc).rd (F.FLW_CL_ECC_uncorrectable cl) =
        (c.rd (F.FLW_CL_ECC_uncorrectable cl) + b2n (eccFound ecc).2.isSome) % 65536 := by
  unfold Chip.fetchesCounted
  constructor
  · rw [Chip.rd_wr_clears _ _ _ _ rfl rfl, Chip.rd_wr_same _ _ _ rfl]
    rfl
  · rw [Chip.rd_wr_same _ _ _ rfl, Chip.rd_wr_clears _ _ _ _ rfl rfl]
    rfl

theorem Chip.startOn_engState (c : Chip) (k j : Nat) {e : Nat} (ended : Bool) (ecc : Ecc) (he : e < 208) :
    (c.startOn k j e ended ecc).engState e = engRunning := by
  rw [Chip.engState_of_word (Chip.startOn_word c k j e ended ecc (by simp only [R.FLW_ENG_STATUS]; omega)), Chip.shownRunning_engState]

end Sys2Proof.Machine
end

section
/-! PROOFS of the family of the Sorrel engines, O33, first part: a frame goes to an engine, and a program overruns (R120, R125, R142, R144). -/

namespace Sys2Proof.Machine

/-! ## Dispatch -/

/-- A flight that waits for its first program has no generation yet, where none of the cluster waits for its re-execution. -/
theorem Chip.gen_eq_zero_of_idle {c : Chip} {p dir j n : Nat} (hagain : c.awaitsAgain (clusterOf p) = none) (hdir : dir < 2)
    (hj : flightIx ((c.flights (2 * p + dir)).take n) Flight.idle = some j) : ((c.flights (2 * p + dir)).getD j {}).gen = 0 := by
  obtain ⟨i, hi, hkey⟩ := flightKey_eq (p := p) hdir
  obtain ⟨hlen, hidle, -⟩ := List.findIdx?_eq_some_iff_getElem.mp hj
  have hlen' : j < (c.flights (2 * p + dir)).length := lt_of_lt_of_le hlen (List.length_take_le' _ _)
  rw [List.getElem_take] at hidle
  rw [List.getD_eq_getElem _ _ hlen']
  refine Chip.awaitsAgain_eq_none.mp hagain i hi _ ?_ hidle
  rw [← hkey]
  exact List.getElem_mem hlen'

theorem Chip.dispatch_eq {c : Chip} {p dir j e : Nat} {ended : Bool} {ecc : Ecc} (hagain : c.awaitsAgain (clusterOf p) = none)
    (hj : flightIx ((c.flights (2 * p + dir)).take 16) Flight.idle = some j) (he : c.pickEngine p dir = some e) :
    c.dispatch p dir ended ecc = c.startOn (2 * p + dir) j e ended ecc := by
  simp only [Chip.dispatch, Chip.runAgain_of_none hagain, hj, he]

/-- A flight taken up for the first time takes the generation of its cluster's program. -/
theorem Chip.takenUp_of_fresh {c : Chip} {k j e : Nat} (ended : Bool) (hgen : ((c.flights k).getD j {}).gen = 0) :
    c.takenUp k j e ended = { (c.flights k).getD j {} with
      gen := (Sparse.get {} c.data.clusters (clusterOf (k / 2))).gen + 1, engine := some e, ended := ended || k % 2 == 1 } := by
  simp only [Chip.takenUp]
  rw [hgen]
  rfl

theorem portDir_lt (p : Nat) {dir : Nat} (hdir : dir < 2) : portDir p dir < 12 := by
  simp only [portDir]
  omega

/-- What the registers show once a program has started on an engine. -/
theorem Chip.startOn_shows (c : Chip) {k j e : Nat} (ended : Bool) (ecc : Ecc) (hk : k < 192) (he : e < 208) :
    let d := c.startOn k j e ended ecc
    d.engState e = engRunning ∧ d.rd (F.FLW_ENG_STATUS_port_dir e) = portDir (k / 2) (k % 2) ∧
      d.rd (F.FLW_CL_ECC_corrected (k / 12)) = (c.rd (F.FLW_CL_ECC_corrected (k / 12)) + (eccFound ecc).1) % 65536 ∧
      d.rd (F.FLW_CL_ECC_uncorrectable (k / 12)) =
        (c.rd (F.FLW_CL_ECC_uncorrectable (k / 12)) + b2n (eccFound ecc).2.isSome) % 65536 ∧
      ∀ g, g < 208 → g ≠ e → d.engState g = c.engState g := by
  have heng (g : Nat) (hg : g < 208) : R.FLW_ENG_STATUS g < 0x34000 := by simp only [R.FLW_ENG_STATUS]; omega
  have hcl : k / 12 < 16 := by omega
  have hecc : R.FLW_CL_ECC (k / 12) < 0x34000 := by simp only [R.FLW_CL_ECC]; omega
  have hword {a : Nat} (ha : a < 0x34000) := Chip.startOn_word c k j e ended ecc ha
  have hcounts (f : Fld) (hf : f.reg = R.FLW_CL_ECC (k / 12)) :
      (c.startOn k j e ended ecc).rd f = (c.fetchesCounted (k / 12) ecc).rd f := by
    refine Chip.rd_of_word ?_
    rw [hf, hword hecc, Chip.shownRunning_word _ _ (clEcc_ne_engStatus e hcl)]
  obtain ⟨hfixed, hlost⟩ := Chip.fetchesCounted_counts c (k / 12) ecc
  refine ⟨Chip.startOn_engState c k j ended ecc he, ?_, (hcounts _ rfl).trans hfixed, (hcounts _ rfl).trans hlost, fun g hg hge => ?_⟩
  · have hpd := portDir_lt (k / 2) (Nat.mod_lt k (by decide : 0 < 2))
    rw [Chip.rd_of_word (f := F.FLW_ENG_STATUS_port_dir e) (hword (heng e he)), Chip.shownRunning, Chip.rd_wr_same _ _ _ rfl]
    exact Nat.mod_eq_of_lt (by simp only [F.FLW_ENG_STATUS_port_dir]; omega)
  · refine Chip.engState_of_word ?_
    rw [hword (heng g hg), Chip.shownRunning_word _ _ (engStatus_ne hge), Chip.fetchesCounted_word _ _ (clEcc_ne_engStatus g hcl).symm]

/-- The first clause of the rule: a frame goes to its engine. -/
theorem goes_sorrelDispatch {s : State} {p dir j e : Nat} (ended : Bool) (ecc : Ecc) (hp : p < 96) (hdir : dir < 2)
    (hrun : s.chip.running = true) (hagain : s.chip.awaitsAgain (clusterOf p) = none)
    (hj : flightIx ((s.chip.flights (2 * p + dir)).take 16) Flight.idle = some j) (he : s.chip.pickEngine p dir = some e) :
    Goes (.sorrelDispatch p dir ⟨ended, ecc⟩) s fun c =>
      let y := (s.chip.flights (2 * p + dir)).getD j {}
      let x : Flight := { y with gen := (Sparse.get {} s.chip.data.clusters (clusterOf p)).gen + 1, engine := some e, ended := ended || dir == 1 }
      let r0 := s.chip.runFlight p dir x x.ended
      let r := if (eccFound ecc).2.isSome then s.chip.fetchLost (2 * p + dir) x r0 else r0
      c.engState e = engRunning ∧ c.rd (F.FLW_ENG_STATUS_port_dir e) = portDir p dir ∧
        c.flights (2 * p + dir) = (s.chip.flights (2 * p + dir)).set j
          { x with run := some r, counted := x.counted || r.bad, due := s.chip.cycle + r.cycles - 1 } ∧
        c.rd (F.FLW_CL_ECC_corrected (clusterOf p)) = (s.chip.rd (F.FLW_CL_ECC_corrected (clusterOf p)) + (eccFound ecc).1) % 65536 ∧
        c.rd (F.FLW_CL_ECC_uncorrectable (clusterOf p)) =
          (s.chip.rd (F.FLW_CL_ECC_uncorrectable (clusterOf p)) + b2n (eccFound ecc).2.isSome) % 65536 ∧
        c.data.frames = s.chip.data.frames ∧ ∀ g, g < 208 → g ≠ e → c.engState g = s.chip.engState g := by
  have hport : (2 * p + dir) / 2 = p := by omega
  have hside : (2 * p + dir) % 2 = dir := by omega
  have hcluster : (2 * p + dir) / 12 = clusterOf p := by simp only [clusterOf]; omega
  have hd := Chip.dispatch_eq (ended := ended) (ecc := ecc) hagain hj he
  have hx := Chip.takenUp_of_fresh (e := e) ended (Chip.gen_eq_zero_of_idle hagain hdir hj)
  have hflights := Chip.startOn_flights s.chip (2 * p + dir) j e ended ecc
  obtain ⟨hstate, hpd, hfixed, hlost, hothers⟩ := Chip.startOn_shows s.chip (k := 2 * p + dir) (j := j) ended ecc (by omega) (Chip.pickEngine_lt hp he)
  rw [Chip.inEngine, Chip.runOf, hx, hport, hside] at hflights
  rw [hport, hside] at hpd
  rw [hcluster] at hfixed hlost
  refine goes_guarded (guard := Chip.running) (f := fun c => c.dispatch p dir ended ecc) rfl (by simp [hp, hdir]) (Chip.power_of_running hrun)
    hrun ?_ ?_ <;> rw [hd]
  · exact Chip.startOn_power _ _ _ _ _ _
  · exact ⟨hstate, hpd, hflights, hfixed, hlost, by rw [Chip.startOn_data], hothers⟩

/-! ## Overrun -/

/-- The overrun of a flight of a port and direction is counted once for its frame. -/
def Chip.overrunCounted (c : Chip) (p dir : Nat) (x : Flight) : Chip :=
  if x.counted then c
  else (c.bump (R.FLW_OVERRUN (2 * p + dir))).pcEvent (x.engine.getD 0) 9 1 (some (portDir p dir))

theorem Chip.onlyRegs_overrunCounted (c : Chip) (p dir : Nat) (x : Flight) :
    Chip.onlyRegs c (c.overrunCounted p dir x) (R.FLW_OVERRUN (2 * p + dir) :: pcWords (x.engine.getD 0)) := by
  unfold Chip.overrunCounted
  split
  · exact Chip.onlyRegs_refl c _
  · exact ((Chip.onlyRegs_bump c _).mono (by simp)).trans ((Chip.onlyRegs_pcEvent _ _ _ _ _).mono (List.subset_cons_self _ _))

theorem Chip.overrunCounted_word (c : Chip) {p dir : Nat} (x : Flight) (hp : p < 96) (hdir : dir < 2) :
    (c.overrunCounted p dir x).word (R.FLW_OVERRUN (2 * p + dir)) = c.word (R.FLW_OVERRUN (2 * p + dir)) + (if x.counted then 0 else 1) := by
  unfold Chip.overrunCounted
  split
  · exact (BitVec.add_zero _).symm
  · rw [(Chip.onlyRegs_pcEvent _ _ _ _ _).2 _ (not_mem_pcWords _ (by simp only [R.FLW_OVERRUN]; omega)), Chip.word_bump_same]

/-- A flight whose overrun is known: it takes the default action `d`. -/
def Flight.overrunTaken (x : Flight) (d : Bytes) : Flight :=
  { x with counted := true, run := x.run.map (fun r => { defaultRun d r with overran := false, dflt := true }) }

theorem Flight.overrunTaken_run {x : Flight} (d : Bytes) (h : (x.run.map (·.overran)).getD false = true) :
    (x.overrunTaken d).run.map (fun r => (r.overran, r.dflt)) = some (false, true) := by
  cases hr : x.run with
  | none => simp [hr] at h
  | some r => simp [Flight.overrunTaken, hr]

/-- The overrun of the flight at place `j` of a port and direction is counted, and the frame takes the default action. -/
def Chip.overrun (c : Chip) (p dir j : Nat) : Chip :=
  let x := (c.flights (2 * p + dir)).getD j {}
  (c.overrunCounted p dir x).setFlights (2 * p + dir)
    ((c.flights (2 * p + dir)).set j (x.overrunTaken (progPort (c.flightProgram (clusterOf p) x.gen) p dir)))

/-- The second clause of the rule: a program overruns. -/
theorem goes_programOverrun {s : State} {p dir j : Nat} (hp : p < 96) (hdir : dir < 2) (hpow : s.chip.power = true)
    (hj : flightIx (s.chip.flights (2 * p + dir)) (fun x => (x.run.map (·.overran)).getD false) = some j) :
    Goes (.programOverrun p dir) s fun c =>
      c.word (R.FLW_OVERRUN (2 * p + dir)) = s.chip.word (R.FLW_OVERRUN (2 * p + dir)) +
          (if ((s.chip.flights (2 * p + dir)).getD j {}).counted then 0 else 1) ∧
        ((c.flights (2 * p + dir)).getD j {}).run.map (fun r => (r.overran, r.dflt)) = some (false, true) ∧
        ∀ i, i ≠ j → (c.flights (2 * p + dir))[i]? = (s.chip.flights (2 * p + dir))[i]? := by
  obtain ⟨hlen, hover, -⟩ := List.findIdx?_eq_some_iff_getElem.mp hj
  have hcounted := Chip.onlyRegs_overrunCounted s.chip p dir ((s.chip.flights (2 * p + dir)).getD j {})
  have hx : ((s.chip.flights (2 * p + dir)).getD j {}) = (s.chip.flights (2 * p + dir))[j] := List.getD_eq_getElem _ _ hlen
  refine goes_actOn_of_eq (d := s.chip.overrun p dir j) rfl (by simp [hp, hdir]) hpow (by simp only [hj]; rfl) hcounted.power
    ⟨Chip.overrunCounted_word _ _ hp hdir, ?_, fun i hi => ?_⟩ <;> rw [Chip.overrun, Chip.flights_setFlights_same]
  · rw [List.getD_eq_getElem _ _ (by rwa [List.length_set]), List.getElem_set_self]
    exact Flight.overrunTaken_run _ (by rw [hx]; exact hover)
  · rw [List.getElem?_set_ne (Ne.symm hi)]

end Sys2Proof.Machine
end

section
/-! PROOFS of the family of the Sorrel engines, O33, second part: the result of a program takes effect (R121, R122, R136 to R140). -/

namespace Sys2Proof.Machine

/-! ## What a result counts, and the engine that it leaves -/

theorem Chip.engRest_word (c : Chip) {e a : Nat} (h : a ≠ R.FLW_ENG_STATUS e) : (c.engRest e).word a = c.word a := by
  unfold Chip.engRest
  split
  · exact Chip.word_wr_other _ _ _ _ h
  · rfl

@[simp] theorem Chip.engRest_data (c : Chip) (e : Nat) : (c.engRest e).data = c.data := by
  unfold Chip.engRest
  split <;> rfl

@[simp] theorem Chip.engRest_power (c : Chip) (e : Nat) : (c.engRest e).power = c.power := by
  unfold Chip.engRest
  split <;> rfl

/-- A running engine without other work is idle. -/
theorem Chip.engRest_engState {c : Chip} {e : Nat} (hrunning : c.engState e = engRunning) (hwork : c.workOf e = none) :
    (c.engRest e).engState e = engIdle := by
  rw [Chip.engRest, if_pos (by simp [hrunning, hwork]), Chip.engState, Chip.rd_wr_same _ _ _ rfl]
  rfl

/-- The registers of its port and direction, and of its engine, that a result counts in. -/
def resultWords (k e : Nat) : List Nat := R.FLW_PD_FRAMES k :: (R.FLW_PD_FRAMES k + 4) :: R.FLW_PD_HWM k :: pcWords e

/-- A result is counted in the registers of its port and direction, and of its engine. -/
def Chip.resultShown (c : Chip) (p dir e : Nat) (r : Run) : Chip :=
  let pd := portDir p dir
  let c := c.pcFrame e pd r (!r.dflt)
  let c := (c.addWide (R.FLW_PD_FRAMES (2 * p + dir)) 2 64 1).pcEvent e 6 (b2n (!r.dflt)) (some pd)
  c.mark (F.FLW_PD_HWM_cycles_max (2 * p + dir)) r.cycles

theorem Chip.onlyRegs_resultShown (c : Chip) (p dir e : Nat) (r : Run) :
    Chip.onlyRegs c (c.resultShown p dir e r) (resultWords (2 * p + dir) e) := by
  have hpc : pcWords e ⊆ resultWords (2 * p + dir) e := fun a ha => by simp [resultWords, ha]
  have hframes (d : Chip) := (Chip.onlyRegs_setNum d (R.FLW_PD_FRAMES (2 * p + dir)) ((d.num (R.FLW_PD_FRAMES (2 * p + dir)) 2 + 1) % 2 ^ 64)).mono
    (bs := resultWords (2 * p + dir) e) (by simp [resultWords])
  exact ((((Chip.onlyRegs_pcFrame c e _ r _).mono hpc).trans (hframes _)).trans ((Chip.onlyRegs_pcEvent _ e _ _ _).mono hpc)).trans
    ((Chip.onlyRegs_mark _ _ _).mono (by simp [resultWords, F.FLW_PD_HWM_cycles_max]))

/-- The counters that a program names count the frame, and nothing else changes (R136). -/
theorem Chip.countFrames_eq (cl n : Nat) (l : List Nat) (c : Chip) :
    ∃ y, l.foldl (fun c k => c.countFrame cl k n) c = { c with data := { c.data with counts := y } } := by
  induction l generalizing c with
  | nil => exact ⟨c.data.counts, rfl⟩
  | cons k l ih =>
    obtain ⟨y, hy⟩ := ih (c.countFrame cl k n)
    exact ⟨y, by rw [List.foldl_cons, hy]; rfl⟩

/-- A flight has left its engine and its port and direction, where `xs` stay, and its result is counted. -/
def Chip.resultTold (c : Chip) (p dir e : Nat) (x : Flight) (xs : List Flight) (r : Run) : Chip :=
  let c := ((c.setFlights (2 * p + dir) xs).engRest e).resultShown p dir e r
  let n := (c.flightBytes dir x).length
  r.counts.foldl (fun c k => c.countFrame (clusterOf p) k n) c

section
variable (c : Chip) (p dir e : Nat) (x : Flight) (xs : List Flight) (r : Run)

theorem Chip.resultTold_eq : ∃ y, c.resultTold p dir e x xs r =
    { ((c.setFlights (2 * p + dir) xs).engRest e).resultShown p dir e r with
      data := { (((c.setFlights (2 * p + dir) xs).engRest e).resultShown p dir e r).data with counts := y } } :=
  Chip.countFrames_eq _ _ _ _

theorem Chip.dataAndRegs_resultTold :
    Chip.dataAndRegs ((c.setFlights (2 * p + dir) xs).engRest e) (c.resultTold p dir e x xs r) (resultWords (2 * p + dir) e) := by
  obtain ⟨y, hy⟩ := Chip.resultTold_eq c p dir e x xs r
  rw [hy]
  exact (Chip.onlyRegs_resultShown _ p dir e r).dataAndRegs.trans (Chip.dataAndRegs_data _ _ _)

theorem Chip.resultTold_data :
    ∃ y, (c.resultTold p dir e x xs r).data = { (c.setFlights (2 * p + dir) xs).data with counts := y } := by
  obtain ⟨y, hy⟩ := Chip.resultTold_eq c p dir e x xs r
  have hdata := (Chip.onlyRegs_resultShown ((c.setFlights (2 * p + dir) xs).engRest e) p dir e r).data
  rw [Chip.engRest_data] at hdata
  exact ⟨y, by rw [hy]; simp only [hdata]⟩

theorem Chip.resultTold_flights_same : (c.resultTold p dir e x xs r).flights (2 * p + dir) = xs := by
  obtain ⟨y, hy⟩ := Chip.resultTold_data c p dir e x xs r
  rw [Chip.flights, hy]
  exact Chip.flights_setFlights_same _ _ _

theorem Chip.resultTold_flights_other {k : Nat} (hk : k ≠ 2 * p + dir) : (c.resultTold p dir e x xs r).flights k = c.flights k := by
  obtain ⟨y, hy⟩ := Chip.resultTold_data c p dir e x xs r
  rw [Chip.flights, hy]
  exact Chip.flights_setFlights_other _ _ hk

theorem Chip.resultTold_frame (m : Nat) : (c.resultTold p dir e x xs r).frame m = c.frame m := by
  obtain ⟨y, hy⟩ := Chip.resultTold_data c p dir e x xs r
  rw [Chip.frame, hy]
  rfl

theorem Chip.resultTold_power : (c.resultTold p dir e x xs r).power = c.power :=
  (Chip.dataAndRegs_resultTold c p dir e x xs r).power.trans (Chip.engRest_power _ e)

end

/-- The registers of engines and clusters, and all below them, are none that a result counts in. -/
theorem not_mem_resultWords {a k : Nat} (e : Nat) (hk : k < 192) (ha : a < 0x34000) : a ∉ resultWords k e := by
  simp only [resultWords, List.mem_cons, not_or, R.FLW_PD_FRAMES, R.FLW_PD_HWM]
  exact ⟨by omega, by omega, by omega, not_mem_pcWords e (by omega)⟩

/-! ## What follows a result -/

/-- Nothing but the programs that are kept for frames under way, and the bundles shown, changes as old programs are freed (R149). -/
theorem Chip.dataAndRegs_freePrior (c : Chip) (cl : Nat) : Chip.dataAndRegs c (c.freePrior cl) [R.FLW_CL_STATUS cl] := by
  unfold Chip.freePrior
  dsimp only
  split
  · exact Chip.dataAndRegs_data c c.data _
  · exact (Chip.dataAndRegs_data c _ _).trans (Chip.onlyRegs_wr _ (F.FLW_CL_STATUS_bundles cl) _).dataAndRegs

theorem Chip.freePrior_data (c : Chip) (cl : Nat) : ∃ y, (c.freePrior cl).data = { c.data with clusters := y } := by
  unfold Chip.freePrior
  dsimp only
  split
  · exact ⟨c.data.clusters, rfl⟩
  · exact ⟨_, rfl⟩

theorem Chip.freePrior_flights (c : Chip) (cl k : Nat) : (c.freePrior cl).flights k = c.flights k := by
  obtain ⟨y, hy⟩ := c.freePrior_data cl
  rw [Chip.flights, hy, Chip.flights]

theorem Chip.freePrior_frames (c : Chip) (cl : Nat) : (c.freePrior cl).data.frames = c.data.frames := by
  obtain ⟨y, hy⟩ := c.freePrior_data cl
  rw [hy]

/-- No record waits in the receive container buffer of a port. -/
theorem Chip.feed_of_empty {c : Chip} {p : Nat} (h : Sparse.get [] c.data.inbox p = []) :
    c.feed p = { c with data := { c.data with inbox := Sparse.set [] c.data.inbox p [] } } := by
  simp only [Chip.feed, h, Chip.feedFrom]

/-- Without egress flights of its port none goes on to the commit stage. -/
theorem Chip.settleEgress_of_empty {c : Chip} {p : Nat} (h : c.flights (2 * p + 1) = []) : c.settleEgress p = c := by
  simp only [Chip.settleEgress, h, drainMgmt, if_true]

/-- Where no frame of its cluster waits for its re-execution, a result that takes flights away makes none wait. -/
theorem Chip.runAgain_of_result {c d : Chip} {p dir : Nat} {xs : List Flight} (hagain : c.awaitsAgain (clusterOf p) = none)
    (hsub : ∀ y ∈ xs, y ∈ c.flights (2 * p + dir)) (hsame : d.flights (2 * p + dir) = xs)
    (hother : ∀ k, k ≠ 2 * p + dir → d.flights k = c.flights k) : d.runAgain (clusterOf p) = d := by
  refine Chip.runAgain_of_none (Chip.awaitsAgain_of_flights hagain fun k y hy => ?_)
  by_cases hk : k = 2 * p + dir
  · subst hk
    rw [hsame] at hy
    exact hsub y hy
  · rwa [hother k hk] at hy

/-- A result is given by the first flight of its port and direction. -/
theorem goes_sorrelResult {s : State} {p dir : Nat} {d : Chip} {P : Chip → Prop} (hp : p < 96) (hdir : dir < 2) (hrun : s.chip.running = true)
    (hd : s.chip.sorrelResult p dir = d) (hpow : d.power = s.chip.power) (h : P d) : Goes (.sorrelResult p dir) s P := by
  subst hd
  exact goes_guarded (guard := Chip.running) (f := fun c => c.sorrelResult p dir) rfl (by simp [hp, hdir]) (Chip.power_of_running hrun) hrun hpow h

/-! ## A drop result on ingress -/

/-- The frame of a drop result is counted and freed. -/
def Chip.dropped (c : Chip) (p : Nat) (x : Flight) : Chip := (c.bump (R.FLW_DROP (2 * p))).freeFrame x.frame

/-- What waited for room behind a frame that has been dropped goes on, and old programs are freed. -/
def Chip.dropSettled (c : Chip) (p : Nat) (x : Flight) : Chip := ((c.dropped p x).feed p).freePrior (clusterOf p)

section
variable {c : Chip} {x : Flight} {f : Frame} (hf : c.frame x.frame = some f) (p : Nat)
include hf

theorem Chip.dropped_data : (c.dropped p x).data = (c.unframed x.frame f).data := Chip.freeFrame_data (c := c.bump (R.FLW_DROP (2 * p))) hf

/-- Only its frames, arrival order and programs may differ in the datapath once a frame has been dropped and no record waits. -/
theorem Chip.dropSettled_data (hinbox : Sparse.get [] c.data.inbox p = []) :
    (c.dropSettled p x).data.flights = c.data.flights ∧ (c.dropSettled p x).data.frames = (c.unframed x.frame f).data.frames := by
  obtain ⟨y, hy⟩ := ((c.dropped p x).feed p).freePrior_data (clusterOf p)
  have hfeed := Chip.feed_of_empty (c := c.dropped p x) (p := p) (by rw [Chip.dropped_data hf]; exact hinbox)
  rw [Chip.dropSettled, hy, hfeed]
  simp only [Chip.dropped_data hf]
  exact ⟨rfl, trivial⟩

theorem Chip.dropSettled_frame_same (hinbox : Sparse.get [] c.data.inbox p = []) (hwait : f.waitIcv = false) :
    (c.dropSettled p x).frame x.frame = none := by
  have hremnant : f.remnant = none := by simp [Frame.remnant, hwait]
  rw [Chip.frame, (Chip.dropSettled_data hf p hinbox).2, Chip.unframed, hremnant]
  exact Sparse.get_set_same none none _ _

theorem Chip.dropSettled_frame_other (hinbox : Sparse.get [] c.data.inbox p = []) {m : Nat} (hm : m ≠ x.frame) :
    (c.dropSettled p x).frame m = c.frame m := by
  rw [Chip.frame, (Chip.dropSettled_data hf p hinbox).2]
  exact Sparse.get_set_other none f.remnant _ _ _ hm

end

theorem Chip.dataAndRegs_dropSettled {c : Chip} (x : Flight) {p : Nat} (hinbox : Sparse.get [] (c.dropped p x).data.inbox p = []) :
    Chip.dataAndRegs (c.bump (R.FLW_DROP (2 * p))) (c.dropSettled p x) (R.FLW_CL_STATUS (clusterOf p) :: poolWords) := by
  rw [Chip.dropSettled, Chip.feed_of_empty hinbox]
  exact ((Chip.dataAndRegs_freeFrame _ _).mono (List.subset_cons_self _ _)).trans
    ((Chip.dataAndRegs_data _ _ _).trans ((Chip.dataAndRegs_freePrior _ _).mono (by simp)))

theorem Chip.sorrelResult_drop {c : Chip} {p e : Nat} {x : Flight} {xs : List Flight} {r : Run} {f : Frame} (hfl : c.flights (2 * p) = x :: xs)
    (hr : x.run = some r) (heng : x.engine = some e) (hover : r.overran = false) (hdrop : r.terminal = some .drop)
    (hf : c.frame x.frame = some f) :
    c.sorrelResult p 0 = ((c.resultTold p 0 e x xs r).dropSettled p x).runAgain (clusterOf p) := by
  have hresult : (c.resultTold p 0 e x xs r).ingressResult p x r .drop = (c.resultTold p 0 e x xs r).dropped p x := by
    simp only [Chip.ingressResult, (Chip.resultTold_frame c p 0 e x xs r _).trans hf]
    rfl
  rw [Chip.dropSettled, ← hresult]
  simp only [Chip.sorrelResult, Nat.add_zero, hfl, hr, heng, hdrop, hover, Bool.false_eq_true, if_false]
  rfl

/-- The third clause of the rule: a program drops a frame of ingress. -/
theorem goes_sorrelResult_drop {s : State} {p e : Nat} {x : Flight} {xs : List Flight} {r : Run} {f : Frame} (hp : p < 96)
    (hrun : s.chip.running = true) (hagain : s.chip.awaitsAgain (clusterOf p) = none) (hfl : s.chip.flights (2 * p) = x :: xs)
    (hr : x.run = some r) (heng : x.engine = some e) (he : e < 208) (hover : r.overran = false) (hdrop : r.terminal = some .drop)
    (hf : s.chip.frame x.frame = some f) (hwait : f.waitIcv = false) (hinbox : Sparse.get [] s.chip.data.inbox p = []) :
    Goes (.sorrelResult p 0) s fun c =>
      c.flights (2 * p) = xs ∧ (s.chip.engState e = engRunning → (s.chip.setFlights (2 * p) xs).workOf e = none → c.engState e = engIdle) ∧
        c.frame x.frame = none ∧
        c.word (R.FLW_DROP (2 * p)) = s.chip.word (R.FLW_DROP (2 * p)) + 1 ∧ ∀ m, m ≠ x.frame → c.frame m = s.chip.frame m := by
  have hcl : clusterOf p < 16 := by simp only [clusterOf]; omega
  obtain ⟨y, hy⟩ := Chip.resultTold_data s.chip p 0 e x xs r
  have htold := Chip.dataAndRegs_resultTold s.chip p 0 e x xs r
  have hframe := Chip.resultTold_frame s.chip p 0 e x xs r
  have hf' := (hframe x.frame).trans hf
  have hinbox' : Sparse.get [] (s.chip.resultTold p 0 e x xs r).data.inbox p = [] := by rw [hy]; exact hinbox
  have hsettled := Chip.dataAndRegs_dropSettled (c := s.chip.resultTold p 0 e x xs r) x (p := p) (by rw [Chip.dropped_data hf']; exact hinbox')
  have hflights (k : Nat) : ((s.chip.resultTold p 0 e x xs r).dropSettled p x).flights k = (s.chip.resultTold p 0 e x xs r).flights k := by
    rw [Chip.flights, (Chip.dropSettled_data hf' p hinbox').1, Chip.flights]
  have hsame := (hflights _).trans (Chip.resultTold_flights_same s.chip p 0 e x xs r)
  have hstays := Chip.runAgain_of_result (dir := 0) hagain (fun y hy => by rw [Nat.add_zero, hfl]; exact List.mem_cons_of_mem _ hy) hsame
    fun k hk => (hflights k).trans (Chip.resultTold_flights_other s.chip p 0 e x xs r hk)
  refine goes_sorrelResult hp (by decide) hrun ((Chip.sorrelResult_drop hfl hr heng hover hdrop hf).trans hstays)
    (hsettled.power.trans (Chip.resultTold_power s.chip p 0 e x xs r))
    ⟨hsame, fun hrunning hwork => ?_, Chip.dropSettled_frame_same hf' p hinbox' hwait, ?_,
      fun m hm => (Chip.dropSettled_frame_other hf' p hinbox' hm).trans (hframe m)⟩
  · have hne : R.FLW_ENG_STATUS e ∉ R.FLW_CL_STATUS (clusterOf p) :: poolWords := by
      simp only [poolWords, List.mem_cons, List.not_mem_nil, or_false, R.FLW_ENG_STATUS, R.FLW_CL_STATUS, R.SWC_HEADROOM, R.SWC_MGMT_Q, R.SWC_POOL_FREE]
      omega
    rw [Chip.engState_of_word (hsettled.word hne), Chip.engState_of_word (Chip.word_bump_other _ _ _
      (by simp only [R.FLW_ENG_STATUS, R.FLW_DROP]; omega)), Chip.engState_of_word (htold.word (not_mem_resultWords e (by omega)
      (by simp only [R.FLW_ENG_STATUS]; omega)))]
    exact Chip.engRest_engState hrunning hwork
  · have hne : R.FLW_DROP (2 * p) ∉ R.FLW_CL_STATUS (clusterOf p) :: poolWords := by
      simp only [poolWords, List.mem_cons, List.not_mem_nil, or_false, R.FLW_DROP, R.FLW_CL_STATUS, R.SWC_HEADROOM, R.SWC_MGMT_Q, R.SWC_POOL_FREE]
      omega
    have hne' : R.FLW_DROP (2 * p) ∉ resultWords (2 * p + 0) e := by
      simp only [resultWords, List.mem_cons, not_or, R.FLW_PD_FRAMES, R.FLW_PD_HWM, R.FLW_DROP]
      exact ⟨by omega, by omega, by omega, not_mem_pcWords e (by omega)⟩
    rw [hsettled.word hne, Chip.word_bump_same, htold.word hne',
      Chip.engRest_word _ (by simp only [R.FLW_DROP, R.FLW_ENG_STATUS]; omega)]
    rfl

/-! ## A bypass result on egress -/

/-- What the commit stage takes of a copy that its program leaves in clear. -/
def Flight.bypassItem (x : Flight) (cls : Nat) : CommitItem :=
  { bytes := x.bytes, sc := none, cls := cls, rx := x.rx, source := x.source, bad := x.bad }

theorem Chip.toCommit_of_clear {c : Chip} {p : Nat} (x : Flight) (cls : Nat) (hden : c.isDenast p = false) :
    c.toCommit p x cls none = c.setPort p { c.port p with commits := (c.port p).commits ++ [x.bypassItem cls] } := by
  simp [Chip.toCommit, hden, Flight.bypassItem]

/-- The part once a copy left in clear is at the commit stage, and old programs are freed. -/
def Chip.bypassed (c : Chip) (p : Nat) (x : Flight) (r : Run) : Chip := (c.toCommit p x r.cls none).freePrior (clusterOf p)

theorem Chip.sorrelResult_bypass {c : Chip} {p e : Nat} {x : Flight} {r : Run} (hfl : c.flights (2 * p + 1) = [x]) (hr : x.run = some r)
    (heng : x.engine = some e) (hover : r.overran = false) (hbypass : r.terminal = some .bypass)
    (hden : (c.resultTold p 1 e x [] r).isDenast p = false) :
    c.sorrelResult p 1 = ((c.resultTold p 1 e x [] r).bypassed p x r).runAgain (clusterOf p) := by
  have hempty : ((c.resultTold p 1 e x [] r).toCommit p x r.cls none).flights (2 * p + 1) = [] := by
    rw [Chip.toCommit_of_clear x r.cls hden]
    exact Chip.resultTold_flights_same c p 1 e x [] r
  rw [Chip.bypassed, ← Chip.settleEgress_of_empty hempty]
  simp only [Chip.sorrelResult, hfl, hr, heng, hbypass, hover, Bool.false_eq_true, if_false]
  rfl

/-- The fourth clause of the rule: a program leaves a copy of egress in clear. -/
theorem goes_sorrelResult_bypass {s : State} {p e : Nat} {x : Flight} {r : Run} (hp : p < 96) (hrun : s.chip.running = true)
    (hagain : s.chip.awaitsAgain (clusterOf p) = none) (hden : s.chip.isDenast p = false) (hfl : s.chip.flights (2 * p + 1) = [x])
    (hr : x.run = some r) (heng : x.engine = some e) (he : e < 208) (hover : r.overran = false) (hbypass : r.terminal = some .bypass) :
    Goes (.sorrelResult p 1) s fun c =>
      c.flights (2 * p + 1) = [] ∧
        (s.chip.engState e = engRunning → (s.chip.setFlights (2 * p + 1) []).workOf e = none → c.engState e = engIdle) ∧
        (c.port p).commits = (s.chip.port p).commits ++ [x.bypassItem r.cls] ∧ c.data.frames = s.chip.data.frames := by
  have hcl : clusterOf p < 16 := by simp only [clusterOf]; omega
  obtain ⟨y, hy⟩ := Chip.resultTold_data s.chip p 1 e x [] r
  have htold := Chip.dataAndRegs_resultTold s.chip p 1 e x [] r
  have hcfg : R.PRT_CFG p < 0x34000 := by simp only [R.PRT_CFG]; omega
  have hden' : (s.chip.resultTold p 1 e x [] r).isDenast p = false := by
    refine (Chip.isDenast_of_word ?_).trans hden
    rw [htold.word (not_mem_resultWords e (by omega) hcfg), Chip.engRest_word _ (by simp only [R.PRT_CFG, R.FLW_ENG_STATUS]; omega)]
    rfl
  have hcommit := Chip.toCommit_of_clear x r.cls hden'
  have hflights (k : Nat) : ((s.chip.resultTold p 1 e x [] r).bypassed p x r).flights k = (s.chip.resultTold p 1 e x [] r).flights k := by
    rw [Chip.bypassed, Chip.freePrior_flights, hcommit]
    rfl
  have hsame := (hflights _).trans (Chip.resultTold_flights_same s.chip p 1 e x [] r)
  have hstays := Chip.runAgain_of_result (dir := 1) hagain (fun y hy => absurd hy (List.not_mem_nil)) hsame
    fun k hk => (hflights k).trans (Chip.resultTold_flights_other s.chip p 1 e x [] r hk)
  have hprior := Chip.dataAndRegs_freePrior ((s.chip.resultTold p 1 e x [] r).toCommit p x r.cls none) (clusterOf p)
  obtain ⟨z, hz⟩ := ((s.chip.resultTold p 1 e x [] r).toCommit p x r.cls none).freePrior_data (clusterOf p)
  rw [hcommit] at hz hprior
  refine goes_sorrelResult hp (by decide) hrun ((Chip.sorrelResult_bypass hfl hr heng hover hbypass hden').trans hstays) ?_
    ⟨hsame, fun hrunning hwork => ?_, ?_, ?_⟩ <;> rw [Chip.bypassed, hcommit]
  · exact hprior.power.trans (Chip.resultTold_power s.chip p 1 e x [] r)
  · have hne : R.FLW_ENG_STATUS e ∉ [R.FLW_CL_STATUS (clusterOf p)] := by
      rw [List.mem_singleton]
      exact (clStatus_ne_engStatus e hcl).symm
    have hword := htold.word (a := R.FLW_ENG_STATUS e) (not_mem_resultWords e (by omega) (by simp only [R.FLW_ENG_STATUS]; omega))
    rw [Chip.engState_of_word ((hprior.word hne).trans hword)]
    exact Chip.engRest_engState hrunning hwork
  · have hport : (s.chip.resultTold p 1 e x [] r).port p = s.chip.port p := by rw [Chip.port, hy]; rfl
    rw [Chip.port, hz, ← hport]
    exact congrArg Port.commits (Chip.port_setPort_same _ _ _)
  · have hframes : (s.chip.resultTold p 1 e x [] r).data.frames = s.chip.data.frames := by rw [hy]; rfl
    rw [hz]
    exact hframes

end Sys2Proof.Machine
end

section
/-! PROOFS of the family of the Sorrel engines, O33, third part: a check of an engine fires (R145, R146). -/

namespace Sys2Proof.Machine

/-! ## The frame of an engine loses its result -/

theorem Chip.dataAndRegs_unrun (c : Chip) (e k j : Nat) : Chip.dataAndRegs c (c.unrun e k j) (pcWords e) := by
  unfold Chip.unrun
  dsimp only
  split
  · exact (Chip.onlyRegs_pcFrame c e _ _ _).dataAndRegs.trans (Chip.dataAndRegs_data _ _ _)
  · exact Chip.dataAndRegs_data _ _ _

theorem Chip.unrun_frames (c : Chip) (e k j : Nat) : (c.unrun e k j).data.frames = c.data.frames := by
  unfold Chip.unrun
  dsimp only
  split
  · rw [Chip.setFlights, (Chip.onlyRegs_pcFrame c e _ _ _).data]
  · rfl

theorem Chip.unrun_length (c : Chip) (e k j : Nat) : ((c.unrun e k j).flights k).length = (c.flights k).length := by
  unfold Chip.unrun
  rw [Chip.flights_setFlights_same, List.length_set]

/-- What engine `e` was at work on has lost its result. -/
def Chip.lostWork (c : Chip) (e : Nat) : Chip := (c.workOf e).elim c fun w => c.unrun e w.1 w.2

theorem Chip.dataAndRegs_lostWork (c : Chip) (e : Nat) : Chip.dataAndRegs c (c.lostWork e) (pcWords e) := by
  unfold Chip.lostWork
  cases c.workOf e with
  | none => exact Chip.dataAndRegs_data c c.data _
  | some w => exact c.dataAndRegs_unrun e w.1 w.2

theorem Chip.lostWork_frames (c : Chip) (e : Nat) : (c.lostWork e).data.frames = c.data.frames := by
  unfold Chip.lostWork
  cases c.workOf e with
  | none => rfl
  | some w => exact c.unrun_frames e w.1 w.2

theorem Chip.lostWork_word (c : Chip) (e : Nat) {a : Nat} (ha : a < 0x34000) : (c.lostWork e).word a = c.word a :=
  (c.dataAndRegs_lostWork e).word (not_mem_pcWords e (by omega))

/-! ## An engine is fenced -/

/-- The cluster of an engine: the spares come after the assigned engines. -/
def clusterOfEngine (e : Nat) : Nat := if e < 192 then e / 12 else e - 192

theorem clusterOfEngine_lt {e : Nat} (he : e < 208) : clusterOfEngine e < 16 := by
  unfold clusterOfEngine
  split <;> omega

/-- The spare of its cluster takes the place of engine `e` when it is fenced. -/
def Chip.spareTakes (c : Chip) (e : Nat) : Bool :=
  decide (e < 192) && c.flag (F.FLW_CL_STATUS_spare_ready (clusterOfEngine e)) && !c.flag (F.FLW_CL_STATUS_spare_active (clusterOfEngine e))

/-- Only an assigned engine is replaced by a spare. -/
theorem Chip.lt_of_spareTakes {c : Chip} {e : Nat} (h : c.spareTakes e = true) : e < 192 := by
  simp only [Chip.spareTakes, Bool.and_eq_true, decide_eq_true_eq] at h
  obtain ⟨⟨hlow, -⟩, -⟩ := h
  exact hlow

/-- An engine is shown as fenced, and a fenced spare as no longer ready. -/
def Chip.fenced (c : Chip) (e : Nat) : Chip :=
  let c := c.wr (F.FLW_ENG_STATUS_state e) engFenced
  if 192 ≤ e then c.wr (F.FLW_CL_STATUS_spare_ready (clusterOfEngine e)) 0 else c

/-- The spare of a cluster stands in a place, and is idle. -/
def Chip.spareIn (c : Chip) (cl li : Nat) : Chip :=
  ((c.wr (F.FLW_CL_STATUS_spare_active cl) 1).wr (F.FLW_CL_STATUS_replaced cl) li).wr (F.FLW_ENG_STATUS_state (192 + cl)) engIdle

section
variable (c : Chip) {e : Nat} (he : e < 208)
include he

theorem Chip.fenced_engState : (c.fenced e).engState e = engFenced := by
  have hstate : (c.wr (F.FLW_ENG_STATUS_state e) engFenced).engState e = engFenced := Chip.rd_wr_same _ _ _ rfl
  unfold Chip.fenced
  dsimp only
  split
  · exact (Chip.rd_wr_other _ _ _ _ (clStatus_ne_engStatus e (clusterOfEngine_lt he)).symm).trans hstate
  · exact hstate

theorem Chip.fenced_spareTakes : (c.fenced e).spareTakes e = c.spareTakes e := by
  by_cases hspare : e < 192
  · have hword : (c.fenced e).word (R.FLW_CL_STATUS (clusterOfEngine e)) = c.word (R.FLW_CL_STATUS (clusterOfEngine e)) := by
      rw [Chip.fenced, if_neg (by omega)]
      exact Chip.word_wr_other _ _ _ _ (clStatus_ne_engStatus e (clusterOfEngine_lt he))
    rw [Chip.spareTakes, Chip.flag_of_word (f := F.FLW_CL_STATUS_spare_ready _) hword,
      Chip.flag_of_word (f := F.FLW_CL_STATUS_spare_active _) hword, Chip.spareTakes]
  · simp [Chip.spareTakes, hspare]

/-- A fenced engine in standby holds no place; else the spare takes the place, or the cluster shows a second fault. -/
theorem Chip.fenceEngine_eq : c.fenceEngine e =
    if c.engState e = engSpare then c.fenced e
    else if c.spareTakes e then (c.fenced e).spareIn (clusterOfEngine e) (c.placeOf e)
    else (c.fenced e).wr (F.FLW_CL_STATUS_second_fault (clusterOfEngine e)) 1 := by
  rw [← Chip.fenced_spareTakes c he]
  rfl

theorem Chip.fenceEngine_engState : (c.fenceEngine e).engState e = engFenced := by
  have hfenced := Chip.fenced_engState c he
  have hcl (f : Fld) (v : Nat) (d : Chip) (hf : f.reg = R.FLW_CL_STATUS (clusterOfEngine e)) : (d.wr f v).engState e = d.engState e :=
    Chip.rd_wr_other _ _ _ _ (hf ▸ (clStatus_ne_engStatus e (clusterOfEngine_lt he)).symm)
  rw [Chip.fenceEngine_eq c he]
  split_ifs with hstandby hspare
  · exact hfenced
  · have hlow : e < 192 := by
      simp only [Chip.spareTakes, Bool.and_eq_true, decide_eq_true_eq] at hspare
      exact hspare.1.1
    have hne : R.FLW_ENG_STATUS e ≠ R.FLW_ENG_STATUS (192 + clusterOfEngine e) := engStatus_ne (by omega)
    exact (Chip.rd_wr_other _ _ _ _ hne).trans ((hcl _ _ _ rfl).trans ((hcl _ _ _ rfl).trans hfenced))
  · exact (hcl _ _ _ rfl).trans hfenced

/-- The ready spare takes the place of a fenced engine, and is idle. -/
theorem Chip.fenceEngine_spare (hplace : c.engState e ≠ engSpare) (hspare : c.spareTakes e = true) :
    (c.fenceEngine e).flag (F.FLW_CL_STATUS_spare_active (e / 12)) = true ∧ (c.fenceEngine e).rd (F.FLW_CL_STATUS_replaced (e / 12)) = e % 12 ∧
      (c.fenceEngine e).engState (192 + e / 12) = engIdle := by
  have hlow := Chip.lt_of_spareTakes hspare
  have hcluster : clusterOfEngine e = e / 12 := if_pos hlow
  have hplaceOf : c.placeOf e = e % 12 := if_neg (by omega)
  have hne (f : Fld) (hf : f.reg = R.FLW_CL_STATUS (e / 12)) : f.reg ≠ R.FLW_ENG_STATUS (192 + e / 12) :=
    hf ▸ clStatus_ne_engStatus _ (by omega)
  rw [Chip.fenceEngine_eq c he, if_neg hplace, if_pos hspare, hcluster, hplaceOf, Chip.spareIn]
  refine ⟨?_, ?_, Chip.rd_wr_same _ _ _ rfl⟩
  · rw [Chip.flag, Chip.rd_wr_other _ _ _ _ (hne _ rfl), Chip.rd_wr_clears _ _ _ _ rfl rfl, Chip.rd_wr_same _ _ _ rfl]
    rfl
  · rw [Chip.rd_wr_other _ _ _ _ (hne _ rfl), Chip.rd_wr_same _ _ _ rfl]
    exact Nat.mod_eq_of_lt (by simp only [F.FLW_CL_STATUS_replaced]; omega)

/-- Without a ready spare the cluster of a fenced engine shows a second fault. -/
theorem Chip.fenceEngine_second (hplace : c.engState e ≠ engSpare) (hspare : c.spareTakes e = false) :
    (c.fenceEngine e).flag (F.FLW_CL_STATUS_second_fault (clusterOfEngine e)) = true := by
  rw [Chip.fenceEngine_eq c he, if_neg hplace, if_neg (by rw [hspare]; decide), Chip.flag, Chip.rd_wr_same _ _ _ rfl]
  rfl

/-- A spare fenced in standby is no longer ready, and its cluster shows no second fault for it. -/
theorem Chip.fenceEngine_standby (hstandby : c.engState e = engSpare) (hspare : 192 ≤ e) :
    (c.fenceEngine e).flag (F.FLW_CL_STATUS_spare_ready (e - 192)) = false ∧
      (c.fenceEngine e).flag (F.FLW_CL_STATUS_second_fault (e - 192)) = c.flag (F.FLW_CL_STATUS_second_fault (e - 192)) := by
  have hcluster : clusterOfEngine e = e - 192 := if_neg (by omega)
  rw [Chip.fenceEngine_eq c he, if_pos hstandby, Chip.fenced, if_pos hspare, hcluster]
  constructor
  · rw [Chip.flag, Chip.rd_wr_same _ _ _ rfl]
    rfl
  · rw [Chip.flag_wr_clears _ _ _ _ rfl rfl]
    exact Chip.flag_of_word (Chip.word_wr_other _ _ _ _ (clStatus_ne_engStatus e (by omega)))

end

/-- The registers that the fence of an engine changes: its status, and those of its cluster and of the cluster's spare. -/
def fenceWords (e : Nat) : List Nat :=
  [R.FLW_ENG_STATUS e, R.FLW_CL_STATUS (clusterOfEngine e), R.FLW_ENG_STATUS (192 + clusterOfEngine e)]

theorem Chip.onlyRegs_fenceEngine (c : Chip) {e : Nat} (he : e < 208) : Chip.onlyRegs c (c.fenceEngine e) (fenceWords e) := by
  have hwr (d : Chip) (f : Fld) (v : Nat) (hf : f.reg ∈ fenceWords e) : Chip.onlyRegs d (d.wr f v) (fenceWords e) :=
    (Chip.onlyRegs_wr d f v).mono (List.cons_subset.mpr ⟨hf, List.nil_subset _⟩)
  have hown (f : Fld) (hf : f.reg = R.FLW_ENG_STATUS e) : f.reg ∈ fenceWords e := by simp [fenceWords, hf]
  have hcl (f : Fld) (hf : f.reg = R.FLW_CL_STATUS (clusterOfEngine e)) : f.reg ∈ fenceWords e := by simp [fenceWords, hf]
  have hfenced : Chip.onlyRegs c (c.fenced e) (fenceWords e) := by
    unfold Chip.fenced
    dsimp only
    split
    · exact (hwr _ _ _ (hown _ rfl)).trans (hwr _ _ _ (hcl _ rfl))
    · exact hwr _ _ _ (hown _ rfl)
  rw [Chip.fenceEngine_eq c he]
  split_ifs
  · exact hfenced
  · exact hfenced.trans (((hwr _ _ _ (hcl _ rfl)).trans (hwr _ _ _ (hcl _ rfl))).trans
      (hwr _ _ _ (by simp [fenceWords, F.FLW_ENG_STATUS_state])))
  · exact hfenced.trans (hwr _ _ _ (hcl _ rfl))

/-- What is lost with the result leaves the engine's place, and whether the spare takes it, as they were. -/
theorem Chip.lostWork_place {c : Chip} {e : Nat} (he : e < 208) : (c.lostWork e).engState e = c.engState e ∧ (c.lostWork e).spareTakes e = c.spareTakes e := by
  have hword := c.lostWork_word e (a := R.FLW_CL_STATUS (clusterOfEngine e))
    (by have hcl := clusterOfEngine_lt he; simp only [R.FLW_CL_STATUS]; omega)
  refine ⟨Chip.engState_of_word (c.lostWork_word e (by simp only [R.FLW_ENG_STATUS]; omega)), ?_⟩
  rw [Chip.spareTakes, Chip.flag_of_word (f := F.FLW_CL_STATUS_spare_ready _) hword,
    Chip.flag_of_word (f := F.FLW_CL_STATUS_spare_active _) hword, Chip.spareTakes]

/-! ## An engine faults -/

/-- The bit of an engine's status that shows a check. -/
def checkFld (e : Nat) : EngineCheck → Fld
  | .parity => F.FLW_ENG_STATUS_parity e
  | .residue => F.FLW_ENG_STATUS_residue e
  | .watchdog => F.FLW_ENG_STATUS_watchdog e

theorem checkFld_spec (e : Nat) (k : EngineCheck) :
    (checkFld e k).reg = R.FLW_ENG_STATUS e ∧ (checkFld e k).inWord = true ∧ (checkFld e k).w = 1 ∧ (checkFld e k).clears (F.FLW_ENG_STATUS_state e) = true := by
  cases k <;> exact ⟨rfl, rfl, rfl, rfl⟩

/-- An engine is fenced for a check and reported, before the frame that it was at work on is re-executed. -/
def Chip.faulted (c : Chip) (e : Nat) (k : EngineCheck) : Chip := (((c.lostWork e).fenceEngine e).wr (checkFld e k) 1).alertEngine e

/-- An engine that is not fenced yet faults, and the frame that it was at work on starts again on the spare that takes its place, or goes
to the next free engine of the cluster. -/
theorem Chip.engineFault_eq {c : Chip} {e : Nat} (k : EngineCheck) (h : c.engState e ≠ engFenced) :
    c.engineFault e k = match c.workOf e with
      | none => c.faulted e k
      | some w => if c.spareTakes e then (c.faulted e k).startOn w.1 w.2 (192 + clusterOfEngine e) true .clean
        else (c.faulted e k).runAgain (clusterOfEngine e) := by
  rw [Chip.engineFault, if_neg h]
  cases k <;> rfl

section
variable (c : Chip) {e : Nat} (he : e < 208) (k : EngineCheck)
include he

theorem Chip.faulted_kept : (c.faulted e k).power = c.power ∧ (c.faulted e k).out = c.out ∧ (c.faulted e k).data = (c.lostWork e).data := by
  have hfence := Chip.onlyRegs_fenceEngine (c.lostWork e) he
  have hlost := Chip.dataAndRegs_lostWork c e
  have hout : ((c.lostWork e).fenceEngine e).out = (c.lostWork e).out := (congrArg Chip.out hfence.1 :)
  have hout' : (c.lostWork e).out = c.out := (congrArg Chip.out hlost.1 :)
  refine ⟨?_, ?_, ?_⟩ <;> simp only [Chip.faulted, Chip.alertEngine]
  · rw [Chip.alert_power, Chip.wr_power, hfence.power, hlost.power]
  · rw [Chip.alert_out, Chip.wr_out, hout, hout']
  · rw [Chip.alert_data, Chip.wr_data, hfence.data]

theorem Chip.faulted_frames : (c.faulted e k).data.frames = c.data.frames := by
  obtain ⟨-, -, hdata⟩ := Chip.faulted_kept c he k
  rw [hdata, Chip.lostWork_frames]

end

/-- No register from 0x30000 on is one of the recorder's. -/
theorem not_mem_recWords {a : Nat} (ha : 0x30000 ≤ a) : a ∉ recWords := by
  simp only [recWords, List.mem_cons, List.not_mem_nil, or_false, R.MGT_REC_STATUS, R.MGT_REC_LOST, R.MGT_REC_RUN, R.MGT_REC_SEQ, R.HST_ATTN]
  omega

theorem engStatus_ge (e : Nat) : 0x30000 ≤ R.FLW_ENG_STATUS e := by
  simp only [R.FLW_ENG_STATUS]
  omega

theorem clStatus_ge (cl : Nat) : 0x30000 ≤ R.FLW_CL_STATUS cl := by
  simp only [R.FLW_CL_STATUS]
  omega

/-- But for its own status, a fault shows what the fence does. -/
theorem Chip.faulted_word (c : Chip) {e a : Nat} (k : EngineCheck) (ha : 0x30000 ≤ a) (hne : a ≠ R.FLW_ENG_STATUS e) :
    (c.faulted e k).word a = ((c.lostWork e).fenceEngine e).word a := by
  obtain ⟨hreg, -⟩ := checkFld_spec e k
  rw [Chip.faulted, Chip.alertEngine, Chip.alert_word _ _ _ _ _ _ (not_mem_recWords ha), Chip.word_wr_other _ _ _ _ (hreg ▸ hne)]

theorem Chip.faulted_engState (c : Chip) {e : Nat} (k : EngineCheck) (he : e < 208) : (c.faulted e k).engState e = engFenced := by
  obtain ⟨-, hin, -, hclears⟩ := checkFld_spec e k
  rw [Chip.faulted, Chip.alertEngine, Chip.engState, Chip.alert_rd _ _ _ _ _ _ (not_mem_recWords (engStatus_ge e)),
    Chip.rd_wr_clears _ _ _ _ hin hclears]
  exact Chip.fenceEngine_engState _ he

theorem Chip.faulted_check (c : Chip) (e : Nat) (k : EngineCheck) : (c.faulted e k).flag (checkFld e k) = true := by
  obtain ⟨hreg, hin, hw, -⟩ := checkFld_spec e k
  rw [Chip.faulted, Chip.alertEngine, Chip.flag, Chip.alert_rd _ _ _ _ _ _ (not_mem_recWords (hreg ▸ engStatus_ge e)),
    Chip.rd_wr_same _ _ _ hin, hw]
  rfl

/-- A start without errors in its fetches changes, below the registers of ports and directions, the status of its engine alone. -/
theorem Chip.startOn_clean_word (c : Chip) (key j : Nat) {g a : Nat} (ha : a < 0x34000) (hne : a ≠ R.FLW_ENG_STATUS g) :
    (c.startOn key j g true .clean).word a = c.word a := by
  rw [Chip.startOn_word _ _ _ _ _ _ ha, Chip.shownRunning_word _ _ hne, Chip.fetchesCounted_clean]

/-- What a fault does after the fence: nothing, or the start of a frame on another engine. -/
theorem Chip.engineFault_cases {c : Chip} {e : Nat} (k : EngineCheck) (he : e < 208) (h : c.engState e ≠ engFenced) :
    c.engineFault e k = c.faulted e k ∨
      ∃ key j g, g < 208 ∧ g ≠ e ∧ c.engineFault e k = (c.faulted e k).startOn key j g true .clean := by
  rw [Chip.engineFault_eq k h]
  split
  · exact .inl rfl
  · next w _ =>
    split
    · next hspare =>
      have hcl := clusterOfEngine_lt he
      have hlow := Chip.lt_of_spareTakes hspare
      exact .inr ⟨w.1, w.2, _, by omega, by omega, rfl⟩
    · rcases (c.faulted e k).runAgain_cases (clusterOfEngine_lt he) with hsame | ⟨key, j, g, hg, hfree, hstart⟩
      · exact .inl hsame
      · refine .inr ⟨key, j, g, hg, ?_, hstart⟩
        rintro rfl
        rw [Chip.not_engFree_of_fenced (c.faulted_engState k hg)] at hfree
        cases hfree

section
variable {c : Chip} {e : Nat} (k : EngineCheck) (he : e < 208) (h : c.engState e ≠ engFenced)
include he h

theorem Chip.engineFault_kept : (c.engineFault e k).power = c.power ∧ (c.engineFault e k).out = c.out ∧
    (c.engineFault e k).data.frames = c.data.frames := by
  obtain ⟨hpower, hout, -⟩ := c.faulted_kept he k
  have hframes := c.faulted_frames he k
  rcases Chip.engineFault_cases k he h with hd | ⟨key, j, g, -, -, hd⟩ <;> rw [hd]
  · exact ⟨hpower, hout, hframes⟩
  · rw [Chip.startOn_power, Chip.startOn_out, Chip.startOn_data]
    exact ⟨hpower, hout, hframes⟩

/-- The start of a frame elsewhere leaves the status of the engine and of the clusters as the fence shows them. -/
theorem Chip.engineFault_word {a : Nat} (ha : a < 0x34000) (hne : ∀ g, g ≠ e → a ≠ R.FLW_ENG_STATUS g) :
    (c.engineFault e k).word a = (c.faulted e k).word a := by
  rcases Chip.engineFault_cases k he h with hd | ⟨key, j, g, -, hg, hd⟩ <;> rw [hd]
  exact Chip.startOn_clean_word _ key j ha (hne g hg)

theorem Chip.engineFault_own : (c.engineFault e k).word (R.FLW_ENG_STATUS e) = (c.faulted e k).word (R.FLW_ENG_STATUS e) :=
  Chip.engineFault_word k he h (by simp only [R.FLW_ENG_STATUS]; omega) fun _ hg => engStatus_ne (Ne.symm hg)

theorem Chip.engineFault_cluster {cl : Nat} (hcl : cl < 16) :
    (c.engineFault e k).word (R.FLW_CL_STATUS cl) = ((c.lostWork e).fenceEngine e).word (R.FLW_CL_STATUS cl) := by
  rw [Chip.engineFault_word k he h (by simp only [R.FLW_CL_STATUS]; omega) fun g _ => clStatus_ne_engStatus g hcl]
  exact Chip.faulted_word c k (clStatus_ge cl) (clStatus_ne_engStatus e hcl)

end

/-! ## The rule of engine faults -/

theorem goes_engineFault {s : State} {e : Nat} {k : EngineCheck} {P : Chip → Prop} (hp : s.chip.power = true) (he : e < 208)
    (hpow : (s.chip.engineFault e k).power = s.chip.power) (h : P (s.chip.engineFault e k)) : Goes (.engineFault e k) s P :=
  goes_actOn_of_eq (f := fun c => c.engineFault e k) rfl (decide_eq_true he) hp rfl hpow h

section
variable {c : Chip} {e : Nat} (k : EngineCheck) (he : e < 208) (h : c.engState e ≠ engFenced)
include he h

theorem Chip.engineFault_engState : (c.engineFault e k).engState e = engFenced := by
  rw [Chip.engState_of_word (Chip.engineFault_own k he h), Chip.faulted_engState c k he]

theorem Chip.engineFault_check : (c.engineFault e k).flag (checkFld e k) = true := by
  obtain ⟨hreg, -⟩ := checkFld_spec e k
  rw [Chip.flag_of_word (hreg ▸ Chip.engineFault_own k he h), Chip.faulted_check]

/-- The ready spare shows whose place it has taken. -/
theorem Chip.engineFault_spare (hplace : c.engState e ≠ engSpare) (hspare : c.spareTakes e = true) (hlow : e < 192) :
    (c.engineFault e k).flag (F.FLW_CL_STATUS_spare_active (e / 12)) = true ∧
      (c.engineFault e k).rd (F.FLW_CL_STATUS_replaced (e / 12)) = e % 12 := by
  obtain ⟨hstate, htakes⟩ := Chip.lostWork_place (c := c) he
  obtain ⟨hactive, hreplaced, -⟩ := Chip.fenceEngine_spare (c.lostWork e) he (hstate ▸ hplace) (htakes.trans hspare)
  have hword := Chip.engineFault_cluster k he h (cl := e / 12) (by omega)
  exact ⟨(Chip.flag_of_word hword).trans hactive, (Chip.rd_of_word hword).trans hreplaced⟩

/-- The spare that takes the place of an engine without work is idle. -/
theorem Chip.engineFault_spare_idle (hplace : c.engState e ≠ engSpare) (hspare : c.spareTakes e = true) (hlow : e < 192)
    (hwork : c.workOf e = none) : (c.engineFault e k).engState (192 + e / 12) = engIdle := by
  obtain ⟨hstate, htakes⟩ := Chip.lostWork_place (c := c) he
  obtain ⟨-, -, hidle⟩ := Chip.fenceEngine_spare (c.lostWork e) he (hstate ▸ hplace) (htakes.trans hspare)
  rw [Chip.engineFault_eq k h, hwork, Chip.engState_of_word (c.faulted_word k (engStatus_ge _) (engStatus_ne (by omega)))]
  exact hidle

/-- The spare that takes the place of an engine re-executes at once the frame that the engine was at work on. -/
theorem Chip.engineFault_spare_runs (hspare : c.spareTakes e = true) (hlow : e < 192) {key j : Nat} (hwork : c.workOf e = some (key, j))
    (hj : j < (c.flights key).length) :
    (c.engineFault e k).engState (192 + e / 12) = engRunning ∧
      ∃ x, ((c.engineFault e k).flights key)[j]? = some x ∧ x.engine = some (192 + e / 12) ∧ x.run.isSome = true := by
  have hcluster : clusterOfEngine e = e / 12 := if_pos hlow
  have hd : c.engineFault e k = (c.faulted e k).startOn key j (192 + e / 12) true .clean := by
    rw [Chip.engineFault_eq k h, hwork, ← hcluster]
    exact if_pos hspare
  have hlen : ((c.faulted e k).flights key).length = (c.flights key).length := by
    obtain ⟨-, -, hdata⟩ := c.faulted_kept he k
    rw [Chip.flights_data hdata, Chip.lostWork, hwork]
    exact c.unrun_length e key j
  rw [hd]
  refine ⟨Chip.startOn_engState _ _ _ _ _ (by omega), (c.faulted e k).inEngine key j (192 + e / 12) true .clean, ?_, rfl, rfl⟩
  rw [Chip.startOn_flights, List.getElem?_set_self (hlen ▸ hj)]

/-- Without a ready spare the cluster shows a second fault. -/
theorem Chip.engineFault_second (hplace : c.engState e ≠ engSpare) (hspare : c.spareTakes e = false) :
    (c.engineFault e k).flag (F.FLW_CL_STATUS_second_fault (clusterOfEngine e)) = true := by
  obtain ⟨hstate, htakes⟩ := Chip.lostWork_place (c := c) he
  rw [Chip.flag_of_word (f := F.FLW_CL_STATUS_second_fault _) (Chip.engineFault_cluster k he h (clusterOfEngine_lt he))]
  exact Chip.fenceEngine_second (c.lostWork e) he (hstate ▸ hplace) (htakes.trans hspare)

/-- A spare in standby is no longer ready, and its cluster shows no second fault for it. -/
theorem Chip.engineFault_standby (hstandby : c.engState e = engSpare) (hspare : 192 ≤ e) :
    (c.engineFault e k).flag (F.FLW_CL_STATUS_spare_ready (e - 192)) = false ∧
      (c.engineFault e k).flag (F.FLW_CL_STATUS_second_fault (e - 192)) = c.flag (F.FLW_CL_STATUS_second_fault (e - 192)) := by
  obtain ⟨hstate, -⟩ := Chip.lostWork_place (c := c) he
  obtain ⟨hready, hsecond⟩ := Chip.fenceEngine_standby (c.lostWork e) he (hstate.trans hstandby) hspare
  have hword := Chip.engineFault_cluster k he h (cl := e - 192) (by omega)
  have hlost := c.lostWork_word e (a := R.FLW_CL_STATUS (e - 192)) (by simp only [R.FLW_CL_STATUS]; omega)
  rw [Chip.flag_of_word (f := F.FLW_CL_STATUS_spare_ready (e - 192)) hword,
    Chip.flag_of_word (f := F.FLW_CL_STATUS_second_fault (e - 192)) hword, hsecond]
  exact ⟨hready, Chip.flag_of_word (f := F.FLW_CL_STATUS_second_fault (e - 192)) hlost⟩

end

theorem Chip.spareTakes_of_lt {c : Chip} {e : Nat} (h : e < 192) :
    c.spareTakes e = (c.flag (F.FLW_CL_STATUS_spare_ready (e / 12)) && !c.flag (F.FLW_CL_STATUS_spare_active (e / 12))) := by
  have hcluster : clusterOfEngine e = e / 12 := if_pos h
  rw [Chip.spareTakes, hcluster, decide_eq_true h, Bool.true_and]

theorem Chip.spareTakes_of_ge {c : Chip} {e : Nat} (h : 192 ≤ e) : c.spareTakes e = false := by
  rw [Chip.spareTakes, decide_eq_false (by omega), Bool.false_and, Bool.false_and]

theorem engineFaultsRule_holds : engineFaultsRule := by
  intro s e k hp he
  refine ⟨fun hfenced hplace _ => ?_, fun hstandby => ?_, fun hfenced => ?_⟩
  · obtain ⟨hpower, hout, hframes⟩ := Chip.engineFault_kept k he hfenced
    have hcheck := Chip.engineFault_check k he hfenced
    refine goes_engineFault hp he hpower ⟨Chip.engineFault_engState k he hfenced, by cases k <;> exact hcheck,
      fun hlow hready hactive => ?_, fun hlow hnone => ?_, fun hhigh => ?_, hframes, hout⟩
    · have hspare : s.chip.spareTakes e = true := by rw [Chip.spareTakes_of_lt hlow, hready, hactive]; rfl
      obtain ⟨hshown, hreplaced⟩ := Chip.engineFault_spare k he hfenced hplace hspare hlow
      exact ⟨hshown, hreplaced, Chip.engineFault_spare_idle k he hfenced hplace hspare hlow,
        fun _ _ => Chip.engineFault_spare_runs k he hfenced hspare hlow⟩
    · have hspare : s.chip.spareTakes e = false := by
        rw [Chip.spareTakes_of_lt hlow]
        rcases hnone with hready | hactive
        · rw [hready, Bool.false_and]
        · rw [hactive, Bool.not_true, Bool.and_false]
      have hsecond := Chip.engineFault_second k he hfenced hplace hspare
      rwa [clusterOfEngine, if_pos hlow] at hsecond
    · have hsecond := Chip.engineFault_second k he hfenced hplace (Chip.spareTakes_of_ge hhigh)
      rwa [clusterOfEngine, if_neg (by omega)] at hsecond
  · have hfenced : s.chip.engState e ≠ engFenced := by rw [hstandby]; decide
    obtain ⟨hpower, -⟩ := Chip.engineFault_kept k he hfenced
    exact goes_engineFault hp he hpower ⟨Chip.engineFault_engState k he hfenced, Chip.engineFault_standby k he hfenced hstandby⟩
  · have hsame : s.chip.engineFault e k = s.chip := if_pos hfenced
    exact goes_engineFault hp he (congrArg Chip.power hsame) hsame

theorem sorrelEnginesRule_holds : sorrelEnginesRule := by
  intro s p hp hrun hagain
  refine ⟨fun dir j e ended ecc hdir hj he => goes_sorrelDispatch ended ecc hp hdir hrun hagain hj he,
    fun dir j hdir hj => goes_programOverrun hp hdir (Chip.power_of_running hrun) hj,
    fun x xs r e f hfl hr heng he hover hdrop hf hwait hinbox =>
      goes_sorrelResult_drop hp hrun hagain hfl hr heng he hover hdrop hf hwait hinbox,
    fun x r e hden hfl hr heng he hover hbypass => goes_sorrelResult_bypass hp hrun hagain hden hfl hr heng he hover hbypass⟩

/-- Settles O33, by its two rules: dispatch, overrun and results follow R120, R136 to R142 and R144, faults R145 and R146. That a fenced spare
in standby holds no place, and the order of what waits, is the model's reading (log entries 33 and 67, DEDUCED). -/
theorem sorrelEngines : Obligations.SorrelEngines := ⟨sorrelEnginesRule_holds, engineFaultsRule_holds⟩

end Sys2Proof.Machine
end

section
/-! PROOFS of the family of forwarding and learning: what a write of a pipeline's tables shows and what it leaves alone (R154 to R158, R167). -/

namespace Sys2Proof.Machine

/-! ## Reads of a pipeline's tables after a write -/

@[simp] theorem Chip.pipe_setPipe_same (c : Chip) (k : Nat) (x : Pipe) : (c.setPipe k x).pipe k = x := Sparse.get_set_same _ _ _ _

theorem Chip.pipe_setPipe_other (c : Chip) {j k : Nat} (x : Pipe) (h : j ≠ k) : (c.setPipe k x).pipe j = c.pipe j :=
  Sparse.get_set_other _ _ _ _ _ h

@[simp] theorem Chip.pipe_wr (c : Chip) (f : Fld) (v k : Nat) : (c.wr f v).pipe k = c.pipe k := rfl

@[simp] theorem Chip.pipe_mark (c : Chip) (f : Fld) (v k : Nat) : (c.mark f v).pipe k = c.pipe k := rfl

@[simp] theorem Chip.pipe_bump (c : Chip) (a k : Nat) : (c.bump a).pipe k = c.pipe k := rfl

/-- A write of a way changes the table of its pipeline alone. -/
@[simp] theorem Chip.pipe_setMac (c : Chip) (k pos : Nat) (e : MacEntry) :
    (c.setMac k pos e).pipe k = { c.pipe k with mac := Sparse.set {} (c.pipe k).mac pos e } := Chip.pipe_setPipe_same _ _ _

/-- The same for a row of the LPM store. -/
@[simp] theorem Chip.pipe_setLpm (c : Chip) (k : Nat) (v6 : Bool) (row : Nat) (r : LpmRow) :
    (c.setLpm k v6 row r).pipe k = { c.pipe k with lpm := Sparse.set {} (c.pipe k).lpm (lpmKey v6 row) r } := Chip.pipe_setPipe_same _ _ _

/-- The entry at a position depends on the pipeline's MAC table alone. -/
theorem Chip.macAt_of_mac {c d : Chip} {k : Nat} (h : (d.pipe k).mac = (c.pipe k).mac) (pos : Nat) : d.macAt k pos = c.macAt k pos := by
  rw [Chip.macAt, h, Chip.macAt]

theorem Chip.macAt_setMac (c : Chip) (k pos : Nat) (e : MacEntry) (q : Nat) :
    (c.setMac k pos e).macAt k q = if q = pos then e else c.macAt k q := by
  rw [Chip.macAt, Chip.pipe_setMac]
  exact Sparse.get_set _ _ _ _ _

@[simp] theorem Chip.macAt_setMac_same (c : Chip) (k pos : Nat) (e : MacEntry) : (c.setMac k pos e).macAt k pos = e := by
  rw [Chip.macAt_setMac, if_pos rfl]

theorem Chip.macAt_setMac_other (c : Chip) {k pos q : Nat} (e : MacEntry) (h : q ≠ pos) : (c.setMac k pos e).macAt k q = c.macAt k q := by
  rw [Chip.macAt_setMac, if_neg h]

theorem lpmKey_inj {v6 : Bool} {q r : Nat} (h : lpmKey v6 q = lpmKey v6 r) : q = r := by
  cases v6
  · exact h
  · exact Nat.eq_of_mul_eq_mul_left Nat.two_pos h

@[simp] theorem Chip.lpmAt_setLpm_same (c : Chip) (k : Nat) (v6 : Bool) (row : Nat) (r : LpmRow) :
    (c.setLpm k v6 row r).lpmAt k v6 row = r := by
  rw [Chip.lpmAt, Chip.pipe_setLpm]
  exact Sparse.get_set_same _ _ _ _

theorem Chip.lpmAt_setLpm_other (c : Chip) {k : Nat} {v6 : Bool} {row q : Nat} (r : LpmRow) (h : q ≠ row) :
    (c.setLpm k v6 row r).lpmAt k v6 q = c.lpmAt k v6 q := by
  rw [Chip.lpmAt, Chip.pipe_setLpm]
  exact Sparse.get_set_other _ _ _ _ _ fun hkey => h (lpmKey_inj hkey)

/-- Where a key stands depends on the image in force and the pipeline's MAC table alone. -/
theorem Chip.macFind_of_mac {c d : Chip} {k : Nat} (himg : d.img = c.img) (h : (d.pipe k).mac = (c.pipe k).mac) (fid mac : Nat) :
    d.macFind k fid mac = c.macFind k fid mac := by
  have hways : d.candidates k fid mac = c.candidates k fid mac := by
    simp only [Chip.candidates, Chip.bucket, Chip.hashSeed, Chip.fwdRec, Chip.recFor, Chip.recs, himg]
  simp only [Chip.macFind, hways, Chip.macAt_of_mac h]

/-! ## Work on one pipeline -/

/-- Between `c` and `d` nothing differs but what pipeline `k` holds, and registers of the banks above TMP. -/
def Chip.fwdOnly (k : Nat) (c d : Chip) : Prop :=
  (∃ rs ps, d = { c with regs := rs, data := { c.data with pipes := ps } }) ∧ (∀ j, j ≠ k → d.pipe j = c.pipe j) ∧
    ∀ a < 0xA000, d.word a = c.word a

section
variable {k : Nat} {b c d : Chip}

theorem Chip.fwdOnly_refl (k : Nat) (c : Chip) : Chip.fwdOnly k c c := ⟨⟨_, _, rfl⟩, fun _ _ => rfl, fun _ _ => rfl⟩

theorem Chip.fwdOnly.trans (h : Chip.fwdOnly k b c) (g : Chip.fwdOnly k c d) : Chip.fwdOnly k b d := by
  obtain ⟨⟨rs, ps, rfl⟩, hpipe, hword⟩ := h
  obtain ⟨⟨rs', ps', rfl⟩, gpipe, gword⟩ := g
  exact ⟨⟨rs', ps', rfl⟩, fun j hj => (gpipe j hj).trans (hpipe j hj), fun a ha => (gword a ha).trans (hword a ha)⟩

theorem Chip.fwdOnly.power (h : Chip.fwdOnly k c d) : d.power = c.power := by
  obtain ⟨⟨rs, ps, rfl⟩, -⟩ := h
  rfl

theorem Chip.fwdOnly.img (h : Chip.fwdOnly k c d) : d.img = c.img := by
  obtain ⟨⟨rs, ps, rfl⟩, -⟩ := h
  rfl

theorem Chip.fwdOnly.pipe (h : Chip.fwdOnly k c d) {j : Nat} (hj : j ≠ k) : d.pipe j = c.pipe j := h.2.1 j hj

theorem Chip.fwdOnly.word (h : Chip.fwdOnly k c d) {a : Nat} (ha : a < 0xA000) : d.word a = c.word a := h.2.2 a ha

/-- All but the pipelines and the registers stands. -/
theorem Chip.fwdOnly.rest (h : Chip.fwdOnly k c d) : { d with data := { d.data with pipes := c.data.pipes }, regs := c.regs } = c := by
  obtain ⟨⟨rs, ps, rfl⟩, -⟩ := h
  rfl

theorem Chip.fwdOnly_setPipe (c : Chip) (k : Nat) (x : Pipe) : Chip.fwdOnly k c (c.setPipe k x) :=
  ⟨⟨_, _, rfl⟩, fun _ hj => Chip.pipe_setPipe_other _ _ hj, fun _ _ => rfl⟩

theorem Chip.fwdOnly_wr (k : Nat) (c : Chip) {f : Fld} (hf : 0xA000 ≤ f.reg) (v : Nat) : Chip.fwdOnly k c (c.wr f v) :=
  ⟨⟨_, c.data.pipes, rfl⟩, fun _ _ => rfl, fun _ ha => Chip.word_wr_other _ _ _ _ (by omega)⟩

theorem Chip.fwdOnly_bump (k : Nat) (c : Chip) {a : Nat} (ha : 0xA000 ≤ a) : Chip.fwdOnly k c (c.bump a) :=
  ⟨⟨_, c.data.pipes, rfl⟩, fun _ _ => rfl, fun _ hb => Chip.word_bump_other _ _ _ (by omega)⟩

theorem Chip.fwdOnly.setPipe (h : Chip.fwdOnly k c d) (x : Pipe) : Chip.fwdOnly k c (d.setPipe k x) := h.trans (Chip.fwdOnly_setPipe _ _ _)

theorem Chip.fwdOnly.wr (h : Chip.fwdOnly k c d) {f : Fld} (hf : 0xA000 ≤ f.reg) (v : Nat) : Chip.fwdOnly k c (d.wr f v) :=
  h.trans (Chip.fwdOnly_wr _ _ hf _)

theorem Chip.fwdOnly.bump (h : Chip.fwdOnly k c d) {a : Nat} (ha : 0xA000 ≤ a) : Chip.fwdOnly k c (d.bump a) :=
  h.trans (Chip.fwdOnly_bump _ _ ha)

theorem Chip.fwdOnly_foldl {α : Type} {g : Chip → α → Chip} (h : ∀ c x, Chip.fwdOnly k c (g c x)) (l : List α) (c : Chip) :
    Chip.fwdOnly k c (l.foldl g c) := by
  induction l generalizing c with
  | nil => exact Chip.fwdOnly_refl _ _
  | cons x l ih => exact (h c x).trans (ih _)

end

theorem Chip.fwdOnly_setMac (c : Chip) (k pos : Nat) (e : MacEntry) : Chip.fwdOnly k c (c.setMac k pos e) :=
  ((Chip.fwdOnly_setPipe c k _).wr (f := F.FWD_MAC_STATUS_used k) (bank_high (by decide)) _).wr
    (f := F.FWD_MAC_STATIC_static k) (bank_high (by decide)) _

theorem Chip.fwdOnly.setMac {k : Nat} {c d : Chip} (h : Chip.fwdOnly k c d) (pos : Nat) (e : MacEntry) : Chip.fwdOnly k c (d.setMac k pos e) :=
  h.trans (Chip.fwdOnly_setMac _ _ _ _)

theorem Chip.fwdOnly_setLpm (c : Chip) (k : Nat) (v6 : Bool) (row : Nat) (r : LpmRow) : Chip.fwdOnly k c (c.setLpm k v6 row r) := by
  cases v6
  · exact (Chip.fwdOnly_setPipe c k _).wr (f := F.FWD_LPM_STATUS_v4_used k) (bank_high (by decide)) _
  · exact (Chip.fwdOnly_setPipe c k _).wr (f := F.FWD_LPM_STATUS_v6_used k) (bank_high (by decide)) _

/-! ## The move engine (R157, R158) -/

theorem Chip.fwdOnly_moveOnce (c : Chip) (k : Nat) : Chip.fwdOnly k c (c.moveOnce k) := by
  unfold Chip.moveOnce
  split
  · exact Chip.fwdOnly_refl _ _
  · split
    · exact (((Chip.fwdOnly_setMac c k _ _).setPipe _).wr (f := F.FWD_MAC_STATUS_move_busy k) (bank_high (by decide)) _).wr
        (f := F.FWD_MAC_STATUS_max_chain k) (bank_high (by decide)) _
    · split <;> exact (Chip.fwdOnly_setMac c k _ _).setPipe _

theorem Chip.fwdOnly_finishChain (c : Chip) (k : Nat) : Chip.fwdOnly k c (c.finishChain k) :=
  Chip.fwdOnly_foldl (fun c _ => Chip.fwdOnly_moveOnce c k) _ c

theorem Chip.moveOnce_of_idle {c : Chip} {k : Nat} (h : (c.pipe k).chain = none) : c.moveOnce k = c := by
  simp only [Chip.moveOnce, h]

/-- Without a chain in progress there is nothing to finish. -/
theorem Chip.finishChain_of_idle {c : Chip} {k : Nat} (h : (c.pipe k).chain = none) : c.finishChain k = c :=
  foldl_fixed_of_mem fun _ _ => Chip.moveOnce_of_idle h

theorem Chip.fwdOnly_macPlace {c d : Chip} {k : Nat} {e : MacEntry} (h : c.macPlace k e = some d) : Chip.fwdOnly k c d := by
  have hfinish := Chip.fwdOnly_finishChain c k
  unfold Chip.macPlace at h
  generalize c.finishChain k = x at h hfinish
  dsimp only at h
  split at h
  · rw [← Option.some.inj h]
    exact hfinish.setMac _ _
  · split at h
    · exact absurd h (Option.some_ne_none d).symm
    · rw [← Option.some.inj h]
      exact (hfinish.setPipe _).wr (f := F.FWD_MAC_STATUS_move_busy k) (bank_high (by decide)) _

/-! ## Removals and what synchronises them (R162) -/

theorem Chip.fwdOnly_syncEvent (c : Chip) (k : Nat) (e : SyncEvent) : Chip.fwdOnly k c (c.syncEvent k e) := by
  unfold Chip.syncEvent
  dsimp only
  split_ifs
  · exact Chip.fwdOnly_refl _ _
  · exact (Chip.fwdOnly_setPipe c k _).bump (a := R.FWD_SYNC_LOST k) (bank_high (by decide))
  · exact Chip.fwdOnly_setPipe c k _

/-- An event that enters the queue leaves the MAC table alone. -/
theorem Chip.syncEvent_mac (c : Chip) (k : Nat) (e : SyncEvent) : ((c.syncEvent k e).pipe k).mac = (c.pipe k).mac := by
  unfold Chip.syncEvent
  dsimp only
  split_ifs <;> simp

theorem Chip.fwdOnly_macRemove (c : Chip) (k pos : Nat) : Chip.fwdOnly k c (c.macRemove k pos) := by
  unfold Chip.macRemove
  dsimp only
  split
  · exact (Chip.fwdOnly_setMac c k pos {}).trans (Chip.fwdOnly_syncEvent _ _ _)
  · exact Chip.fwdOnly_setMac c k pos {}

theorem Chip.macAt_macRemove (c : Chip) (k pos q : Nat) : (c.macRemove k pos).macAt k q = if q = pos then {} else c.macAt k q := by
  unfold Chip.macRemove
  dsimp only
  split
  · rw [Chip.macAt_of_mac (Chip.syncEvent_mac _ _ _), Chip.macAt_setMac]
  · exact Chip.macAt_setMac _ _ _ _ _

theorem Chip.fwdOnly_syncWrite (c : Chip) (k fid mac port : Nat) : Chip.fwdOnly k c (c.syncWrite k fid mac port) := by
  have hfinish := Chip.fwdOnly_finishChain c k
  unfold Chip.syncWrite
  generalize c.finishChain k = x at hfinish
  dsimp only
  split
  · split
    · exact hfinish
    · exact hfinish.setMac _ _
  · cases hplace : x.macPlace k { valid := true, sync := true, dest := port, fid := fid, mac := mac } with
    | none => exact hfinish
    | some d =>
      rw [Option.map_some, Option.getD_some]
      exact (hfinish.trans (Chip.fwdOnly_macPlace hplace)).trans (Chip.fwdOnly_finishChain d k)

theorem Chip.fwdOnly_syncRemove (c : Chip) (k fid mac port : Nat) : Chip.fwdOnly k c (c.syncRemove k fid mac port) := by
  have hfinish := Chip.fwdOnly_finishChain c k
  unfold Chip.syncRemove
  dsimp only
  split
  · split
    · exact hfinish.setMac _ _
    · exact hfinish
  · exact hfinish

/-! ## Passes over the entries of a table -/

theorem Sparse.get_of_notMem {α : Type} {d : α} {m : Sparse α} {k : Nat} (h : k ∉ m.map (·.1)) : Sparse.get d m k = d := by
  induction m with
  | nil => rfl
  | cons e m ih =>
    rw [List.map_cons, List.mem_cons, not_or] at h
    rw [Sparse.get, if_neg (Ne.symm h.1), ih h.2]

/-- Each key of a table in canonical form is listed once. -/
theorem Sparse.nodup_keys {α : Type} [DecidableEq α] {d : α} {m : Sparse α} (h : Sparse.wf d m = true) : (m.map (·.1)).Nodup :=
  List.pairwise_map.mpr (((Sparse.wf_iff d m).mp h).1.imp fun hlt => Nat.ne_of_lt hlt)

/-- A fold whose steps each settle what is seen of their own entity settles every entity that it lists. -/
theorem foldl_settles {σ β : Type} {g : σ → Nat → σ} {look : σ → Nat → β} {settle : β → β}
    (hself : ∀ s x, look (g s x) x = settle (look s x)) (hother : ∀ s x y, y ≠ x → look (g s x) y = look s y)
    (hsettled : ∀ b, settle (settle b) = settle b) {l : List Nat} {e : Nat} (hmem : e ∈ l) (s : σ) :
    look (l.foldl g s) e = settle (look s e) := by
  induction l generalizing s with
  | nil => cases hmem
  | cons x l ih =>
    have hstep : settle (look (g s x) e) = settle (look s e) := by
      by_cases hx : e = x
      · rw [hx, hself, hsettled]
      · rw [hother _ _ _ hx]
    by_cases hl : e ∈ l
    · exact (ih hl _).trans hstep
    · obtain rfl : e = x := (List.mem_cons.mp hmem).resolve_right hl
      exact (foldl_apart hother hl _).trans (hself _ _)

end Sys2Proof.Machine
end

section
/-! PROOFS of the family of forwarding and learning, O37: relocation, synchronisation and ageing of the MAC tables (R157, R160 to R163). -/

namespace Sys2Proof.Machine

/-! ## Relocation (R157) -/

/-- The part after the last write of a chain: the new entry has entered, and the move engine rests. -/
def Chip.chainEnded (c : Chip) (k : Nat) (ch : Chain) : Chip :=
  ((c.setMac k ch.target ch.entry).setPipe k { (c.setMac k ch.target ch.entry).pipe k with chain := none }).wr (F.FWD_MAC_STATUS_move_busy k) 0
    |>.mark (F.FWD_MAC_STATUS_max_chain k) ch.len

section
variable {c : Chip} {k : Nat} {ch : Chain} (hch : (c.pipe k).chain = some ch)

theorem Chip.chainEnded_mac (c : Chip) (k : Nat) (ch : Chain) : ((c.chainEnded k ch).pipe k).mac = ((c.setMac k ch.target ch.entry).pipe k).mac := by
  rw [Chip.chainEnded, Chip.pipe_mark, Chip.pipe_wr, Chip.pipe_setPipe_same]

theorem Chip.chainEnded_idle (c : Chip) (k : Nat) (ch : Chain) : ((c.chainEnded k ch).pipe k).chain = none := by
  rw [Chip.chainEnded, Chip.pipe_mark, Chip.pipe_wr, Chip.pipe_setPipe_same]

theorem Chip.chainEnded_free (c : Chip) (k : Nat) (ch : Chain) : (c.chainEnded k ch).flag (F.FWD_MAC_STATUS_move_busy k) = false := by
  have hapart : (F.FWD_MAC_STATUS_max_chain k).apart (F.FWD_MAC_STATUS_move_busy k) = true := by
    simp [Fld.apart, F.FWD_MAC_STATUS_max_chain, F.FWD_MAC_STATUS_move_busy]
  rw [Chip.flag, Chip.chainEnded, Chip.mark, Chip.rd_wr_apart _ _ _ _ rfl hapart, Chip.rd_wr_same _ _ _ rfl]
  rfl

include hch

theorem Chip.moveOnce_of_last (hmoves : ch.moves = []) : c.moveOnce k = c.chainEnded k ch := by
  simp only [Chip.moveOnce, hch, hmoves]
  rfl

variable {a b : Nat} {rest : List (Nat × Nat)} (hmoves : ch.moves = (a, b) :: rest)
include hmoves

/-- While the destination copy of the next move stands, the write to come clears its source. -/
theorem Chip.moveOnce_of_copied (hcopied : ch.copied = true) :
    c.moveOnce k = (c.setMac k a {}).setPipe k { (c.setMac k a {}).pipe k with chain := some { ch with moves := rest, copied := false } } := by
  simp only [Chip.moveOnce, hch, hmoves, hcopied, if_true]

/-- Else it copies the entry to its destination. -/
theorem Chip.moveOnce_of_uncopied (hcopied : ch.copied = false) :
    c.moveOnce k = (c.setMac k b (c.macAt k a)).setPipe k
      { (c.setMac k b (c.macAt k a)).pipe k with chain := some { ch with copied := true } } := by
  simp only [Chip.moveOnce, hch, hmoves, hcopied, Bool.false_eq_true, if_false]

end

section
variable {s : State} {k : Nat} (hp : s.chip.power = true) (hk : k < 4)
include hp hk

/-- A write of the move engine is that of its pipeline. -/
theorem goes_relocationMove {d : Chip} {P : Chip → Prop} (hd : s.chip.moveOnce k = d) (h : P d) : Goes (.relocationMove k) s P :=
  goes_actOn_of_eq rfl (decide_eq_true hk) hp hd (hd ▸ (Chip.fwdOnly_moveOnce s.chip k).power) h

theorem goes_relocationMove_last {ch : Chain} (hch : (s.chip.pipe k).chain = some ch) (hmoves : ch.moves = []) :
    Goes (.relocationMove k) s fun c =>
      (c.pipe k).chain = none ∧ c.macAt k ch.target = ch.entry ∧ c.flag (F.FWD_MAC_STATUS_move_busy k) = false ∧
        (∀ pos, pos ≠ ch.target → c.macAt k pos = s.chip.macAt k pos) ∧ ∀ j, j ≠ k → c.pipe j = s.chip.pipe j := by
  have hd := Chip.moveOnce_of_last hch hmoves
  have hat (pos : Nat) := Chip.macAt_of_mac (Chip.chainEnded_mac s.chip k ch) pos
  exact goes_relocationMove hp hk hd ⟨Chip.chainEnded_idle _ _ _, (hat _).trans (Chip.macAt_setMac_same _ _ _ _),
    Chip.chainEnded_free _ _ _, fun pos hpos => (hat pos).trans (Chip.macAt_setMac_other _ _ hpos),
    fun j hj => (hd ▸ Chip.fwdOnly_moveOnce s.chip k).pipe hj⟩

/-- A move that writes position `q` and goes on with the chain `ch'`. -/
theorem goes_relocationMove_write {q : Nat} {e : MacEntry} {ch' : Chain}
    (hd : s.chip.moveOnce k = (s.chip.setMac k q e).setPipe k { (s.chip.setMac k q e).pipe k with chain := some ch' }) :
    Goes (.relocationMove k) s fun c =>
      c.macAt k q = e ∧ (c.pipe k).chain = some ch' ∧ (∀ pos, pos ≠ q → c.macAt k pos = s.chip.macAt k pos) ∧
        ∀ j, j ≠ k → c.pipe j = s.chip.pipe j := by
  have hmac := Chip.pipe_setPipe_same (s.chip.setMac k q e) k { (s.chip.setMac k q e).pipe k with chain := some ch' }
  have hat (pos : Nat) := Chip.macAt_of_mac (c := s.chip.setMac k q e) (congrArg Pipe.mac hmac :) pos
  exact goes_relocationMove hp hk hd ⟨(hat _).trans (Chip.macAt_setMac_same _ _ _ _), congrArg Pipe.chain hmac,
    fun pos hpos => (hat pos).trans (Chip.macAt_setMac_other _ _ hpos), fun j hj => (hd ▸ Chip.fwdOnly_moveOnce s.chip k).pipe hj⟩

theorem goes_relocationMove_next {ch : Chain} {a b : Nat} {rest : List (Nat × Nat)} (hch : (s.chip.pipe k).chain = some ch)
    (hmoves : ch.moves = (a, b) :: rest) : Goes (.relocationMove k) s fun c =>
      c.macAt k (if ch.copied then a else b) = (if ch.copied then {} else s.chip.macAt k a) ∧
        (c.pipe k).chain = some { ch with moves := if ch.copied then rest else (a, b) :: rest, copied := !ch.copied } ∧
        (∀ pos, pos ≠ (if ch.copied then a else b) → c.macAt k pos = s.chip.macAt k pos) ∧ ∀ j, j ≠ k → c.pipe j = s.chip.pipe j := by
  cases hcopied : ch.copied with
  | true => exact goes_relocationMove_write hp hk (Chip.moveOnce_of_copied hch hmoves hcopied)
  | false =>
    have hnext := goes_relocationMove_write hp hk (Chip.moveOnce_of_uncopied hch hmoves hcopied)
    simpa [hmoves] using hnext

end

/-! ## Synchronisation (R162) -/

theorem Chip.mem_syncTargets {c : Chip} {j k : Nat} : j ∈ c.syncTargets k ↔ j < 4 ∧ j ≠ k ∧ c.learnSync j = true := by
  simp [Chip.syncTargets]

theorem Chip.syncTargets_nodup (c : Chip) (k : Nat) : (c.syncTargets k).Nodup := List.nodup_range.filter _

/-- Firmware acts on an event in another pipeline `j`. -/
def Chip.applySync (c : Chip) (e : SyncEvent) (j : Nat) : Chip :=
  if e.removal then c.syncRemove j e.fid e.mac e.port else c.syncWrite j e.fid e.mac e.port

theorem Chip.fwdOnly_applySync (c : Chip) (e : SyncEvent) (j : Nat) : Chip.fwdOnly j c (c.applySync e j) := by
  unfold Chip.applySync
  split
  · exact Chip.fwdOnly_syncRemove _ _ _ _ _
  · exact Chip.fwdOnly_syncWrite _ _ _ _ _

/-- A removal clears the sync entry that was written for its port. -/
theorem Chip.applySync_removal {c : Chip} {e : SyncEvent} {j pos : Nat} (hidle : (c.pipe j).chain = none)
    (hfind : c.macFind j e.fid e.mac = some pos) (hrem : e.removal = true) (hsync : (c.macAt j pos).sync = true)
    (hdest : (c.macAt j pos).dest = e.port) : c.applySync e j = c.setMac j pos {} := by
  rw [Chip.applySync, if_pos hrem]
  unfold Chip.syncRemove
  rw [Chip.finishChain_of_idle hidle]
  simp only [hfind, hsync, hdest, beq_self_eq_true, Bool.and_self, if_true]

/-- A learn or port change is written over an entry that is neither static nor pending. -/
theorem Chip.applySync_write {c : Chip} {e : SyncEvent} {j pos : Nat} (hidle : (c.pipe j).chain = none)
    (hfind : c.macFind j e.fid e.mac = some pos) (hrem : e.removal = false) (hstatic : (c.macAt j pos).static = false)
    (hpending : (c.macAt j pos).pending = false) :
    c.applySync e j = c.setMac j pos { valid := true, sync := true, dest := e.port, fid := e.fid, mac := e.mac } := by
  rw [Chip.applySync, if_neg (Bool.eq_false_iff.mp hrem)]
  unfold Chip.syncWrite
  rw [Chip.finishChain_of_idle hidle]
  simp only [hfind, hstatic, hpending, Bool.or_self, Bool.false_eq_true, if_false]

/-- Firmware rescans pipeline `k`: what becomes of the sync entries of another pipeline `j`. -/
def Chip.rescanned (c : Chip) (k : Nat) (mine : List MacEntry) (j : Nat) : Chip :=
  let stale := ((c.pipe j).mac.map (·.2)).filter (fun e => e.sync && pipeOf e.dest == k && !mine.any (fun m => m.fid == e.fid && m.mac == e.mac))
  mine.foldl (fun c m => c.syncWrite j m.fid m.mac m.dest) (stale.foldl (fun c e => c.syncRemove j e.fid e.mac e.dest) c)

theorem Chip.fwdOnly_rescanned (c : Chip) (k : Nat) (mine : List MacEntry) (j : Nat) : Chip.fwdOnly j c (c.rescanned k mine j) :=
  (Chip.fwdOnly_foldl (fun _ _ => Chip.fwdOnly_syncRemove _ _ _ _ _) _ _).trans (Chip.fwdOnly_foldl (fun _ _ => Chip.fwdOnly_syncWrite _ _ _ _ _) _ _)

section
variable {g : Chip → Nat → Chip} (hg : ∀ c j, Chip.fwdOnly j c (g c j))
include hg

/-- Work in the pipelines of a list leaves every other pipeline alone. -/
theorem Chip.foldl_pipe_other {l : List Nat} {j : Nat} (hj : j ∉ l) (c : Chip) : (l.foldl g c).pipe j = c.pipe j :=
  foldl_apart (fun c j _ hne => (hg c j).pipe hne) hj c

theorem Chip.foldl_power (l : List Nat) (c : Chip) : (l.foldl g c).power = c.power := foldl_keeps (fun c j => (hg c j).power) l c

/-- Work in a pipeline listed once is that of one step, in a part with the same image and the same pipeline. -/
theorem Chip.foldl_pipe_of_mem {l : List Nat} {j : Nat} (hnodup : l.Nodup) (hj : j ∈ l) (c : Chip) :
    ∃ t : Chip, t.img = c.img ∧ t.pipe j = c.pipe j ∧ (l.foldl g c).pipe j = (g t j).pipe j :=
  foldl_once (fun c j => (hg c j).img) (fun c j _ hne => (hg c j).pipe hne) (List.count_eq_one_of_mem hnodup hj) c

end

section
variable {s : State} {k : Nat} (hp : s.chip.power = true) (hk : k < 4)
include hp hk

theorem goes_syncEventApply {e : SyncEvent} {es : List SyncEvent} (hfw : s.chip.firmware = true) (hevents : (s.chip.pipe k).events = e :: es) :
    Goes (.syncEventApply k) s fun c =>
      (c.pipe k).events = es ∧ (c.pipe k).mac = (s.chip.pipe k).mac ∧
        ∀ j pos, j < 4 → j ≠ k → s.chip.learnSync j = true → (s.chip.pipe j).chain = none → s.chip.macFind j e.fid e.mac = some pos →
          (e.removal = true → (s.chip.macAt j pos).sync = true → (s.chip.macAt j pos).dest = e.port → c.macAt j pos = {}) ∧
          (e.removal = false → (s.chip.macAt j pos).static = false → (s.chip.macAt j pos).pending = false →
            c.macAt j pos = { valid := true, sync := true, dest := e.port, fid := e.fid, mac := e.mac }) := by
  let c := s.chip.setPipe k { s.chip.pipe k with events := es }
  have hsteps (c : Chip) (j : Nat) := Chip.fwdOnly_applySync c e j
  refine goes_actOn_of_eq (d := (c.syncTargets k).foldl (fun c j => c.applySync e j) c) rfl (decide_eq_true hk) hp ?_
    (Chip.foldl_power hsteps _ c) ?_
  · simp only [hevents, hfw, Bool.not_true, Bool.false_eq_true, if_false]
    rfl
  · have hown : k ∉ c.syncTargets k := fun hmem => (Chip.mem_syncTargets.mp hmem).2.1 rfl
    have hpipe := (Chip.foldl_pipe_other hsteps hown c).trans (Chip.pipe_setPipe_same _ _ _)
    refine ⟨(congrArg Pipe.events hpipe :), (congrArg Pipe.mac hpipe :), fun j pos hj hne hsync hidle hfind => ?_⟩
    obtain ⟨t, himg, htpipe, hlast⟩ := Chip.foldl_pipe_of_mem hsteps (c.syncTargets_nodup k) (Chip.mem_syncTargets.mpr ⟨hj, hne, hsync⟩) c
    have hsame : t.pipe j = s.chip.pipe j := htpipe.trans (Chip.pipe_setPipe_other _ _ hne)
    have hidle' : (t.pipe j).chain = none := by rw [hsame, hidle]
    have hfind' : t.macFind j e.fid e.mac = some pos := (Chip.macFind_of_mac (c := s.chip) himg (congrArg Pipe.mac hsame) _ _).trans hfind
    have hat := Chip.macAt_of_mac (congrArg Pipe.mac hsame) pos
    rw [Chip.macAt_of_mac (congrArg Pipe.mac hlast), ← hat]
    constructor
    · intro hrem hs hdest
      rw [Chip.applySync_removal hidle' hfind' hrem hs hdest, Chip.macAt_setMac_same]
    · intro hrem hstatic hpending
      rw [Chip.applySync_write hidle' hfind' hrem hstatic hpending, Chip.macAt_setMac_same]

theorem goes_syncRescan (hfw : s.chip.firmware = true) (hrescan : (s.chip.pipe k).rescan = true) :
    Goes (.syncRescan k) s fun c =>
      (c.pipe k).rescan = false ∧ (c.pipe k).mac = (s.chip.pipe k).mac ∧ ∀ j, s.chip.learnSync j = false → j ≠ k → c.pipe j = s.chip.pipe j := by
  let c := s.chip.setPipe k { s.chip.pipe k with rescan := false }
  let mine := ((c.pipe k).mac.map (·.2)).filter MacEntry.learned
  have hsteps (c : Chip) (j : Nat) := Chip.fwdOnly_rescanned c k mine j
  refine goes_actOn_of_eq (d := (c.syncTargets k).foldl (fun c j => c.rescanned k mine j) c) rfl (decide_eq_true hk) hp ?_
    (Chip.foldl_power hsteps _ c) ?_
  · simp only [hfw, hrescan, Bool.not_true, Bool.or_false, Bool.false_eq_true, if_false]
    rfl
  · have hother {j : Nat} (hj : j ∉ c.syncTargets k) := Chip.foldl_pipe_other hsteps hj c
    have hpipe := (hother fun hmem => (Chip.mem_syncTargets.mp hmem).2.1 rfl).trans (Chip.pipe_setPipe_same _ _ _)
    refine ⟨(congrArg Pipe.rescan hpipe :), (congrArg Pipe.mac hpipe :), fun j hunsynced hne => ?_⟩
    refine (hother fun hmem => ?_).trans (Chip.pipe_setPipe_other _ _ hne)
    exact absurd (hunsynced.symm.trans (Chip.mem_syncTargets.mp hmem).2.2) (by decide)

end

/-! ## Ageing (R163, R164) -/

/-- What a sweep makes of an entry, which a lookup is reading or is not. -/
def MacEntry.swept (e : MacEntry) (reading : Bool) : MacEntry :=
  if !e.valid || e.static || e.sync || e.pending then e
  else if e.hit then { e with hit := false, stale := false }
  else if !e.stale then { e with stale := true }
  else if reading then e else {}

theorem Chip.fwdOnly_sweepEntry (c : Chip) (k : Nat) (reading : List Nat) (pos : Nat) : Chip.fwdOnly k c (c.sweepEntry k reading pos) := by
  unfold Chip.sweepEntry
  dsimp only
  split_ifs
  · exact Chip.fwdOnly_refl _ _
  · exact Chip.fwdOnly_setMac _ _ _ _
  · exact Chip.fwdOnly_setMac _ _ _ _
  · exact Chip.fwdOnly_refl _ _
  · exact (Chip.fwdOnly_macRemove c k pos).bump (a := R.FWD_AGED k) (bank_high (by decide))

theorem Chip.macAt_sweepEntry_same (c : Chip) (k : Nat) (reading : List Nat) (pos : Nat) :
    (c.sweepEntry k reading pos).macAt k pos = (c.macAt k pos).swept (reading.contains pos) := by
  have hremoved : ((c.macRemove k pos).bump (R.FWD_AGED k)).macAt k pos = {} := (Chip.macAt_macRemove c k pos pos).trans (if_pos rfl)
  unfold Chip.sweepEntry MacEntry.swept
  dsimp only
  split_ifs <;> simp only [Chip.macAt_setMac_same, hremoved]

theorem Chip.macAt_sweepEntry_other (c : Chip) (k : Nat) (reading : List Nat) (pos q : Nat) (h : q ≠ pos) :
    (c.sweepEntry k reading pos).macAt k q = c.macAt k q := by
  have hremoved : ((c.macRemove k pos).bump (R.FWD_AGED k)).macAt k q = c.macAt k q := (Chip.macAt_macRemove c k pos q).trans (if_neg h)
  unfold Chip.sweepEntry
  dsimp only
  split_ifs <;> simp only [Chip.macAt_setMac_other _ _ h, hremoved]

/-- A sweep of a table in canonical form, in which no relocation is at work, sweeps each entry once. -/
theorem Chip.macAt_sweep {c : Chip} {k : Nat} (hidle : (c.pipe k).chain = none) (hwf : Sparse.wf {} (c.pipe k).mac = true)
    (reading : List Nat) (pos : Nat) : (c.sweep k reading).macAt k pos = (c.macAt k pos).swept (reading.contains pos) := by
  have hother (c : Chip) (x y : Nat) (h : y ≠ x) := Chip.macAt_sweepEntry_other c k reading x y h
  simp only [Chip.sweep, Chip.finishChain_of_idle hidle]
  by_cases hmem : pos ∈ (c.pipe k).mac.map (·.1)
  · obtain ⟨t, -, hsame, hlast⟩ := foldl_once (view := fun _ => ()) (look := fun c => Chip.macAt c k) (fun _ _ => rfl) hother
      (List.count_eq_one_of_mem (Sparse.nodup_keys hwf) hmem) c
    rw [← hsame]
    exact hlast.trans (Chip.macAt_sweepEntry_same _ _ _ _)
  · have hempty : c.macAt k pos = {} := Sparse.get_of_notMem hmem
    refine (foldl_apart (look := fun c => Chip.macAt c k) hother hmem c).trans ?_
    rw [hempty]
    rfl

theorem Chip.fwdOnly_sweep (c : Chip) (k : Nat) (reading : List Nat) : Chip.fwdOnly k c (c.sweep k reading) :=
  (Chip.fwdOnly_finishChain c k).trans (Chip.fwdOnly_foldl (fun c pos => Chip.fwdOnly_sweepEntry c k reading pos) _ _)

theorem goes_ageSweep {s : State} {k n : Nat} {w : WheelEntry} (hp : s.chip.power = true) (hk : k < 4) (hn : n < 4096)
    (hdue : s.chip.wheelDue n = some w) (htype : w.type = 7) (harg : w.arg = k) (hstart : s.chip.restarting = false)
    (hidle : (s.chip.pipe k).chain = none) (hwf : Sparse.wf {} (s.chip.pipe k).mac = true) (reading : List Nat) :
    Goes (.ageSweep n reading) s fun c => ∀ pos, c.macAt k pos = (s.chip.macAt k pos).swept (reading.contains pos) := by
  obtain ⟨hpow, -, -, hdata, -⟩ := (Chip.retimed_wheelFired s.chip n w).keeps
  have hpipe : (s.chip.wheelFired n w).pipe k = s.chip.pipe k := by rw [Chip.pipe, hdata, Chip.pipe]
  have hpipeline : w.arg % 4 = k := by omega
  refine goes_fire rfl hp hn hdue htype (by rw [hstart, Bool.false_and]) ?_ fun pos => ?_
  · exact (Chip.fwdOnly_sweep _ _ _).power.trans (hpow.trans hp)
  · rw [hpipeline, Chip.macAt_sweep (by rw [hpipe, hidle]) (by rw [hpipe, hwf]), Chip.macAt_of_mac (congrArg Pipe.mac hpipe)]

/-- Settles O37: relocation by the write that comes next (R157), synchronisation pipeline by pipeline (R162), the sweep entry by entry
(R163, R164). -/
theorem forwardingUpkeep : Obligations.ForwardingUpkeep := by
  unfold Obligations.ForwardingUpkeep
  intro s k hp hk
  refine ⟨fun hidle => ?_, fun ch hch hmoves => ?_, fun ch a b rest hch hmoves => ?_, fun e es hfw hevents => ?_, fun hfw hrescan => ?_,
    fun n w reading hn hdue htype harg hstart hidle hwf => ?_⟩
  · exact goes_relocationMove hp hk (Chip.moveOnce_of_idle hidle) rfl
  · exact goes_relocationMove_last hp hk hch hmoves
  · exact goes_relocationMove_next hp hk hch hmoves
  · exact goes_syncEventApply hp hk hfw hevents
  · exact goes_syncRescan hp hk hfw hrescan
  · exact goes_ageSweep hp hk hn hdue htype harg hstart hidle hwf reading

end Sys2Proof.Machine
end

section
/-! PROOFS of the family of forwarding and learning, O52: the mailbox commands of the forwarding tables (R165, R168 to R170). -/

namespace Sys2Proof.Machine

/-! ## Commands of one pipeline (R170) -/

theorem bit_two_pow (k j : Nat) : bit (2 ^ k) j = decide (k = j) := by
  rw [← Nat.testBit_two_pow, Nat.testBit_eq_decide_div_mod_eq]
  rfl

/-- A fold over the pipelines that acts on pipeline `k` alone is one step. -/
theorem foldl_pipes_one {σ : Type} {g : σ → Nat → σ} {k : Nat} (hk : k < 4) (hother : ∀ s j, j ≠ k → g s j = s) (s : σ) :
    (List.range 4).foldl g s = g s k := by
  have hlist : List.range 4 = [0, 1, 2, 3] := rfl
  rw [hlist]
  simp only [List.foldl_cons, List.foldl_nil]
  obtain rfl | rfl | rfl | rfl : k = 0 ∨ k = 1 ∨ k = 2 ∨ k = 3 := by omega
  all_goals simp [hother]

section
variable {c : Chip} {k : Nat} (hk : k < 4)
include hk

/-- A command of one pipeline that it carries out succeeds as a whole. -/
theorem Chip.onPipes_one {f : Chip → Nat → Except Nat Chip} {d : Chip} (hf : f c k = .ok d) : c.onPipes (2 ^ k) f = (d, 0, none) := by
  refine (foldl_pipes_one hk (fun y j hj => ?_) _).trans ?_
  · rw [bit_two_pow, decide_eq_false hj.symm]
    rfl
  · simp only [bit_two_pow, decide_true, Bool.not_true, Bool.false_eq_true, if_false, hf]

theorem Chip.cancelOn_one (fid mac : Nat) : c.cancelOn (2 ^ k) fid mac = c.learnCancel k fid mac := by
  refine (foldl_pipes_one hk (fun y j hj => ?_) _).trans ?_
  · rw [bit_two_pow, decide_eq_false hj.symm]
    rfl
  · rw [bit_two_pow, decide_eq_true rfl, if_pos rfl]

theorem pipeMask_le : 2 ^ k ≤ 15 := by
  have := Nat.pow_le_pow_right (n := 2) (by decide) (Nat.le_of_lt_succ hk)
  omega

end

/-- Where no relocation and no learning is at work, a write or delete of a key finds nothing to cancel. -/
theorem Chip.learnCancel_of_quiet {c : Chip} {k : Nat} (hidle : (c.pipe k).chain = none) (hquiet : c.pendingOps k = []) (fid mac : Nat) :
    c.learnCancel k fid mac = c := by
  unfold Chip.learnCancel
  rw [hquiet, Chip.finishChain_of_idle hidle]
  rfl

theorem Chip.paired_mbStarted (c : Chip) {h : Mb} (hfn : h.fn ≤ 1) (p : Nat) : (c.mbStarted h).paired p = c.paired p := by
  rw [Chip.paired, Chip.mbStarted_flag_high c h hfn _ (by simp only [F.PRT_CFG_paired, R.PRT_CFG]; omega), Chip.paired]

theorem Chip.badDest_mbStarted (c : Chip) {h : Mb} (hfn : h.fn ≤ 1) (kind dest : Nat) : (c.mbStarted h).badDest kind dest = c.badDest kind dest := by
  simp only [Chip.badDest, c.paired_mbStarted hfn]

/-- An accepted command of one pipeline that is journaled is served when its rule carries it out there. -/
theorem did_onePipe {i : Instr} {s : State} {h : Mb} {k : Nat} {cls : CmdClass} {body : Chip → Chip × Answer} {d : Chip} {P : Chip → Prop}
    (hexec : exec i s = s.act fun c => c.mbRun h cls fun c => journalPart (body c)) (hacc : s.chip.mbAccepts h cls)
    (hbody : body (s.chip.mbStarted h) = pipesAnswer (d, 0, none) i (2 ^ k) true) (hd : Chip.fwdOnly k (s.chip.mbStarted h) d) (hP : P d) :
    Did i s h none 0 [.cmd i] P :=
  did_journaled hexec hacc (by rw [hbody]; rfl) hd.power (fun _ ha => hd.word (by omega)) hP

/-! ## MAC entries (R161, R170) -/

/-- A new entry takes the first free way of its candidates at once. -/
theorem Chip.macPlace_of_free {c : Chip} {k pos : Nat} {e : MacEntry} (hidle : (c.pipe k).chain = none)
    (hfree : c.freeWay k (c.candidates k e.fid e.mac) = some pos) : c.macPlace k e = some (c.setMac k pos e) := by
  unfold Chip.macPlace
  rw [Chip.finishChain_of_idle hidle]
  simp only [hfree]

theorem Chip.macWrite_of_place {c : Chip} {k kind fid dest mac pos : Nat} (hidle : (c.pipe k).chain = none) (hquiet : c.pendingOps k = [])
    (hplace : c.macFind k fid mac = some pos ∨ (c.macFind k fid mac = none ∧ c.freeWay k (c.candidates k fid mac) = some pos)) :
    c.macWrite k kind fid dest mac =
      .ok (c.setMac k pos { valid := true, static := true, kind := kind, dest := dest, fid := fid, mac := mac }) := by
  unfold Chip.macWrite
  rw [Chip.learnCancel_of_quiet hidle hquiet]
  rcases hplace with hfind | ⟨hfind, hfree⟩
  · simp only [hfind]
  · generalize he : ({ valid := true, static := true, kind := kind, dest := dest, fid := fid, mac := mac } : MacEntry) = e
    have hplaced : c.macPlace k e = some (c.setMac k pos e) := Chip.macPlace_of_free hidle (he ▸ hfree)
    have hidle' : ((c.setMac k pos e).pipe k).chain = none := by rw [Chip.pipe_setMac, hidle]
    simp only [hfind, hplaced, Chip.finishChain_of_idle hidle']

section
variable {s : State} {h : Mb} {k : Nat} (hk : k < 4)
include hk

section
variable (hidle : (s.chip.pipe k).chain = none) (hquiet : s.chip.pendingOps k = [])
include hidle hquiet

theorem did_fwdMacWrite {kind fid dest pos : Nat} {mac : Bytes} (hfid : fid ≤ 4095) (hdest : s.chip.badDest kind dest = false)
    (hplace : s.chip.macFind k fid (be mac 0 6) = some pos ∨
      (s.chip.macFind k fid (be mac 0 6) = none ∧ s.chip.freeWay k (s.chip.candidates k fid (be mac 0 6)) = some pos))
    (htaken : taken h (.fwdMacWrite h (2 ^ k) kind fid dest mac) s) :
    Did (.fwdMacWrite h (2 ^ k) kind fid dest mac) s h none 0 [.cmd (.fwdMacWrite h (2 ^ k) kind fid dest mac)] fun d =>
      d.macAt k pos = { valid := true, static := true, kind := kind, dest := dest, fid := fid, mac := be mac 0 6 } ∧
        (∀ q, q ≠ pos → d.macAt k q = s.chip.macAt k q) ∧ (∀ j, j ≠ k → d.pipe j = s.chip.pipe j) ∧
        { d with data := { d.data with pipes := (s.chip.mbStarted h).data.pipes }, regs := (s.chip.mbStarted h).regs } = s.chip.mbStarted h := by
  obtain ⟨_, hclass, hacc⟩ := htaken
  cases hclass
  have hbad := (s.chip.badDest_mbStarted (Chip.fn_le_of_accepts hacc) kind dest).trans hdest
  have hone := Chip.onPipes_one (f := fun c k => c.macWrite k kind fid dest (be mac 0 6)) hk
    (Chip.macWrite_of_place (c := s.chip.mbStarted h) (kind := kind) (dest := dest) hidle hquiet hplace)
  have hset := Chip.fwdOnly_setMac (s.chip.mbStarted h) k pos
    { valid := true, static := true, kind := kind, dest := dest, fid := fid, mac := be mac 0 6 }
  refine did_onePipe rfl hacc ?_ hset
    ⟨Chip.macAt_setMac_same _ _ _ _, fun q hq => Chip.macAt_setMac_other _ _ hq, fun j hj => hset.pipe hj, hset.rest⟩
  rw [Chip.fwdMacWrite, if_neg (by simp [pipeMask_le hk, hbad]; omega), Chip.cancelOn_one hk,
    Chip.learnCancel_of_quiet (c := s.chip.mbStarted h) hidle hquiet, hone]

theorem did_fwdMacDelete {fid pos : Nat} {mac : Bytes} (hfid : fid ≤ 4095) (hfind : s.chip.macFind k fid (be mac 0 6) = some pos)
    (htaken : taken h (.fwdMacDelete h (2 ^ k) fid mac) s) :
    Did (.fwdMacDelete h (2 ^ k) fid mac) s h none 0 [.cmd (.fwdMacDelete h (2 ^ k) fid mac)] fun d =>
      d.macAt k pos = {} ∧ ∀ q, q ≠ pos → d.macAt k q = s.chip.macAt k q := by
  obtain ⟨_, hclass, hacc⟩ := htaken
  cases hclass
  have hat := Chip.macAt_macRemove (s.chip.mbStarted h) k pos
  refine did_onePipe rfl hacc ?_ (Chip.fwdOnly_macRemove (s.chip.mbStarted h) k pos)
    ⟨(hat pos).trans (if_pos rfl), fun q hq => (hat q).trans (if_neg hq)⟩
  rw [Chip.fwdMacDelete, if_neg (by simp [pipeMask_le hk]; omega), Chip.cancelOn_one hk,
    Chip.learnCancel_of_quiet (c := s.chip.mbStarted h) hidle hquiet, Chip.onPipes_one hk]
  have hfind' : (s.chip.mbStarted h).macFind k fid (be mac 0 6) = some pos := hfind
  simp only [hfind']

end

end

/-! ## Flushes (R165) -/

/-- What a flush makes of an entry: gone when it matches. -/
def MacEntry.flushed (port fid : Option Nat) (static : Bool) (e : MacEntry) : MacEntry :=
  if e.valid && !e.pending && (static || !e.static) && (port.isNone || (e.kind == 0 && some e.dest == port)) && (fid.isNone || some e.fid == fid)
  then {} else e

theorem MacEntry.flushed_flushed (port fid : Option Nat) (static : Bool) (e : MacEntry) :
    (e.flushed port fid static).flushed port fid static = e.flushed port fid static := by
  have hempty : MacEntry.flushed port fid static {} = {} := rfl
  unfold MacEntry.flushed at hempty ⊢
  split
  · exact hempty
  · rfl

section
variable (c : Chip) (k : Nat) (port fid : Option Nat) (static : Bool)

/-- The step of a flush at one position. -/
def Chip.flushEntry (pos : Nat) : Chip :=
  if (c.macAt k pos).valid && !(c.macAt k pos).pending && (static || !(c.macAt k pos).static) &&
      (port.isNone || ((c.macAt k pos).kind == 0 && some (c.macAt k pos).dest == port)) && (fid.isNone || some (c.macAt k pos).fid == fid)
  then c.macRemove k pos else c

theorem Chip.flush_eq : c.flush k port fid static =
    (((c.finishChain k).pipe k).mac.map (·.1)).foldl (fun c pos => c.flushEntry k port fid static pos) (c.finishChain k) := rfl

theorem Chip.fwdOnly_flushEntry (pos : Nat) : Chip.fwdOnly k c (c.flushEntry k port fid static pos) := by
  unfold Chip.flushEntry
  split
  · exact Chip.fwdOnly_macRemove _ _ _
  · exact Chip.fwdOnly_refl _ _

theorem Chip.macAt_flushEntry_same (pos : Nat) :
    (c.flushEntry k port fid static pos).macAt k pos = (c.macAt k pos).flushed port fid static := by
  unfold Chip.flushEntry MacEntry.flushed
  split
  · exact (Chip.macAt_macRemove _ _ _ _).trans (if_pos rfl)
  · rfl

theorem Chip.macAt_flushEntry_other {pos q : Nat} (h : q ≠ pos) :
    (c.flushEntry k port fid static pos).macAt k q = c.macAt k q := by
  unfold Chip.flushEntry
  split
  · exact (Chip.macAt_macRemove _ _ _ _).trans (if_neg h)
  · rfl

theorem Chip.fwdOnly_flush : Chip.fwdOnly k c (c.flush k port fid static) := by
  rw [Chip.flush_eq]
  exact (Chip.fwdOnly_finishChain c k).trans (Chip.fwdOnly_foldl (fun c pos => Chip.fwdOnly_flushEntry c k port fid static pos) _ _)

/-- A flush in a table in which no relocation is at work removes the entries that match, and keeps the others. -/
theorem Chip.macAt_flush (hidle : (c.pipe k).chain = none) (pos : Nat) :
    (c.flush k port fid static).macAt k pos = (c.macAt k pos).flushed port fid static := by
  have hother (c : Chip) (x y : Nat) (h : y ≠ x) := Chip.macAt_flushEntry_other c k port fid static h
  rw [Chip.flush_eq, Chip.finishChain_of_idle hidle]
  by_cases hmem : pos ∈ (c.pipe k).mac.map (·.1)
  · exact foldl_settles (look := fun c => Chip.macAt c k) (fun c x => Chip.macAt_flushEntry_same c k port fid static x) hother
      (MacEntry.flushed_flushed port fid static) hmem c
  · have hempty : c.macAt k pos = {} := Sparse.get_of_notMem hmem
    refine (foldl_apart (look := fun c => Chip.macAt c k) hother hmem c).trans ?_
    rw [hempty]
    rfl

end

/-- What the bits of a flush command ask for, read entry by entry. -/
theorem MacEntry.flushed_of_bits (e : MacEntry) (byPort byFid static : Bool) (port fid : Nat) :
    e.flushed (if byPort then some port else none) (if byFid then some fid else none) static =
      if e.valid && !e.pending && (static || !e.static) && (!byPort || (e.kind == 0 && e.dest == port)) && (!byFid || e.fid == fid)
      then {} else e := by
  unfold MacEntry.flushed
  cases byPort <;> cases byFid <;> rfl

/-- A flush answers OK, or waits for the journal when it asks for static entries too (R165). -/
theorem did_flush {i : Instr} {s : State} {h : Mb} {k : Nat} {cls : CmdClass} {body : Chip → Chip × Answer} {d : Chip} {static : Bool}
    {P : Chip → Prop} (hexec : exec i s = s.act fun c => c.mbRun h cls fun c => journalPart (body c)) (hacc : s.chip.mbAccepts h cls)
    (hshort : cls.long = false) (hbody : body (s.chip.mbStarted h) = pipesAnswer (d, 0, none) i (2 ^ k) static)
    (hd : Chip.fwdOnly k (s.chip.mbStarted h) d) (hP : P d) :
    Did i s h (if static then none else some Code.ok) 0 (if static then [.cmd i] else []) P := by
  cases static with
  | true => exact did_onePipe hexec hacc hbody hd hP
  | false =>
    obtain ⟨hpower, -⟩ := id hacc
    have hdid := did_of (a := { code := Code.ok }) hexec hacc (by rw [hbody]; rfl) (hd.power.trans hpower) (fun _ ha => hd.word (by omega)) hP
    have hshown : ({ code := Code.ok } : Answer).shown cls = some Code.ok := by simp [Answer.shown, hshort]
    rwa [Answer.shownResult, hshown] at hdid

theorem did_fwdFlush {s : State} {h : Mb} {k mtch port fid : Nat} (hk : k < 4) (hidle : (s.chip.pipe k).chain = none) (hmtch : mtch ≤ 7)
    (hsome : mtch % 4 ≠ 0) (hport : bit mtch 0 = true → port ≤ 143) (hfid : bit mtch 1 = true → fid ≤ 4095)
    (htaken : taken h (.fwdFlush h (2 ^ k) mtch port fid) s) :
    Did (.fwdFlush h (2 ^ k) mtch port fid) s h (if bit mtch 2 then none else some Code.ok) 0
      (if bit mtch 2 then [.cmd (.fwdFlush h (2 ^ k) mtch port fid)] else []) fun d => ∀ pos, d.macAt k pos =
        (s.chip.macAt k pos).flushed (if bit mtch 0 then some port else none) (if bit mtch 1 then some fid else none) (bit mtch 2) := by
  obtain ⟨_, hclass, hacc⟩ := htaken
  cases hclass
  refine did_flush rfl hacc rfl ?_ (Chip.fwdOnly_flush _ k _ _ _) (Chip.macAt_flush (s.chip.mbStarted h) k _ _ _ hidle)
  rw [Chip.fwdFlush, if_neg, Chip.onPipes_one hk rfl]
  simp only [Bool.or_eq_true, Bool.and_eq_true, decide_eq_true_eq, not_or, not_and, Nat.not_lt]
  exact ⟨⟨⟨⟨pipeMask_le hk, hmtch⟩, hsome⟩, hport⟩, hfid⟩

/-! ## Routes (R168, R170) -/

section
variable {c : Chip} {k : Nat} {v6 : Bool}

theorem Chip.lpmInsert_of_place {pfx len nh r : Nat}
    (hplace : (c.regionUsed k v6 (famBits v6 - len)).find? (fun r => (c.lpmAt k v6 r).pfx == pfx) = some r ∨
      ((c.regionUsed k v6 (famBits v6 - len)).find? (fun r => (c.lpmAt k v6 r).pfx == pfx) = none ∧
        c.regionFree k v6 (famBits v6 - len) = some r)) :
    c.lpmInsert k v6 pfx len nh = some (c.setLpm k v6 r { valid := true, len := len, pfx := pfx, nh := nh }) := by
  unfold Chip.lpmInsert
  rcases hplace with hfound | ⟨hfound, hfree⟩
  · simp only [hfound]
  · simp only [hfound, hfree]

/-- A row of the store is written; no other row and no other pipeline changes. -/
theorem Chip.lpmAt_setLpm (c : Chip) (k : Nat) (v6 : Bool) (r : Nat) (x : LpmRow) :
    (c.setLpm k v6 r x).lpmAt k v6 r = x ∧ (∀ q, q ≠ r → (c.setLpm k v6 r x).lpmAt k v6 q = c.lpmAt k v6 q) ∧
      ∀ j, j ≠ k → (c.setLpm k v6 r x).pipe j = c.pipe j :=
  ⟨Chip.lpmAt_setLpm_same _ _ _ _ _, fun _ hq => Chip.lpmAt_setLpm_other _ _ hq, fun _ hj => (Chip.fwdOnly_setLpm c k v6 r x).pipe hj⟩

end

section
variable {s : State} {h : Mb} {k len r : Nat} {v6 : Bool} {pfx : Bytes} (hk : k < 4) (hpfx : (prefixOf v6 len pfx).2 = false)
include hk hpfx

theorem did_fwdLpmWrite {nh : Nat} (hnh : nh < 4096)
    (hplace : (s.chip.regionUsed k v6 (famBits v6 - len)).find? (fun r => (s.chip.lpmAt k v6 r).pfx == (prefixOf v6 len pfx).1) = some r ∨
      ((s.chip.regionUsed k v6 (famBits v6 - len)).find? (fun r => (s.chip.lpmAt k v6 r).pfx == (prefixOf v6 len pfx).1) = none ∧
        s.chip.regionFree k v6 (famBits v6 - len) = some r))
    (htaken : taken h (.fwdLpmWrite h (2 ^ k) v6 len nh pfx) s) :
    Did (.fwdLpmWrite h (2 ^ k) v6 len nh pfx) s h none 0 [.cmd (.fwdLpmWrite h (2 ^ k) v6 len nh pfx)] fun d =>
      d.lpmAt k v6 r = { valid := true, len := len, pfx := (prefixOf v6 len pfx).1, nh := nh } ∧
        (∀ q, q ≠ r → d.lpmAt k v6 q = s.chip.lpmAt k v6 q) ∧ ∀ j, j ≠ k → d.pipe j = s.chip.pipe j := by
  obtain ⟨_, hclass, hacc⟩ := htaken
  cases hclass
  have hinsert := Chip.lpmInsert_of_place (c := s.chip.mbStarted h) (nh := nh) hplace
  refine did_onePipe rfl hacc ?_ (Chip.fwdOnly_setLpm _ k v6 r _) (Chip.lpmAt_setLpm (s.chip.mbStarted h) k v6 r _)
  simp only [Chip.fwdLpmWrite, hpfx]
  rw [if_neg (by simp [pipeMask_le hk]; omega), Chip.onPipes_one hk]
  simp only [hinsert]

theorem did_fwdLpmDelete
    (hfound : (s.chip.regionUsed k v6 (famBits v6 - len)).find? (fun r => (s.chip.lpmAt k v6 r).pfx == (prefixOf v6 len pfx).1) = some r)
    (htaken : taken h (.fwdLpmDelete h (2 ^ k) v6 len pfx) s) :
    Did (.fwdLpmDelete h (2 ^ k) v6 len pfx) s h none 0 [.cmd (.fwdLpmDelete h (2 ^ k) v6 len pfx)] fun d =>
      d.lpmAt k v6 r = {} ∧ (∀ q, q ≠ r → d.lpmAt k v6 q = s.chip.lpmAt k v6 q) ∧ ∀ j, j ≠ k → d.pipe j = s.chip.pipe j := by
  obtain ⟨_, hclass, hacc⟩ := htaken
  cases hclass
  have hdelete : (s.chip.mbStarted h).lpmDelete k v6 (prefixOf v6 len pfx).1 len = some ((s.chip.mbStarted h).setLpm k v6 r {}) :=
    congrArg (Option.map _) hfound
  refine did_onePipe rfl hacc ?_ (Chip.fwdOnly_setLpm _ k v6 r _) (Chip.lpmAt_setLpm (s.chip.mbStarted h) k v6 r _)
  simp only [Chip.fwdLpmDelete, hpfx]
  rw [if_neg (by simp [pipeMask_le hk]), Chip.onPipes_one hk]
  simp only [hdelete]

end

/-! ## Next hops (R169, R170) -/

theorem did_fwdNhWrite {s : State} {h : Mb} {k ix : Nat} {entry : Bytes} (hk : k < 4) (hix : ix < 4096) (hlen : entry.length = 16)
    (hdest : s.chip.badDest (hopOf entry).kind (hopOf entry).dest = false) (hrmac : (hopOf entry).rmac ≤ 7) (hvact : (hopOf entry).vact ≤ 3)
    (hvid : (hopOf entry).vid ≤ 4095) (htaken : taken h (.fwdNhWrite h (2 ^ k) ix entry) s) :
    Did (.fwdNhWrite h (2 ^ k) ix entry) s h none 0 [.cmd (.fwdNhWrite h (2 ^ k) ix entry)] fun d =>
      (d.pipe k).nh = Sparse.set [] (s.chip.pipe k).nh ix entry ∧
        d = (s.chip.mbStarted h).setPipe k { s.chip.pipe k with nh := (d.pipe k).nh } := by
  obtain ⟨_, hclass, hacc⟩ := htaken
  cases hclass
  have hentry : (entry ++ fill 16 0).take 16 = entry := by rw [List.take_append_of_le_length (by omega), List.take_of_length_le (by omega)]
  have hbad := (s.chip.badDest_mbStarted (Chip.fn_le_of_accepts hacc) (hopOf entry).kind (hopOf entry).dest).trans hdest
  let x : Pipe := { s.chip.pipe k with nh := Sparse.set [] (s.chip.pipe k).nh ix entry }
  have hnh : (((s.chip.mbStarted h).setPipe k x).pipe k).nh = x.nh := congrArg Pipe.nh (Chip.pipe_setPipe_same _ _ _)
  refine did_onePipe (d := (s.chip.mbStarted h).setPipe k x) rfl hacc ?_ (Chip.fwdOnly_setPipe _ k x) ⟨hnh, by rw [hnh]⟩
  simp only [Chip.fwdNhWrite, hentry, hbad]
  rw [if_neg (by simp [pipeMask_le hk]; omega), Chip.onPipes_one hk rfl]
  rfl

/-- Settles O52: each command carried out in its one pipeline (R170), MAC entries and flushes by R161 and R165, routes by R168, next hops
by R169. -/
theorem mailboxForwarding : Obligations.MailboxForwarding := by
  unfold Obligations.MailboxForwarding
  intro s h k hk hidle hquiet
  refine ⟨fun kind fid dest mac pos hfid hdest hplace htaken => ?_, fun fid mac pos hfid hfind htaken => ?_,
    fun mtch port fid hmtch hsome hport hfid htaken => ?_, fun v6 len nh pfx r hpfx hnh => ⟨fun hplace htaken => ?_, fun hfound htaken => ?_⟩,
    fun ix entry hix hlen hdest hrmac hvact hvid htaken => ?_⟩
  · exact did_fwdMacWrite hk hidle hquiet hfid hdest hplace htaken
  · exact did_fwdMacDelete hk hidle hquiet hfid hfind htaken
  · simpa only [MacEntry.flushed_of_bits] using did_fwdFlush hk hidle hmtch hsome hport hfid htaken
  · exact did_fwdLpmWrite hk hpfx hnh hplace htaken
  · exact did_fwdLpmDelete hk hpfx hfound htaken
  · exact did_fwdNhWrite hk hix hlen hdest hrmac hvact hvid htaken

end Sys2Proof.Machine
end

section
/-! PROOFS of the family of the switch core and its buffer, O53: the mailbox commands of multicast groups, shapers, policers and maps
(R191, R203, R207, R209, R210, R217). -/

namespace Sys2Proof.Machine

/-- What the rule of a journaled command answers when it has been carried out. -/
def journaled (i : Instr) : Answer := { code := Code.committed, jop := some (.cmd i) }

/-! ## Multicast groups (R191) -/

@[simp] theorem Chip.group_setGroup_same (c : Chip) (g m : Nat) : (c.setGroup g m).group g = m := Sparse.get_set_same _ _ _ _

theorem Chip.group_setGroup_other (c : Chip) {g k : Nat} (m : Nat) (h : k ≠ g) : (c.setGroup g m).group k = c.group k :=
  Sparse.get_set_other _ _ _ _ _ h

theorem Chip.mcastWrite_of_unpaired {c : Chip} {g : Nat} {members : Bytes} (i : Instr) (hg : g < 16384) (hlen : members.length ≤ 18)
    (hfree : (List.range 96).any (fun p => bit (le members 0 18) p && c.paired p) = false) :
    c.mcastWrite i g members = (c.setGroup g (le members 0 18), journaled i) := by
  simp only [Chip.mcastWrite, hfree]
  exact if_neg (by simp; omega)

/-- A command that gives a group its members is served, and no other group changes. -/
theorem did_setGroup {i : Instr} {s : State} {h : Mb} {k : CmdClass} {body : Chip → Chip × Answer} {g m : Nat}
    (hexec : exec i s = s.act fun c => c.mbRun h k body) (hacc : s.chip.mbAccepts h k)
    (hbody : body (s.chip.mbStarted h) = ((s.chip.mbStarted h).setGroup g m, journaled i)) :
    Did i s h none 0 [.cmd i] fun d => d = (s.chip.mbStarted h).setGroup g m ∧ d.group g = m ∧ ∀ k, k ≠ g → d.group k = s.chip.group k :=
  did_journaled hexec hacc hbody rfl (fun _ _ => rfl)
    ⟨rfl, Chip.group_setGroup_same _ _ _, fun _ hk => Chip.group_setGroup_other _ m hk⟩

theorem did_mcastWrite {s : State} {h : Mb} {g : Nat} {members : Bytes} (hg : g < 16384) (hlen : members.length ≤ 18)
    (hfree : (List.range 96).any (fun p => bit (le members 0 18) p && s.chip.paired p) = false) (htaken : taken h (.mcastWrite h g members) s) :
    Did (.mcastWrite h g members) s h none 0 [.cmd (.mcastWrite h g members)] fun d =>
      d = (s.chip.mbStarted h).setGroup g (le members 0 18) ∧ d.group g = le members 0 18 ∧ ∀ k, k ≠ g → d.group k = s.chip.group k := by
  obtain ⟨k, hk, hacc⟩ := htaken
  cases hk
  refine did_setGroup rfl hacc (Chip.mcastWrite_of_unpaired _ hg hlen ?_)
  simpa only [Chip.paired_mbStarted _ (Chip.fn_le_of_accepts hacc)] using hfree

theorem did_mcastDelete {s : State} {h : Mb} {g : Nat} (hg : g < 16384) (htaken : taken h (.mcastDelete h g) s) :
    Did (.mcastDelete h g) s h none 0 [.cmd (.mcastDelete h g)] fun d =>
      d = (s.chip.mbStarted h).setGroup g 0 ∧ d.group g = 0 ∧ ∀ k, k ≠ g → d.group k = s.chip.group k := by
  obtain ⟨k, hk, hacc⟩ := htaken
  cases hk
  exact did_setGroup rfl hacc (if_neg (Nat.not_le.mpr hg))

/-! ## Shapers (R203, R205, R207) -/

/-- The registers of a shaper's parameters. -/
def shaperWords (n : Nat) : List Nat := [R.TMG_SHAPER_RATE n, R.TMG_SHAPER_CFG n, R.TMG_SHAPER_OVH n]

theorem notMem_shaperWords {n a : Nat} (ha : a < 0x204) : a ∉ shaperWords n := by
  simp only [shaperWords, R.TMG_SHAPER_RATE, R.TMG_SHAPER_CFG, R.TMG_SHAPER_OVH, List.mem_cons, List.not_mem_nil, or_false]
  omega

@[simp] theorem Chip.setShaper_power (c : Chip) (n : Nat) (t : Tokens) : (c.setShaper n t).power = c.power := rfl

@[simp] theorem Chip.word_setShaper (c : Chip) (n : Nat) (t : Tokens) (a : Nat) : (c.setShaper n t).word a = c.word a := rfl

@[simp] theorem Chip.rd_setShaper (c : Chip) (n : Nat) (t : Tokens) (f : Fld) : (c.setShaper n t).rd f = c.rd f := rfl

@[simp] theorem Chip.flag_setShaper (c : Chip) (n : Nat) (t : Tokens) (f : Fld) : (c.setShaper n t).flag f = c.flag f := rfl

/-- A bucket and the registers of a shaper are all that differs. -/
theorem Chip.onlyRegs.setShaper {c d : Chip} {as : List Nat} (h : Chip.onlyRegs c d as) (n : Nat) (t : Tokens) :
    Chip.onlyRegs { c with data := { c.data with shapers := (d.setShaper n t).data.shapers } } (d.setShaper n t) as := by
  have hdata : (d.setShaper n t).data = { c.data with shapers := (d.setShaper n t).data.shapers } := by rw [← h.data]; rfl
  rw [← hdata]
  exact h.dataAndRegs.trans (Chip.dataAndRegs_data d _ as)

section
variable (c : Chip) (n : Nat) (a : ShaperArgs)

theorem Chip.onlyRegs_putShaper : Chip.onlyRegs c (c.putShaper n a) (shaperWords n) := by
  have hrate := Chip.onlyRegs_wr c (F.TMG_SHAPER_RATE_rate_kbps n) a.rate
  have hburst := Chip.onlyRegs_wr (c.wr (F.TMG_SHAPER_RATE_rate_kbps n) a.rate) (F.TMG_SHAPER_CFG_burst n) a.burst
  have hcfg (c : Chip) : Chip.onlyRegs c (((c.wrb (F.TMG_SHAPER_CFG_enable n) a.enable).wrb (F.TMG_SHAPER_CFG_len_mode n) a.lenMode).wr
      (F.TMG_SHAPER_CFG_scope n) (if n < 4096 then a.scope else 0)) [R.TMG_SHAPER_CFG n] :=
    (Chip.onlyRegs_wr c (F.TMG_SHAPER_CFG_enable n) _).trans
      ((Chip.onlyRegs_wr _ (F.TMG_SHAPER_CFG_len_mode n) _).trans (Chip.onlyRegs_wr _ (F.TMG_SHAPER_CFG_scope n) _))
  have hovh (c : Chip) := Chip.onlyRegs_wr c (F.TMG_SHAPER_OVH_overhead n) (ofSigned 8 a.overhead)
  exact (hrate.mono (by simp [shaperWords, F.TMG_SHAPER_RATE_rate_kbps])).trans ((hburst.mono (by simp [shaperWords, F.TMG_SHAPER_CFG_burst])).trans
    (((hcfg _).mono (by simp [shaperWords])).trans ((hovh _).mono (by simp [shaperWords, F.TMG_SHAPER_OVH_overhead]))))

theorem Chip.putShaper_rate : (c.putShaper n a).rd (F.TMG_SHAPER_RATE_rate_kbps n) = a.rate % 2 ^ 32 := by
  simp only [Chip.putShaper, Chip.wrb]
  iterate 5 rw [Chip.rd_wr_other _ _ _ _ (by simp [F.TMG_SHAPER_RATE_rate_kbps, F.TMG_SHAPER_OVH_overhead, F.TMG_SHAPER_CFG_scope,
    F.TMG_SHAPER_CFG_len_mode, F.TMG_SHAPER_CFG_enable, F.TMG_SHAPER_CFG_burst, R.TMG_SHAPER_RATE, R.TMG_SHAPER_CFG, R.TMG_SHAPER_OVH])]
  exact Chip.rd_wr_same _ _ _ rfl

theorem Chip.putShaper_overhead : (c.putShaper n a).rd (F.TMG_SHAPER_OVH_overhead n) = ofSigned 8 a.overhead % 2 ^ 8 :=
  Chip.rd_wr_same _ _ _ rfl

/-- The overhead is written last, into a register of its own. -/
theorem Chip.putShaper_cfg {f : Fld} (hf : f.reg = R.TMG_SHAPER_CFG n) : (c.putShaper n a).rd f =
    (((((c.wr (F.TMG_SHAPER_RATE_rate_kbps n) a.rate).wr (F.TMG_SHAPER_CFG_burst n) a.burst).wrb (F.TMG_SHAPER_CFG_enable n) a.enable).wrb
      (F.TMG_SHAPER_CFG_len_mode n) a.lenMode).wr (F.TMG_SHAPER_CFG_scope n) (if n < 4096 then a.scope else 0)).rd f :=
  Chip.rd_wr_other _ _ _ _ (by rw [hf]; simp [F.TMG_SHAPER_OVH_overhead, R.TMG_SHAPER_CFG, R.TMG_SHAPER_OVH])

theorem Chip.putShaper_burst : (c.putShaper n a).rd (F.TMG_SHAPER_CFG_burst n) = a.burst % 2 ^ 24 := by
  rw [Chip.putShaper_cfg c n a rfl, Chip.rd_wr_clears _ _ _ _ rfl rfl, Chip.wrb, Chip.rd_wr_clears _ _ _ _ rfl rfl, Chip.wrb,
    Chip.rd_wr_clears _ _ _ _ rfl rfl]
  exact Chip.rd_wr_same _ _ _ rfl

theorem Chip.putShaper_enable : (c.putShaper n a).flag (F.TMG_SHAPER_CFG_enable n) = a.enable := by
  rw [Chip.flag, Chip.putShaper_cfg c n a rfl, ← Chip.flag, Chip.flag_wr_clears _ _ _ _ rfl rfl, Chip.wrb, Chip.flag_wr_clears _ _ _ _ rfl rfl]
  exact Chip.flag_wrb_same _ _ _ rfl rfl

theorem Chip.putShaper_lenMode : (c.putShaper n a).flag (F.TMG_SHAPER_CFG_len_mode n) = a.lenMode := by
  rw [Chip.flag, Chip.putShaper_cfg c n a rfl, ← Chip.flag, Chip.flag_wr_clears _ _ _ _ rfl rfl]
  exact Chip.flag_wrb_same _ _ _ rfl rfl

/-- The part with a shaper's parameters written and its bucket begun anew: what it was charged in this cycle stays charged. -/
def Chip.shaperWritten : Chip :=
  (c.putShaper n a).setShaper n
    (if a.enable then
      { a := (if a.reset then (a.burst : Int) * tokUnit else 0) - (c.shaper n).b, b := (c.shaper n).b, cycle := c.cycle }
    else {})

theorem Chip.tmShaperWrite_of_ok (i : Instr) (hn : n ≤ 4239) (hok : shaperArgsOk a = true) :
    c.tmShaperWrite i n a = (c.shaperWritten n a, journaled i) := by
  have htest : ¬ ((decide (4239 < n) || !shaperArgsOk a) = true) := by simp [hok, hn]
  rw [Chip.tmShaperWrite, if_neg htest]
  rfl

/-- A shaper reads no register of the mailboxes. -/
theorem Chip.shaper_mbStarted {h : Mb} (hfn : h.fn ≤ 1) : (c.mbStarted h).shaper n = c.shaper n := by
  have hrd (f : Fld) (hf : 0x204 ≤ f.reg) := Chip.mbStarted_rd_high c h hfn f hf
  have hen := hrd (F.TMG_SHAPER_CFG_enable n) (by simp only [F.TMG_SHAPER_CFG_enable, R.TMG_SHAPER_CFG]; omega)
  have hburst := hrd (F.TMG_SHAPER_CFG_burst n) (by simp only [F.TMG_SHAPER_CFG_burst, R.TMG_SHAPER_CFG]; omega)
  have hrate := hrd (F.TMG_SHAPER_RATE_rate_kbps n) (by simp only [F.TMG_SHAPER_RATE_rate_kbps, R.TMG_SHAPER_RATE]; omega)
  simp only [Chip.shaper, Chip.shaperOn, Chip.flag, hen, hburst, hrate]
  rfl

end

theorem ofSigned_lt (w : Nat) (z : Int) : ofSigned w z < 2 ^ w := by
  have hpos : (0 : Int) < ((2 ^ w : Nat) : Int) := by exact_mod_cast Nat.two_pow_pos w
  have hnonneg := Int.emod_nonneg z (ne_of_gt hpos)
  have hlt := Int.emod_lt_of_pos z hpos
  rw [ofSigned]
  omega

/-- The parameters of an enabled shaper fit their fields. -/
theorem ShaperArgs.bounds_of_ok {a : ShaperArgs} (hok : shaperArgsOk a = true) (hen : a.enable = true) :
    a.burst < 2 ^ 24 ∧ a.rate < 2 ^ 32 := by
  simp only [shaperArgsOk, hen, Bool.not_true, Bool.false_or, Bool.and_eq_true, decide_eq_true_eq] at hok
  omega

section
variable {s : State} {h : Mb} {n : Nat} {a : ShaperArgs} (hn : n ≤ 4239) (hok : shaperArgsOk a = true) (htaken : taken h (.tmShaperWrite h n a) s)
include hn hok htaken

/-- TM_SHAPER_WRITE leaves the shaper as written. -/
theorem did_shaperWritten {P : Chip → Prop} (hP : h.fn ≤ 1 → P ((s.chip.mbStarted h).shaperWritten n a)) :
    Did (.tmShaperWrite h n a) s h none 0 [.cmd (.tmShaperWrite h n a)] P := by
  obtain ⟨k, hk, hacc⟩ := htaken
  cases hk
  have hregs := Chip.onlyRegs_putShaper (s.chip.mbStarted h) n a
  refine did_journaled rfl hacc (Chip.tmShaperWrite_of_ok _ _ _ _ hn hok) ?_ (fun x hx => ?_) (hP (Chip.fn_le_of_accepts hacc))
  · rw [Chip.shaperWritten, Chip.setShaper_power, hregs.power]
    rfl
  · rw [Chip.shaperWritten, Chip.word_setShaper, hregs.2 _ (notMem_shaperWords hx)]

theorem did_tmShaperWrite_enabled (hen : a.enable = true) :
    Did (.tmShaperWrite h n a) s h none 0 [.cmd (.tmShaperWrite h n a)] fun d =>
      d.rd (F.TMG_SHAPER_RATE_rate_kbps n) = a.rate ∧ d.rd (F.TMG_SHAPER_CFG_burst n) = a.burst ∧ d.flag (F.TMG_SHAPER_CFG_enable n) = true ∧
        d.flag (F.TMG_SHAPER_CFG_len_mode n) = a.lenMode ∧ d.rd (F.TMG_SHAPER_OVH_overhead n) = ofSigned 8 a.overhead ∧
        (Sparse.get {} d.data.shapers n).a = (if a.reset then (a.burst : Int) * tokUnit else 0) - (s.chip.shaper n).b ∧
        Chip.onlyRegs { s.chip.mbStarted h with data := { (s.chip.mbStarted h).data with shapers := d.data.shapers } } d
          [R.TMG_SHAPER_RATE n, R.TMG_SHAPER_CFG n, R.TMG_SHAPER_OVH n] ∧
        ∀ m, m ≠ n → Sparse.get {} d.data.shapers m = Sparse.get ({} : Tokens) s.chip.data.shapers m := by
  obtain ⟨hburst, hrate⟩ := ShaperArgs.bounds_of_ok hok hen
  refine did_shaperWritten hn hok htaken fun hfn => ?_
  have hregs := (s.chip.mbStarted h).onlyRegs_putShaper n a
  rw [Chip.shaperWritten, if_pos hen, Chip.shaper_mbStarted _ _ hfn, Chip.rd_setShaper, Chip.rd_setShaper, Chip.rd_setShaper, Chip.flag_setShaper,
    Chip.flag_setShaper, Chip.putShaper_rate, Chip.putShaper_burst, Chip.putShaper_enable, Chip.putShaper_lenMode, Chip.putShaper_overhead]
  refine ⟨Nat.mod_eq_of_lt hrate, Nat.mod_eq_of_lt hburst, hen, rfl, Nat.mod_eq_of_lt (ofSigned_lt 8 _), ?_, hregs.setShaper n _, fun m hm => ?_⟩
  · rw [Chip.setShaper, Sparse.get_set_same]
  · rw [Chip.setShaper, Sparse.get_set_other _ _ _ _ _ hm, hregs.data]
    rfl

theorem did_tmShaperWrite_disabled (hen : a.enable = false) :
    Did (.tmShaperWrite h n a) s h none 0 [.cmd (.tmShaperWrite h n a)] fun d => d.flag (F.TMG_SHAPER_CFG_enable n) = false := by
  refine did_shaperWritten hn hok htaken fun _ => ?_
  rw [Chip.shaperWritten, Chip.flag_setShaper, Chip.putShaper_enable, hen]

end

/-! ## Policers (R210, R217) -/

/-- The registers of a policer's parameters. -/
def policerWords (m : Nat) : List Nat := [R.TMG_POL_CIR m, R.TMG_POL_PIR m, R.TMG_POL_CBS m, R.TMG_POL_EBS m, R.TMG_POL_MODE m]

/-- The mode word of a policer entry. -/
def PolEntry.mode (x : PolEntry) : Nat :=
  b2n x.twoRate + 2 * b2n x.aware + 4 * b2n x.src + 8 * b2n x.lenMode + 16 * x.yellow + 64 * x.red + 256 * ofSigned 8 x.overhead + 65536

/-- The part with a policer's parameters in their registers. -/
def Chip.policerRegs (c : Chip) (m : Nat) (x : PolEntry) : Chip :=
  ((((c.setWord (R.TMG_POL_CIR m) (BitVec.ofNat 32 x.cir)).setWord (R.TMG_POL_PIR m) (BitVec.ofNat 32 (if x.twoRate then x.pir else 0))).setWord
    (R.TMG_POL_CBS m) (BitVec.ofNat 32 x.cbs)).setWord (R.TMG_POL_EBS m) (BitVec.ofNat 32 x.ebs)).setWord (R.TMG_POL_MODE m)
    (BitVec.ofNat 32 x.mode)

/-- The part with the buckets of a policer. -/
def Chip.setPolicer (c : Chip) (m : Nat) (t : Tokens) : Chip :=
  { c with data := { c.data with policers := Sparse.set {} c.data.policers m t } }

@[simp] theorem Chip.setPolicer_power (c : Chip) (m : Nat) (t : Tokens) : (c.setPolicer m t).power = c.power := rfl

@[simp] theorem Chip.word_setPolicer (c : Chip) (m : Nat) (t : Tokens) (a : Nat) : (c.setPolicer m t).word a = c.word a := rfl

@[simp] theorem Chip.flag_setPolicer (c : Chip) (m : Nat) (t : Tokens) (f : Fld) : (c.setPolicer m t).flag f = c.flag f := rfl

/-- The buckets and the registers of a policer are all that differs. -/
theorem Chip.onlyRegs.setPolicer {c d : Chip} {as : List Nat} (h : Chip.onlyRegs c d as) (m : Nat) (t : Tokens) :
    Chip.onlyRegs { c with data := { c.data with policers := (d.setPolicer m t).data.policers } } (d.setPolicer m t) as := by
  have hdata : (d.setPolicer m t).data = { c.data with policers := (d.setPolicer m t).data.policers } := by rw [← h.data]; rfl
  rw [← hdata]
  exact h.dataAndRegs.trans (Chip.dataAndRegs_data d _ as)

theorem Chip.putPolicer_eq (c : Chip) (m : Nat) (e : Bytes) :
    c.putPolicer m e = (c.policerRegs m (polOf e)).setPolicer m
      { a := ((polOf e).cbs : Int) * tokUnit, b := ((polOf e).ebs : Int) * tokUnit, cycle := c.cycle } := by
  simp only [Chip.putPolicer, Chip.policerRegs, Chip.setPolicer, PolEntry.mode, Chip.setWord_cycle, Chip.setWord_data]

section
variable (c : Chip) (m : Nat) (x : PolEntry)

theorem Chip.onlyRegs_policerRegs : Chip.onlyRegs c (c.policerRegs m x) (policerWords m) := by
  have hset (c : Chip) {a : Nat} (w : W32) (ha : a ∈ policerWords m) : Chip.onlyRegs c (c.setWord a w) (policerWords m) :=
    (Chip.onlyRegs_setWord c a w).mono (by simpa using ha)
  exact (hset _ _ (by simp [policerWords])).trans ((hset _ _ (by simp [policerWords])).trans ((hset _ _ (by simp [policerWords])).trans
    ((hset _ _ (by simp [policerWords])).trans (hset _ _ (by simp [policerWords])))))

/-- The registers of a policer are apart. -/
theorem Chip.policerRegs_shows : (c.policerRegs m x).word (R.TMG_POL_CIR m) = BitVec.ofNat 32 x.cir ∧
    (c.policerRegs m x).word (R.TMG_POL_CBS m) = BitVec.ofNat 32 x.cbs ∧ (c.policerRegs m x).word (R.TMG_POL_EBS m) = BitVec.ofNat 32 x.ebs := by
  simp [Chip.policerRegs, Chip.word_setWord, R.TMG_POL_CIR, R.TMG_POL_PIR, R.TMG_POL_CBS, R.TMG_POL_EBS, R.TMG_POL_MODE]

end

theorem bits_lt (n lo w : Nat) : bits n lo w < 2 ^ w := Nat.mod_lt _ (Nat.two_pow_pos w)

theorem b2n_le (b : Bool) : b2n b ≤ 1 := by cases b <;> decide

/-- The fields of the mode below `enabled` do not reach it. -/
theorem Chip.policerRegs_enabled (c : Chip) (m : Nat) (e : Bytes) : (c.policerRegs m (polOf e)).flag (F.TMG_POL_MODE_enabled m) = true := by
  have hyellow : (polOf e).yellow < 2 ^ 2 := bits_lt _ _ _
  have hred : (polOf e).red < 2 ^ 2 := bits_lt _ _ _
  have hovh := ofSigned_lt 8 (polOf e).overhead
  have htwo := b2n_le (polOf e).twoRate
  have haware := b2n_le (polOf e).aware
  have hsrc := b2n_le (polOf e).src
  have hlen := b2n_le (polOf e).lenMode
  have hset : (c.policerRegs m (polOf e)).rd (F.TMG_POL_MODE_enabled m) = 1 := by
    rw [Chip.rd, F.TMG_POL_MODE_enabled, Chip.policerRegs, Chip.word_setWord_same, Fld.get, bits, BitVec.toNat_ofNat, PolEntry.mode]
    change _ / 2 ^ 16 % 2 ^ 1 = 1
    omega
  rw [Chip.flag, hset]
  rfl

theorem did_tmPolicerWrite {s : State} {h : Mb} {e : Bytes} (hok : polOk e = true) (hix : le e 4 2 ≤ 8191)
    (htaken : taken h (.tmPolicerWrite h e) s) :
    Did (.tmPolicerWrite h e) s h none 0 [.cmd (.tmPolicerWrite h e)] fun d =>
      d.word (R.TMG_POL_CIR (le e 4 2)) = BitVec.ofNat 32 (polOf e).cir ∧ d.word (R.TMG_POL_CBS (le e 4 2)) = BitVec.ofNat 32 (polOf e).cbs ∧
        d.word (R.TMG_POL_EBS (le e 4 2)) = BitVec.ofNat 32 (polOf e).ebs ∧ d.flag (F.TMG_POL_MODE_enabled (le e 4 2)) = true ∧
        Sparse.get {} d.data.policers (le e 4 2) =
          { a := ((polOf e).cbs : Int) * tokUnit, b := ((polOf e).ebs : Int) * tokUnit, cycle := s.chip.cycle } ∧
        Chip.onlyRegs { s.chip.mbStarted h with data := { (s.chip.mbStarted h).data with policers := d.data.policers } } d
          (policerWords (le e 4 2)) := by
  obtain ⟨k, hk, hacc⟩ := htaken
  cases hk
  generalize hm : le e 4 2 = m at hix ⊢
  have htest : ¬ ((!polOk e || decide (8191 < m)) = true) := by simp [hok, hix]
  have hbody : (s.chip.mbStarted h).tmPolicerWrite (.tmPolicerWrite h e) e =
      ((s.chip.mbStarted h).putPolicer m e, journaled (.tmPolicerWrite h e)) := by
    rw [Chip.tmPolicerWrite, hm, if_neg htest, journaled]
  have hregs := (s.chip.mbStarted h).onlyRegs_policerRegs m (polOf e)
  obtain ⟨hcir, hcbs, hebs⟩ := (s.chip.mbStarted h).policerRegs_shows m (polOf e)
  rw [Chip.putPolicer_eq] at hbody
  refine did_journaled rfl hacc hbody ?_ (fun a ha => ?_) ?_
  · rw [Chip.setPolicer_power, hregs.power]
    rfl
  · rw [Chip.word_setPolicer]
    refine hregs.2 a ?_
    simp only [policerWords, R.TMG_POL_CIR, R.TMG_POL_PIR, R.TMG_POL_CBS, R.TMG_POL_EBS, R.TMG_POL_MODE, List.mem_cons, List.not_mem_nil, or_false]
    omega
  · rw [Chip.word_setPolicer, Chip.word_setPolicer, Chip.word_setPolicer, Chip.flag_setPolicer]
    exact ⟨hcir, hcbs, hebs, Chip.policerRegs_enabled _ m e, Sparse.get_set_same _ _ _ _, hregs.setPolicer m _⟩

/-! ## Maps (R209, R217) -/

theorem Chip.polListed_mbStarted (c : Chip) {h : Mb} (hfn : h.fn ≤ 1) (k mode ix : Nat) :
    (c.mbStarted h).polListed k mode ix = c.polListed k mode ix := by
  have hflag (m : Nat) := Chip.mbStarted_flag_high c h hfn (F.TMG_POL_MODE_enabled m)
    (by simp only [F.TMG_POL_MODE_enabled, R.TMG_POL_MODE]; omega)
  simp only [Chip.polListed, hflag]

section
variable {s : State} {h : Mb} {k key mode ix : Nat} (hmode : mode ≤ 3)
include hmode

theorem did_tmMapWrite_port (hkey : key ≤ 143) (hlisted : s.chip.polListed (pipeOf key) mode ix = true)
    (htaken : taken h (.tmMapWrite h 0 k key mode ix) s) :
    Did (.tmMapWrite h 0 k key mode ix) s h none 0 [.cmd (.tmMapWrite h 0 k key mode ix)] fun d =>
      Sparse.get [] d.data.polMap key = (if mode = 0 then [] else toLe mode 1 ++ fill 1 0 ++ toLe ix 2) ∧
        ∀ q, q ≠ key → Sparse.get [] d.data.polMap q = Sparse.get [] s.chip.data.polMap q := by
  obtain ⟨cls, hcls, hacc⟩ := htaken
  cases hcls
  have hlisted' := (s.chip.polListed_mbStarted (Chip.fn_le_of_accepts hacc) (pipeOf key) mode ix).trans hlisted
  have htest : ¬ ((decide (143 < key) || decide (3 < mode) || !(s.chip.mbStarted h).polListed (pipeOf key) mode ix) = true) := by
    simp [hlisted', hkey, hmode]
  exact did_journaled rfl hacc (if_neg htest) rfl (fun _ _ => rfl)
    ⟨Sparse.get_set_same _ _ _ _, fun _ hq => Sparse.get_set_other _ _ _ _ _ hq⟩

theorem did_tmMapWrite_tenant (hk : k ≤ 3) (hkey : key ≤ 4095) (hlisted : mode = 0 ∨ s.chip.polListed k 1 ix = true)
    (htaken : taken h (.tmMapWrite h 1 k key mode ix) s) :
    Did (.tmMapWrite h 1 k key mode ix) s h none 0 [.cmd (.tmMapWrite h 1 k key mode ix)] fun d =>
      Sparse.get none d.data.tenMap (4096 * k + key) = (if mode = 0 then none else some ix) ∧
        ∀ q, q ≠ 4096 * k + key → Sparse.get none d.data.tenMap q = Sparse.get none s.chip.data.tenMap q := by
  obtain ⟨cls, hcls, hacc⟩ := htaken
  cases hcls
  have hlisted' := s.chip.polListed_mbStarted (Chip.fn_le_of_accepts hacc) k 1 ix
  have htest : ¬ ((decide (3 < k) || decide (4095 < key) || decide (3 < mode) ||
      (mode != 0 && !(s.chip.mbStarted h).polListed k 1 ix)) = true) := by
    rcases hlisted with hzero | hlisted <;> simp_all
  exact did_journaled rfl hacc (if_neg htest) rfl (fun _ _ => rfl)
    ⟨Sparse.get_set_same _ _ _ _, fun _ hq => Sparse.get_set_other _ _ _ _ _ hq⟩

end

/-- Settles O53, command by command: groups by R191, shapers by R207, policers and maps by R217; that mode 0 takes a tenant's entry out and that
mode 2 needs the policers of all eight classes listed is the model's reading (log entry 34). -/
theorem mailboxTraffic : Obligations.MailboxTraffic := by
  unfold Obligations.MailboxTraffic
  intro s h
  refine ⟨fun g members hg hlen hfree htaken => ?_, fun g hg htaken => ?_, fun n a hn hok hen htaken => ?_, fun n a hn hok hen htaken => ?_,
    fun e hok hix htaken => ?_, fun k key mode ix hkey hmode hlisted htaken => ?_, fun k key mode ix hk hkey hmode hlisted htaken => ?_⟩
  · exact did_mcastWrite hg hlen hfree htaken
  · exact did_mcastDelete hg htaken
  · exact did_tmShaperWrite_enabled hn hok htaken hen
  · exact did_tmShaperWrite_disabled hn hok htaken hen
  · exact did_tmPolicerWrite hok hix htaken
  · exact did_tmMapWrite_port hmode hkey hlisted htaken
  · exact did_tmMapWrite_tenant hmode hk hkey hlisted htaken

end Sys2Proof.Machine
end

section
/-! PROOFS of the family of the switch core and its buffer, what reading a copy shares: the cells that the ECC corrects or retires, and a frame
that is freed (R175, R182, R190). -/

namespace Sys2Proof.Machine

/-! ## Changes of the datapath, of some registers, and of what an alert writes -/

/-- Nothing but the datapath, the registers at the addresses `as` and what records and attentions change differs between `c` and `d`. -/
def Chip.dataAndNotes (c d : Chip) (as : List Nat) : Prop := Chip.noted { c with data := d.data } d as

/-- What is noted is noted whatever the datapath then becomes. -/
theorem Chip.noted.withData {c d : Chip} {as : List Nat} (h : Chip.noted c d as) (x : Data) :
    Chip.noted { c with data := x } { d with data := x } as := by
  obtain ⟨hchip, hao, hflash0, hflash1, hword⟩ := h
  exact ⟨(congrArg (fun z : Chip => { z with data := x }) hchip :), hao, hflash0, hflash1, hword⟩

theorem Chip.dataAndRegs.dataAndNotes {c d : Chip} {as : List Nat} (h : Chip.dataAndRegs c d as) : Chip.dataAndNotes c d as :=
  Chip.noted_regs h.1 h.2

theorem Chip.dataAndNotes_alert (c : Chip) (sub ev unit detail : Nat) (as : List Nat) : Chip.dataAndNotes c (c.alert sub ev unit detail) as := by
  rw [Chip.dataAndNotes, Chip.alert_data]
  exact Chip.noted_alert c sub ev unit detail as

theorem Chip.dataAndNotes.trans {b c d : Chip} {as : List Nat} (h : Chip.dataAndNotes b c as) (k : Chip.dataAndNotes c d as) :
    Chip.dataAndNotes b d as := Chip.noted_trans (Chip.noted.withData h d.data) k

theorem Chip.dataAndNotes.mono {c d : Chip} {as bs : List Nat} (h : Chip.dataAndNotes c d as) (hsub : as ⊆ bs) : Chip.dataAndNotes c d bs := by
  obtain ⟨hchip, hao, hflash0, hflash1, hword⟩ := h
  exact ⟨hchip, hao, hflash0, hflash1, fun a ha => hword a fun hm => ha (hsub hm)⟩

section
variable {c d : Chip} {as : List Nat} (h : Chip.dataAndNotes c d as)
include h

theorem Chip.dataAndNotes.word {a : Nat} (ha : a ∉ as) (hrec : a ∉ recWords) : d.word a = c.word a := by
  obtain ⟨-, -, -, -, hword⟩ := h
  exact hword a ha hrec

theorem Chip.dataAndNotes.power : d.power = c.power := (congrArg Chip.power h.1 :)

theorem Chip.dataAndNotes.out : d.out = c.out := (congrArg Chip.out h.1 :)

theorem Chip.dataAndNotes.img : d.img = c.img := (congrArg Chip.img h.1 :)

end

/-! ## A frame that is freed -/

section
variable {c : Chip} {i : Nat} {f : Frame} (hf : c.frame i = some f)
include hf

/-- A freed frame whose verdict is known is gone. -/
theorem Chip.frame_freeFrame_same (hwait : f.waitIcv = false) : (c.freeFrame i).frame i = none := by
  have hremnant : f.remnant = none := by simp [Frame.remnant, hwait]
  rw [Chip.frame, Chip.freeFrame_data hf, Chip.unframed, hremnant]
  exact Sparse.get_set_same none none _ _

theorem Chip.frame_freeFrame_other {j : Nat} (hj : j ≠ i) : (c.freeFrame i).frame j = c.frame j := by
  rw [Chip.frame, Chip.freeFrame_data hf]
  exact Sparse.get_set_other none f.remnant _ _ _ hj

end

/-! ## Cells that the ECC cannot correct (R175, R190) -/

/-- The part with a cell of frame `f`, of number `i`, retired, unless one of it has been. -/
def Chip.cellRetired (c : Chip) (p q i : Nat) (f : Frame) : Chip :=
  if f.retired then c
  else
    let d := (c.setFrame i (some { f with retired := true })).wr F.SWC_RETIRED_cells (c.rd F.SWC_RETIRED_cells + 1)
    ((d.wr F.SWC_POOL_SIZE_shared (d.rd F.SWC_POOL_SIZE_shared - 1)).settlePool).alert Sub.swc.n 0 p q

theorem Chip.retireCell_of_some {c : Chip} {i : Nat} {f : Frame} (hf : c.frame i = some f) (p q : Nat) :
    c.retireCell p q i = (c.bump (R.SWC_CELL_UNCORR (pipeOf p))).cellRetired p q i f := by
  have hf' : (c.bump (R.SWC_CELL_UNCORR (pipeOf p))).frame i = some f := hf
  simp only [Chip.retireCell, hf']
  rfl

/-- The registers that tell of retired cells. -/
def retiredWords : List Nat := [R.SWC_RETIRED, R.SWC_POOL_SIZE, R.SWC_POOL_FREE]

section
variable (c : Chip) (p q i : Nat) (f : Frame)

theorem Chip.dataAndNotes_cellRetired : Chip.dataAndNotes c (c.cellRetired p q i f) retiredWords := by
  rw [Chip.cellRetired]
  split
  · exact (Chip.dataAndRegs_data c c.data _).dataAndNotes
  · have hframe : Chip.dataAndRegs c (c.setFrame i (some { f with retired := true })) retiredWords := Chip.dataAndRegs_data c _ _
    have hcount (d : Chip) (v : Nat) : Chip.dataAndRegs d (d.wr F.SWC_RETIRED_cells v) retiredWords :=
      (Chip.onlyRegs_wr d F.SWC_RETIRED_cells v).dataAndRegs.mono (by decide)
    have hpool (d : Chip) (v : Nat) : Chip.dataAndRegs d (d.wr F.SWC_POOL_SIZE_shared v) retiredWords :=
      (Chip.onlyRegs_wr d F.SWC_POOL_SIZE_shared v).dataAndRegs.mono (by decide)
    have hsettle (d : Chip) : Chip.dataAndRegs d d.settlePool retiredWords := (Chip.onlyRegs_settlePool d).dataAndRegs.mono (by decide)
    exact (hframe.trans ((hcount _ _).trans ((hpool _ _).trans (hsettle _)))).dataAndNotes.trans (Chip.dataAndNotes_alert _ _ _ _ _ _)

theorem Chip.cellRetired_data :
    (c.cellRetired p q i f).data = if f.retired then c.data else (c.setFrame i (some { f with retired := true })).data := by
  rw [Chip.cellRetired]
  split
  · rfl
  · exact Chip.alert_data _ _ _ _ _

end

/-- The part after the cells of a copy have been read: corrections are counted, and a cell that cannot be corrected is retired. -/
def Chip.cellsRead (c : Chip) (p q i : Nat) (ecc : Ecc) : Chip :=
  let c := c.add (R.SWC_CELL_CORR (pipeOf p)) (eccFound ecc).1
  if (eccFound ecc).2.isSome then c.retireCell p q i else c

/-- The registers that reading a copy's cells can change. -/
def cellWords (p : Nat) : List Nat := R.SWC_CELL_CORR (pipeOf p) :: R.SWC_CELL_UNCORR (pipeOf p) :: retiredWords

/-- The counters of a pipeline's cells are no other registers of the buffer, and none of records. -/
theorem cellCounters_place {p : Nat} (hp : p < 144) : R.SWC_CELL_UNCORR (pipeOf p) = R.SWC_CELL_CORR (pipeOf p) + 4 ∧
    0x40800 < R.SWC_CELL_CORR (pipeOf p) ∧ R.SWC_CELL_CORR (pipeOf p) < 0x43000 := by
  have hpipe : pipeOf p < 4 := by simp only [pipeOf]; split_ifs <;> omega
  simp only [R.SWC_CELL_CORR, R.SWC_CELL_UNCORR]
  omega

theorem notMem_retiredWords {a : Nat} (ha : 0x40800 < a) : a ∉ retiredWords := by
  simp only [retiredWords, R.SWC_RETIRED, R.SWC_POOL_SIZE, R.SWC_POOL_FREE, List.mem_cons, List.not_mem_nil, or_false]
  omega

theorem notMem_poolWords {a : Nat} (ha : 0x40800 < a) : a ∉ poolWords := by
  simp only [poolWords, R.SWC_HEADROOM, R.SWC_MGMT_Q, R.SWC_POOL_FREE, List.mem_cons, List.not_mem_nil, or_false]
  omega

/-- What is said of the counters of cells once a copy has been read. -/
def Chip.cellsCounted (c d : Chip) (p : Nat) (ecc : Ecc) : Prop :=
  d.word (R.SWC_CELL_CORR (pipeOf p)) = c.word (R.SWC_CELL_CORR (pipeOf p)) + BitVec.ofNat 32 (eccFound ecc).1 ∧
    d.word (R.SWC_CELL_UNCORR (pipeOf p)) = c.word (R.SWC_CELL_UNCORR (pipeOf p)) + (if (eccFound ecc).2.isSome then 1 else 0)

section
variable {c : Chip} {i : Nat} {f : Frame} (hf : c.frame i = some f) (p q : Nat) (ecc : Ecc)
include hf

theorem Chip.cellsRead_of_some : c.cellsRead p q i ecc =
    if (eccFound ecc).2.isSome then
      ((c.add (R.SWC_CELL_CORR (pipeOf p)) (eccFound ecc).1).bump (R.SWC_CELL_UNCORR (pipeOf p))).cellRetired p q i f
    else c.add (R.SWC_CELL_CORR (pipeOf p)) (eccFound ecc).1 := by
  rw [Chip.cellsRead, Chip.retireCell_of_some (c := c.add _ _) hf]

theorem Chip.dataAndNotes_cellsRead : Chip.dataAndNotes c (c.cellsRead p q i ecc) (cellWords p) := by
  have hcorr : Chip.dataAndRegs c (c.add (R.SWC_CELL_CORR (pipeOf p)) (eccFound ecc).1) (cellWords p) :=
    (Chip.onlyRegs_setWord c _ _).dataAndRegs.mono (by simp [cellWords])
  rw [Chip.cellsRead_of_some hf]
  split
  · have huncorr := (Chip.onlyRegs_bump (c.add (R.SWC_CELL_CORR (pipeOf p)) (eccFound ecc).1) (R.SWC_CELL_UNCORR (pipeOf p))).dataAndRegs.mono
      (bs := cellWords p) (by simp [cellWords])
    exact (hcorr.trans huncorr).dataAndNotes.trans ((Chip.dataAndNotes_cellRetired _ _ _ _ _).mono (by simp [cellWords]))
  · exact hcorr.dataAndNotes

/-- Reading a copy's cells marks its frame at most. -/
theorem Chip.cellsRead_data : ∃ l, (c.cellsRead p q i ecc).data = { c.data with frames := l } := by
  rw [Chip.cellsRead_of_some hf]
  split
  · rw [Chip.cellRetired_data]
    split
    · exact ⟨_, rfl⟩
    · exact ⟨_, rfl⟩
  · exact ⟨_, rfl⟩

theorem Chip.frame_cellsRead_same : ∃ r, (c.cellsRead p q i ecc).frame i = some { f with retired := r } := by
  have hkept : c.frame i = some { f with retired := f.retired } := hf
  rw [Chip.cellsRead_of_some hf, Chip.frame]
  split
  · rw [Chip.cellRetired_data]
    split
    · exact ⟨_, hkept⟩
    · exact ⟨true, Chip.frame_setFrame_same _ _ _⟩
  · exact ⟨_, hkept⟩

theorem Chip.frame_cellsRead_other {j : Nat} (hj : j ≠ i) : (c.cellsRead p q i ecc).frame j = c.frame j := by
  rw [Chip.cellsRead_of_some hf, Chip.frame]
  split
  · rw [Chip.cellRetired_data]
    split
    · rfl
    · exact Chip.frame_setFrame_other _ _ hj
  · rfl

variable {p} in
theorem Chip.cellsCounted_cellsRead (hp : p < 144) : c.cellsCounted (c.cellsRead p q i ecc) p ecc := by
  obtain ⟨hplace, hlow, hhigh⟩ := cellCounters_place hp
  have hne : R.SWC_CELL_CORR (pipeOf p) ≠ R.SWC_CELL_UNCORR (pipeOf p) := by omega
  have hkept {a : Nat} (ha : 0x40800 < a) (d : Chip) : (d.cellRetired p q i f).word a = d.word a :=
    (d.dataAndNotes_cellRetired p q i f).word (notMem_retiredWords ha) (not_mem_recWords (by omega))
  rw [Chip.cellsCounted, Chip.cellsRead_of_some hf]
  split
  · rw [hkept hlow, hkept (by omega), Chip.word_bump_other _ _ _ hne, Chip.word_bump_same, Chip.word_add, if_pos rfl, Chip.word_add, if_neg hne.symm]
    exact ⟨rfl, rfl⟩
  · rw [Chip.word_add, if_pos rfl, Chip.word_add, if_neg hne.symm, BitVec.ofNat_eq_ofNat, BitVec.add_zero]
    exact ⟨rfl, rfl⟩

end

end Sys2Proof.Machine
end

section
/-! PROOFS of the family of the switch core and its buffer, O34, first part: a dequeue of a port (R182, R190, R198 to R201). -/

namespace Sys2Proof.Machine

/-! ## The dequeue itself (R200, R201, R214) -/

/-- A charge of a shaper changes buckets alone. -/
theorem Chip.chargeShaper_eq (c : Chip) (n : Nat) (bytes : Int) :
    ∃ l, c.chargeShaper n bytes = { c with data := { c.data with shapers := l } } := by
  rw [Chip.chargeShaper]
  split
  · exact ⟨c.data.shapers, rfl⟩
  · exact ⟨_, rfl⟩

/-- A dequeue takes the front of its queue and counts it; else it changes buckets, tags and grants alone. -/
theorem Chip.serve_eq (c : Chip) (p k : Nat) (x : Queued) (f : Frame) : ∃ sh sv vt tag w,
    c.serve p k x f = (({ c with data := { c.data with
      shapers := sh, served := sv, vtime := vt,
      queues := Sparse.set {} c.data.queues (qOf p k) { frames := (c.queue (qOf p k)).frames.drop 1, tag := tag } } } : Chip).bump
        (R.TMG_Q_TX (qOf p k))).mark (F.TMG_Q_HWM_SOJ_sojourn_max (qOf p k)) w := by
  obtain ⟨sh, hport⟩ := c.chargeShaper_eq (portShaper p) (c.counted (portShaper p) f.bytes.length)
  rw [Chip.serve, hport]
  dsimp only
  split
  · obtain ⟨sh', htenant⟩ := ({ c with data := { c.data with shapers := sh } } : Chip).chargeShaper_eq f.tenant
      (({ c with data := { c.data with shapers := sh } } : Chip).counted f.tenant f.bytes.length)
    rw [htenant]
    exact ⟨_, _, _, _, _, rfl⟩
  · exact ⟨_, _, _, _, _, rfl⟩

/-- The registers of a queue that a dequeue changes by itself. -/
def servedWords (q : Nat) : List Nat := [R.TMG_Q_TX q, R.TMG_Q_HWM_SOJ q]

section
variable (c : Chip) (p k : Nat) (x : Queued) (f : Frame)

theorem Chip.dataAndRegs_serve : Chip.dataAndRegs c (c.serve p k x f) (servedWords (qOf p k)) := by
  obtain ⟨sh, sv, vt, tag, w, hserve⟩ := c.serve_eq p k x f
  rw [hserve]
  exact (Chip.dataAndRegs_data c _ _).trans (((Chip.onlyRegs_bump _ _).dataAndRegs.mono (by simp [servedWords])).trans
    ((Chip.onlyRegs_mark _ _ _).dataAndRegs.mono (by simp [servedWords, F.TMG_Q_HWM_SOJ_sojourn_max])))

theorem Chip.serve_data : (c.serve p k x f).data.frames = c.data.frames ∧ (c.serve p k x f).data.flights = c.data.flights := by
  obtain ⟨sh, sv, vt, tag, w, hserve⟩ := c.serve_eq p k x f
  rw [hserve]
  exact ⟨rfl, rfl⟩

theorem Chip.queue_serve_same : ((c.serve p k x f).queue (qOf p k)).frames = (c.queue (qOf p k)).frames.drop 1 := by
  obtain ⟨sh, sv, vt, tag, w, hserve⟩ := c.serve_eq p k x f
  rw [hserve, Chip.queue, Chip.mark_data, Chip.bump_data, Sparse.get_set_same]

theorem Chip.queue_serve_other {j : Nat} (hj : j ≠ qOf p k) : (c.serve p k x f).queue j = c.queue j := by
  obtain ⟨sh, sv, vt, tag, w, hserve⟩ := c.serve_eq p k x f
  rw [hserve, Chip.queue, Chip.mark_data, Chip.bump_data, Sparse.get_set_other _ _ _ _ _ hj]
  rfl

theorem Chip.serve_counts : (c.serve p k x f).word (R.TMG_Q_TX (qOf p k)) = c.word (R.TMG_Q_TX (qOf p k)) + 1 := by
  obtain ⟨sh, sv, vt, tag, w, hserve⟩ := c.serve_eq p k x f
  rw [hserve, Chip.mark, Chip.word_wr_other _ _ _ _ (by simp [F.TMG_Q_HWM_SOJ_sojourn_max, R.TMG_Q_TX, R.TMG_Q_HWM_SOJ]), Chip.word_bump_same]
  rfl

end

/-! ## The last copy of a frame is gone (R182) -/

section
variable {c : Chip} {i p : Nat} {f : Frame} (hf : c.frame i = some f) (hqueues : f.queues = [p])
include hf hqueues

theorem Chip.copyGone_of_last : c.copyGone i p =
    ((c.releaseQ (qOf p f.cls) (cellsOf f.bytes)).setFrame i (some { f with queues := [] })).freeFrame i := by
  have hnone : [p].filter (· != p) = [] := by simp
  simp only [Chip.copyGone, hf, hqueues, hnone, if_true]

theorem Chip.dataAndRegs_copyGone : Chip.dataAndRegs c (c.copyGone i p) (R.SWC_Q_OCC (qOf p f.cls) :: poolWords) := by
  rw [Chip.copyGone_of_last hf hqueues]
  have hrelease : Chip.dataAndRegs c (c.releaseQ (qOf p f.cls) (cellsOf f.bytes)) (R.SWC_Q_OCC (qOf p f.cls) :: poolWords) :=
    (Chip.onlyRegs_wr c (F.SWC_Q_OCC_occ _) _).dataAndRegs.mono (by simp [F.SWC_Q_OCC_occ])
  exact hrelease.trans ((Chip.dataAndRegs_data _ _ _).trans ((Chip.dataAndRegs_freeFrame _ i).mono (by simp)))

/-- Its frame is freed; of the datapath nothing else changes but the order of arrival. -/
theorem Chip.copyGone_data : ∃ l o, (c.copyGone i p).data = { c.data with frames := l, order := o } := by
  rw [Chip.copyGone_of_last hf hqueues, Chip.freeFrame_data (Chip.frame_setFrame_same _ _ _)]
  exact ⟨_, _, rfl⟩

theorem Chip.frame_copyGone_same (hwait : f.waitIcv = false) : (c.copyGone i p).frame i = none := by
  rw [Chip.copyGone_of_last hf hqueues]
  exact Chip.frame_freeFrame_same (Chip.frame_setFrame_same _ _ _) hwait

theorem Chip.frame_copyGone_other {j : Nat} (hj : j ≠ i) : (c.copyGone i p).frame j = c.frame j := by
  rw [Chip.copyGone_of_last hf hqueues, Chip.frame_freeFrame_other (Chip.frame_setFrame_same _ _ _) hj, Chip.frame_setFrame_other _ _ hj]
  rfl

end

/-! ## A copy read in full -/

/-- The part after the next copy of a queue has been read, before it goes on. -/
def Chip.copyRead (c : Chip) (p k : Nat) (x : Queued) (f : Frame) (ecc : Ecc) : Chip :=
  ((c.serve p k x f).cellsRead p (qOf p k) x.frame ecc).copyGone x.frame p

/-- What is said of a dequeue of the only copy of frame `n`, wherever the copy goes. -/
def Chip.dequeued (c : Chip) (p k n : Nat) (ecc : Ecc) (d : Chip) : Prop :=
  (d.queue (qOf p k)).frames = (c.queue (qOf p k)).frames.drop 1 ∧ d.frame n = none ∧ (∀ m, m ≠ n → d.frame m = c.frame m) ∧
    d.word (R.TMG_Q_TX (qOf p k)) = c.word (R.TMG_Q_TX (qOf p k)) + 1 ∧ (∀ j, j ≠ qOf p k → d.queue j = c.queue j) ∧ c.cellsCounted d p ecc

/-- The registers that what is said of a dequeue speaks of. -/
def dequeueCounts (p k : Nat) : List Nat := [R.TMG_Q_TX (qOf p k), R.SWC_CELL_CORR (pipeOf p), R.SWC_CELL_UNCORR (pipeOf p)]

theorem dequeueCounts_ne {p k a : Nat} (hp : p < 144) (ha : a ≤ 0x40800) : ∀ b ∈ dequeueCounts p k, b ≠ a := by
  obtain ⟨hplace, hlow, -⟩ := cellCounters_place hp
  simp only [dequeueCounts, R.TMG_Q_TX, List.mem_cons, List.not_mem_nil, or_false]
  omega

/-- It stays true where neither frames, queues nor counts change. -/
theorem Chip.dequeued.kept {c d e : Chip} {p k n : Nat} {ecc : Ecc} (h : c.dequeued p k n ecc d) (hqueues : e.data.queues = d.data.queues)
    (hframes : e.data.frames = d.data.frames) (hword : ∀ a ∈ dequeueCounts p k, e.word a = d.word a) : c.dequeued p k n ecc e := by
  obtain ⟨hqueue, hgone, hothers, hcount, hkept, hcorr, huncorr⟩ := h
  have hqueue' (j : Nat) : e.queue j = d.queue j := by rw [Chip.queue, hqueues, Chip.queue]
  have hframe' (m : Nat) : e.frame m = d.frame m := by rw [Chip.frame, hframes, Chip.frame]
  exact ⟨(congrArg Queue.frames (hqueue' _)).trans hqueue, (hframe' _).trans hgone, fun m hm => (hframe' m).trans (hothers m hm),
    (hword _ (by simp [dequeueCounts])).trans hcount, fun j hj => (hqueue' j).trans (hkept j hj),
    (hword _ (by simp [dequeueCounts])).trans hcorr, (hword _ (by simp [dequeueCounts])).trans huncorr⟩

section
variable {c : Chip} {p k : Nat} {x : Queued} {f : Frame} (ecc : Ecc) (hf : c.frame x.frame = some f)
include hf

theorem Chip.frame_serve : (c.serve p k x f).frame x.frame = some f := by
  rw [Chip.frame, (c.serve_data p k x f).1]
  exact hf

variable (hqueues : f.queues = [p])
include hqueues

/-- The frame as its only copy is discarded. -/
theorem Chip.frame_copy : ∃ g, ((c.serve p k x f).cellsRead p (qOf p k) x.frame ecc).frame x.frame = some g ∧ g.queues = [p] ∧ g.cls = f.cls ∧
    g.waitIcv = f.waitIcv := by
  obtain ⟨r, hread⟩ := Chip.frame_cellsRead_same (Chip.frame_serve (p := p) (k := k) hf) p (qOf p k) ecc
  exact ⟨_, hread, hqueues, rfl, rfl⟩

/-- The datapath after the copy has been read: frames, their order, queues, and what a dequeue settles have changed. -/
theorem Chip.copyRead_data : (c.copyRead p k x f ecc).data.queues = (c.serve p k x f).data.queues ∧
    (c.copyRead p k x f ecc).data.flights = c.data.flights := by
  obtain ⟨g, hcopy, hcopyq, -, -⟩ := Chip.frame_copy (k := k) ecc hf hqueues
  obtain ⟨l, hcells⟩ := Chip.cellsRead_data (Chip.frame_serve (p := p) (k := k) hf) p (qOf p k) ecc
  obtain ⟨l', o, hgone⟩ := Chip.copyGone_data hcopy hcopyq
  rw [Chip.copyRead, hgone, hcells]
  exact ⟨rfl, (c.serve_data p k x f).2⟩

theorem Chip.dataAndNotes_copyRead : Chip.dataAndNotes c (c.copyRead p k x f ecc)
    (servedWords (qOf p k) ++ cellWords p ++ R.SWC_Q_OCC (qOf p f.cls) :: poolWords) := by
  obtain ⟨g, hcopy, hcopyq, hcls, -⟩ := Chip.frame_copy (k := k) ecc hf hqueues
  have hgone := Chip.dataAndRegs_copyGone hcopy hcopyq
  rw [hcls] at hgone
  have hcells := Chip.dataAndNotes_cellsRead (Chip.frame_serve (p := p) (k := k) hf) p (qOf p k) ecc
  exact ((Chip.dataAndRegs_serve c p k x f).dataAndNotes.mono (by simp)).trans
    ((hcells.mono (by simp)).trans (hgone.dataAndNotes.mono (List.subset_append_right _ _)))

/-- What a dequeue does to frames, queues and counts (R182, R190, R200, R214). -/
theorem Chip.dequeued_copyRead (hp : p < 144) (hwait : f.waitIcv = false) : c.dequeued p k x.frame ecc (c.copyRead p k x f ecc) := by
  obtain ⟨g, hcopy, hcopyq, -, hcopyw⟩ := Chip.frame_copy (k := k) ecc hf hqueues
  obtain ⟨hdataq, -⟩ := Chip.copyRead_data (k := k) ecc hf hqueues
  obtain ⟨hplace, hlow, hhigh⟩ := cellCounters_place hp
  have hserved := Chip.frame_serve (p := p) (k := k) hf
  have hqueue (j : Nat) : (c.copyRead p k x f ecc).queue j = (c.serve p k x f).queue j := by rw [Chip.queue, hdataq, Chip.queue]
  have hgone {a : Nat} (ha : 0x40800 < a) (hocc : a ≠ R.SWC_Q_OCC (qOf p g.cls)) :
      (c.copyRead p k x f ecc).word a = ((c.serve p k x f).cellsRead p (qOf p k) x.frame ecc).word a :=
    (Chip.dataAndRegs_copyGone hcopy hcopyq).word (by simpa [hocc] using notMem_poolWords ha)
  have hserve {a : Nat} (ha : a ∉ servedWords (qOf p k)) : (c.serve p k x f).word a = c.word a := (c.dataAndRegs_serve p k x f).word ha
  have hcells := Chip.dataAndNotes_cellsRead hserved p (qOf p k) ecc
  obtain ⟨hcorr, huncorr⟩ := Chip.cellsCounted_cellsRead hserved (qOf p k) ecc hp
  refine ⟨(congrArg Queue.frames (hqueue _)).trans (c.queue_serve_same p k x f), Chip.frame_copyGone_same hcopy hcopyq (hcopyw.trans hwait),
    fun m hm => ?_, ?_, fun j hj => (hqueue j).trans (c.queue_serve_other p k x f hj), ?_, ?_⟩
  · rw [Chip.copyRead, Chip.frame_copyGone_other hcopy hcopyq hm, Chip.frame_cellsRead_other hserved _ _ _ hm, Chip.frame,
      (c.serve_data p k x f).1, Chip.frame]
  · have hhigh' : 0x44000 < R.TMG_Q_TX (qOf p k) := by simp only [R.TMG_Q_TX]; omega
    rw [hgone (by omega) (by simp only [R.TMG_Q_TX, R.SWC_Q_OCC]; omega), hcells.word ?_ (not_mem_recWords (by omega)), c.serve_counts]
    rw [cellWords, List.mem_cons, List.mem_cons]
    rintro (h | h | h)
    · omega
    · omega
    · exact notMem_retiredWords (by omega) h
  · rw [hgone hlow (by simp only [R.SWC_Q_OCC]; omega), hcorr, hserve]
    simp only [servedWords, R.TMG_Q_TX, R.TMG_Q_HWM_SOJ, List.mem_cons, List.not_mem_nil, or_false]
    omega
  · rw [hgone (by omega) (by simp only [R.SWC_Q_OCC]; omega), huncorr, hserve]
    simp only [servedWords, R.TMG_Q_TX, R.TMG_Q_HWM_SOJ, List.mem_cons, List.not_mem_nil, or_false]
    omega

end

/-! ## Where the copy goes -/

/-- A copy is read as it was stored where neither the router nor a policer has changed it. -/
theorem Chip.readCopy_of_plain (c : Chip) {f : Frame} (hhop : f.nextHop = none) (hmarked : f.marked = false) : c.readCopy f = f.bytes := by
  simp [Chip.readCopy, hhop, hmarked]

theorem Chip.running_of_mayDequeue {c : Chip} {p : Nat} {room : Bool} (h : c.mayDequeue p room = true) : c.running = true := by
  simp only [Chip.mayDequeue, Bool.and_eq_true] at h
  obtain ⟨⟨⟨⟨hrun, -⟩, -⟩, -⟩, -⟩ := h
  exact hrun

section
variable {s : State} {p k : Nat} {room : Bool} {ecc : Ecc} {x : Queued} {f : Frame} (hp : p < 144) (hmay : s.chip.mayDequeue p room = true)
  (hpick : s.chip.pickClass p = some k) (hhead : s.chip.headOf p k = some x) (hf : s.chip.frame x.frame = some f)
  (hhop : f.nextHop = none) (hmarked : f.marked = false)
include hp hmay hpick hhead hf hhop hmarked

/-- DEQUEUE, for a port that may be granted one and a copy that is read as stored. -/
theorem goes_dequeue {d : Chip} {P : Chip → Prop}
    (hd : (if (eccFound ecc).2 = some false then s.chip.copyRead p k x f ecc
      else (s.chip.copyRead p k x f ecc).passCopy p k f f.bytes ((eccFound ecc).2 == some true)) = d)
    (hpow : d.power = s.chip.power) (h : P d) : Goes (.dequeue p ⟨room, ecc⟩) s P := by
  have hpower := Chip.power_of_running (Chip.running_of_mayDequeue hmay)
  refine goes_actOn_of_eq (i := .dequeue p ⟨room, ecc⟩) rfl (decide_eq_true hp) hpower ?_ hpow h
  simp only [hmay, hpick, hhead, hf, Bool.not_true, Bool.false_eq_true, if_false, Chip.readCopy_of_plain _ hhop hmarked]
  exact hd

end

/-- A frame that is no event message of a transparent clock's port is unchanged (R379). -/
theorem Chip.tcCorrect_of_plain {c : Chip} {p : Nat} (htc : c.tcPort p = false) (source rx t : Nat) (b : Bytes) :
    c.tcCorrect source p rx t b = (b, 0, c) := if_pos (by simp [htc])

/-- A copy of a port's frame leaves an uplink, or is aborted after a free number of its bytes, at least one (log entry 16). -/
theorem Chip.passCopy_of_uplink {c : Chip} {p k : Nat} {f : Frame} (hp : 96 ≤ p) (htc : c.tcPort p = false) (hport : f.port ≠ 144) (b : Bytes)
    (bad : Bool) : c.passCopy p k f b bad =
      if bad then (c.freeNat 16).2.emit (.frame p (abortedFrame b ((c.freeNat 16).1 % (b.length - 4) + 1)) false)
      else (c.add R.TIM_TC_FRAMES 0).emit (.frame p b true) := by
  simp only [Chip.passCopy, Chip.tcCorrect_of_plain htc, Chip.stampSent, hport, if_false, Nat.not_lt.mpr hp]

/-- A copy of a frame as the egress parser takes it. -/
def Frame.egressFlight (f : Frame) (k : Nat) (bad : Bool) : Flight :=
  { bytes := f.bytes, cls := k, tenant := f.tenant, metadata := f.metadata, source := f.port, copy := f.copies, rx := f.rx, bad := bad }

/-- A copy of a port's frame waits for the egress parser of a line port, alone there. -/
theorem Chip.passCopy_of_line {c : Chip} {p k : Nat} {f : Frame} (hp : p < 96) (hprot : f.prot = none) (hport : f.port ≠ 144)
    (hempty : c.flights (2 * p + 1) = []) (bad : Bool) : ∃ v, c.passCopy p k f f.bytes bad =
      (c.setFlights (2 * p + 1) [f.egressFlight k bad]).mark (F.FLW_PD_HWM_inflight_max (2 * p + 1)) v := by
  have hstays (d : Chip) (hd : d.flights (2 * p + 1) = [f.egressFlight k bad]) : d.settleEgress p = d := by
    have hsource : (f.port != 144) = true := by simpa using hport
    simp only [Chip.settleEgress, hd, drainMgmt, Frame.egressFlight, hsource, if_true]
  simp only [Chip.passCopy, hp, if_true, hempty, hprot, Option.map_none, List.nil_append]
  exact ⟨_, hstays _ (Chip.flights_setFlights_same _ _ _)⟩

/-! ## The rule of dequeues -/

theorem dequeuesRule_holds : dequeuesRule := by
  intro s p k n room ecc x f hp hmay hpick hhead hn hf _ hqueues hwait hhop hmarked
  subst hn
  obtain ⟨hplace, hlow, hhigh⟩ := cellCounters_place hp
  have htaken := Chip.dequeued_copyRead (k := k) ecc hf hqueues hp hwait
  have hnotes := Chip.dataAndNotes_copyRead (k := k) ecc hf hqueues
  obtain ⟨-, hflights⟩ := Chip.copyRead_data (k := k) ecc hf hqueues
  have hgoes {d : Chip} {P : Chip → Prop} := goes_dequeue (ecc := ecc) (d := d) (P := P) hp hmay hpick hhead hf hhop hmarked
  refine ⟨fun huplink htc hport hlate => ?_, fun hline hprot hport hempty hlate => ?_, fun hearly => ?_⟩
  · have htc' : (s.chip.copyRead p k x f ecc).tcPort p = false := by
      rw [Chip.tcPort, Chip.cfgNat_of_img hnotes.img, ← Chip.tcPort, htc]
    have hpass := Chip.passCopy_of_uplink (k := k) huplink htc' hport f.bytes ((eccFound ecc).2 == some true)
    refine hgoes ((if_neg hlate).trans hpass) ?_ ⟨?_, fun hclean => ?_, fun hbad => ?_⟩
    · split <;> exact hnotes.power
    · split
      · exact htaken.kept rfl rfl fun _ _ => rfl
      · exact htaken.kept rfl rfl fun a ha => Chip.word_setWord_other _ _ _ _ (dequeueCounts_ne hp (by decide) a ha)
    · rw [hclean, if_neg (by decide), Chip.emit, Chip.add_out, hnotes.out]
    · rw [hbad, if_pos (by decide), Chip.emit]
      exact ⟨_, Nat.succ_pos _, congrArg (· ++ _) hnotes.out⟩
  · obtain ⟨v, hpass⟩ := Chip.passCopy_of_line (k := k) hline hprot hport (c := s.chip.copyRead p k x f ecc)
      (by rw [Chip.flights, hflights]; exact hempty) ((eccFound ecc).2 == some true)
    refine hgoes ((if_neg hlate).trans hpass) hnotes.power ⟨htaken.kept rfl rfl fun a ha => ?_, hnotes.out, ?_⟩
    · exact Chip.word_wr_other _ _ _ _ (dequeueCounts_ne hp (by simp only [F.FLW_PD_HWM_inflight_max, R.FLW_PD_HWM]; omega) a ha)
    · exact Chip.flights_setFlights_same _ _ _
  · exact hgoes (if_pos hearly) hnotes.power ⟨htaken, hnotes.out, hflights⟩

end Sys2Proof.Machine
end

section
/-! PROOFS of the family of the switch core and its buffer, O34, second part: what the management cores send and take (R123, R174, R180, R185,
R186, R190). -/

namespace Sys2Proof.Machine

/-! ## Admission to one queue (R180, R181) -/

section
variable {c : Chip} {p q n : Nat} (hstall : (c.port p).stallOut = false)
include hstall

/-- A queue over its maximum refuses a frame and counts it. -/
theorem Chip.admitTest_of_over (hover : c.maxCells q < c.rd (F.SWC_Q_OCC_occ q) + n) (bytes free : Nat) :
    c.admitTest p q n bytes free = ((c.bump (R.SWC_Q_DROP q)).addWide (R.SWC_Q_DROP_B q) 2 64 bytes, false) := by
  simp only [Chip.admitTest, hstall, Bool.false_and, Bool.false_eq_true, if_false, hover, if_true]

/-- A frame that the minimum of a queue holds is admitted. -/
theorem Chip.admitTest_of_minimum (hmin : c.rd (F.SWC_Q_OCC_occ q) + n ≤ c.minCells q) (hmax : c.rd (F.SWC_Q_OCC_occ q) + n ≤ c.maxCells q)
    (bytes free : Nat) : c.admitTest p q n bytes free = (c, true) := by
  simp only [Chip.admitTest, hstall, Bool.false_and, Bool.false_eq_true, if_false, Nat.not_lt.mpr hmax, hmin, if_true]

end

/-- A frame as the queue of one port holds it, all of whose cells are written at its decision. -/
def Frame.admitted (f : Frame) (p : Nat) : Frame :=
  { f with decided := true, queues := [p], early := cellsOf f.bytes, shared := 0, head := 0 }

/-- The part with a frame of the management cores admitted to the queue of one port. -/
def Chip.ownAdmitted (c : Chip) (i p : Nat) (f : Frame) : Chip :=
  (((((c.chargeQ (qOf p f.cls) (cellsOf f.bytes)).setFrame i (some (f.admitted p))).settlePool).setFrame i (some (f.admitted p))).takeHeadroom
    0).settlePool

section
variable {c : Chip} {i p known : Nat} {f : Frame}

theorem Chip.admitQueues_of_refused {d : Chip} {n : Nat}
    (htest : c.admitTest p (qOf p f.cls) n known (c.rd F.SWC_POOL_FREE_free) = (d, false)) :
    c.admitQueues i f [p] n known = (d, false) := by
  simp only [Chip.admitQueues, List.foldl_cons, List.foldl_nil, htest, Bool.false_eq_true, if_false, if_true]

theorem Chip.admitQueues_of_admitted (hport : f.port = 144)
    (htest : c.admitTest p (qOf p f.cls) (cellsOf f.bytes) known (c.rd F.SWC_POOL_FREE_free) = (c, true)) :
    c.admitQueues i f [p] (cellsOf f.bytes) known = (c.ownAdmitted i p f, true) := by
  simp only [Chip.admitQueues, List.foldl_cons, List.foldl_nil, htest, if_true, List.nil_append, List.cons_ne_nil, if_false, if_pos hport,
    Nat.sub_self, Nat.zero_min]
  rfl

end

/-! ## A frame that firmware sends (R123, R186) -/

/-- A frame of the management cores: padded, with an FCS, and with the protection that firmware names. -/
def Chip.ownFrame (c : Chip) (cls : Nat) (prot : Protection) (b : Bytes) : Frame :=
  { port := 144, bytes := withFcs (b ++ fill (60 - b.length) 0), cls := cls, hasTenant := false, prot := some prot, decided := true, rx := c.ns }

/-- The part that has given its next number to a frame. -/
def Chip.numbered (c : Chip) : Chip := { c with data := { c.data with nextId := c.data.nextId + 1 } }

section
variable {c : Chip} {p k : Nat} {prot : Protection} {b : Bytes}

theorem Chip.mgmtSend_of_long (hlong : 40 < cellsOf (c.ownFrame k prot b).bytes) : c.mgmtSend p k prot b = c := if_pos hlong

variable (hfits : cellsOf (c.ownFrame k prot b).bytes ≤ 40)
include hfits

/-- The frame takes the next number, and the test of its queue decides. -/
theorem Chip.mgmtSend_of_fits {y : Chip × Bool} (hadmit : c.numbered.admitQueues c.data.nextId (c.ownFrame k prot b) [p]
      (cellsOf (c.ownFrame k prot b).bytes) (c.ownFrame k prot b).bytes.length = y) :
    c.mgmtSend p k prot b = if y.2 then y.1.link p k c.data.nextId 144 else y.1.emit (.sendRefused p k) := by
  subst hadmit
  refine (if_neg (Nat.not_lt.mpr hfits)).trans ?_
  split
  · next d hadmitted =>
    have hy : c.numbered.admitQueues c.data.nextId (c.ownFrame k prot b) [p] (cellsOf (c.ownFrame k prot b).bytes)
      (c.ownFrame k prot b).bytes.length = (d, true) := hadmitted
    rw [hy, if_pos rfl]
  · next d hrefused =>
    have hy : c.numbered.admitQueues c.data.nextId (c.ownFrame k prot b) [p] (cellsOf (c.ownFrame k prot b).bytes)
      (c.ownFrame k prot b).bytes.length = (d, false) := hrefused
    rw [hy, if_neg Bool.false_ne_true]

variable (hstall : (c.port p).stallOut = false)
include hstall

/-- A refusal is counted and reported. -/
theorem Chip.mgmtSend_of_over (hover : c.maxCells (qOf p k) < c.rd (F.SWC_Q_OCC_occ (qOf p k)) + cellsOf (c.ownFrame k prot b).bytes) :
    c.mgmtSend p k prot b = (((c.numbered.bump (R.SWC_Q_DROP (qOf p k))).addWide (R.SWC_Q_DROP_B (qOf p k)) 2 64
      (c.ownFrame k prot b).bytes.length).emit (.sendRefused p k)) := by
  have htest := Chip.admitTest_of_over (c := c.numbered) hstall hover (c.ownFrame k prot b).bytes.length (c.numbered.rd F.SWC_POOL_FREE_free)
  have hrefused := Chip.admitQueues_of_refused (i := c.data.nextId) (f := c.ownFrame k prot b) htest
  rw [Chip.mgmtSend_of_fits hfits hrefused, if_neg Bool.false_ne_true]

theorem Chip.mgmtSend_of_minimum
    (hmin : c.rd (F.SWC_Q_OCC_occ (qOf p k)) + cellsOf (c.ownFrame k prot b).bytes ≤ c.minCells (qOf p k))
    (hmax : c.rd (F.SWC_Q_OCC_occ (qOf p k)) + cellsOf (c.ownFrame k prot b).bytes ≤ c.maxCells (qOf p k)) :
    c.mgmtSend p k prot b = (c.numbered.ownAdmitted c.data.nextId p (c.ownFrame k prot b)).link p k c.data.nextId 144 := by
  have htest := Chip.admitTest_of_minimum (c := c.numbered) hstall hmin hmax (c.ownFrame k prot b).bytes.length
    (c.numbered.rd F.SWC_POOL_FREE_free)
  have hadmitted := Chip.admitQueues_of_admitted (i := c.data.nextId) (f := c.ownFrame k prot b) rfl htest
  rw [Chip.mgmtSend_of_fits hfits hadmitted, if_pos rfl]

end

theorem goes_mgmtFrameSend {s : State} {p k : Nat} {prot : Protection} {b : Bytes} {d : Chip} {P : Chip → Prop} (hrun : s.chip.running = true)
    (hfw : s.chip.firmware = true) (hp : p < 144) (hk : k < 8) (hd : s.chip.mgmtSend p k prot b = d) (hpow : d.power = s.chip.power) (h : P d) :
    Goes (.mgmtFrameSend p k prot b) s P :=
  goes_actOn_of_eq rfl (by simp [hp, hk]) (Chip.power_of_running hrun) ((if_pos (by simp [hrun, hfw])).trans hd) hpow h

/-- A refusal keeps the datapath but for the number given. -/
theorem Chip.sendRefused_holds (c : Chip) (p k len : Nat) :
    let d := ((c.numbered.bump (R.SWC_Q_DROP (qOf p k))).addWide (R.SWC_Q_DROP_B (qOf p k)) 2 64 len).emit (.sendRefused p k)
    d.out = c.out ++ [.sendRefused p k] ∧ d.word (R.SWC_Q_DROP (qOf p k)) = c.word (R.SWC_Q_DROP (qOf p k)) + 1 ∧
      d.data = { c.data with nextId := c.data.nextId + 1 } := by
  refine ⟨?_, ?_, ?_⟩
  · rw [Chip.emit, Chip.addWide_out]
    rfl
  · rw [Chip.word_emit, Chip.addWide, Chip.word_setNum_other _ _ _ _ _ (.inl (by simp only [R.SWC_Q_DROP, R.SWC_Q_DROP_B]; omega)),
      Chip.word_bump_same]
    rfl
  · rw [Chip.emit_data, Chip.addWide_data]
    rfl

section
variable (c : Chip) (i p : Nat) (f : Frame)

theorem Chip.settlePool_data : c.settlePool.data = c.data := rfl

theorem Chip.takeHeadroom_data (n : Nat) : (c.takeHeadroom n).data = c.data := rfl

theorem Chip.chargeQ_data (q n : Nat) : (c.chargeQ q n).data = c.data := rfl

theorem Chip.frame_ownAdmitted_same : (c.ownAdmitted i p f).frame i = some (f.admitted p) := by
  rw [Chip.ownAdmitted, Chip.frame_data (Chip.settlePool_data _), Chip.frame_data (Chip.takeHeadroom_data _ _), Chip.frame_setFrame_same]

theorem Chip.frame_ownAdmitted_other {m : Nat} (hm : m ≠ i) : (c.ownAdmitted i p f).frame m = c.frame m := by
  rw [Chip.ownAdmitted, Chip.frame_data (Chip.settlePool_data _), Chip.frame_data (Chip.takeHeadroom_data _ _), Chip.frame_setFrame_other _ _ hm,
    Chip.frame_data (Chip.settlePool_data _), Chip.frame_setFrame_other _ _ hm, Chip.frame_data (Chip.chargeQ_data _ _ _)]

theorem Chip.ownAdmitted_keeps : (c.ownAdmitted i p f).out = c.out ∧ (c.ownAdmitted i p f).cycle = c.cycle ∧
    (c.ownAdmitted i p f).power = c.power ∧ (c.ownAdmitted i p f).data.queues = c.data.queues ∧
    (c.ownAdmitted i p f).data.nextId = c.data.nextId := ⟨rfl, rfl, rfl, rfl, rfl⟩

end

@[simp] theorem Chip.frame_link (c : Chip) (p k i port m : Nat) : (c.link p k i port).frame m = c.frame m := rfl

theorem Chip.link_keeps (c : Chip) (p k i port : Nat) : (c.link p k i port).data.nextId = c.data.nextId ∧ (c.link p k i port).out = c.out ∧
    (c.link p k i port).power = c.power ∧ (c.link p k i port).cycle = c.cycle := ⟨rfl, rfl, rfl, rfl⟩

/-- Where a frame is linked depends on the cycle and the frames alone. -/
theorem linkedIn_of_frames {c d : Chip} (hcycle : d.cycle = c.cycle) (hframe : ∀ m, d.frame m = c.frame m) (port : Nat) (l : List Queued)
    (x : Queued) : linkedIn d port l x = linkedIn c port l x := by
  simp only [linkedIn, Chip.linkedAfter, hcycle, hframe]

/-- A frame admitted and linked: its queue, the other frames, and what leaves the part. -/
theorem Chip.ownLinked_holds (c : Chip) (n p : Nat) (f : Frame) :
    let d := (c.ownAdmitted n p f).link p f.cls n 144
    d.data.nextId = c.data.nextId ∧ d.frame n = some (f.admitted p) ∧
      (d.queue (qOf p f.cls)).frames = linkedIn d 144 (c.queue (qOf p f.cls)).frames { frame := n, linked := c.cycle } ∧
      (∀ m, m ≠ n → d.frame m = c.frame m) ∧ d.out = c.out ∧ d.power = c.power := by
  obtain ⟨hout, hcycle, hpower, hqueues, hnext⟩ := c.ownAdmitted_keeps n p f
  have hqueue (q : Nat) : (c.ownAdmitted n p f).queue q = c.queue q := by rw [Chip.queue, hqueues, Chip.queue]
  obtain ⟨hnext', hout', hpower', hcycle'⟩ := (c.ownAdmitted n p f).link_keeps p f.cls n 144
  refine ⟨hnext'.trans hnext, ?_, ?_, fun m hm => ?_, hout'.trans hout, hpower'.trans hpower⟩
  · rw [Chip.frame_link, Chip.frame_ownAdmitted_same]
  · rw [Chip.queue_link, hqueue, hcycle, linkedIn_of_frames hcycle' (Chip.frame_link _ _ _ _ _)]
  · rw [Chip.frame_link, Chip.frame_ownAdmitted_other _ _ _ _ hm]

/-! ## The queue of punted frames (R185) -/

/-- The part without the oldest punted frame in the queue of the management cores. -/
def Chip.unpunted (c : Chip) (ns : List Nat) : Chip := { c with data := { c.data with mgmtQ := ns } }

/-- The oldest punted frame, read: it goes to firmware, unless a cell of it is lost. -/
def Chip.handed (c : Chip) (n : Nat) (f : Frame) (ecc : Ecc) : Chip :=
  let d := c.cellsRead f.port (qOf f.port f.cls) n ecc
  if (eccFound ecc).2.isSome then d else d.emit (.toFirmware f.port f.bytes f.rx)

theorem Chip.handed_keeps (c : Chip) (n : Nat) (f : Frame) (ecc : Ecc) :
    let d := c.cellsRead f.port (qOf f.port f.cls) n ecc
    (c.handed n f ecc).data = d.data ∧ (c.handed n f ecc).power = d.power ∧ (∀ a, (c.handed n f ecc).word a = d.word a) ∧
      (c.handed n f ecc).out = if (eccFound ecc).2.isSome then d.out else d.out ++ [.toFirmware f.port f.bytes f.rx] := by
  rw [Chip.handed]
  split
  · exact ⟨rfl, rfl, fun _ => rfl, rfl⟩
  · exact ⟨rfl, rfl, fun _ => rfl, rfl⟩

/-- The part after a drain: the frame is freed however it was read. -/
def Chip.punted (c : Chip) (ns : List Nat) (n : Nat) (f : Frame) (ecc : Ecc) : Chip := ((c.unpunted ns).handed n f ecc).freeFrame n

theorem Chip.power_of_firmware {c : Chip} (h : c.firmware = true) : c.power = true := by
  simp only [Chip.firmware, Bool.and_eq_true] at h
  obtain ⟨⟨⟨hpower, -⟩, -⟩, -⟩ := h
  exact hpower

section
variable {s : State} {n : Nat} {ns : List Nat} {f : Frame} (hfw : s.chip.firmware = true) (hq : s.chip.data.mgmtQ = n :: ns)
  (hf : s.chip.frame n = some f)
include hfw hq hf

/-- A drain reads the oldest punted frame, hands it over unless a cell of it is lost, and frees it. -/
theorem goes_mgmtQueueDrain (ecc : Ecc) {P : Chip → Prop} {d : Chip}
    (hd : s.chip.punted ns n f ecc = d) (hpow : d.power = s.chip.power) (h : P d) : Goes (.mgmtQueueDrain ecc) s P := by
  have hpower := Chip.power_of_firmware hfw
  have hf' : (s.chip.unpunted ns).frame n = some f := hf
  have hexec : exec (.mgmtQueueDrain ecc) s = s.act fun _ => d := by
    change execMgmtQueueDrain s ecc = _
    rw [execMgmtQueueDrain, State.act, State.act, if_pos hpower, if_pos hpower]
    rw [Chip.unpunted] at hf'
    simp only [hq, hfw, hf', Bool.not_true, Bool.false_eq_true, if_false]
    rw [← hd, Chip.punted, Chip.handed, Chip.cellsRead, Chip.unpunted]
    split <;> rfl
  exact goes_act hexec hpower (hpow.trans hpower) h

end

/-- What is said of a drain: the frame is gone, its cells are counted, and it is handed over unless one of them is lost. -/
theorem Chip.punted_holds {c : Chip} {n : Nat} {f : Frame} (hf : c.frame n = some f) (ns : List Nat) (ecc : Ecc) (hport : f.port < 144)
    (hwait : f.waitIcv = false) :
    let d := c.punted ns n f ecc
    d.power = c.power ∧ d.data.mgmtQ = ns ∧ d.frame n = none ∧ (∀ m, m ≠ n → d.frame m = c.frame m) ∧ c.cellsCounted d f.port ecc ∧
      d.out = if (eccFound ecc).2.isSome then c.out else c.out ++ [.toFirmware f.port f.bytes f.rx] := by
  intro d
  have hf' : (c.unpunted ns).frame n = some f := hf
  obtain ⟨hplace, hlow, -⟩ := cellCounters_place hport
  obtain ⟨l, hcells⟩ := Chip.cellsRead_data hf' f.port (qOf f.port f.cls) ecc
  obtain ⟨r, hread⟩ := Chip.frame_cellsRead_same hf' f.port (qOf f.port f.cls) ecc
  have hnotes := Chip.dataAndNotes_cellsRead hf' f.port (qOf f.port f.cls) ecc
  obtain ⟨hcorr, huncorr⟩ := Chip.cellsCounted_cellsRead hf' (qOf f.port f.cls) ecc hport
  obtain ⟨hdata, hpower, hword, hout⟩ := (c.unpunted ns).handed_keeps n f ecc
  have hframe : ((c.unpunted ns).handed n f ecc).frame n = some { f with retired := r } := (Chip.frame_data hdata n).trans hread
  have hfree : Chip.dataAndRegs _ d poolWords := Chip.dataAndRegs_freeFrame ((c.unpunted ns).handed n f ecc) n
  have hcount {a : Nat} (ha : 0x40800 < a) := (hfree.word (notMem_poolWords ha)).trans (hword a)
  refine ⟨(hfree.power.trans hpower).trans hnotes.power, ?_, Chip.frame_freeFrame_same hframe hwait, fun m hm => ?_,
    ⟨(hcount hlow).trans hcorr, (hcount (by omega)).trans huncorr⟩, ?_⟩
  · have hfreed : d.data = _ := Chip.freeFrame_data hframe
    rw [hfreed, Chip.unframed, hdata, hcells]
    rfl
  · exact (Chip.frame_freeFrame_other hframe hm).trans ((Chip.frame_data hdata m).trans (Chip.frame_cellsRead_other hf' _ _ _ hm))
  · have hkept : d.out = _ := (congrArg Chip.out hfree.1 :)
    rw [hkept]
    refine hout.trans ?_
    rw [hnotes.out]
    rfl

theorem managementFramesRule_holds : managementFramesRule := by
  intro s hrun hfw
  refine ⟨fun p k prot b hp hk hstall => ⟨fun hlong => ?_, fun hfits hover => ?_, fun hfits hmin hmax => ?_⟩,
    fun n ns f ecc hq hf hport hwait => ?_⟩
  · exact goes_mgmtFrameSend hrun hfw hp hk (Chip.mgmtSend_of_long hlong) rfl rfl
  · refine goes_mgmtFrameSend hrun hfw hp hk (Chip.mgmtSend_of_over hfits hstall hover) ?_ (Chip.sendRefused_holds _ _ _ _)
    rw [Chip.emit_power, Chip.addWide_power]
    rfl
  · obtain ⟨hnext, hframe, hlinked, hothers, hout, hpower⟩ :=
      s.chip.numbered.ownLinked_holds s.chip.data.nextId p (s.chip.ownFrame k prot b)
    refine goes_mgmtFrameSend hrun hfw hp hk (Chip.mgmtSend_of_minimum hfits hstall hmin hmax) hpower ⟨hnext, ?_, hlinked, hothers, hout⟩
    exact (congrArg (Option.map _) hframe).trans rfl
  · obtain ⟨hpower, hmgmt, hgone, hothers, ⟨hcorr, huncorr⟩, hout⟩ := Chip.punted_holds hf ns ecc hport hwait
    exact goes_mgmtQueueDrain hfw hq hf ecc rfl hpower ⟨hmgmt, hgone, hothers, hcorr, huncorr, hout⟩

/-- Settles O34, by its two rules: dequeues follow R182, R185, R190 and R200, with the free number of bytes after which an uplink's copy is aborted
(log entry 16); that a frame of the management cores is padded and takes an FCS, and that one of more than forty cells goes nowhere, is the
model's reading (log entry 35), and so is the pipeline that counts the cells of a drain (log entry 73). -/
theorem queuesOut : Obligations.QueuesOut := ⟨dequeuesRule_holds, managementFramesRule_holds⟩

end Sys2Proof.Machine
end

section
/-! PROOFS of the family of the inline cipher, what leaves the states of the slices alone: commit, release, the SAs and what firmware sends
write no register of CPH_SLICE_STATUS (R25 to R29, R235 to R256). -/

namespace Sys2Proof.Machine

/-! ## The view of the slices -/

/-- Every channel is on a port that the part has. -/
def Chip.portsKnown (c : Chip) : Bool := c.data.chans.all (fun h => h.port < 144)

/-- An address outside the registers of the slices. -/
def offSlices (a : Nat) : Prop := a < 0x20000 ∨ 0x20100 ≤ a

/-- Main power, the channels, and the registers of the slices. Without the bound on the ports of the channels, counters of a port could lie
among the registers of the slices: the view then shows no register. -/
def Chip.sliceView (c : Chip) : Bool × List Chan × (Nat → W32) :=
  (c.power, c.data.chans, fun a => if 0x20000 ≤ a ∧ a < 0x20100 ∧ c.portsKnown = true then c.word a else 0)

section
variable {c d : Chip} (h : d.sliceView = c.sliceView)
include h

theorem Chip.power_of_sliceView : d.power = c.power := congrArg (·.1) h

theorem Chip.chans_of_sliceView : d.data.chans = c.data.chans := congrArg (·.2.1) h

/-- A field of a slice reads the same under the same view. -/
theorem Chip.rd_of_sliceView (hk : c.portsKnown = true) {f : Fld} {j : Nat} (hf : f.reg = R.CPH_SLICE_STATUS j) (hj : j < 18) :
    d.rd f = c.rd f := by
  have hd : d.portsKnown = true := by rw [Chip.portsKnown, Chip.chans_of_sliceView h]; exact hk
  have hlow : 0x20000 ≤ f.reg := by rw [hf, R.CPH_SLICE_STATUS]; omega
  have hhigh : f.reg < 0x20100 := by rw [hf, R.CPH_SLICE_STATUS]; omega
  have hword := congrFun (congrArg (·.2.2) h) f.reg
  refine Chip.rd_of_word ?_
  simpa only [Chip.sliceView, hlow, hhigh, hk, hd, and_self, if_true] using hword

end

/-- A change that keeps the words of the view. -/
theorem Chip.sliceView_of_word {c d : Chip} (hpower : d.power = c.power) (hchans : d.data.chans = c.data.chans)
    (hword : c.portsKnown = true → ∀ a, 0x20000 ≤ a → a < 0x20100 → d.word a = c.word a) : d.sliceView = c.sliceView := by
  have hknown : d.portsKnown = c.portsKnown := by rw [Chip.portsKnown, hchans, Chip.portsKnown]
  rw [Chip.sliceView, Chip.sliceView, hpower, hchans, hknown]
  congr 2
  funext a
  split
  · next h => exact hword h.2.2 a h.1 h.2.1
  · rfl

section
variable (c : Chip) {a : Nat}

theorem Chip.setWord_sliceView (h : c.portsKnown = true → offSlices a) (w : W32) : (c.setWord a w).sliceView = c.sliceView := by
  refine Chip.sliceView_of_word rfl rfl fun hk b hlow hhigh => Chip.word_setWord_other _ _ _ _ ?_
  rcases h hk with ha | ha <;> omega

theorem Chip.add_sliceView (h : c.portsKnown = true → offSlices a) (n : Nat) : (c.add a n).sliceView = c.sliceView :=
  Chip.setWord_sliceView c h _

theorem Chip.bump_sliceView (h : c.portsKnown = true → offSlices a) : (c.bump a).sliceView = c.sliceView := Chip.setWord_sliceView c h _

theorem Chip.wr_sliceView {f : Fld} (h : offSlices f.reg) (v : Nat) : (c.wr f v).sliceView = c.sliceView :=
  Chip.setWord_sliceView c (fun _ => h) _

theorem Chip.setNum_sliceView {k : Nat} (h : a + 4 * k ≤ 0x20000 ∨ 0x20100 ≤ a) (v : Nat) : (c.setNum a k v).sliceView = c.sliceView :=
  Chip.sliceView_of_word (Chip.setNum_power ..) (congrArg Data.chans (Chip.setNum_data ..)) fun _ _ hlow hhigh =>
    Chip.word_setNum_other _ _ _ _ _ (by omega)

@[simp] theorem Chip.attn_sliceView (cls : Nat) : (c.attn cls).sliceView = c.sliceView :=
  Chip.sliceView_of_word (Chip.attn_power ..) (congrArg Data.chans (Chip.attn_data ..)) fun _ a hlow _ =>
    Chip.attn_word _ _ _ (by simp only [R.HST_ATTN]; omega)

end

/-- What a step keeps for each entry of a list, its fold keeps. -/
theorem foldl_keeps_of_mem {σ α β : Type} {g : σ → α → σ} {view : σ → β} {l : List α} (h : ∀ s, ∀ x ∈ l, view (g s x) = view s)
    (s : σ) : view (l.foldl g s) = view s := by
  induction l generalizing s with
  | nil => rfl
  | cons x l ih => rw [List.foldl_cons, ih fun s y hy => h s y (List.mem_cons_of_mem x hy), h s x List.mem_cons_self]

/-! ## Registers outside the slices -/

/-- A register of a bank above the slices. -/
theorem offSlices_above {b n : Nat} (h : 0x20100 ≤ b) : offSlices (b + n) := .inr (Nat.le_add_right_of_le h)

/-- A register of a bank of ports or pipelines in the block SAS. -/
theorem offSlices_sas {b k : Nat} (hb : b ≤ 0x10000) (hk : k < 144) : offSlices (b + 0x20 * k) := .inl (by omega)

theorem pipeOf_lt {p : Nat} (hp : p < 144) : pipeOf p < 4 := by
  simp only [pipeOf]
  split_ifs <;> omega

/-- A register of a pipeline's bank in the block SAS, by a port of the pipeline. -/
theorem offSlices_sasPipe {b p : Nat} (hb : b ≤ 0x10000) (hp : p < 144) : offSlices (b + 0x20 * pipeOf p) :=
  offSlices_sas hb ((pipeOf_lt hp).trans (by decide))

theorem Chip.port_lt_of_mem {c : Chip} {h : Chan} (hh : h ∈ c.data.chans) (hk : c.portsKnown = true) : h.port < 144 :=
  of_decide_eq_true (List.all_eq_true.mp hk h hh)

/-- A counter in the block SAS of the pipeline of a channel of the part. -/
theorem offSlices_chan {c : Chip} {h : Chan} (hh : h ∈ c.data.chans) {b : Nat} (hb : b ≤ 0x10000) (hk : c.portsKnown = true) :
    offSlices (b + 0x20 * pipeOf h.port) := offSlices_sasPipe hb (Chip.port_lt_of_mem hh hk)

/-! ## Parts of the state that hold no register -/

section
variable (c : Chip)

@[simp] theorem Chip.emit_sliceView (o : Out) : (c.emit o).sliceView = c.sliceView := rfl

@[simp] theorem Chip.setPort_sliceView (p : Nat) (x : Port) : (c.setPort p x).sliceView = c.sliceView := rfl

@[simp] theorem Chip.setSa_sliceView (i : Nat) (x : Sa) : (c.setSa i x).sliceView = c.sliceView := rfl

@[simp] theorem Chip.setSc_sliceView (sc : Nat) (x : ScRun) : (c.setSc sc x).sliceView = c.sliceView := rfl

@[simp] theorem Chip.setFrame_sliceView (i : Nat) (f : Option Frame) : (c.setFrame i f).sliceView = c.sliceView := rfl

@[simp] theorem Chip.setBox_sliceView (i : Nat) (b : Option Box) : (c.setBox i b).sliceView = c.sliceView := rfl

@[simp] theorem Chip.takeLane_sliceView (l : Nat × Nat) (n : Nat) : (c.takeLane l n).sliceView = c.sliceView := rfl

@[simp] theorem Chip.link_sliceView (p cls i port : Nat) : (c.link p cls i port).sliceView = c.sliceView := rfl

@[simp] theorem Chip.setMka_sliceView (p : Nat) (f : Mka → Mka) : (c.setMka p f).sliceView = c.sliceView := rfl

@[simp] theorem Chip.journalAhead_sliceView (op : JOp) : (c.journalAhead op).sliceView = c.sliceView := rfl

@[simp] theorem Chip.popCommit_sliceView (p : Nat) : (c.popCommit p).sliceView = c.sliceView := rfl

theorem Chip.freeNat_sliceView (w : Nat) : (c.freeNat w).2.sliceView = c.sliceView := rfl

@[simp] theorem Chip.random_sliceView (n : Nat) : (c.random n).2.sliceView = c.sliceView := rfl

/-! ## What firmware sends (R123, R180, R254, R265) -/

@[simp] theorem Chip.settlePool_sliceView : c.settlePool.sliceView = c.sliceView := Chip.wr_sliceView c (.inr (by decide)) _

@[simp] theorem Chip.giveHeadroom_sliceView (n : Nat) : (c.giveHeadroom n).sliceView = c.sliceView := Chip.wr_sliceView c (.inr (by decide)) _

@[simp] theorem Chip.takeHeadroom_sliceView (n : Nat) : (c.takeHeadroom n).sliceView = c.sliceView :=
  (Chip.wr_sliceView _ (.inr (by decide)) _).trans (Chip.wr_sliceView _ (.inr (by decide)) _)

@[simp] theorem Chip.chargeQ_sliceView (q n : Nat) : (c.chargeQ q n).sliceView = c.sliceView :=
  (Chip.wr_sliceView _ (offSlices_above (by decide)) _).trans (Chip.wr_sliceView _ (offSlices_above (by decide)) _)

@[simp] theorem Chip.admitTest_sliceView (p q n bytes free : Nat) : (c.admitTest p q n bytes free).1.sliceView = c.sliceView := by
  have hrefused : ((c.bump (R.SWC_Q_DROP q)).addWide (R.SWC_Q_DROP_B q) 2 64 bytes).sliceView = c.sliceView :=
    (Chip.setNum_sliceView _ (.inr (Nat.le_add_right_of_le (by decide))) _).trans (Chip.bump_sliceView c fun _ => offSlices_above (by decide))
  have hstall : (c.bump (R.SWC_STALL_DISC (pipeOf p))).sliceView = c.sliceView := Chip.bump_sliceView c fun _ => offSlices_above (by decide)
  unfold Chip.admitTest
  dsimp only
  split_ifs <;> simp [hrefused, hstall]

/-- The tests of a frame's queues, one after another. -/
theorem Chip.admitTests_sliceView (f : Frame) (dests : List Nat) (n known free : Nat) :
    (dests.foldl (fun (y : Chip × List Nat) p =>
      ((y.1.admitTest p (qOf p f.cls) n known free).1,
        if (y.1.admitTest p (qOf p f.cls) n known free).2 then y.2 ++ [p] else y.2)) (c, [])).1.sliceView = c.sliceView :=
  foldl_keeps (view := fun y : Chip × List Nat => y.1.sliceView) (fun _ _ => Chip.admitTest_sliceView _ _ _ _ _ _) dests (c, [])

@[simp] theorem Chip.admitQueues_sliceView (i : Nat) (f : Frame) (dests : List Nat) (n known : Nat) :
    (c.admitQueues i f dests n known).1.sliceView = c.sliceView := by
  have hcharge (d : Chip) (qs : List Nat) (n : Nat) : (qs.foldl (fun c p => c.chargeQ (qOf p f.cls) n) d).sliceView = d.sliceView :=
    foldl_keeps (fun _ _ => Chip.chargeQ_sliceView _ _ _) qs d
  unfold Chip.admitQueues
  dsimp only
  split_ifs <;> simp [Chip.admitTests_sliceView, hcharge]

@[simp] theorem Chip.mgmtSend_sliceView (p cls : Nat) (prot : Protection) (f : Bytes) : (c.mgmtSend p cls prot f).sliceView = c.sliceView := by
  have hnumbered (i : Nat) : ({ c with data := { c.data with nextId := i } } : Chip).sliceView = c.sliceView := rfl
  unfold Chip.mgmtSend
  dsimp only
  split
  · rfl
  · split <;> next hadmit =>
      have hview := Chip.admitQueues_sliceView { c with data := { c.data with nextId := c.data.nextId + 1 } } c.data.nextId
      exact (congrArg (·.1.sliceView) hadmit).symm.trans ((hview _ _ _ _).trans (hnumbered _))

@[simp] theorem Chip.sendOwn_sliceView (p : Nat) (f : Bytes) : (c.sendOwn p f).sliceView = c.sliceView := by
  unfold Chip.sendOwn
  split <;> simp

@[simp] theorem Chip.sendLink_sliceView (p : Nat) (m : Bytes) : (c.sendLink p m).sliceView = c.sliceView := by
  unfold Chip.sendLink Chip.sendControl Chip.sendContainer
  split_ifs <;> simp

@[simp] theorem Chip.startAdvance_sliceView (h : Chan) : (c.startAdvance h).sliceView = c.sliceView := by
  unfold Chip.startAdvance Chip.sendCtl
  dsimp only
  split_ifs <;> simp

@[simp] theorem Chip.sendMkpdu_sliceView (p : Nat) : (c.sendMkpdu p).sliceView = c.sliceView := by
  unfold Chip.sendMkpdu
  split <;> simp

@[simp] theorem Chip.installSak_sliceView (p : Nat) (k : Sak) : (c.installSak p k).sliceView = c.sliceView := by
  unfold Chip.installSak
  dsimp only
  split
  · simp
  · exact (Chip.setMka_sliceView _ _ _).trans (foldl_keeps (fun _ _ => Chip.setSa_sliceView _ _ _) _ c)

@[simp] theorem Chip.takeSak_sliceView (p : Nat) (k : Sak) (mi : Bytes) (mine : Bool) : (c.takeSak p k mi mine).sliceView = c.sliceView := by
  unfold Chip.takeSak
  dsimp only
  split <;> simp

@[simp] theorem Chip.mkaSoft_sliceView (p : Nat) : (c.mkaSoft p).sliceView = c.sliceView := by
  unfold Chip.mkaSoft Chip.newSak
  dsimp only
  split_ifs <;> simp

/-! ## PNs (R235, R253 to R255, R281) -/

@[simp] theorem Chip.raiseCeiling_sliceView (h : Chan) (i : Nat) : (c.raiseCeiling h i).sliceView = c.sliceView := by
  unfold Chip.raiseCeiling
  dsimp only
  split <;> simp

@[simp] theorem Chip.discardPn_sliceView (r : Release) : (c.discardPn r).sliceView = c.sliceView := by
  unfold Chip.discardPn
  split <;> simp

end

/-- An attention for a limit, with its counter, and what firmware does then. -/
theorem Chip.limitReached_sliceView {c : Chip} {h : Chan} (hh : h ∈ c.data.chans) (i : Nat) (x : Sa) {b : Nat} (hb : b ≤ 0x10000) :
    (((c.setSa i x).attn 12).bump (b + 0x20 * pipeOf h.port)).sliceView = c.sliceView := by
  have hh' : h ∈ ((c.setSa i x).attn 12).data.chans := by rw [Chip.attn_data]; exact hh
  rw [Chip.bump_sliceView _ (offSlices_chan hh' hb), Chip.attn_sliceView, Chip.setSa_sliceView]

/-- The soft limit of a transmit SA, and what follows when it is reached (R253, R254). -/
def Chip.softReached (c : Chip) (h : Chan) (i : Nat) : Chip :=
  let x := c.sa i
  if (c.softPn h ≤ x.nextPn || (c.softOctets h != 0 && c.softOctets h ≤ x.octets)) && !x.soft then
    let c := ((c.setSa i { x with soft := true }).attn 12).bump (R.SAS_SOFT (pipeOf h.port))
    if h.mode = modeEpoch then c.startAdvance h else if h.mode = modeMka then c.mkaSoft h.port else c
  else c

/-- The hard limit of a transmit SA, and what follows when it is reached (R255). -/
def Chip.hardReached (c : Chip) (h : Chan) (i : Nat) : Chip :=
  let x := c.sa i
  if hardLimit h.suite ≤ x.nextPn && !x.hard then
    let c := ((c.setSa i { x with hard := true }).attn 12).bump (R.SAS_HARD (pipeOf h.port))
    if h.mode = modeEpoch then c.startAdvance h else c
  else c

theorem Chip.checkLimits_eq (c : Chip) (h : Chan) (i : Nat) :
    c.checkLimits h i = ((c.softReached h i).hardReached h i).raiseCeiling h i := rfl

section
variable {c : Chip} {h : Chan} (hh : h ∈ c.data.chans) (i : Nat)
include hh

theorem Chip.softReached_sliceView : (c.softReached h i).sliceView = c.sliceView := by
  have hreached (x : Sa) : (((c.setSa i x).attn 12).bump (R.SAS_SOFT (pipeOf h.port))).sliceView = c.sliceView :=
    Chip.limitReached_sliceView hh i x (by decide)
  unfold Chip.softReached
  dsimp only
  split_ifs <;> simp [hreached]

theorem Chip.hardReached_sliceView : (c.hardReached h i).sliceView = c.sliceView := by
  have hreached (x : Sa) : (((c.setSa i x).attn 12).bump (R.SAS_HARD (pipeOf h.port))).sliceView = c.sliceView :=
    Chip.limitReached_sliceView hh i x (by decide)
  unfold Chip.hardReached
  dsimp only
  split_ifs <;> simp [hreached]

theorem Chip.checkLimits_sliceView : (c.checkLimits h i).sliceView = c.sliceView := by
  have hsoft := Chip.softReached_sliceView hh i
  have hh' : h ∈ (c.softReached h i).data.chans := by rw [Chip.chans_of_sliceView hsoft]; exact hh
  rw [Chip.checkLimits_eq, Chip.raiseCeiling_sliceView, Chip.hardReached_sliceView hh', hsoft]

theorem Chip.takePn_sliceView (octets : Nat) : (c.takePn h i octets).2.sliceView = c.sliceView :=
  Chip.checkLimits_sliceView (c := c.setSa i _) hh i

end

/-! ## Epoch keys in the vault (R262, R353) -/

section
variable (c : Chip)

theorem Chip.tagNode_sliceView (level i : Nat) : (c.tagNode level i).sliceView = c.sliceView := rfl

theorem Chip.retagChildren_sliceView (level i : Nat) : (c.retagChildren level i).sliceView = c.sliceView :=
  foldl_keeps (fun _ _ => Chip.tagNode_sliceView _ _ _) _ c

theorem Chip.bumpChild_sliceView (level i k : Nat) : (c.bumpChild level i k).sliceView = c.sliceView := by
  have hcount (d : Chip) : (d.bump R.VLT_OVERFLOW).sliceView = d.sliceView := Chip.bump_sliceView d fun _ => .inl (by decide)
  unfold Chip.bumpChild
  dsimp only
  split_ifs
  · exact hcount _
  · exact (hcount _).trans (Chip.retagChildren_sliceView _ _ _)
  · rfl

theorem Chip.markDirty_sliceView (level i : Nat) : (c.markDirty level i).sliceView = c.sliceView := by
  unfold Chip.markDirty
  dsimp only
  split <;> rfl

theorem Chip.epochWrote_sliceView (sc e : Nat) : (c.epochWrote sc e).sliceView = c.sliceView := by
  unfold Chip.epochWrote Chip.areaWrote
  split
  · rfl
  · split
    · rfl
    · exact (Chip.markDirty_sliceView _ _ _).trans (Chip.bumpChild_sliceView _ _ _ _)

@[simp] theorem Chip.dropEpochKey_sliceView (sc e : Nat) : (c.dropEpochKey sc e).sliceView = c.sliceView := by
  unfold Chip.dropEpochKey Chip.keepEpochs
  split
  · rfl
  · exact foldl_keeps (view := Chip.sliceView) (fun _ _ => Chip.epochWrote_sliceView _ _ _) _ _

/-! ## SAs that retire (R250 to R252) -/

@[simp] theorem Chip.noteNosa_sliceView (p : Nat) : (c.noteNosa p).sliceView = c.sliceView := by
  obtain ⟨m, hm⟩ := Chip.noteNosa_eq c p
  rw [hm]
  rfl

@[simp] theorem Chip.dropOpen_sliceView (sc : Nat) : (c.dropOpen sc).sliceView = c.sliceView := by
  unfold Chip.dropOpen
  split
  · rfl
  · next h hfind =>
    have hh : h ∈ c.data.chans := List.mem_of_find?_eq_some hfind
    dsimp only
    split
    · rfl
    · exact Chip.add_sliceView (c.setPort h.port _) (offSlices_chan (c := c.setPort h.port _) hh (by decide)) _

@[simp] theorem Chip.retireSa_sliceView (i : Nat) : (c.retireSa i).sliceView = c.sliceView := by
  unfold Chip.retireSa
  dsimp only
  split
  · simp
  · split <;> simp

theorem Chip.settleLink_sliceView {p : Nat} (hp : p < 144) : (c.settleLink p).sliceView = c.sliceView := by
  have hadopt : R.SAS_LINK_ADOPT p + 4 * 2 ≤ 0x20000 ∨ 0x20100 ≤ R.SAS_LINK_ADOPT p := .inl (by simp only [R.SAS_LINK_ADOPT]; omega)
  have hstatus : offSlices (F.SAS_LINK_STATUS_secret p).reg := offSlices_sas (by decide) hp
  unfold Chip.settleLink
  rw [Chip.setNum_sliceView _ hadopt, Chip.wr_sliceView _ hstatus, apply_ite Chip.sliceView, Chip.setPort_sliceView, ite_self]

theorem Chip.retireWhenDone_sliceView {p : Nat} (hp : p < 144) (i : Nat) : (c.retireWhenDone p i).sliceView = c.sliceView := by
  unfold Chip.retireWhenDone
  dsimp only
  split_ifs <;> simp [Chip.settleLink_sliceView _ hp]

theorem Chip.loadEpoch_sliceView {h : Chan} (hp : h.port < 144) (e g : Nat) : (c.loadEpoch h e g).sliceView = c.sliceView := by
  have hforced : (c.bump (R.SAS_RETIRE_FORCED (pipeOf h.port))).sliceView = c.sliceView :=
    Chip.bump_sliceView c fun _ => offSlices_sasPipe (by decide) hp
  unfold Chip.loadEpoch Chip.installSa
  dsimp only
  split_ifs <;> simp [hforced]

theorem Chip.loadFirst_sliceView {h : Chan} (hp : h.port < 144) : (c.loadFirst h).sliceView = c.sliceView := by
  unfold Chip.loadFirst
  split
  · rfl
  · dsimp only
    split <;> simp [Chip.loadEpoch_sliceView _ hp]

theorem Chip.retireDue_sliceView {p : Nat} (hp : p < 144) : (c.retireDue p).sliceView = c.sliceView := by
  have hsa (d : Chip) (i : Nat) : (if (d.sa i).retireDue then d.retireWhenDone p i else d).sliceView = d.sliceView := by
    split <;> simp [Chip.retireWhenDone_sliceView _ hp]
  refine foldl_keeps_of_mem (fun d h hmem => ?_) c
  obtain ⟨-, hport⟩ := List.mem_filter.mp hmem
  rw [Chip.loadFirst_sliceView _ (by rw [eq_of_beq hport]; exact hp)]
  exact foldl_keeps hsa h.sas d

end

/-! ## Release (R81, R190, R241, R242) -/

section
variable (c : Chip)

@[simp] theorem Chip.markAhead_sliceView (p an pn : Nat) : (c.markAhead p an pn).sliceView = c.sliceView := by
  unfold Chip.markAhead Chip.sendContainer
  rw [Chip.setPort_sliceView, apply_ite Chip.sliceView, Chip.emit_sliceView, ite_self]

@[simp] theorem Chip.abortAt_sliceView (p : Nat) (r : Release) (k : Nat) : (c.abortAt p r k).sliceView = c.sliceView := by
  unfold Chip.abortAt Chip.sendContainer
  split <;> simp

theorem Chip.abortRelease_sliceView (p : Nat) (r : Release) : (c.abortRelease p r).1.sliceView = c.sliceView := by
  unfold Chip.abortRelease
  dsimp only
  split
  · rfl
  · exact (Chip.bump_sliceView _ fun _ => offSlices_above (by decide)).trans (Chip.abortAt_sliceView _ _ _ _)

theorem Chip.abortBad_sliceView (p : Nat) (r : Release) : (c.abortBad p r).sliceView = c.sliceView :=
  (Chip.abortAt_sliceView _ _ _ _).trans (Chip.freeNat_sliceView c 16)

theorem Chip.releaseHead_sliceView (p : Nat) : (c.releaseHead p).sliceView = c.sliceView := by
  have hcount (d : Chip) (n : Nat) : (d.add R.TIM_TC_FRAMES n).sliceView = d.sliceView := Chip.add_sliceView d (fun _ => .inl (by decide)) n
  unfold Chip.releaseHead Chip.emitContainer Chip.sendContainer
  split
  · rfl
  · dsimp only
    split_ifs <;> simp [hcount, Chip.abortBad_sliceView]

theorem Chip.settleRelease_sliceView (p : Nat) : (c.settleRelease p).sliceView = c.sliceView := by
  refine foldl_keeps (fun d _ => ?_) _ c
  split
  · split
    · exact Chip.releaseHead_sliceView d p
    · rfl
  · rfl

theorem Chip.pushRelease_sliceView (p : Nat) (r : Release) : (c.pushRelease p r).sliceView = c.sliceView :=
  (Chip.settleRelease_sliceView _ p).trans (Chip.setPort_sliceView c p _)

/-! ## Event messages (R377 to R381) -/

@[simp] theorem Chip.stampSent_sliceView (source p t : Nat) : (c.stampSent source p t).sliceView = c.sliceView := by
  unfold Chip.stampSent
  split <;> simp

@[simp] theorem Chip.tcCorrect_sliceView (source p rx t : Nat) (f : Bytes) : (c.tcCorrect source p rx t f).2.2.sliceView = c.sliceView := by
  unfold Chip.tcCorrect
  split
  · rfl
  · split
    · rfl
    · dsimp only
      split
      · exact Chip.bump_sliceView c fun _ => .inl (by decide)
      · rfl

theorem Chip.fillPayload_sliceView (p t : Nat) (rs : List DenRecord) (o : Nat) : (c.fillPayload p t rs o).2.2.sliceView = c.sliceView := by
  induction rs generalizing c o with
  | nil => rfl
  | cons r rs ih =>
    rw [Chip.fillPayload]
    cases r.ptp with
    | none => exact ih _ _
    | some x => exact (ih _ _).trans ((Chip.tcCorrect_sliceView _ _ _ _ _ _).trans (Chip.stampSent_sliceView _ _ _ _))

end

/-! ## Containers (R85, R86, R246, R255, R256) -/

theorem Chip.mem_of_chan {c : Chip} {sc : Nat} {h : Chan} (hchan : c.chan sc = some h) : h ∈ c.data.chans := List.mem_of_find?_eq_some hchan

theorem Chip.mem_of_denSa {c : Chip} {p i : Nat} {h : Chan} (hsa : c.denSa p = some (h, i)) : h ∈ c.data.chans := by
  obtain ⟨g, hchan, hcurrent⟩ := Option.bind_eq_some_iff.mp hsa
  obtain ⟨j, -, hj⟩ := Option.map_eq_some_iff.mp hcurrent
  cases hj
  exact Chip.mem_of_chan hchan

theorem Chip.closeWith_sliceView {c : Chip} {h : Chan} (hh : h ∈ c.data.chans) (p i : Nat) (lane : Nat × Nat) (rs : List DenRecord)
    (least : Nat) : (c.closeWith p h i lane rs least).sliceView = c.sliceView := by
  obtain ⟨t, blocks, octets, r, hclose⟩ := Chip.closeWith_eq c p h i lane rs least
  have hfilled : (((c.freeNat 16).2.fillPayload p t rs 0).2.2.takeLane lane blocks).sliceView = c.sliceView :=
    (Chip.takeLane_sliceView _ _ _).trans ((Chip.fillPayload_sliceView _ _ _ _ _).trans (Chip.freeNat_sliceView _ _))
  rw [hclose, Chip.pushRelease_sliceView, Chip.takePn_sliceView (by rw [Chip.chans_of_sliceView hfilled]; exact hh), hfilled]

theorem Chip.settleShut_sliceView (p n : Nat) (c : Chip) : (c.settleShut p n).sliceView = c.sliceView := by
  induction n generalizing c with
  | zero => rfl
  | succ n ih =>
    rw [Chip.settleShut]
    split
    · next rs least more h i lane _ hsa _ =>
      have hh := Chip.mem_of_denSa hsa
      have hmem (x : Port) : h ∈ ((c.setPort p x).bump (R.CPH_TX_REWOUND p)).data.chans := hh
      have hcount (d : Chip) : (d.bump (R.CPH_TX_REWOUND p)).sliceView = d.sliceView := Chip.bump_sliceView d fun _ => offSlices_above (by decide)
      split
      · exact Chip.checkLimits_sliceView hh i
      · rw [ih, Chip.closeWith_sliceView (hmem _), hcount, Chip.setPort_sliceView]
    · rfl

theorem Chip.closeOpen_sliceView (c : Chip) {p : Nat} (hp : p < 144) : (c.closeOpen p).sliceView = c.sliceView := by
  unfold Chip.closeOpen
  split
  · exact Chip.add_sliceView _ (fun _ => offSlices_sasPipe (by decide) hp) _
  · next h i hsa =>
    have hshut := Chip.settleShut_sliceView p (c.port p).shut.length c
    have hh : h ∈ (c.settleShut p (c.port p).shut.length).data.chans := by
      rw [Chip.chans_of_sliceView hshut]
      exact Chip.mem_of_denSa hsa
    dsimp only
    split
    · exact (Chip.checkLimits_sliceView (c := Chip.setPort _ _ _) hh i).trans hshut
    · split
      · exact hshut
      · split
        · exact hshut
        · exact (Chip.closeWith_sliceView (c := Chip.setPort _ _ _) hh _ _ _ _ _).trans hshut

/-! ## Commit (R25 to R28, R229, R235 to R238, R255) -/

@[simp] theorem Chip.holdHead_sliceView (c : Chip) (p : Nat) : (c.holdHead p).sliceView = c.sliceView := by
  unfold Chip.holdHead
  split <;> simp

@[simp] theorem Chip.limitsAtHold_sliceView (c : Chip) (sc : Nat) : (c.limitsAtHold sc).sliceView = c.sliceView := by
  unfold Chip.limitsAtHold
  split
  · rfl
  · next h hchan =>
    cases c.currentSa h with
    | none => rfl
    | some i => exact Chip.checkLimits_sliceView (Chip.mem_of_chan hchan) i

@[simp] theorem Chip.countCommit_sliceView (c : Chip) (p : Nat) (q : CommitItem) : (c.countCommit p q).sliceView = c.sliceView := by
  have hpad (d : Chip) : (d.bump (R.CPH_TX_PAD p)).sliceView = d.sliceView := Chip.bump_sliceView d fun _ => offSlices_above (by decide)
  have hagain (d : Chip) : (d.bump (R.CPH_TX_REWOUND p)).sliceView = d.sliceView := Chip.bump_sliceView d fun _ => offSlices_above (by decide)
  unfold Chip.countCommit
  dsimp only
  split_ifs <;> simp [hpad, hagain]

/-- The shape of a protected commit: what is counted, an event message, a lane, a PN, and the release list. -/
theorem Chip.commitSecure_eq (c : Chip) (p : Nat) (q : CommitItem) (h : Chan) (i : Nat) (lane : Nat × Nat) :
    ∃ t f blocks octets r, c.commitSecure p q h i lane = (((((c.countCommit p q).stampSent q.source p t).tcCorrect q.source p q.rx t
      f).2.2.takeLane lane blocks).takePn h i octets).2.pushRelease p r := ⟨_, _, _, _, _, rfl⟩

theorem Chip.commitSecure_sliceView {c : Chip} {h : Chan} (hh : h ∈ c.data.chans) (p : Nat) (q : CommitItem) (i : Nat) (lane : Nat × Nat) :
    (c.commitSecure p q h i lane).sliceView = c.sliceView := by
  obtain ⟨t, f, blocks, octets, r, hcommit⟩ := Chip.commitSecure_eq c p q h i lane
  have hsent : ((((c.countCommit p q).stampSent q.source p t).tcCorrect q.source p q.rx t f).2.2.takeLane lane blocks).sliceView =
      c.sliceView := by simp
  rw [hcommit, Chip.pushRelease_sliceView, Chip.takePn_sliceView (by rw [Chip.chans_of_sliceView hsent]; exact hh), hsent]

/-- The shape of a commit in clear: what is counted, an event message, and the release list. -/
theorem Chip.commitClear_eq (c : Chip) (p : Nat) (q : CommitItem) : ∃ t f r, c.commitClear p q =
    (((c.countCommit p q).stampSent q.source p t).tcCorrect q.source p q.rx t f).2.2.pushRelease p r := ⟨_, _, _, rfl⟩

theorem Chip.commitClear_sliceView (c : Chip) (p : Nat) (q : CommitItem) : (c.commitClear p q).sliceView = c.sliceView := by
  obtain ⟨t, f, r, hcommit⟩ := Chip.commitClear_eq c p q
  rw [hcommit, Chip.pushRelease_sliceView, Chip.tcCorrect_sliceView, Chip.stampSent_sliceView, Chip.countCommit_sliceView]

@[simp] theorem Chip.appendRecord_sliceView (c : Chip) (p : Nat) (q : CommitItem) : (c.appendRecord p q).sliceView = c.sliceView := by
  simp [Chip.appendRecord]

theorem Chip.commitRecord_sliceView (c : Chip) {p : Nat} (hp : p < 144) (sc : Nat) (q : CommitItem) :
    (c.commitRecord p sc q).sliceView = c.sliceView := by
  have hclose := Chip.closeOpen_sliceView c hp
  unfold Chip.commitRecord
  dsimp only
  split
  · rfl
  split
  · exact Chip.appendRecord_sliceView c p q
  split
  · rfl
  split
  · simp [hclose]
  · exact hclose
  · split <;> simp [hclose]

theorem Chip.commitBar_drop {c : Chip} {p sc a : Nat} (h : c.commitBar p sc = .drop a) :
    a = R.SAS_TX_NOSA (pipeOf p) ∨ a = R.SAS_BLOCK_DROP (pipeOf p) := by
  unfold Chip.commitBar at h
  dsimp only at h
  split at h
  · cases h
    exact .inl rfl
  · split at h
    · cases h
      exact .inr rfl
    · split at h
      · cases h
        exact .inl rfl
      · split at h <;> cases h

theorem Chip.commitBar_go {c : Chip} {p sc i : Nat} {h : Chan} (hgo : c.commitBar p sc = .go h i) : c.chan sc = some h := by
  unfold Chip.commitBar at hgo
  dsimp only at hgo
  split at hgo
  · cases hgo
  · next g hchan =>
    split at hgo
    · cases hgo
    · split at hgo
      · cases hgo
      · split at hgo <;> cases hgo
        exact hchan

/-- The head of the commit stage on channel `sc`, when it is not too long. -/
def Chip.commitOn (c : Chip) (p sc : Nat) (q : CommitItem) : Chip :=
  match c.commitBar p sc with
  | .drop r => (c.popCommit p).bump r
  | .hold => (c.limitsAtHold sc).holdHead p
  | .go h i =>
    if c.isDenast p then c.commitRecord p sc q
    else
      match c.pickOutLane (pipeOf p) with
      | none => c
      | some lane => (c.popCommit p).commitSecure p q h i lane

theorem Chip.commitOn_sliceView (c : Chip) {p : Nat} (hp : p < 144) (sc : Nat) (q : CommitItem) : (c.commitOn p sc q).sliceView = c.sliceView := by
  have hcount {a : Nat} (ha : offSlices a) : ((c.popCommit p).bump a).sliceView = c.sliceView := Chip.bump_sliceView _ fun _ => ha
  unfold Chip.commitOn
  split
  · next hdrop =>
    rcases Chip.commitBar_drop hdrop with rfl | rfl
    · exact hcount (offSlices_sasPipe (by decide) hp)
    · exact hcount (offSlices_sasPipe (by decide) hp)
  · simp
  · next h i hgo =>
    have hmem : h ∈ (c.popCommit p).data.chans := Chip.mem_of_chan (Chip.commitBar_go hgo)
    split
    · exact Chip.commitRecord_sliceView c hp _ _
    · split
      · rfl
      · rw [Chip.commitSecure_sliceView hmem, Chip.popCommit_sliceView]

/-- A protected head that is too long for the wire or for the sending limit of its port is dropped. -/
theorem Chip.commitHead_of_sc {c : Chip} {p sc : Nat} {q : CommitItem} {qs : List CommitItem} (hcommits : (c.port p).commits = q :: qs)
    (hsc : q.sc = some sc) : ∃ long : Bool, c.commitHead p =
      if long then (c.popCommit p).bump (R.CPH_TX_LONG p)
      else if c.isDenast p && c.denLimit p < (recordOf q).bytes.length then (c.popCommit p).bump (R.PRT_DEN_OVERSIZE p)
      else c.commitOn p sc q := by
  rw [Chip.commitHead, hcommits]
  simp only [hsc]
  exact ⟨_, rfl⟩

theorem Chip.commitHead_sliceView (c : Chip) {p : Nat} (hp : p < 96) : (c.commitHead p).sliceView = c.sliceView := by
  have hlong : ((c.popCommit p).bump (R.CPH_TX_LONG p)).sliceView = c.sliceView := Chip.bump_sliceView _ fun _ => offSlices_above (by decide)
  have hoversize : ((c.popCommit p).bump (R.PRT_DEN_OVERSIZE p)).sliceView = c.sliceView :=
    Chip.bump_sliceView _ fun _ => .inl (by simp only [R.PRT_DEN_OVERSIZE]; omega)
  cases hcommits : (c.port p).commits with
  | nil => rw [Chip.commitHead, hcommits]
  | cons q qs =>
    cases hsc : q.sc with
    | none =>
      rw [Chip.commitHead, hcommits]
      simp only [hsc]
      rw [Chip.commitClear_sliceView, Chip.popCommit_sliceView]
    | some sc =>
      obtain ⟨long, hhead⟩ := Chip.commitHead_of_sc hcommits hsc
      rw [hhead]
      split_ifs
      · exact hlong
      · exact hoversize
      · exact Chip.commitOn_sliceView c (by omega) sc q

/-! ## Rewind and resumption (R245, R246) -/

theorem Chip.recommit_sliceView {p : Nat} (hp : p < 96) (n : Nat) (c : Chip) : (c.recommit p n).sliceView = c.sliceView := by
  induction n generalizing c with
  | zero => rfl
  | succ n ih =>
    rw [Chip.recommit]
    split
    · rw [ih, Chip.commitHead_sliceView c hp]
    · rfl

theorem Chip.rewind_sliceView (c : Chip) {p : Nat} (hp : p < 96) : (c.rewind p).sliceView = c.sliceView := by
  unfold Chip.rewind
  split
  · rfl
  · next r rs _ =>
    have hdiscard : ((r :: rs).foldl Chip.discardPn (c.abortRelease p r).1).sliceView = c.sliceView :=
      (foldl_keeps Chip.discardPn_sliceView _ _).trans (Chip.abortRelease_sliceView c p r)
    dsimp only
    rw [Chip.retireDue_sliceView _ (by omega)]
    split
    · exact (Chip.settleShut_sliceView _ _ _).trans hdiscard
    · exact (Chip.recommit_sliceView hp _ _).trans hdiscard

theorem Chip.resumeWork_sliceView (c : Chip) (k slice : Nat) : (c.resumeWork k slice).sliceView = c.sliceView := by
  have hcount (d : Chip) (p : Nat) : (d.bump (R.CPH_RX_RESUMED p)).sliceView = d.sliceView :=
    Chip.bump_sliceView d fun _ => offSlices_above (by decide)
  unfold Chip.resumeWork
  dsimp only
  refine (foldl_keeps (fun d e => ?_) _ _).trans (foldl_keeps (fun d e => ?_) _ c)
  · split
    · rfl
    · split <;> simp [hcount]
  · split
    · rfl
    · split <;> simp [hcount]

end Sys2Proof.Machine
end

section
/-! PROOFS of the family of the inline cipher, O36: checks and self-tests of the cipher slices (R244, R245, R246). -/

namespace Sys2Proof.Machine

/-! ## Registers of the slices -/

theorem sliceStatus_ne {j s : Nat} (h : j ≠ s) : R.CPH_SLICE_STATUS j ≠ R.CPH_SLICE_STATUS s := by
  simp only [R.CPH_SLICE_STATUS]
  omega

theorem sliceStatus_notMem_recWords (s : Nat) : R.CPH_SLICE_STATUS s ∉ recWords := by
  simp only [recWords, R.CPH_SLICE_STATUS, List.mem_cons, List.not_mem_nil, or_false, R.MGT_REC_STATUS, R.MGT_REC_LOST, R.MGT_REC_RUN,
    R.MGT_REC_SEQ, R.HST_ATTN]
  omega

/-- The bit of a slice's status that shows a check. -/
def sliceCheckFld (s : Nat) : SliceCheck → Fld
  | .aesParity => F.CPH_SLICE_STATUS_aes_parity s
  | .keyParity => F.CPH_SLICE_STATUS_key_parity s
  | .counterParity => F.CPH_SLICE_STATUS_counter_parity s
  | .ghashResidue => F.CPH_SLICE_STATUS_ghash_residue s

theorem sliceCheckFld_spec (s : Nat) (k : SliceCheck) : (sliceCheckFld s k).reg = R.CPH_SLICE_STATUS s ∧ (sliceCheckFld s k).inWord = true ∧
    (sliceCheckFld s k).clears (F.CPH_SLICE_STATUS_state s) = true := by
  cases k <;> exact ⟨rfl, rfl, rfl⟩

theorem Chip.markSlice_eq (c : Chip) (s : Nat) (k : SliceCheck) : c.markSlice s k = c.wr (sliceCheckFld s k) 1 := by
  cases k <;> rfl

/-! ## A spare fails in standby (R244) -/

theorem Chip.spareFails_shows (c : Chip) (sp : Nat) : (c.spareFails sp).flag (F.CPH_SLICE_STATUS_spare_ready sp) = false ∧
    (c.spareFails sp).flag (F.CPH_SLICE_STATUS_selftest_fail sp) = true ∧ Chip.noted c (c.spareFails sp) [R.CPH_SLICE_STATUS sp] := by
  have halert (d : Chip) (unit detail : Nat) (f : Fld) (hf : f.reg = R.CPH_SLICE_STATUS sp) :
      (d.alert Sub.cipher.n 0 unit detail).flag f = d.flag f := by
    rw [Chip.flag, Chip.alert_rd _ _ _ _ _ _ (hf ▸ sliceStatus_notMem_recWords sp), Chip.flag]
  refine ⟨?_, ?_, ?_⟩
  · rw [Chip.spareFails, halert _ _ _ _ rfl, Chip.flag_wr_clears _ _ _ _ rfl rfl, Chip.flag, Chip.rd_wr_same _ _ _ rfl]
    rfl
  · rw [Chip.spareFails, halert _ _ _ _ rfl, Chip.flag, Chip.rd_wr_same _ _ _ rfl]
    rfl
  · exact (((Chip.noted_wr c (F.CPH_SLICE_STATUS_spare_ready sp) 0 List.mem_cons_self).wr (F.CPH_SLICE_STATUS_selftest_fail sp) 1
      List.mem_cons_self).alert _ _ _ _)

/-- A spare that passes its self-test is ready, and shows no failure. -/
def Chip.sparePasses (c : Chip) (sp : Nat) : Chip := (c.wr (F.CPH_SLICE_STATUS_spare_ready sp) 1).wr (F.CPH_SLICE_STATUS_selftest_fail sp) 0

theorem Chip.sparePasses_shows (c : Chip) (sp : Nat) : (c.sparePasses sp).flag (F.CPH_SLICE_STATUS_spare_ready sp) = true ∧
    (c.sparePasses sp).flag (F.CPH_SLICE_STATUS_selftest_fail sp) = false ∧ Chip.onlyRegs c (c.sparePasses sp) [R.CPH_SLICE_STATUS sp] := by
  rw [Chip.sparePasses]
  refine ⟨?_, ?_, (Chip.onlyRegs_wr c (F.CPH_SLICE_STATUS_spare_ready sp) 1).trans
    (Chip.onlyRegs_wr _ (F.CPH_SLICE_STATUS_selftest_fail sp) 0)⟩
  · rw [Chip.flag_wr_clears _ _ _ _ rfl rfl, Chip.flag, Chip.rd_wr_same _ _ _ rfl]
    rfl
  · rw [Chip.flag, Chip.rd_wr_same _ _ _ rfl]
    rfl

/-! ## A slice is fenced (R244) -/

/-- A slice is fenced for a check and reported, before a spare takes its place. -/
def Chip.sliceFenced (c : Chip) (s : Nat) (k : SliceCheck) : Chip :=
  let c := (c.wr (F.CPH_SLICE_STATUS_state s) 3).markSlice s k
  c.alert Sub.cipher.n 0 s (c.word (R.CPH_SLICE_STATUS s)).toNat

theorem Chip.sliceFenced_state (c : Chip) (s : Nat) (k : SliceCheck) : (c.sliceFenced s k).rd (F.CPH_SLICE_STATUS_state s) = 3 := by
  obtain ⟨-, hin, hclears⟩ := sliceCheckFld_spec s k
  rw [Chip.sliceFenced, Chip.alert_rd _ _ _ _ _ _ (sliceStatus_notMem_recWords s), Chip.markSlice_eq, Chip.rd_wr_clears _ _ _ _ hin hclears,
    Chip.rd_wr_same _ _ _ rfl]
  rfl

/-- The fence of a slice leaves the status of the others. -/
theorem Chip.sliceFenced_word (c : Chip) {s j : Nat} (k : SliceCheck) (h : j ≠ s) :
    (c.sliceFenced s k).word (R.CPH_SLICE_STATUS j) = c.word (R.CPH_SLICE_STATUS j) := by
  obtain ⟨hreg, -⟩ := sliceCheckFld_spec s k
  rw [Chip.sliceFenced, Chip.alert_word _ _ _ _ _ _ (sliceStatus_notMem_recWords j), Chip.markSlice_eq,
    Chip.word_wr_other _ _ _ _ (hreg ▸ sliceStatus_ne h), Chip.word_wr_other _ _ _ _ (sliceStatus_ne h)]

/-- The spare takes the pipeline `k` over, and that is reported. -/
def Chip.spareAttached (c : Chip) (sp k : Nat) : Chip :=
  let c := (c.wr (F.CPH_SLICE_STATUS_state sp) 2).wr (F.CPH_SLICE_STATUS_pipeline sp) k
  c.alert Sub.cipher.n 1 sp (c.word (R.CPH_SLICE_STATUS sp)).toNat

/-- A spare stands by ready. -/
def Chip.standsReady (c : Chip) (sp : Nat) : Bool :=
  c.rd (F.CPH_SLICE_STATUS_state sp) == 1 && c.flag (F.CPH_SLICE_STATUS_spare_ready sp)

theorem Chip.attachSpare_eq (c : Chip) (sp k : Nat) : c.attachSpare sp k = if c.standsReady sp then c.spareAttached sp k else c := rfl

/-- A slice is fenced, and then a spare that stands by ready attached. -/
theorem Chip.fenceSlice_eq (c : Chip) (s sp : Nat) (k : SliceCheck) : (c.fenceSlice s sp k).1 =
    if (c.sliceFenced s k).standsReady sp then (c.sliceFenced s k).spareAttached sp (c.rd (F.CPH_SLICE_STATUS_pipeline s))
    else c.sliceFenced s k := by
  rw [← Chip.attachSpare_eq, Chip.fenceSlice, Chip.sliceFenced]

theorem Chip.spareAttached_shows (c : Chip) (sp : Nat) {k : Nat} (hk : k < 4) :
    (c.spareAttached sp k).rd (F.CPH_SLICE_STATUS_state sp) = 2 ∧ (c.spareAttached sp k).rd (F.CPH_SLICE_STATUS_pipeline sp) = k := by
  have hrec := sliceStatus_notMem_recWords sp
  constructor
  · rw [Chip.spareAttached, Chip.alert_rd _ _ _ _ _ _ hrec, Chip.rd_wr_clears _ _ _ _ rfl rfl, Chip.rd_wr_same _ _ _ rfl]
    rfl
  · rw [Chip.spareAttached, Chip.alert_rd _ _ _ _ _ _ hrec, Chip.rd_wr_same _ _ _ rfl]
    exact Nat.mod_eq_of_lt hk

theorem Chip.spareAttached_word (c : Chip) {sp j : Nat} (k : Nat) (h : j ≠ sp) :
    (c.spareAttached sp k).word (R.CPH_SLICE_STATUS j) = c.word (R.CPH_SLICE_STATUS j) := by
  rw [Chip.spareAttached, Chip.alert_word _ _ _ _ _ _ (sliceStatus_notMem_recWords j), Chip.word_wr_other _ _ _ _ (sliceStatus_ne h),
    Chip.word_wr_other _ _ _ _ (sliceStatus_ne h)]

theorem Chip.sliceFenced_keeps (c : Chip) (s : Nat) (k : SliceCheck) : (c.sliceFenced s k).power = c.power ∧ (c.sliceFenced s k).data = c.data := by
  simp [Chip.sliceFenced, Chip.markSlice_eq]

theorem Chip.spareAttached_keeps (c : Chip) (sp k : Nat) : (c.spareAttached sp k).power = c.power ∧ (c.spareAttached sp k).data = c.data := by
  simp [Chip.spareAttached]

/-- Beside the registers, the fence of a slice leaves main power and the datapath. -/
theorem Chip.fenceSlice_keeps (c : Chip) (s sp : Nat) (k : SliceCheck) :
    (c.fenceSlice s sp k).1.power = c.power ∧ (c.fenceSlice s sp k).1.data = c.data := by
  obtain ⟨hpower, hdata⟩ := c.sliceFenced_keeps s k
  obtain ⟨hpower', hdata'⟩ := (c.sliceFenced s k).spareAttached_keeps sp (c.rd (F.CPH_SLICE_STATUS_pipeline s))
  rw [Chip.fenceSlice_eq]
  split
  · exact ⟨hpower'.trans hpower, hdata'.trans hdata⟩
  · exact ⟨hpower, hdata⟩

/-- A slice and its spare, as the fence of the slice shows them. -/
def Chip.fenceShown (c d : Chip) (s sp : Nat) : Prop :=
  d.rd (F.CPH_SLICE_STATUS_state s) = 3 ∧
    (c.rd (F.CPH_SLICE_STATUS_state sp) = 1 → c.flag (F.CPH_SLICE_STATUS_spare_ready sp) = true →
      d.rd (F.CPH_SLICE_STATUS_state sp) = 2 ∧ d.rd (F.CPH_SLICE_STATUS_pipeline sp) = c.rd (F.CPH_SLICE_STATUS_pipeline s))

/-- A slice that carries traffic is fenced, and its spare attached if it stands by ready. -/
theorem Chip.fenceShown_fenceSlice (c : Chip) {s : Nat} (sp : Nat) (k : SliceCheck) (hcarries : c.rd (F.CPH_SLICE_STATUS_state s) ≠ 1) :
    c.fenceShown (c.fenceSlice s sp k).1 s sp := by
  have hfenced := c.sliceFenced_state s k
  rw [Chip.fenceSlice_eq]
  by_cases hsp : s = sp
  · subst hsp
    have hnot : (c.sliceFenced s k).standsReady s = false := by simp [Chip.standsReady, hfenced]
    rw [hnot, if_neg (by decide)]
    exact ⟨hfenced, fun hstandby => absurd hstandby hcarries⟩
  · have hword := c.sliceFenced_word k (Ne.symm hsp)
    have hready : (c.sliceFenced s k).standsReady sp = c.standsReady sp := by
      rw [Chip.standsReady, Chip.rd_of_word (f := F.CPH_SLICE_STATUS_state sp) hword,
        Chip.flag_of_word (f := F.CPH_SLICE_STATUS_spare_ready sp) hword, Chip.standsReady]
    rw [hready]
    refine ⟨?_, fun hstandby hflag => ?_⟩
    · split
      · exact (Chip.rd_of_word (f := F.CPH_SLICE_STATUS_state s) (Chip.spareAttached_word _ _ hsp)).trans hfenced
      · exact hfenced
    · rw [if_pos (by simp [Chip.standsReady, hstandby, hflag])]
      exact Chip.spareAttached_shows _ sp (Chip.rd_lt _ _)

/-- What follows the fence leaves the slices as the fence shows them. -/
theorem Chip.fenceShown_of_sliceView {c d e : Chip} {s sp : Nat} (h : c.fenceShown d s sp) (hview : e.sliceView = d.sliceView)
    (hk : d.portsKnown = true) (hs : s < 18) (hsp : sp < 18) : c.fenceShown e s sp := by
  rw [Chip.fenceShown, Chip.rd_of_sliceView hview hk rfl hs, Chip.rd_of_sliceView hview hk rfl hsp, Chip.rd_of_sliceView hview hk rfl hsp]
  exact h

/-! ## The commands -/

/-- What a check does to slice `slice`, when `after` follows the fence of one that carries traffic, whose pipeline it takes. -/
def Chip.sliceChecked (c : Chip) (slice sp : Nat) (k : SliceCheck) (after : Chip → Nat → Chip) : Chip :=
  let st := c.rd (F.CPH_SLICE_STATUS_state slice)
  if st = 3 then c
  else if st = 1 then c.spareFails slice
  else after (c.fenceSlice slice sp k).1 (c.fenceSlice slice sp k).2

/-- The frames and containers in release on a fenced egress slice are rewound. -/
def Chip.rewindSlice (slice : Nat) (c : Chip) (k : Nat) : Chip :=
  ((List.range 24).filter (fun j => (c.port (24 * k + j)).release.any (fun r => (r.lane.map (·.1)) == some slice))).foldl
    (fun c j => c.rewind (24 * k + j)) c

theorem Chip.rewindSlice_sliceView (c : Chip) (slice : Nat) {k : Nat} (hk : k < 4) : (c.rewindSlice slice k).sliceView = c.sliceView := by
  refine foldl_keeps_of_mem (fun d j hj => Chip.rewind_sliceView d ?_) c
  obtain ⟨hrange, -⟩ := List.mem_filter.mp hj
  have hport := List.mem_range.mp hrange
  omega

section
variable {s : State} {i : Instr} {slice sp : Nat} {k : SliceCheck} {after : Chip → Nat → Chip} (hp : s.chip.power = true)
  (hx : exec i s = s.actOn true fun c => c.sliceChecked slice sp k after)
include hp hx

theorem goes_sliceChecked {d : Chip} {P : Chip → Prop} (hd : s.chip.sliceChecked slice sp k after = d) (hpow : d.power = s.chip.power) (h : P d) :
    Goes i s P := goes_actOn_of_eq hx rfl hp hd hpow h

/-- A check on a fenced slice, on a spare that stands by, and on a slice that carries traffic. -/
theorem goes_sliceChecked_cases (hknown : s.chip.portsKnown = true) (hs : slice < 18) (hsp : sp < 18)
    (hafter : ∀ c k, k < 4 → (after c k).sliceView = c.sliceView) :
    (s.chip.rd (F.CPH_SLICE_STATUS_state slice) = 3 → Goes i s fun c => c = s.chip) ∧
    (s.chip.rd (F.CPH_SLICE_STATUS_state slice) = 1 → Goes i s fun c =>
      c.flag (F.CPH_SLICE_STATUS_spare_ready slice) = false ∧ c.flag (F.CPH_SLICE_STATUS_selftest_fail slice) = true ∧
        Chip.noted s.chip c [R.CPH_SLICE_STATUS slice]) ∧
    (s.chip.rd (F.CPH_SLICE_STATUS_state slice) ≠ 3 → s.chip.rd (F.CPH_SLICE_STATUS_state slice) ≠ 1 →
      Goes i s fun c => s.chip.fenceShown c slice sp) := by
  refine ⟨fun hfenced => ?_, fun hstandby => ?_, fun hnot hcarries => ?_⟩
  · exact goes_sliceChecked hp hx (if_pos hfenced) rfl rfl
  · have hfails : s.chip.sliceChecked slice sp k after = s.chip.spareFails slice :=
      (if_neg (by rw [hstandby]; decide)).trans (if_pos hstandby)
    obtain ⟨hready, hfail, hnoted⟩ := s.chip.spareFails_shows slice
    exact goes_sliceChecked hp hx hfails (congrArg Chip.power hnoted.1 :) ⟨hready, hfail, hnoted⟩
  · have hview := hafter (s.chip.fenceSlice slice sp k).1 _ (Chip.rd_lt s.chip (F.CPH_SLICE_STATUS_pipeline slice))
    obtain ⟨hpower, hdata⟩ := s.chip.fenceSlice_keeps slice sp k
    have hknown' : (s.chip.fenceSlice slice sp k).1.portsKnown = true := by rw [Chip.portsKnown, hdata]; exact hknown
    exact goes_sliceChecked hp hx ((if_neg hnot).trans (if_neg hcarries)) ((Chip.power_of_sliceView hview).trans hpower)
      (Chip.fenceShown_of_sliceView (s.chip.fenceShown_fenceSlice sp k hcarries) hview hknown' hs hsp)

end

theorem exec_egressSliceFault {slice : Nat} (k : SliceCheck) (s : State) (h : slice < 9) :
    exec (.egressSliceFault slice k) s = s.actOn true fun c => c.sliceChecked slice 8 k (Chip.rewindSlice slice) := by
  change s.actOn (slice < 9) _ = _
  rw [decide_eq_true h]
  rfl

theorem exec_ingressSliceFault {slice : Nat} (k : SliceCheck) (s : State) (hlow : 9 ≤ slice) (hhigh : slice < 18) :
    exec (.ingressSliceFault slice k) s = s.actOn true fun c => c.sliceChecked slice 17 k fun c p => c.resumeWork p slice := by
  change s.actOn (9 ≤ slice && slice < 18) _ = _
  rw [decide_eq_true hlow, decide_eq_true hhigh]
  rfl

/-- A self-test of a spare that stands by. -/
theorem goes_spareSelftest {s : State} {slice : Nat} (hp : s.chip.power = true) (hslice : slice = 8 ∨ slice = 17)
    (hstandby : s.chip.rd (F.CPH_SLICE_STATUS_state slice) = 1) :
    Goes (.spareSelftest slice true) s (fun c => c.flag (F.CPH_SLICE_STATUS_spare_ready slice) = true ∧
      c.flag (F.CPH_SLICE_STATUS_selftest_fail slice) = false ∧ Chip.onlyRegs s.chip c [R.CPH_SLICE_STATUS slice]) ∧
    Goes (.spareSelftest slice false) s (fun c => c.flag (F.CPH_SLICE_STATUS_spare_ready slice) = false ∧
      c.flag (F.CPH_SLICE_STATUS_selftest_fail slice) = true ∧ Chip.noted s.chip c [R.CPH_SLICE_STATUS slice]) := by
  have hunit : (slice == 8 || slice == 17) = true := by simpa using hslice
  have hnot : ¬(s.chip.rd (F.CPH_SLICE_STATUS_state slice) != 1) = true := by simp [hstandby]
  obtain ⟨hready, hfail, honly⟩ := s.chip.sparePasses_shows slice
  obtain ⟨hready', hfail', hnoted⟩ := s.chip.spareFails_shows slice
  constructor
  · exact goes_actOn_of_eq rfl hunit hp ((if_neg hnot).trans (if_pos rfl)) honly.power ⟨hready, hfail, honly⟩
  · exact goes_actOn_of_eq rfl hunit hp ((if_neg hnot).trans (if_neg (by decide))) (congrArg Chip.power hnoted.1 :) ⟨hready', hfail', hnoted⟩

/-- Settles O36 (R244, R245, R246): what follows the fence of a slice, rewind on egress and resumption on ingress, writes no status of a
slice. How far a rewind commits what it withdrew is the model's reading (log entry 35, DEDUCED). -/
theorem sliceFaults : Obligations.SliceFaults := by
  intro s k hp hknown
  refine ⟨fun slice hs => ?_, fun slice hlow hs => ?_, fun slice hslice hstandby => goes_spareSelftest hp hslice hstandby⟩
  · exact goes_sliceChecked_cases hp (exec_egressSliceFault k s hs) hknown (by omega) (by decide)
      fun c _ hpipe => Chip.rewindSlice_sliceView c slice hpipe
  · exact goes_sliceChecked_cases hp (exec_ingressSliceFault k s hlow hs) hknown hs (by decide)
      fun c p _ => Chip.resumeWork_sliceView c p slice

end Sys2Proof.Machine
end

section
/-! PROOFS of the family of secure channels, what O40, O41 and O54 rest on: the part of the state that associations, channels and links
make up, and what firmware's frames, the wheel and the vault's records leave of it alone (R123, R262, R384). -/

namespace Sys2Proof.Machine

/-! ## The state of associations -/

/-- What is watched of a register: the whole of those below the mailbox window and of the counters in the upper half of a bank of the block
SAS, the fields of SAS_LINK_STATUS above `secret`, and nothing of others. -/
def watchedWord (a : Nat) (w : W32) : W32 :=
  if a < 0x204 ∨ (0xE000 ≤ a ∧ a < 0x10000 ∧ 16 ≤ a % 32) then w
  else if 0xF000 ≤ a ∧ a < 0x10000 ∧ a % 32 = 0 then w >>> 2
  else 0

/-- An address of which nothing is watched. -/
def unwatched (a : Nat) : Prop := 0x204 ≤ a ∧ (a < 0xE000 ∨ 0x10000 ≤ a ∨ (a % 32 < 16 ∧ (a < 0xF000 ∨ a % 32 ≠ 0)))

theorem watchedWord_of_unwatched {a : Nat} (h : unwatched a) (w : W32) : watchedWord a w = 0 := by
  obtain ⟨hlow, hsas⟩ := h
  rw [watchedWord, if_neg (by omega), if_neg (by omega)]

/-- The state of associations: main power, free values, keys, the channel list, the SAs, the runs of channels, the links of ports, and the
watched registers. -/
structure Assoc where
  power : Bool
  free : Nat
  keys : Keys
  chans : List Chan
  sas : Sparse Sa
  scs : Sparse ScRun
  links : Nat → Link
  words : Nat → W32

def Chip.assoc (c : Chip) : Assoc :=
  { power := c.power, free := c.free, keys := c.keys, chans := c.data.chans, sas := c.data.sas, scs := c.data.scs,
    links := fun p => (c.port p).link, words := fun a => watchedWord a (c.word a) }

section
variable {c d : Chip} {a : Nat}

/-- A register that is watched as a whole reads what the state of associations shows. -/
theorem Chip.word_of_words (h : d.assoc.words = c.assoc.words) (ha : a < 0x204 ∨ (0xE000 ≤ a ∧ a < 0x10000 ∧ 16 ≤ a % 32)) :
    d.word a = c.word a := by
  have hword : watchedWord a (d.word a) = watchedWord a (c.word a) := congrFun h a
  rwa [watchedWord, watchedWord, if_pos ha, if_pos ha] at hword

/-- A change of registers alone, of which nothing is watched. -/
theorem Chip.assoc_of_regs (h : { c with regs := d.regs } = d) (hw : ∀ a, watchedWord a (d.word a) = watchedWord a (c.word a)) :
    d.assoc = c.assoc := by
  have hwords : d.assoc.words = c.assoc.words := funext hw
  have hrest : { d.assoc with words := c.assoc.words } = c.assoc := by
    rw [← h]
    rfl
  rw [← hrest, ← hwords]

theorem Chip.setWord_assoc (c : Chip) {w : W32} (h : watchedWord a w = watchedWord a (c.word a)) : (c.setWord a w).assoc = c.assoc := by
  refine Chip.assoc_of_regs rfl fun b => ?_
  rw [Chip.word_setWord]
  split
  · next hb => rw [hb, h]
  · rfl

theorem Chip.setWord_unwatched_assoc (c : Chip) (h : unwatched a) (w : W32) : (c.setWord a w).assoc = c.assoc :=
  c.setWord_assoc (by rw [watchedWord_of_unwatched h, watchedWord_of_unwatched h])

theorem Chip.wr_assoc (c : Chip) {f : Fld} (h : unwatched f.reg) (v : Nat) : (c.wr f v).assoc = c.assoc := c.setWord_unwatched_assoc h _

theorem Chip.add_assoc (c : Chip) (h : unwatched a) (n : Nat) : (c.add a n).assoc = c.assoc := c.setWord_unwatched_assoc h _

theorem Chip.bump_assoc (c : Chip) (h : unwatched a) : (c.bump a).assoc = c.assoc := c.setWord_unwatched_assoc h _

theorem Chip.setNum_assoc {k : Nat} (c : Chip) (h : ∀ j < k, unwatched (a + 4 * j)) (v : Nat) : (c.setNum a k v).assoc = c.assoc := by
  induction k generalizing c a v with
  | zero => rfl
  | succ k ih =>
    have hnext (j : Nat) (hj : j < k) : unwatched (a + 4 + 4 * j) := by
      have := h (j + 1) (by omega)
      rwa [Nat.mul_add, Nat.add_comm (4 * j), ← Nat.add_assoc] at this
    exact (ih _ hnext _).trans (Chip.setWord_unwatched_assoc c (h 0 (by omega)) _)

end

/-- A register of a bank above the block SAS. -/
theorem unwatched_above {b n : Nat} (h : 0x10000 ≤ b) : unwatched (b + n) := ⟨by omega, by omega⟩

section
variable (c : Chip)

/-! ## Frames of firmware (R123, R180, R184) -/

@[simp] theorem Chip.emit_assoc (o : Out) : (c.emit o).assoc = c.assoc := rfl

@[simp] theorem Chip.setFrame_assoc (i : Nat) (f : Option Frame) : (c.setFrame i f).assoc = c.assoc := rfl

@[simp] theorem Chip.link_assoc (p cls i port : Nat) : (c.link p cls i port).assoc = c.assoc := rfl

theorem Chip.nextId_assoc (i : Nat) : ({ c with data := { c.data with nextId := i } } : Chip).assoc = c.assoc := rfl

@[simp] theorem Chip.settlePool_assoc : c.settlePool.assoc = c.assoc := Chip.wr_assoc c (unwatched_above (n := 0) (by decide)) _

@[simp] theorem Chip.giveHeadroom_assoc (n : Nat) : (c.giveHeadroom n).assoc = c.assoc :=
  Chip.wr_assoc c (unwatched_above (n := 0) (by decide)) _

@[simp] theorem Chip.takeHeadroom_assoc (n : Nat) : (c.takeHeadroom n).assoc = c.assoc :=
  (Chip.wr_assoc _ (unwatched_above (n := 0) (by decide)) _).trans (Chip.wr_assoc _ (unwatched_above (n := 0) (by decide)) _)

@[simp] theorem Chip.chargeQ_assoc (q n : Nat) : (c.chargeQ q n).assoc = c.assoc :=
  (Chip.wr_assoc _ (unwatched_above (by decide)) _).trans (Chip.wr_assoc _ (unwatched_above (by decide)) _)

@[simp] theorem Chip.admitTest_assoc (p q n bytes free : Nat) : (c.admitTest p q n bytes free).1.assoc = c.assoc := by
  have hrefused : ((c.bump (R.SWC_Q_DROP q)).addWide (R.SWC_Q_DROP_B q) 2 64 bytes).assoc = c.assoc :=
    (Chip.setNum_assoc _ (fun j _ => by rw [R.SWC_Q_DROP_B, Nat.add_assoc]; exact unwatched_above (by decide)) _).trans
      (Chip.bump_assoc c (unwatched_above (by decide)))
  have hstall : (c.bump (R.SWC_STALL_DISC (pipeOf p))).assoc = c.assoc := Chip.bump_assoc c (unwatched_above (by decide))
  unfold Chip.admitTest
  dsimp only
  split_ifs <;> simp [hrefused, hstall]

/-- The tests of a frame's queues, one after another. -/
theorem Chip.admitTests_assoc (f : Frame) (dests : List Nat) (n known free : Nat) :
    (dests.foldl (fun (y : Chip × List Nat) p =>
      ((y.1.admitTest p (qOf p f.cls) n known free).1, if (y.1.admitTest p (qOf p f.cls) n known free).2 then y.2 ++ [p] else y.2)) (c, [])).1.assoc =
      c.assoc :=
  foldl_keeps (view := fun y : Chip × List Nat => y.1.assoc) (fun _ _ => Chip.admitTest_assoc _ _ _ _ _ _) dests (c, [])

@[simp] theorem Chip.admitQueues_assoc (i : Nat) (f : Frame) (dests : List Nat) (n known : Nat) :
    (c.admitQueues i f dests n known).1.assoc = c.assoc := by
  have hcharge (d : Chip) (qs : List Nat) (n : Nat) : (qs.foldl (fun c p => c.chargeQ (qOf p f.cls) n) d).assoc = d.assoc :=
    foldl_keeps (fun _ _ => Chip.chargeQ_assoc _ _ _) qs d
  unfold Chip.admitQueues
  dsimp only
  split_ifs <;> simp [Chip.admitTests_assoc, hcharge]

@[simp] theorem Chip.mgmtSend_assoc (p cls : Nat) (prot : Protection) (f : Bytes) : (c.mgmtSend p cls prot f).assoc = c.assoc := by
  unfold Chip.mgmtSend
  dsimp only
  split
  · rfl
  · split <;> next hadmit =>
      have hview := Chip.admitQueues_assoc { c with data := { c.data with nextId := c.data.nextId + 1 } } c.data.nextId
      exact (congrArg (·.1.assoc) hadmit).symm.trans ((hview _ _ _ _).trans (Chip.nextId_assoc _ _))

@[simp] theorem Chip.sendOwn_assoc (p : Nat) (f : Bytes) : (c.sendOwn p f).assoc = c.assoc := by
  unfold Chip.sendOwn
  split <;> simp

@[simp] theorem Chip.sendLink_assoc (p : Nat) (m : Bytes) : (c.sendLink p m).assoc = c.assoc := by
  unfold Chip.sendLink Chip.sendControl Chip.sendContainer
  split_ifs <;> simp

@[simp] theorem Chip.sendCtl_assoc (h : Chan) (type value : Nat) (secret : Bytes) : (c.sendCtl h type value secret).assoc = c.assoc :=
  Chip.sendLink_assoc _ _ _

/-! ## The wheel (R384) -/

@[simp] theorem Chip.wheelPut_assoc (n : Nat) (w : Option WheelEntry) : (c.wheelPut n w).assoc = c.assoc :=
  (Chip.wr_assoc _ ⟨by decide, by decide⟩ _).trans rfl

@[simp] theorem Chip.wheelFired_assoc (n : Nat) (w : WheelEntry) : (c.wheelFired n w).assoc = c.assoc := by
  have hlate (v : Nat) : (c.mark F.TIM_WHEEL_late_max_us v).assoc = c.assoc := Chip.wr_assoc c ⟨by decide, by decide⟩ _
  unfold Chip.wheelFired
  dsimp only
  split <;> rw [Chip.wheelPut_assoc, hlate]

@[simp] theorem Chip.scheduleAfter_assoc (h : Chan) (at_ : Nat × Nat × Nat) : (c.scheduleAfter h at_).assoc = c.assoc := by
  unfold Chip.scheduleAfter
  split <;> simp

@[simp] theorem Chip.scheduleChan_assoc (h : Chan) : (c.scheduleChan h).assoc = c.assoc := by
  unfold Chip.scheduleChan
  dsimp only
  rw [Chip.scheduleAfter_assoc]
  exact foldl_keeps (fun c _ => Chip.wheelPut_assoc c _ _) _ c

/-! ## Epoch keys in the vault (R262, R353) -/

@[simp] theorem Chip.tagNode_assoc (level i : Nat) : (c.tagNode level i).assoc = c.assoc := rfl

@[simp] theorem Chip.retagChildren_assoc (level i : Nat) : (c.retagChildren level i).assoc = c.assoc :=
  foldl_keeps (view := Chip.assoc) (fun c _ => Chip.tagNode_assoc c _ _) _ c

@[simp] theorem Chip.bumpChild_assoc (level i k : Nat) : (c.bumpChild level i k).assoc = c.assoc := by
  have hcount (d : Chip) : (d.bump R.VLT_OVERFLOW).assoc = d.assoc := Chip.bump_assoc d ⟨by decide, by decide⟩
  unfold Chip.bumpChild
  dsimp only
  split_ifs
  · exact hcount _
  · rw [hcount, Chip.retagChildren_assoc]
    rfl
  · rfl

@[simp] theorem Chip.markDirty_assoc (level i : Nat) : (c.markDirty level i).assoc = c.assoc := by
  unfold Chip.markDirty
  dsimp only
  split <;> rfl

@[simp] theorem Chip.areaWrote_assoc (line : Nat) : (c.areaWrote line).assoc = c.assoc := by
  unfold Chip.areaWrote
  split
  · rfl
  · rw [Chip.markDirty_assoc, Chip.bumpChild_assoc]
    rfl

@[simp] theorem Chip.epochWrote_assoc (sc e : Nat) : (c.epochWrote sc e).assoc = c.assoc := by
  unfold Chip.epochWrote
  split
  · rfl
  · exact Chip.areaWrote_assoc _ _

@[simp] theorem Chip.keepEpochs_assoc (keep : Nat → Bool) : (c.keepEpochs keep).assoc = c.assoc :=
  foldl_keeps (view := Chip.assoc) (fun _ _ => Chip.epochWrote_assoc _ _ _) _ _

@[simp] theorem Chip.dropEpochKey_assoc (sc e : Nat) : (c.dropEpochKey sc e).assoc = c.assoc := by
  unfold Chip.dropEpochKey
  split <;> simp

@[simp] theorem Chip.fillEpochs_assoc (h : Chan) (e : Nat) : (c.fillEpochs h e).assoc = c.assoc := by
  unfold Chip.fillEpochs
  dsimp only
  split
  · exact Chip.keepEpochs_assoc _ _
  · refine Eq.trans (foldl_keeps (view := Chip.assoc) (fun c j => ?_) _ _) (Chip.keepEpochs_assoc _ _)
    split
    · rfl
    · exact Chip.epochWrote_assoc _ _ _

end

end Sys2Proof.Machine
end

section
/-! PROOFS of the family of secure channels, O40, O41 and O54: what the operations on SAs, on the runs of channels and on links make of the
state of associations (R249, R251, R252, R258, R259, R267). -/

namespace Sys2Proof.Machine

section
variable {c d : Chip} (h : d.assoc = c.assoc)
include h

theorem Chip.power_of_assoc : d.power = c.power := congrArg Assoc.power h

theorem Chip.sas_of_assoc : d.data.sas = c.data.sas := congrArg Assoc.sas h

theorem Chip.scs_of_assoc : d.data.scs = c.data.scs := congrArg Assoc.scs h

theorem Chip.chans_of_assoc : d.data.chans = c.data.chans := congrArg Assoc.chans h

theorem Chip.link_of_assoc (p : Nat) : (d.port p).link = (c.port p).link := congrFun (congrArg Assoc.links h) p

theorem Chip.words_of_assoc : d.assoc.words = c.assoc.words := congrArg Assoc.words h

end

theorem Chip.sa_of_sas {c d : Chip} (h : d.data.sas = c.data.sas) (i : Nat) : d.sa i = c.sa i := by rw [Chip.sa, h, Chip.sa]

theorem Chip.scRun_of_scs {c d : Chip} (h : d.data.scs = c.data.scs) (sc : Nat) : d.scRun sc = c.scRun sc := by rw [Chip.scRun, h, Chip.scRun]

theorem Chip.epochChans_of_chans {c d : Chip} (h : d.data.chans = c.data.chans) (p : Nat) : d.epochChans p = c.epochChans p := by
  rw [Chip.epochChans, h, Chip.epochChans]

@[simp] theorem Chip.scRun_setSc_same (c : Chip) (sc : Nat) (x : ScRun) : (c.setSc sc x).scRun sc = x := Sparse.get_set_same _ _ _ _

theorem Chip.scRun_setSc (c : Chip) (sc q : Nat) (x : ScRun) : (c.setSc sc x).scRun q = if q = sc then x else c.scRun q := Sparse.get_set _ _ _ _ _

/-! ## One component at a time -/

section
variable (c : Chip)

theorem Chip.setPort_assoc (p : Nat) (x : Port) : (c.setPort p x).assoc = { c.assoc with links := Function.update c.assoc.links p x.link } := by
  have hlinks : (c.setPort p x).assoc.links = Function.update c.assoc.links p x.link := by
    funext q
    by_cases hq : q = p
    · subst hq
      rw [Function.update_self]
      exact congrArg Port.link (Chip.port_setPort_same c q x)
    · rw [Function.update_of_ne hq]
      exact congrArg Port.link (Chip.port_setPort_other c x hq)
  rw [← hlinks]
  rfl

/-- A port may change in everything but its link. -/
theorem Chip.setPort_assoc_of_link (p : Nat) {x : Port} (h : x.link = (c.port p).link) : (c.setPort p x).assoc = c.assoc := by
  rw [Chip.setPort_assoc, h, show (c.port p).link = c.assoc.links p from rfl, Function.update_eq_self]

@[simp] theorem Chip.setMka_assoc (p : Nat) (f : Mka → Mka) : (c.setMka p f).assoc = c.assoc := Chip.setPort_assoc_of_link c p rfl

/-! ## Retiring (R251, R252) -/

@[simp] theorem Chip.noteNosa_assoc (p : Nat) : (c.noteNosa p).assoc = c.assoc := by
  obtain ⟨m, hm⟩ := Chip.noteNosa_eq c p
  rw [hm]
  rfl

@[simp] theorem Chip.dropOpen_assoc (sc : Nat) : (c.dropOpen sc).assoc = c.assoc := by
  unfold Chip.dropOpen
  split
  · rfl
  · next h _ =>
    dsimp only
    split
    · rfl
    · next hdrop =>
      have hport : h.port < 144 := by
        simp only [Chip.isDenast, Bool.or_eq_true, Bool.not_eq_true', Bool.and_eq_false_iff, decide_eq_false_iff_not, not_or,
          Bool.not_eq_false, not_not] at hdrop
        omega
      have hpipe := pipeOf_lt hport
      refine (Chip.add_assoc _ ?_ _).trans (Chip.setPort_assoc_of_link c _ rfl)
      simp only [unwatched, R.SAS_TX_NOSA]
      omega

/-- Retiring an SA changes nothing else. -/
theorem Chip.retireSa_assoc (i : Nat) : (c.retireSa i).assoc = (c.setSa i (c.sa i).retired).assoc := by
  unfold Chip.retireSa
  dsimp only
  split
  · simp
  · split <;> simp

/-! ## The secrets of a link (R267) -/

/-- The link of a port once secrets that nothing needs are gone. -/
def Chip.settledLink (p : Nat) : Link :=
  let l := (c.port p).link
  let chans := c.epochChans p
  let used := chans.any (fun h => h.sas.any (fun i => (c.sa i).installed && (c.sa i).secret == l.current))
  let due := l.pending != [] && chans.all (fun h => l.adoptAt ≤ c.grid h.profile)
  if due && !used then { l with current := l.pending, pending := [], adoptAt := 0 }
  else if used || chans.any (fun h => (c.scRun h.sc).on) then l
  else if chans = [] then { l with current := [], pending := [], adoptAt := 0 }
  else { l with current := [] }

/-- A channel that has started its epochs keeps the current secret, when none is pending. -/
theorem Chip.settledLink_of_on {p : Nat} (hpend : (c.port p).link.pending = []) {h : Chan} (hmem : h ∈ c.epochChans p)
    (hon : (c.scRun h.sc).on = true) : c.settledLink p = (c.port p).link := by
  have hany : (c.epochChans p).any (fun h => (c.scRun h.sc).on) = true := List.any_eq_true.mpr ⟨h, hmem, hon⟩
  simp [Chip.settledLink, hpend, hany]

/-- A link without secrets gets none. -/
theorem Chip.settledLink_of_none {p : Nat} (hcur : (c.port p).link.current = []) (hpend : (c.port p).link.pending = []) :
    (c.settledLink p).current = [] ∧ (c.settledLink p).pending = [] := by
  unfold Chip.settledLink
  simp only [hpend, bne_self_eq_false, Bool.false_and, Bool.false_eq_true, if_false]
  split_ifs <;> simp [hcur, hpend]

/-- The secret field of SAS_LINK_STATUS is not watched. -/
theorem Chip.wr_secret_assoc (p v : Nat) : (c.wr (F.SAS_LINK_STATUS_secret p) v).assoc = c.assoc := by
  have hput (w : W32) : (F.SAS_LINK_STATUS_secret p).put w v >>> 2 = w >>> 2 := by
    refine BitVec.eq_of_toNat_eq (Nat.eq_of_testBit_eq fun i => ?_)
    rw [BitVec.toNat_ushiftRight, BitVec.toNat_ushiftRight, Nat.testBit_shiftRight, Nat.testBit_shiftRight,
      Fld.testBit_put _ rfl, if_neg (by simp only [F.SAS_LINK_STATUS_secret]; omega)]
  refine Chip.setWord_assoc c ?_
  have hlow : ¬ ((F.SAS_LINK_STATUS_secret p).reg < 0x204 ∨ (0xE000 ≤ (F.SAS_LINK_STATUS_secret p).reg ∧
      (F.SAS_LINK_STATUS_secret p).reg < 0x10000 ∧ 16 ≤ (F.SAS_LINK_STATUS_secret p).reg % 32)) := by
    simp only [F.SAS_LINK_STATUS_secret, R.SAS_LINK_STATUS]
    omega
  rw [watchedWord, if_neg hlow, hput, watchedWord, if_neg hlow]

theorem Chip.setNum_adopt_assoc (p v : Nat) : (c.setNum (R.SAS_LINK_ADOPT p) 2 v).assoc = c.assoc :=
  Chip.setNum_assoc c (fun j hj => by simp only [unwatched, R.SAS_LINK_ADOPT]; omega) v

/-- Settling a link changes that link alone. -/
theorem Chip.settleLink_assoc (p : Nat) :
    (c.settleLink p).assoc = { c.assoc with links := Function.update c.assoc.links p (c.settledLink p) } := by
  unfold Chip.settleLink
  dsimp only
  rw [Chip.setNum_adopt_assoc, Chip.wr_secret_assoc]
  change (if c.settledLink p = (c.port p).link then c else c.setPort p { c.port p with link := c.settledLink p }).assoc = _
  split
  · next hkept =>
    rw [hkept, show (c.port p).link = c.assoc.links p from rfl, Function.update_eq_self]
  · exact Chip.setPort_assoc c p _

theorem Chip.settleLink_sas (p : Nat) : (c.settleLink p).data.sas = c.data.sas := congrArg Assoc.sas (c.settleLink_assoc p)

theorem Chip.settleLink_scs (p : Nat) : (c.settleLink p).data.scs = c.data.scs := congrArg Assoc.scs (c.settleLink_assoc p)

theorem Chip.settleLink_link (p : Nat) : ((c.settleLink p).port p).link = c.settledLink p :=
  (congrFun (congrArg Assoc.links (c.settleLink_assoc p)) p).trans (Function.update_self ..)

/-- With its link as it was, a port is settled. -/
theorem Chip.settleLink_assoc_of_link {p : Nat} (h : c.settledLink p = (c.port p).link) : (c.settleLink p).assoc = c.assoc := by
  rw [Chip.settleLink_assoc, h, show (c.port p).link = c.assoc.links p from rfl, Function.update_eq_self]

/-! ## Retiring when done (R251, R252) -/

/-- Frames or containers still use an SA. -/
def Chip.saUsed (p i : Nat) : Bool := if (c.sa i).tx then c.inRelease p i else c.inCheck i

/-- What retiring an SA does: nothing when it is not installed; its flags go while it is used; else it goes, and its link is settled. -/
theorem Chip.retireWhenDone_cases (p i : Nat) :
    ((c.sa i).installed = false ∧ c.retireWhenDone p i = c) ∨
    ((c.sa i).installed = true ∧ c.saUsed p i = true ∧
      (c.retireWhenDone p i).assoc = (c.setSa i { c.sa i with current := false, accepting := false, retireDue := true }).assoc) ∨
    ((c.sa i).installed = true ∧ c.saUsed p i = false ∧
      ∃ d : Chip, d.assoc = (c.setSa i (c.sa i).retired).assoc ∧ c.retireWhenDone p i = d.settleLink p) := by
  unfold Chip.retireWhenDone
  dsimp only
  by_cases hinst : (c.sa i).installed = true
  · rw [if_neg (by simp [hinst])]
    refine .inr ?_
    by_cases hused : c.saUsed p i = true
    · exact .inl ⟨hinst, hused, by rw [if_pos (by exact hused), Chip.dropOpen_assoc]⟩
    · exact .inr ⟨hinst, Bool.eq_false_iff.mpr hused, (c.retireSa i).dropEpochKey (c.sa i).sc (c.sa i).epoch,
        by rw [Chip.dropEpochKey_assoc, Chip.retireSa_assoc], if_neg (by exact hused)⟩
  · have hout := Bool.eq_false_iff.mpr hinst
    exact .inl ⟨hout, if_pos (by simp [hout])⟩

/-- The SAs once one of them is to retire. -/
theorem Chip.sa_retireWhenDone (p i j : Nat) :
    (c.retireWhenDone p i).sa j = if j = i ∧ (c.sa i).installed = true
      then (if c.saUsed p i then { c.sa i with current := false, accepting := false, retireDue := true } else (c.sa i).retired)
      else c.sa j := by
  obtain ⟨hinst, heq⟩ | ⟨hinst, hused, heq⟩ | ⟨hinst, hused, d, hd, heq⟩ := c.retireWhenDone_cases p i
  · rw [heq, hinst]
    simp
  · rw [Chip.sa_of_sas (Chip.sas_of_assoc heq), Chip.sa_setSa, hinst, hused]
    simp
  · rw [heq, Chip.sa_of_sas (Chip.settleLink_sas d p), Chip.sa_of_sas (Chip.sas_of_assoc hd), Chip.sa_setSa, hinst, hused]
    simp

/-- Main power, free values, keys, channels, their runs and the watched registers. -/
def Assoc.still (a : Assoc) : Bool × Nat × Keys × List Chan × Sparse ScRun × (Nat → W32) :=
  (a.power, a.free, a.keys, a.chans, a.scs, a.words)

/-- Retiring an SA changes only SAs and links. -/
theorem Chip.retireWhenDone_still (p i : Nat) : (c.retireWhenDone p i).assoc.still = c.assoc.still := by
  obtain ⟨-, heq⟩ | ⟨-, -, heq⟩ | ⟨-, -, d, hd, heq⟩ := c.retireWhenDone_cases p i
  · rw [heq]
  · rw [heq]
    rfl
  · rw [heq, Chip.settleLink_assoc, hd]
    rfl

end

end Sys2Proof.Machine
end

section
/-! PROOFS of the family of secure channels, O40, O41 and O54: loading the SA of an epoch, making an SA current, and the end of an epoch
(R251, R258, R259, R262, R264). -/

namespace Sys2Proof.Machine

section
variable (c : Chip) (h : Chan)

/-! ## Loading an epoch (R258, R259) -/

/-- Main power, channels, their runs and the links. -/
def Assoc.lasting (a : Assoc) : Bool × List Chan × Sparse ScRun × (Nat → Link) := (a.power, a.chans, a.scs, a.links)

@[simp] theorem Chip.attn_lasting (cls : Nat) : (c.attn cls).assoc.lasting = c.assoc.lasting := by
  simp only [Assoc.lasting, Chip.assoc, Chip.port, Chip.attn_power, Chip.attn_data]

@[simp] theorem Chip.bump_lasting (a : Nat) : (c.bump a).assoc.lasting = c.assoc.lasting := rfl

@[simp] theorem Chip.setSa_lasting (i : Nat) (x : Sa) : (c.setSa i x).assoc.lasting = c.assoc.lasting := rfl

/-- An SA of another epoch in the slot makes way for a new one; at the receive side that is counted and shown. -/
def Chip.slotFreed (e : Nat) : Chip :=
  let i := h.sa (e % 4)
  if !(c.sa i).installed then c
  else (if h.tx || (c.sa i).epoch == e then c else (c.bump (R.SAS_RETIRE_FORCED (pipeOf h.port))).attn 8).retireSa i

theorem Chip.slotFreed_lasting (e : Nat) : (c.slotFreed h e).assoc.lasting = c.assoc.lasting := by
  unfold Chip.slotFreed
  dsimp only
  split
  · rfl
  · rw [Chip.retireSa_assoc, Chip.setSa_lasting]
    split
    · rfl
    · rw [Chip.attn_lasting, Chip.bump_lasting]

theorem Chip.sa_slotFreed {e j : Nat} (hj : j ≠ h.sa (e % 4)) : (c.slotFreed h e).sa j = c.sa j := by
  unfold Chip.slotFreed
  dsimp only
  split
  · rfl
  · rw [Chip.sa_of_sas (Chip.sas_of_assoc (Chip.retireSa_assoc _ _)), Chip.sa_setSa, if_neg hj]
    split
    · rfl
    · exact Chip.sa_of_sas (congrArg Data.sas (Chip.attn_data _ _)) j

/-- An SA installed for an epoch. -/
theorem Chip.installSa_fresh {an e : Nat} {kv salt : Bytes} {x : Sa} (hepoch : x.epoch = e) (hcur : x.current = false)
    (hacc : x.accepting = false) : ∃ y : Sa, c.installSa h an kv salt x = c.setSa (h.sa an) y ∧
      y.installed = true ∧ y.epoch = e ∧ y.current = false ∧ y.accepting = false := ⟨_, rfl, rfl, hepoch, hcur, hacc⟩

/-- An epoch that is loaded already is not loaded again; else its SA is fresh, neither current nor accepting, and the others stay. -/
theorem Chip.loadEpoch_cases (e g : Nat) :
    (c.epochLoaded h e g = true ∧ c.loadEpoch h e g = c) ∨
    (c.epochLoaded h e g = false ∧ ∃ x : Sa, c.loadEpoch h e g = (c.slotFreed h e).setSa (h.sa (e % 4)) x ∧
      x.installed = true ∧ x.epoch = e ∧ x.current = false ∧ x.accepting = false) := by
  unfold Chip.loadEpoch
  dsimp only
  split
  · next hloaded => exact .inl ⟨hloaded, rfl⟩
  · next hnot =>
    exact .inr ⟨Bool.eq_false_iff.mpr hnot, Chip.installSa_fresh (c.slotFreed h e) h rfl rfl rfl⟩

/-- The SA of an epoch that is loaded lies in its slot. -/
theorem Chip.loadEpoch_slot (e g : Nat) :
    ((c.loadEpoch h e g).sa (h.sa (e % 4))).installed = true ∧ ((c.loadEpoch h e g).sa (h.sa (e % 4))).epoch = e := by
  obtain ⟨hloaded, heq⟩ | ⟨-, x, heq, hinst, hepoch, -, -⟩ := c.loadEpoch_cases h e g
  · rw [heq]
    simp only [Chip.epochLoaded, Bool.and_eq_true, beq_iff_eq] at hloaded
    obtain ⟨⟨⟨hinst, hepoch⟩, -⟩, -⟩ := hloaded
    exact ⟨hinst, hepoch⟩
  · rw [heq, Chip.sa_setSa_same]
    exact ⟨hinst, hepoch⟩

theorem Chip.loadEpoch_lasting (e g : Nat) : (c.loadEpoch h e g).assoc.lasting = c.assoc.lasting := by
  obtain ⟨-, heq⟩ | ⟨-, x, heq, -⟩ := c.loadEpoch_cases h e g
  · rw [heq]
  · rw [heq]
    exact Chip.slotFreed_lasting c h e

theorem Chip.setSa_word (i : Nat) (x : Sa) (a : Nat) : (c.setSa i x).word a = c.word a := rfl

/-- The counter of agreements is not one of forced retirements, nor HST_ATTN. -/
theorem Chip.loadEpoch_kaOk (e g p : Nat) (hp : p < 96) : (c.loadEpoch h e g).word (R.SAS_KA_OK p) = c.word (R.SAS_KA_OK p) := by
  have hcounted : R.SAS_KA_OK p < 0x204 ∨ (0xE000 ≤ R.SAS_KA_OK p ∧ R.SAS_KA_OK p < 0x10000 ∧ 16 ≤ R.SAS_KA_OK p % 32) := by
    simp only [R.SAS_KA_OK]
    omega
  have hforced : R.SAS_KA_OK p ≠ R.SAS_RETIRE_FORCED (pipeOf h.port) := by
    simp only [R.SAS_KA_OK, R.SAS_RETIRE_FORCED]
    omega
  have hattn : R.SAS_KA_OK p ≠ R.HST_ATTN := by
    simp only [R.SAS_KA_OK, R.HST_ATTN]
    omega
  have hfreed : (c.slotFreed h e).word (R.SAS_KA_OK p) = c.word (R.SAS_KA_OK p) := by
    unfold Chip.slotFreed
    dsimp only
    split
    · rfl
    · rw [Chip.word_of_words (Chip.words_of_assoc (Chip.retireSa_assoc _ _)) hcounted, Chip.setSa_word]
      split
      · rfl
      · rw [Chip.attn_word _ _ _ hattn, Chip.word_bump_other _ _ _ hforced]
  obtain ⟨-, heq⟩ | ⟨-, x, heq, -⟩ := c.loadEpoch_cases h e g
  · rw [heq]
  · rw [heq, Chip.setSa_word, hfreed]

/-! ## The current SA (R251) -/

/-- Besides SAs and links, an SA made current changes only what is shown of its channel. -/
theorem Chip.makeCurrent_still (i : Nat) : (c.makeCurrent h i).assoc.still =
    (c.setSc h.sc { c.scRun h.sc with blocked := false, late := false }).assoc.still := by
  unfold Chip.makeCurrent
  dsimp only
  split
  · rfl
  · rw [Chip.retireWhenDone_still]
    rfl

theorem Chip.sa_makeCurrent_same (i : Nat) : (c.makeCurrent h i).sa i = { c.sa i with current := true } := by
  unfold Chip.makeCurrent
  dsimp only
  split
  · exact Chip.sa_setSa_same _ _ _
  · next j hold =>
    have hne : i ≠ j := by
      have := (Option.filter_eq_some_iff.mp hold).2
      simpa using Ne.symm (by simpa using this)
    rw [Chip.sa_retireWhenDone, if_neg fun hij => hne hij.1]
    exact Chip.sa_setSa_same _ _ _

/-- The SA that was current is so no more. -/
theorem Chip.makeCurrent_old {i j : Nat} (hcur : c.currentSa h = some j) (hne : j ≠ i) : ((c.makeCurrent h i).sa j).current = false := by
  have hinst : (c.sa j).installed = true := by
    have := List.find?_some hcur
    simp only [Bool.and_eq_true] at this
    exact this.1
  have hold : (c.currentSa h).filter (· != i) = some j := by simp [hcur, hne]
  have hkept : ((c.setSa i { c.sa i with current := true }).setSc h.sc
      { (c.setSa i { c.sa i with current := true }).scRun h.sc with blocked := false, late := false }).sa j = c.sa j :=
    (Chip.sa_setSa c i j _).trans (if_neg hne)
  unfold Chip.makeCurrent
  dsimp only
  rw [hold]
  dsimp only
  rw [Chip.sa_retireWhenDone, hkept, if_pos ⟨rfl, hinst⟩]
  split <;> rfl

/-! ## The end of a receive epoch (R259, R262) -/

/-- The old epoch is over when its successor is proved and its overlap has passed; till then nothing happens. -/
theorem Chip.settleRetire_cases :
    (((c.scRun h.sc).retire = none ∨ (c.scRun h.sc).proof = false ∨ c.us < (c.scRun h.sc).retireAt) ∧ c.settleRetire h = c) ∨
    ((c.scRun h.sc).retire.isSome = true ∧
      (c.settleRetire h).assoc.still = (c.setSc h.sc { c.scRun h.sc with retire := none, proof := false }).assoc.still) := by
  unfold Chip.settleRetire
  dsimp only
  split
  · next hnone => exact .inl ⟨.inl hnone, rfl⟩
  · next old hold =>
    split
    · next hwait =>
      refine .inl ⟨.inr ?_, rfl⟩
      simpa using hwait
    · refine .inr ⟨by rw [hold]; rfl, ?_⟩
      rw [Chip.fillEpochs_assoc, Chip.keepEpochs_assoc]
      refine foldl_keeps (view := fun d : Chip => d.assoc.still) (fun d i => ?_) _ _
      split
      · exact Chip.retireWhenDone_still _ _ _
      · rfl

@[simp] theorem Chip.setSc_power (sc : Nat) (x : ScRun) : (c.setSc sc x).power = c.power := rfl

@[simp] theorem Chip.setSc_words (sc : Nat) (x : ScRun) : (c.setSc sc x).assoc.words = c.assoc.words := rfl

@[simp] theorem Chip.setSc_word (sc : Nat) (x : ScRun) (a : Nat) : (c.setSc sc x).word a = c.word a := rfl

section
variable {c d : Chip} (hstill : d.assoc.still = c.assoc.still)
include hstill

theorem Chip.power_of_still : d.power = c.power := congrArg (·.1) hstill

theorem Chip.chans_of_still : d.data.chans = c.data.chans := congrArg (·.2.2.2.1) hstill

theorem Chip.scs_of_still : d.data.scs = c.data.scs := congrArg (·.2.2.2.2.1) hstill

theorem Chip.scRun_of_still (sc : Nat) : d.scRun sc = c.scRun sc := Chip.scRun_of_scs (Chip.scs_of_still hstill) sc

theorem Chip.words_of_still : d.assoc.words = c.assoc.words := congrArg (·.2.2.2.2.2) hstill

end

/-- What the end of an epoch makes of the run of its channel. -/
theorem Chip.scRun_settleRetire : ∃ old proof, (c.settleRetire h).scRun h.sc = { c.scRun h.sc with retire := old, proof := proof } := by
  obtain ⟨-, heq⟩ | ⟨-, hstill⟩ := c.settleRetire_cases h
  · exact ⟨_, _, by rw [heq]⟩
  · exact ⟨none, false, by rw [Chip.scRun_of_still hstill, Chip.scRun_setSc_same]⟩

theorem Chip.settleRetire_epoch : ((c.settleRetire h).scRun h.sc).epoch = (c.scRun h.sc).epoch := by
  obtain ⟨old, proof, hrun⟩ := c.scRun_settleRetire h
  rw [hrun]

theorem Chip.settleRetire_skipDue : ((c.settleRetire h).scRun h.sc).skipDue = (c.scRun h.sc).skipDue := by
  obtain ⟨old, proof, hrun⟩ := c.scRun_settleRetire h
  rw [hrun]

/-- An epoch whose time has come retires. -/
theorem Chip.settleRetire_of_due (hret : (c.scRun h.sc).retire.isSome = true) (hproof : (c.scRun h.sc).proof = true)
    (htime : (c.scRun h.sc).retireAt ≤ c.us) :
    (c.settleRetire h).assoc.still = (c.setSc h.sc { c.scRun h.sc with retire := none, proof := false }).assoc.still := by
  obtain ⟨hwait, -⟩ | ⟨-, hstill⟩ := c.settleRetire_cases h
  · obtain hnone | hno | hlate := hwait
    · rw [hnone] at hret
      cases hret
    · rw [hno] at hproof
      cases hproof
    · omega
  · exact hstill

/-! ## Messages of a channel that count themselves (R258, R264) -/

/-- RX_READY that cannot be sent yet waits for its repetition. -/
theorem Chip.sendReady_cases (e : Nat) :
    (c.sendReady h e).assoc = c.assoc ∨ (c.sendReady h e).assoc = (c.setSc h.sc { c.scRun h.sc with await := some e }).assoc := by
  unfold Chip.sendReady
  split
  · exact .inl (Chip.sendCtl_assoc _ _ _ _ _)
  · exact .inr rfl

theorem Chip.sendReady_sas (e : Nat) : (c.sendReady h e).data.sas = c.data.sas := by
  obtain heq | heq := c.sendReady_cases h e <;> exact congrArg Assoc.sas heq

theorem Chip.scRun_sendReady (e : Nat) : ∃ a, (c.sendReady h e).scRun h.sc = { c.scRun h.sc with await := a } := by
  obtain heq | heq := c.sendReady_cases h e
  · exact ⟨_, Chip.scRun_of_scs (Chip.scs_of_assoc heq) _⟩
  · exact ⟨some e, (Chip.scRun_of_scs (Chip.scs_of_assoc heq) _).trans (Chip.scRun_setSc_same _ _ _)⟩

/-- TX_SWITCHED counts one of its repetitions. -/
theorem Chip.sendSwitched_cases :
    (c.sendSwitched h).assoc = c.assoc ∨
      (c.sendSwitched h).assoc = (c.setSc h.sc { c.scRun h.sc with switched := (c.scRun h.sc).switched - 1 }).assoc := by
  unfold Chip.sendSwitched
  dsimp only
  split
  · exact .inl rfl
  · exact .inr (Chip.sendCtl_assoc _ _ _ _ _)

theorem Chip.sendSwitched_sas : (c.sendSwitched h).data.sas = c.data.sas := by
  obtain heq | heq := c.sendSwitched_cases h <;> exact congrArg Assoc.sas heq

theorem Chip.scRun_sendSwitched : ∃ n, (c.sendSwitched h).scRun h.sc = { c.scRun h.sc with switched := n } := by
  obtain heq | heq := c.sendSwitched_cases h
  · exact ⟨_, Chip.scRun_of_scs (Chip.scs_of_assoc heq) _⟩
  · exact ⟨_, (Chip.scRun_of_scs (Chip.scs_of_assoc heq) _).trans (Chip.scRun_setSc_same _ _ _)⟩

/-! ## The switch of the transmit side (R251, R264) -/

/-- The SA of the new epoch is current, and no RX_READY is awaited. -/
theorem Chip.txSwitch_shows (e kg : Nat) (skip : Int) :
    ((c.txSwitch h e kg skip).sa (h.sa (e % 4))).installed = true ∧ ((c.txSwitch h e kg skip).sa (h.sa (e % 4))).current = true ∧
      ((c.txSwitch h e kg skip).sa (h.sa (e % 4))).epoch = e ∧ ((c.txSwitch h e kg skip).scRun h.sc).epoch = e ∧
      ((c.txSwitch h e kg skip).scRun h.sc).await = none := by
  obtain ⟨hinst, hepoch⟩ := c.loadEpoch_slot h e kg
  unfold Chip.txSwitch
  dsimp only
  generalize hrun : ({ (c.loadEpoch h e kg).scRun h.sc with
    on := true, epoch := e, skip := skip, await := none, advance := none, confirmed := false, switched := 3 } : ScRun) = x
  have hx : x.epoch = e ∧ x.await = none := by rw [← hrun]; exact ⟨rfl, rfl⟩
  generalize hcur : ((c.loadEpoch h e kg).setSc h.sc x).makeCurrent h (h.sa (e % 4)) = d
  have hsa : d.sa (h.sa (e % 4)) = { (c.loadEpoch h e kg).sa (h.sa (e % 4)) with current := true } := by
    rw [← hcur]
    exact Chip.sa_makeCurrent_same _ _ _
  have hscRun : d.scRun h.sc = { x with blocked := false, late := false } := by
    rw [← hcur, Chip.scRun_of_still (Chip.makeCurrent_still _ _ _), Chip.scRun_setSc_same, Chip.scRun_setSc_same]
  have hpruned (b : Bool) (keep : Nat → Bool) : (if b then d.fillEpochs h e else (d.fillEpochs h e).keepEpochs keep).assoc = d.assoc := by
    split <;> simp
  obtain ⟨n, hsent⟩ := Chip.scRun_sendSwitched (if h.sas.any (fun i => ((d.fillEpochs h e).sa i).installed && ((d.fillEpochs h e).sa i).epoch + 1 == e)
    then d.fillEpochs h e else (d.fillEpochs h e).keepEpochs (fun k => k / 2 ^ 64 != h.sc || e ≤ k % 2 ^ 64)) h
  rw [hsent, Chip.sa_of_sas (Chip.sendSwitched_sas _ _), Chip.sa_of_sas (Chip.sas_of_assoc (hpruned _ _)), hsa,
    Chip.scRun_of_scs (Chip.scs_of_assoc (hpruned _ _)), hscRun]
  exact ⟨hinst, rfl, hepoch, hx⟩

end

end Sys2Proof.Machine
end

section
/-! PROOFS of the family of secure channels, O40, first part: the steps of the key schedule (R251, R258, R259, R264, R387). -/

namespace Sys2Proof.Machine

/-! ## Steps at a grid instant -/

section
variable (c : Chip) (h : Chan) (g : Nat)

/-- The step of a channel that has a secret and has started its epochs. -/
theorem Chip.gridStep_of_on {c : Chip} {h : Chan} {g : Nat} (hmode : h.mode = modeEpoch) (hon : (c.scRun h.sc).on = true)
    (hsecret : c.secretAt h.port g ≠ []) (step : Nat) :
    c.gridStep h g step = if step = 1 then c.gridLoad h g else if step = 2 then c.gridLoadTx h g else if step = 3 then c.gridAccept h g
      else if step = 4 then c.gridSwitch h g else c.gridEnd h g :=
  if_neg (by simp [hmode, hon, hsecret])

theorem Chip.steppedNow_of_not {c : Chip} {h : Chan} (hstep : c.time.stepped.contains h.sc = false) : c.steppedNow h = c :=
  if_pos (by rw [hstep]; rfl)

theorem Chip.scRun_of_lasting {c d : Chip} (hlast : d.assoc.lasting = c.assoc.lasting) (sc : Nat) : d.scRun sc = c.scRun sc :=
  Chip.scRun_of_scs (congrArg (·.2.2.1) hlast) sc

theorem Chip.setSc_sa (sc : Nat) (x : ScRun) (i : Nat) : (c.setSc sc x).sa i = c.sa i := rfl

theorem Chip.sendReady_retire (e : Nat) : ((c.sendReady h e).scRun h.sc).retire = (c.scRun h.sc).retire := by
  obtain ⟨a, hrun⟩ := c.scRun_sendReady h e
  rw [hrun]

/-- The mode is chosen and an advance abandoned. -/
theorem Chip.scRun_gridLoad : (c.gridLoad h g).scRun h.sc =
    { c.scRun h.sc with confirmed := (c.confirmAt h g).1, advance := none } := by
  unfold Chip.gridLoad
  dsimp only
  split
  · exact Chip.scRun_setSc_same _ _ _
  · rw [Chip.scRun_of_lasting (Chip.loadEpoch_lasting _ _ _ _), Chip.scRun_setSc_same]

/-- An SA that is loaded into a free slot is neither current nor accepting. -/
theorem Chip.loadEpoch_free {e : Nat} (hfree : (c.sa (h.sa (e % 4))).installed = false) :
    ((c.loadEpoch h e g).sa (h.sa (e % 4))).installed = true ∧ ((c.loadEpoch h e g).sa (h.sa (e % 4))).epoch = e ∧
      ((c.loadEpoch h e g).sa (h.sa (e % 4))).current = false ∧ ((c.loadEpoch h e g).sa (h.sa (e % 4))).accepting = false ∧
      ∀ j, j ≠ h.sa (e % 4) → (c.loadEpoch h e g).sa j = c.sa j := by
  obtain ⟨hloaded, -⟩ | ⟨-, x, heq, hx⟩ := c.loadEpoch_cases h e g
  · simp [Chip.epochLoaded, hfree] at hloaded
  · rw [heq, Chip.sa_setSa_same]
    obtain ⟨hinst, hepoch, hcur, hacc⟩ := hx
    exact ⟨hinst, hepoch, hcur, hacc, fun j hj => by rw [Chip.sa_setSa, if_neg hj, Chip.sa_slotFreed c h hj]⟩

/-- The new epoch is accepted, and the one before it is due to retire. -/
theorem Chip.gridAccept_shows {c : Chip} {h : Chan} (g : Nat) (hstep : c.time.stepped.contains h.sc = false) :
    let e := (c.scRun h.sc).epochAt g
    ((c.gridAccept h g).sa (h.sa (e % 4))).installed = true ∧ ((c.gridAccept h g).sa (h.sa (e % 4))).epoch = e ∧
      ((c.gridAccept h g).sa (h.sa (e % 4))).accepting = true ∧
      ((c.gridAccept h g).scRun h.sc).retire = if e = 0 then none else some (e - 1) := by
  intro e
  obtain ⟨hinst, hepoch⟩ := c.loadEpoch_slot h e g
  unfold Chip.gridAccept
  rw [Chip.steppedNow_of_not hstep]
  dsimp only
  rw [Chip.sa_of_sas (Chip.sendReady_sas _ _ _), Chip.setSc_sa, Chip.sa_setSa_same, Chip.sendReady_retire, Chip.scRun_setSc_same]
  exact ⟨hinst, hepoch, rfl, rfl⟩

/-- Under confirmed switching the transmit side waits. -/
theorem Chip.gridSwitch_of_confirmed {c : Chip} {h : Chan} {g : Nat} (hstep : c.time.stepped.contains h.sc = false)
    (hnew : (c.scRun h.sc).epoch < (c.scRun h.sc).epochAt g) (hconf : (c.scRun h.sc).confirmed = true) :
    c.gridSwitch h g = c.setSc h.sc { c.scRun h.sc with await := some g } := by
  unfold Chip.gridSwitch
  rw [Chip.steppedNow_of_not hstep]
  dsimp only
  rw [if_neg (by simp [hnew]), if_pos hconf]

/-- Else it switches at the instant. -/
theorem Chip.gridSwitch_of_unconfirmed {c : Chip} {h : Chan} {g : Nat} (hstep : c.time.stepped.contains h.sc = false)
    (hnew : (c.scRun h.sc).epoch < (c.scRun h.sc).epochAt g) (hconf : (c.scRun h.sc).confirmed = false) :
    c.gridSwitch h g = c.txSwitch h ((c.scRun h.sc).epochAt g) g (c.scRun h.sc).skip := by
  unfold Chip.gridSwitch
  rw [Chip.steppedNow_of_not hstep]
  dsimp only
  rw [if_neg (by simp [hnew]), if_neg (by simp [hconf])]

/-- The overlap's end brings the epoch up. -/
theorem Chip.gridEnd_epoch : ((c.gridEnd h g).scRun h.sc).epoch = max (c.scRun h.sc).epoch ((c.scRun h.sc).epochAt g) := by
  unfold Chip.gridEnd
  dsimp only
  rw [Chip.settleRetire_epoch, Chip.scRun_setSc_same]

/-- A timed activation makes its SA current, and leaves the list of those that wait. -/
theorem Chip.timedActivate_shows {c : Chip} {h : Chan} {w : WheelEntry} {inst : Nat}
    (hfind : (c.scRun h.sc).active.find? (fun a => a.1 == w.epoch && ceilDiv a.2 1000 == w.due) = some (w.epoch, inst))
    (hinst : (c.sa (h.sa w.epoch)).installed = true) (han : (c.sa (h.sa w.epoch)).an = w.epoch) :
    ((c.timedActivate h w).sa (h.sa w.epoch)).current = true ∧
      ((c.timedActivate h w).scRun h.sc).active = (c.scRun h.sc).active.erase (w.epoch, inst) ∧
      ((c.timedActivate h w).scRun h.sc).blocked = false := by
  unfold Chip.timedActivate
  dsimp only
  rw [hfind]
  dsimp only
  rw [Chip.setSc_sa, if_pos (by rw [hinst, han, beq_self_eq_true, Bool.and_self]), Chip.sa_makeCurrent_same,
    Chip.scRun_of_still (Chip.makeCurrent_still _ _ _), Chip.scRun_setSc_same, Chip.scRun_setSc_same]
  exact ⟨rfl, rfl, rfl⟩

end

/-! ## KEY_STEP -/

/-- A due step of a channel is taken, unless a warm start holds it back. -/
theorem goes_keyStep {s : State} {n : Nat} {w : WheelEntry} {P : Chip → Prop} (hp : s.chip.power = true) (hn : n < 4096)
    (hdue : s.chip.wheelDue n = some w) (htype : w.type = 3) (hback : s.chip.restarting = false)
    (h : P { (s.chip.wheelFired n w).keyStep w with power := true }) : Goes (.keyStep n) s P := by
  refine goes_act_powered (f := fun c => c.fire n 3 fun w c => c.keyStep w) ?_ hp ?_
  · exact if_pos (decide_eq_true hn)
  · rw [Chip.fire_of_due hdue htype (by rw [hback]; rfl)]
    exact h

/-- After a step at a grid instant the SAs and runs are as the step left them. -/
theorem Chip.keyStep_of_grid {c : Chip} {w : WheelEntry} {h : Chan} (hchan : c.chan w.arg = some h) (h6 : w.step ≠ 6) (h7 : w.step ≠ 7) :
    (c.keyStep w).data.sas = (c.gridStep h w.epoch w.step).data.sas ∧ (c.keyStep w).data.scs = (c.gridStep h w.epoch w.step).data.scs := by
  unfold Chip.keyStep
  rw [hchan]
  dsimp only
  rw [if_neg h6, if_neg h7, Chip.sas_of_assoc (Chip.scheduleAfter_assoc _ _ _), Chip.scs_of_assoc (Chip.scheduleAfter_assoc _ _ _)]
  exact ⟨Chip.settleLink_sas _ _, Chip.settleLink_scs _ _⟩

end Sys2Proof.Machine
end

section
/-! PROOFS of the family of secure channels, O40, second part: the rule of the key schedule's steps (R258). -/

namespace Sys2Proof.Machine

/-- The mode of switching is chosen by nothing that an entry which fires changes. -/
theorem Chip.confirmAt_wheelFired (c : Chip) (n : Nat) (w : WheelEntry) (h : Chan) (g : Nat) :
    (c.wheelFired n w).confirmAt h g = c.confirmAt h g := by
  obtain ⟨hrest, hwords⟩ := Chip.retimed_iff.mp (c.retimed_wheelFired n w)
  have hdata : (c.wheelFired n w).port h.port = c.port h.port :=
    (congrArg (Chip.port · h.port) hrest :)
  have hsched : (c.wheelFired n w).schedO h.profile = c.schedO h.profile :=
    (congrArg (Chip.schedO · h.profile) hrest :)
  have hest : (c.wheelFired n w).num R.TIM_EST 2 = c.num R.TIM_EST 2 := Chip.num_of_word (hwords _ (by decide)) (hwords _ (by decide))
  have hlock : (c.wheelFired n w).flag F.TIM_STATE_acquired = c.flag F.TIM_STATE_acquired := Chip.flag_of_word (hwords _ (by decide))
  unfold Chip.confirmAt
  rw [hdata, hsched, hest, hlock, Chip.wheelFired_time]

theorem keyStepsRule_holds : keyStepsRule := by
  intro s n w h hp hn hdue htype hback hchan
  generalize hc : s.chip.wheelFired n w = c
  have hassoc : c.assoc = s.chip.assoc := by rw [← hc, Chip.wheelFired_assoc]
  have hchan' : c.chan w.arg = some h := by rw [Chip.chan, Chip.chans_of_assoc hassoc]; exact hchan
  have hrun := Chip.scRun_of_scs (Chip.scs_of_assoc hassoc) h.sc
  have hsa := Chip.sa_of_sas (Chip.sas_of_assoc hassoc)
  have hsas := Chip.sas_of_assoc hassoc
  have htime : c.us = s.chip.us ∧ c.time.stepped = s.chip.time.stepped := by
    rw [← hc, Chip.us, Chip.ns, Chip.wheelFired_time]
    exact ⟨rfl, rfl⟩
  have hgoes {P : Chip → Prop} (h : P { c.keyStep w with power := true }) : Goes (.keyStep n) s P :=
    goes_keyStep hp hn hdue htype hback (hc ▸ h)
  obtain ⟨hus, hstepped⟩ := htime
  simp only [← hrun, ← hsa, ← hsas, ← hus, ← hstepped]
  refine ⟨fun hmode hon hsecret hnot => ?_, fun h7 hret hproof htime => ?_, fun an inst h6 han hfind hinst hsaan => ?_⟩
  · have hstep := Chip.gridStep_of_on (g := w.epoch) hmode hon (by rwa [Chip.secretAt, Chip.link_of_assoc hassoc])
    have hgrid {P : Chip → Prop} (h6 : w.step ≠ 6) (h7 : w.step ≠ 7) (hP : ∀ d : Chip, d.data.sas = (c.gridStep h w.epoch w.step).data.sas →
        d.data.scs = (c.gridStep h w.epoch w.step).data.scs → P d) : Goes (.keyStep n) s P := by
      obtain ⟨hsas, hscs⟩ := Chip.keyStep_of_grid hchan' h6 h7
      exact hgoes (hP _ hsas hscs)
    simp only [hstep] at hgrid
    refine ⟨fun h1 => ?_, fun h2 hfree => ?_, fun h2 hinst hcur => ?_, fun h3 => ?_, fun h4 hnew hconf => ?_, fun h4 hnew hconf => ?_,
      fun h5 => ?_⟩
    · simp only [h1, if_true] at hgrid
      refine hgrid (by decide) (by decide) fun d _ hscs => ?_
      rw [Chip.scRun_of_scs hscs, Chip.scRun_gridLoad, ← hc, Chip.confirmAt_wheelFired]
      exact ⟨rfl, rfl, rfl⟩
    · simp only [h2, Nat.reduceEqDiff, if_true, if_false] at hgrid
      refine hgrid (by decide) (by decide) fun d hsas _ => ?_
      simp only [Chip.sa_of_sas hsas]
      rw [Chip.gridLoadTx, if_neg (by simp [hfree])]
      exact Chip.loadEpoch_free c h w.epoch hfree
    · simp only [h2, Nat.reduceEqDiff, if_true, if_false] at hgrid
      refine hgrid (by decide) (by decide) fun d hsas _ => hsas.trans ?_
      rw [Chip.gridLoadTx, if_pos (by simp [hinst, hcur])]
    · simp only [h3, Nat.reduceEqDiff, if_true, if_false] at hgrid
      refine hgrid (by decide) (by decide) fun d hsas hscs => ?_
      rw [Chip.sa_of_sas hsas, Chip.scRun_of_scs hscs]
      exact Chip.gridAccept_shows w.epoch hnot
    · simp only [h4, Nat.reduceEqDiff, if_true, if_false] at hgrid
      refine hgrid (by decide) (by decide) fun d hsas hscs => ?_
      rw [Chip.sa_of_sas hsas, Chip.scRun_of_scs hscs, Chip.gridSwitch_of_unconfirmed hnot hnew hconf]
      obtain ⟨hinst, hcur, hepoch, hnow, -⟩ := c.txSwitch_shows h ((c.scRun h.sc).epochAt w.epoch) w.epoch (c.scRun h.sc).skip
      exact ⟨hinst, hcur, hepoch, hnow⟩
    · simp only [h4, Nat.reduceEqDiff, if_true, if_false] at hgrid
      refine hgrid (by decide) (by decide) fun d hsas hscs => ?_
      rw [hsas, Chip.scRun_of_scs hscs, Chip.gridSwitch_of_confirmed hnot hnew hconf, Chip.scRun_setSc_same]
      exact ⟨rfl, rfl⟩
    · simp only [h5, Nat.reduceEqDiff, if_false] at hgrid
      refine hgrid (by decide) (by decide) fun d _ hscs => ?_
      rw [Chip.scRun_of_scs hscs]
      exact Chip.gridEnd_epoch c h w.epoch
  · refine hgoes ?_
    have hsettle : c.keyStep w = c.settleRetire h := by
      unfold Chip.keyStep
      rw [hchan']
      dsimp only
      rw [if_neg (by omega), if_pos h7]
    have hshown := Chip.scRun_of_still (Chip.settleRetire_of_due c h hret hproof htime) h.sc
    rw [Chip.scRun_setSc_same] at hshown
    rw [hsettle]
    exact ⟨(congrArg ScRun.retire hshown :), (congrArg ScRun.epoch hshown :)⟩
  · refine hgoes ?_
    have hactivate : c.keyStep w = c.timedActivate h w := by
      unfold Chip.keyStep
      rw [hchan']
      dsimp only
      rw [if_pos h6]
    subst han
    rw [hactivate]
    exact Chip.timedActivate_shows hfind hinst hsaan

end Sys2Proof.Machine
end

section
/-! PROOFS of the family of secure channels, O40, third part: messages between the ends of a channel (R259, R264, R265, R271). -/

namespace Sys2Proof.Machine

/-! ## Messages that are heard -/

/-- A command whose guard holds does its step, which keeps main power. -/
theorem goes_guarded_powered {i : Instr} {s : State} {ok : Bool} {guard : Chip → Bool} {f : Chip → Chip} {P : Chip → Prop}
    (hx : exec i s = s.actOn ok fun c => if guard c then f c else c) (ho : ok = true) (hp : s.chip.power = true) (hg : guard s.chip = true)
    (h : P { f s.chip with power := true }) : Goes i s P := by
  subst ho
  refine goes_act_powered (hx.trans (if_pos rfl)) hp ?_
  rw [if_pos hg]
  exact h

/-- A message that is discarded is counted, and changes nothing else. -/
theorem goes_ctlDropped {i : Instr} {s : State} {ok : Bool} {guard : Chip → Bool} {f : Chip → Chip} {p : Nat}
    (hx : exec i s = s.actOn ok fun c => if guard c then f c else c) (ho : ok = true) (hp : s.chip.power = true) (hg : guard s.chip = true)
    (hf : f s.chip = s.chip.ctlDiscard p) :
    Goes i s fun c => c.word (R.SAS_CTL_AUTH p) = s.chip.word (R.SAS_CTL_AUTH p) + 1 ∧ Chip.onlyRegs s.chip c [R.SAS_CTL_AUTH p] := by
  refine goes_guarded hx ho hp hg (by rw [hf]; rfl) ?_
  rw [hf]
  exact ⟨Chip.word_bump_same _ _, Chip.onlyRegs_bump _ _⟩

theorem Chip.mem_epochChans {c : Chip} {p : Nat} {h : Chan} : h ∈ c.epochChans p ↔ h ∈ c.data.chans ∧ h.port = p ∧ h.mode = modeEpoch := by
  simp [Chip.epochChans]

theorem Chip.port_of_find {c : Chip} {p : Nat} {h : Chan} {pick : Chan → Bool} (hfind : (c.epochChans p).find? pick = some h) : h.port = p :=
  (Chip.mem_epochChans.mp (List.mem_of_find?_eq_some hfind)).2.1

section
variable {c : Chip} {p : Nat} {m : Bytes}

theorem Chip.onControl_of_bad {type : Nat} (hbad : c.ctlOk p type m = false) : c.onControl p type m = c.ctlDiscard p := by
  unfold Chip.onControl
  split
  · rfl
  · dsimp only
    rw [if_pos (by rw [hbad]; rfl)]

theorem Chip.onControl_of_ok {type : Nat} {h : Chan} (hchan : c.ctlChan p type = some h) (hok : c.ctlOk p type m = true) :
    c.onControl p type m = if type = msgRxReady then (c.heardFrom p m).onReady h (be m 28 8)
      else if type = msgTxSwitched then (c.heardFrom p m).proof h (be m 28 8) else (c.heardFrom p m).onAdvance h (be m 28 8) := by
  unfold Chip.onControl
  rw [hchan]
  dsimp only
  rw [if_neg (by simp [hok])]

@[simp] theorem Chip.heardFrom_assoc : (c.heardFrom p m).assoc = c.assoc := by
  unfold Chip.heardFrom
  split <;> simp

end

/-! ## What each message does -/

section
variable {c : Chip} {h : Chan} {e : Nat}

/-- RX_READY for an epoch to come, which is awaited. -/
theorem Chip.onReady_shows (hon : (c.scRun h.sc).on = true) (hnew : (c.scRun h.sc).epoch < e) (hawait : (c.scRun h.sc).await.isSome = true)
    (hsecret : c.secretAt h.port ((e : Int) - (c.scRun h.sc).skip).toNat ≠ []) :
    ((c.onReady h e).sa (h.sa (e % 4))).installed = true ∧ ((c.onReady h e).sa (h.sa (e % 4))).current = true ∧
      ((c.onReady h e).scRun h.sc).epoch = e ∧ ((c.onReady h e).scRun h.sc).await = none := by
  have hacts (a b : Bool) : (!(c.scRun h.sc).on || (!a && decide (e ≤ (c.scRun h.sc).epoch)) ||
      !((c.scRun h.sc).confirmed || (c.scRun h.sc).await.isSome || b || a) ||
      c.secretAt h.port ((e : Int) - (c.scRun h.sc).skip).toNat == []) = false := by
    simp [hon, hnew, hawait, hsecret]
  unfold Chip.onReady
  dsimp only
  rw [if_neg (by rw [hacts]; exact Bool.false_ne_true)]
  obtain ⟨hinst, hcur, -, hepoch, hwaits⟩ := c.txSwitch_shows h e ((e : Int) - (c.scRun h.sc).skip).toNat _
  exact ⟨hinst, hcur, hepoch, hwaits⟩

/-- TX_SWITCHED for an epoch after the one that is to retire. -/
theorem Chip.proof_shows {old : Nat} (hrx : h.tx = false) (hret : (c.scRun h.sc).retire = some old) (hnew : old < e) :
    ((c.proof h e).scRun h.sc).epoch = max (c.scRun h.sc).epoch e ∧ ((c.proof h e).scRun h.sc).skipDue = false := by
  generalize hx : (if ((c.scRun h.sc).await.map (fun a => decide (a ≤ e))).getD false then { c.scRun h.sc with await := none } else c.scRun h.sc)
    = x
  have hkept : x.retire = some old ∧ x.epoch = (c.scRun h.sc).epoch := by
    rw [← hx]
    split <;> exact ⟨hret, rfl⟩
  obtain ⟨hold, hepoch⟩ := hkept
  unfold Chip.proof
  dsimp only
  rw [if_neg (by simp [hrx]), hx, hold]
  dsimp only
  rw [if_neg (by omega)]
  rw [Chip.settleRetire_epoch, Chip.settleRetire_skipDue, Chip.scRun_setSc_same, ← hepoch]
  exact ⟨rfl, rfl⟩

/-- ADVANCE_REQ for the next epoch. -/
theorem Chip.onAdvance_shows (hon : (c.scRun h.sc).on = true) (hnext : e = (c.scRun h.sc).epoch + 1) (hdue : (c.scRun h.sc).skipDue = false)
    (hsecret : c.secretAt h.port ((e : Int) - (c.scRun h.sc).skip).toNat ≠ []) :
    ((c.onAdvance h e).sa (h.sa (e % 4))).accepting = true ∧ ((c.onAdvance h e).scRun h.sc).retire = some (c.scRun h.sc).epoch ∧
      ((c.onAdvance h e).scRun h.sc).skipDue = true ∧ ((c.onAdvance h e).scRun h.sc).epoch = (c.scRun h.sc).epoch := by
  unfold Chip.onAdvance
  dsimp only
  rw [if_neg (by simp [hon, hnext.symm, hsecret]), if_neg (by simp [hdue])]
  generalize hd : Chip.setSc _ h.sc _ = d
  have hsa : (d.sa (h.sa (e % 4))).accepting = true := by
    rw [← hd, Chip.setSc_sa, Chip.sa_setSa_same]
  have hrun : (d.scRun h.sc).retire = some (c.scRun h.sc).epoch ∧ (d.scRun h.sc).skipDue = true ∧ (d.scRun h.sc).epoch = (c.scRun h.sc).epoch := by
    rw [← hd, Chip.scRun_setSc_same]
    exact ⟨rfl, rfl, rfl⟩
  have hready (k : Chip) (hk : k.assoc = d.assoc) : ((k.sendReady h e).sa (h.sa (e % 4))).accepting = true ∧
      ((k.sendReady h e).scRun h.sc).retire = some (c.scRun h.sc).epoch ∧ ((k.sendReady h e).scRun h.sc).skipDue = true ∧
      ((k.sendReady h e).scRun h.sc).epoch = (c.scRun h.sc).epoch := by
    obtain ⟨a, hsent⟩ := k.scRun_sendReady h e
    rw [hsent, Chip.sa_of_sas (Chip.sendReady_sas _ _ _), Chip.sa_of_sas (Chip.sas_of_assoc hk), Chip.scRun_of_scs (Chip.scs_of_assoc hk)]
    exact ⟨hsa, hrun⟩
  split
  · exact hready _ (Chip.wheelPut_assoc _ _ _)
  · exact hready d rfl

end

end Sys2Proof.Machine
end

section
/-! PROOFS of the family of secure channels, O40 and O41: a secret that is adopted at once (R267, R273). -/

namespace Sys2Proof.Machine

/-! ## What starting an epoch keeps -/

/-- The channels, the link of a port and its count of agreements. -/
def Chip.linkView (p : Nat) (c : Chip) : List Chan × Link × W32 := (c.data.chans, (c.port p).link, c.word (R.SAS_KA_OK p))

/-- What a step keeps while what it looks at is as in the beginning, its fold keeps. -/
theorem foldl_keeps_from {σ α β : Type} {g : σ → α → σ} {view : σ → β} {s : σ} {l : List α}
    (h : ∀ d, ∀ x ∈ l, view d = view s → view (g d x) = view s) : view (l.foldl g s) = view s := by
  have hall (d : σ) (hd : view d = view s) : view (l.foldl g d) = view s := by
    induction l generalizing d with
    | nil => exact hd
    | cons x l ih =>
      exact ih (fun d y hy => h d y (List.mem_cons_of_mem x hy)) _ (h d x List.mem_cons_self hd)
  exact hall s rfl

section
variable {c d : Chip} {p : Nat} {h : Chan}

theorem counted_kaOk (hp : p < 96) : R.SAS_KA_OK p < 0x204 ∨ (0xE000 ≤ R.SAS_KA_OK p ∧ R.SAS_KA_OK p < 0x10000 ∧ 16 ≤ R.SAS_KA_OK p % 32) := by
  simp only [R.SAS_KA_OK]
  omega

theorem Chip.linkView_of_assoc (hp : p < 96) (hassoc : d.assoc = c.assoc) : d.linkView p = c.linkView p := by
  rw [Chip.linkView, Chip.chans_of_assoc hassoc, Chip.link_of_assoc hassoc, Chip.word_of_words (Chip.words_of_assoc hassoc) (counted_kaOk hp),
    Chip.linkView]

/-- The link of a port whose channel has started its epochs, without a pending secret, is kept when an SA retires. -/
theorem Chip.retireWhenDone_link (hpend : (c.port p).link.pending = []) (hmem : h ∈ c.epochChans p) (hon : (c.scRun h.sc).on = true)
    (i : Nat) : ((c.retireWhenDone p i).port p).link = (c.port p).link := by
  obtain ⟨-, heq⟩ | ⟨-, -, heq⟩ | ⟨-, -, d, hd, heq⟩ := c.retireWhenDone_cases p i
  · rw [heq]
  · exact Chip.link_of_assoc heq p
  · have hlink : (d.port p).link = (c.port p).link := Chip.link_of_assoc hd p
    have hmem' : h ∈ d.epochChans p := by rwa [Chip.epochChans_of_chans (Chip.chans_of_assoc hd)]
    have hon' : (d.scRun h.sc).on = true := by rwa [Chip.scRun_of_scs (Chip.scs_of_assoc hd)]
    rw [heq, Chip.settleLink_link, d.settledLink_of_on (by rw [hlink]; exact hpend) hmem' hon', hlink]

/-- SAs of an older secret retire without touching the link. -/
theorem Chip.retireOlder_linkView (hp : p < 96) (hpend : (c.port p).link.pending = []) (hmem : h ∈ c.epochChans p)
    (hon : (c.scRun h.sc).on = true) (secret : Bytes) (l : List Nat) :
    (l.foldl (fun c i => if (c.sa i).installed && (c.sa i).secret != secret then c.retireWhenDone p i else c) c).linkView p = c.linkView p ∧
      (l.foldl (fun c i => if (c.sa i).installed && (c.sa i).secret != secret then c.retireWhenDone p i else c) c).scRun h.sc = c.scRun h.sc := by
  have hboth := foldl_keeps_from (view := fun d : Chip => (d.linkView p, d.data.scs)) (s := c) (l := l)
      (g := fun c i => if (c.sa i).installed && (c.sa i).secret != secret then c.retireWhenDone p i else c) fun d i _ hd => by
    split
    · obtain ⟨hview, hscs⟩ := Prod.mk.inj hd
      obtain ⟨hchans, hlink, hcount⟩ : d.data.chans = c.data.chans ∧ (d.port p).link = (c.port p).link ∧
        d.word (R.SAS_KA_OK p) = c.word (R.SAS_KA_OK p) := by simpa [Chip.linkView] using hview
      have hstill := d.retireWhenDone_still p i
      have hlink' := Chip.retireWhenDone_link (c := d) (h := h) (by rw [hlink]; exact hpend)
        (by rwa [Chip.epochChans_of_chans hchans]) (by rwa [Chip.scRun_of_scs hscs]) i
      have hchans' : (d.retireWhenDone p i).data.chans = d.data.chans := Chip.chans_of_still hstill
      have hscs' : (d.retireWhenDone p i).data.scs = d.data.scs := Chip.scs_of_still hstill
      have hcount' := Chip.word_of_words (c := d) (d := d.retireWhenDone p i) (Chip.words_of_still hstill) (counted_kaOk hp)
      simp only [Chip.linkView, hchans', hlink', hcount', hscs', hchans, hlink, hcount, hscs]
    · exact hd
  obtain ⟨hview, hscs⟩ := Prod.mk.inj hboth
  exact ⟨hview, Chip.scRun_of_scs hscs _⟩

/-- The first receive epoch is loaded. -/
theorem Chip.loadFirst_linkView (hp : p < 96) (c : Chip) (h : Chan) : (c.loadFirst h).linkView p = c.linkView p := by
  unfold Chip.loadFirst
  split
  · rfl
  · next e g _ =>
    dsimp only
    split
    · rfl
    · have hlast := Chip.loadEpoch_lasting (c.setSc h.sc { c.scRun h.sc with loadDue := none }) h e g
      have hcount := Chip.loadEpoch_kaOk (c.setSc h.sc { c.scRun h.sc with loadDue := none }) h e g p hp
      exact Prod.ext (congrArg (·.2.1) hlast) (Prod.ext (congrFun (congrArg (·.2.2.2) hlast) p) hcount)

theorem Chip.loadFirst_on (c : Chip) (h : Chan) : ((c.loadFirst h).scRun h.sc).on = (c.scRun h.sc).on := by
  unfold Chip.loadFirst
  split
  · rfl
  · next e g _ =>
    dsimp only
    split
    · rfl
    · have hrun := Chip.scRun_of_lasting (Chip.loadEpoch_lasting (c.setSc h.sc { c.scRun h.sc with loadDue := none }) h e g) h.sc
      exact (congrArg ScRun.on (hrun.trans (Chip.scRun_setSc_same _ _ _)) :)

theorem Chip.sendReady_linkView (hp : p < 96) (c : Chip) (h : Chan) (e : Nat) : (c.sendReady h e).linkView p = c.linkView p := by
  obtain heq | heq := c.sendReady_cases h e <;> exact (Chip.linkView_of_assoc hp heq :)

theorem Chip.sendReady_on (c : Chip) (h : Chan) (e : Nat) : ((c.sendReady h e).scRun h.sc).on = (c.scRun h.sc).on := by
  obtain ⟨a, hrun⟩ := c.scRun_sendReady h e
  rw [hrun]

/-- The first epoch under a new secret: the channel has started, and the link is as the adoption made it. -/
theorem Chip.startEpoch_shows (hp : p < 96) (hpend : (c.port p).link.pending = []) (hmem : h ∈ c.epochChans p) :
    (c.startEpoch h).linkView p = c.linkView p ∧ ((c.startEpoch h).scRun h.sc).on = true := by
  obtain ⟨-, hport, -⟩ := Chip.mem_epochChans.mp hmem
  subst hport
  unfold Chip.startEpoch
  dsimp only
  generalize hx : ({
    on := true, epoch := c.grid h.profile, await := some (c.grid h.profile), loadDue := if h.tx then none else some (c.grid h.profile, c.grid h.profile) } : ScRun) = x
  have hon : ((c.setSc h.sc x).scRun h.sc).on = true := by rw [Chip.scRun_setSc_same, ← hx]
  obtain ⟨hview, hrun⟩ := Chip.retireOlder_linkView (c := c.setSc h.sc x) hp hpend hmem hon (c.port h.port).link.current h.sas
  generalize hd : h.sas.foldl _ _ = d at hview hrun
  have hfirst : (((d.keepEpochs fun k => k / 2 ^ 64 != h.sc).fillEpochs h (c.grid h.profile)).loadFirst h).linkView h.port = c.linkView h.port ∧
      ((((d.keepEpochs fun k => k / 2 ^ 64 != h.sc).fillEpochs h (c.grid h.profile)).loadFirst h).scRun h.sc).on = true := by
    have hkept : ((d.keepEpochs fun k => k / 2 ^ 64 != h.sc).fillEpochs h (c.grid h.profile)).assoc = d.assoc := by simp
    rw [Chip.loadFirst_linkView hp, Chip.linkView_of_assoc hp hkept, hview, Chip.loadFirst_on, Chip.scRun_of_scs (Chip.scs_of_assoc hkept), hrun]
    exact ⟨rfl, hon⟩
  obtain ⟨hviewed, hstarted⟩ := hfirst
  rw [Chip.linkView_of_assoc hp (Chip.scheduleChan_assoc _ _), Chip.scRun_of_scs (Chip.scs_of_assoc (Chip.scheduleChan_assoc _ _))]
  split
  · exact ⟨hviewed, hstarted⟩
  · rw [Chip.sendReady_linkView hp, Chip.sendReady_on]
    exact ⟨hviewed, hstarted⟩

/-! ## Adoption (R273) -/

/-- All channels of a port start their first epochs, and the link is as the adoption made it. -/
theorem Chip.startEpochs_linkView (hp : p < 96) (hpend : (c.port p).link.pending = []) {l : List Chan} (hl : l ⊆ c.epochChans p) :
    (l.foldl (fun c h => c.startEpoch h) c).linkView p = c.linkView p := by
  refine foldl_keeps_from fun d h hmem hd => ?_
  simp only [Chip.linkView, Prod.mk.injEq] at hd
  obtain ⟨hchans, hlink, hcount⟩ := hd
  have hkept := (Chip.startEpoch_shows (c := d) hp (by rw [hlink]; exact hpend) (by rw [Chip.epochChans_of_chans hchans]; exact hl hmem)).1
  rw [hkept, Chip.linkView, hchans, hlink, hcount, Chip.linkView]

/-- The last of them has started. -/
theorem Chip.startEpochs_on (hp : p < 96) (hpend : (c.port p).link.pending = []) (hsome : c.epochChans p ≠ []) :
    ∃ h ∈ c.epochChans p, (((c.epochChans p).foldl (fun c h => c.startEpoch h) c).scRun h.sc).on = true := by
  obtain hnil | ⟨l, h, hl⟩ := List.eq_nil_or_concat (c.epochChans p)
  · exact absurd hnil hsome
  · rw [List.concat_eq_append] at hl
    have hmem : h ∈ c.epochChans p := by rw [hl]; exact List.mem_append_right l List.mem_cons_self
    have hview := Chip.startEpochs_linkView hp hpend (l := l) (by rw [hl]; exact List.subset_append_left l [h])
    simp only [Chip.linkView, Prod.mk.injEq] at hview
    obtain ⟨hchans, hlink, -⟩ := hview
    refine ⟨h, hmem, ?_⟩
    rw [hl, List.foldl_append]
    exact (Chip.startEpoch_shows hp (by rw [hlink]; exact hpend) (by rw [Chip.epochChans_of_chans hchans]; exact hmem)).2

/-- A secret adopted at once is the current one, none is pending, and the agreement stands where it stood. -/
theorem Chip.adoptSecret_now (hp : p < 96) (hsome : c.epochChans p ≠ []) (secret : Bytes) :
    let l := ((c.adoptSecret p secret 0).port p).link
    l.current = secret ∧ l.pending = [] ∧ l.step = (c.port p).link.step ∧ l.fails = (c.port p).link.fails ∧
      (c.adoptSecret p secret 0).word (R.SAS_KA_OK p) = c.word (R.SAS_KA_OK p) := by
  unfold Chip.adoptSecret
  dsimp only
  rw [if_pos rfl]
  generalize hlink : ({
    (c.port p).link with current := secret, pending := [], adoptAt := 0, fresh := [],
                         peer := ((c.port p).partner.map (·.id)).getD (c.port p).link.peer,
                         peerPort := ((c.port p).partner.map (·.port)).getD (c.port p).link.peerPort } : Link) = l
  generalize hset : (c.wr (F.SAS_LINK_STATUS_holding p) 0).setPort p { c.port p with link := l } = d
  have hdlink : (d.port p).link = l := by rw [← hset, Chip.port_setPort_same]
  have hpend : (d.port p).link.pending = [] := by rw [hdlink, ← hlink]
  have hcount : d.word (R.SAS_KA_OK p) = c.word (R.SAS_KA_OK p) := by
    rw [← hset, Chip.word_setPort, Chip.word_wr_other _ _ _ _ (by simp only [R.SAS_KA_OK, F.SAS_LINK_STATUS_holding, R.SAS_LINK_STATUS]; omega)]
  have hview := Chip.startEpochs_linkView hp hpend (List.Subset.refl _)
  have hchans' : d.epochChans p = c.epochChans p := by rw [← hset]; rfl
  obtain ⟨h, hmem, hon⟩ := Chip.startEpochs_on hp hpend (by rwa [hchans'])
  generalize (d.epochChans p).foldl (fun c h => c.startEpoch h) d = k at hview hon
  simp only [Chip.linkView, Prod.mk.injEq] at hview
  obtain ⟨hchans, hklink, hkcount⟩ := hview
  have hsettled : (k.settleLink p).assoc = k.assoc := k.settleLink_assoc_of_link
    (k.settledLink_of_on (by rw [hklink]; exact hpend) (by rwa [Chip.epochChans_of_chans hchans]) hon)
  rw [Chip.link_of_assoc hsettled, hklink, hdlink, Chip.word_of_words (Chip.words_of_assoc hsettled) (counted_kaOk hp), hkcount, hcount, ← hlink]
  exact ⟨rfl, rfl, rfl, rfl, rfl⟩

end

end Sys2Proof.Machine
end

section
/-! PROOFS of the family of secure channels, O40, last part: the rule of the messages between the ends of a channel, and the obligation
(R264, R265, R271, R277). -/

namespace Sys2Proof.Machine

section
variable {s : State} {p : Nat} {m : Bytes} {h : Chan}

/-- The message of an ADOPT under the fresh secret of a MACsec port, which did not distribute it. -/
theorem goes_adopt (hp : p < 96) (hhears : s.chip.hears p = true) (hmacsec : s.chip.isDenast p = false) (hlen : m.length = 56)
    (htype : byteAt m 0 = msgAdopt) (hversion : byteAt m 1 = 1) (hfrom : s.chip.fromPartner p m = true)
    (hfresh : (s.chip.port p).link.fresh ≠ [])
    (htag : kmac (s.chip.port p).link.fresh (m.take 40) 128 "GLEORN-ADOPT" = m.drop 40) (hindex : be m 28 8 = 0)
    (htheirs : (s.chip.port p).mka.mine = false) (hsome : s.chip.epochChans p ≠ []) :
    Goes (.adopt p m) s fun c => (c.port p).link.current = (s.chip.port p).link.fresh ∧ (c.port p).link.pending = [] := by
  refine goes_guarded_powered (guard := fun c => c.hears p) (f := fun c => c.onAdopt p m) rfl (decide_eq_true hp)
    (Chip.power_of_running (Chip.running_of_hears hhears)) hhears ?_
  have hacts : s.chip.onAdopt p m = (((s.chip.heardFrom p m).sendAdopt p 0 (s.chip.port p).link.fresh).adoptSecret p
      (s.chip.port p).link.fresh 0).rekeyDone p := by
    unfold Chip.onAdopt
    dsimp only
    rw [if_neg (by simp [hmacsec, hlen, htype, hversion, hfrom]), if_pos (by simp [hfresh, htag]), if_neg (by simp [htheirs]), hindex]
  have hsent : ((s.chip.heardFrom p m).sendAdopt p 0 (s.chip.port p).link.fresh).assoc = s.chip.assoc :=
    (Chip.sendLink_assoc _ _ _).trans Chip.heardFrom_assoc
  obtain ⟨hcur, hpend, -⟩ := Chip.adoptSecret_now (c := (s.chip.heardFrom p m).sendAdopt p 0 (s.chip.port p).link.fresh) hp
    (by rwa [Chip.epochChans_of_chans (Chip.chans_of_assoc hsent)]) (s.chip.port p).link.fresh
  rw [hacts]
  generalize Chip.adoptSecret _ p _ 0 = d at hcur hpend ⊢
  exact ⟨hcur, hpend⟩

theorem Chip.onChan_of_chan {c : Chip} {sc : Nat} (hchan : c.chan sc = some h) (f : Chan → Chip) : c.onChan sc f = f h := by
  rw [Chip.onChan, hchan, Option.elim_some]

/-- A command that makes `d` of the part does. -/
theorem goes_act_of_eq {i : Instr} {f : Chip → Chip} {d : Chip} {P : Chip → Prop} (hx : exec i s = s.act f) (hp : s.chip.power = true)
    (hd : f s.chip = d) (hpow : d.power = s.chip.power) (hP : P d) : Goes i s P := by
  subst hd
  exact goes_act hx hp (hpow.trans hp) hP

/-- An RX_READY that is late is reported. -/
theorem Chip.late_shows (c : Chip) (h : Chan) (x : ScRun) (k : Nat) :
    let d := ((c.setSc h.sc x).attn 8).bump (R.SAS_LATE k)
    d.scRun h.sc = x ∧ d.word (R.SAS_LATE k) = c.word (R.SAS_LATE k) + 1 ∧ d.data.sas = c.data.sas ∧
      ∀ a, a ≠ R.SAS_LATE k → a ≠ R.HST_ATTN → d.word a = c.word a := by
  have hword (a : Nat) (ha : a ≠ R.HST_ATTN) : ((c.setSc h.sc x).attn 8).word a = c.word a := by
    rw [Chip.attn_word _ _ _ ha, Chip.setSc_word]
  have hdata : (((c.setSc h.sc x).attn 8).bump (R.SAS_LATE k)).data = (c.setSc h.sc x).data :=
    (Chip.bump_data _ _).trans (Chip.attn_data _ _)
  have hlate : R.SAS_LATE k ≠ R.HST_ATTN := by
    simp only [R.SAS_LATE, R.HST_ATTN]
    omega
  refine ⟨?_, ?_, (congrArg Data.sas hdata :), fun a ha hattn => ?_⟩
  · exact (Chip.scRun_of_scs (congrArg Data.scs hdata) _).trans (Chip.scRun_setSc_same _ _ _)
  · rw [Chip.word_bump_same, hword _ hlate]
  · rw [Chip.word_bump_other _ _ _ ha, hword _ hattn]

/-- An old epoch that retires by force. -/
theorem Chip.forced_shows (c : Chip) (h : Chan) (hp : h.port < 96) (hret : (c.scRun h.sc).retire.isSome = true) :
    let d := (((c.bump (R.SAS_RETIRE_FORCED (pipeOf h.port))).attn 8).setSc h.sc { c.scRun h.sc with proof := true, retireAt := 0 }).settleRetire h
    d.power = c.power ∧ (d.scRun h.sc).retire = none ∧
      d.word (R.SAS_RETIRE_FORCED (pipeOf h.port)) = c.word (R.SAS_RETIRE_FORCED (pipeOf h.port)) + 1 := by
  generalize hb : ((c.bump (R.SAS_RETIRE_FORCED (pipeOf h.port))).attn 8).setSc h.sc { c.scRun h.sc with proof := true, retireAt := 0 } = b
  have hrun : b.scRun h.sc = { c.scRun h.sc with proof := true, retireAt := 0 } := by rw [← hb, Chip.scRun_setSc_same]
  have hstill := b.settleRetire_of_due h (by rw [hrun]; exact hret) (by rw [hrun]) (by rw [hrun]; exact Nat.zero_le _)
  have hpipe := pipeOf_lt (show h.port < 144 by omega)
  have hword : b.word (R.SAS_RETIRE_FORCED (pipeOf h.port)) = c.word (R.SAS_RETIRE_FORCED (pipeOf h.port)) + 1 := by
    rw [← hb, Chip.setSc_word, Chip.attn_word _ _ _ (by simp only [R.SAS_RETIRE_FORCED, R.HST_ATTN]; omega), Chip.word_bump_same]
  have hpower : b.power = c.power := by
    rw [← hb, Chip.setSc_power, Chip.attn_power, Chip.bump_power]
  refine ⟨(Chip.power_of_still hstill).trans ((Chip.setSc_power _ _ _).trans hpower), ?_, ?_⟩
  · rw [Chip.scRun_of_still hstill, Chip.scRun_setSc_same]
  · have hwords : (b.settleRetire h).assoc.words = b.assoc.words := (Chip.words_of_still hstill).trans (Chip.setSc_words _ _ _)
    rw [Chip.word_of_words hwords (by simp only [R.SAS_RETIRE_FORCED]; omega), hword]

/-- RX_READY is repeated until proof. -/
theorem goes_rxReadyRepeat {k : Nat} (hp : s.chip.power = true) (hchan : s.chip.chan h.sc = some h) (hrx : h.tx = false)
    (hawait : (s.chip.scRun h.sc).await = some k) (hdue : (s.chip.scRun h.sc).loadDue = none) (hfw : s.chip.firmware = true) :
    Goes (.rxReadyRepeat h.sc) s fun c => c = s.chip.sendCtl h msgRxReady k (s.chip.ctlSecret h) := by
  refine goes_act_of_eq (show exec (.rxReadyRepeat h.sc) s = execRxReadyRepeat h.sc s from rfl) hp ?_ (Chip.power_of_assoc (Chip.sendCtl_assoc s.chip h msgRxReady k (s.chip.ctlSecret h))) rfl
  refine (Chip.onChan_of_chan hchan _).trans ?_
  rw [hawait]
  dsimp only
  rw [if_pos (by rw [hrx, hfw, hdue]; rfl)]

/-- TX_SWITCHED is repeated while repetitions are left. -/
theorem goes_txSwitchedRepeat (hp : s.chip.power = true) (hchan : s.chip.chan h.sc = some h) (htx : h.tx = true)
    (hleft : (s.chip.scRun h.sc).switched ≠ 0) (hfw : s.chip.firmware = true) :
    Goes (.txSwitchedRepeat h.sc) s fun c => (c.scRun h.sc).switched = (s.chip.scRun h.sc).switched - 1 ∧ c.data.sas = s.chip.data.sas ∧
      c = (s.chip.setSc h.sc { s.chip.scRun h.sc with switched := (s.chip.scRun h.sc).switched - 1 }).sendCtl h msgTxSwitched
        (s.chip.scRun h.sc).epoch (s.chip.ctlSecret h) := by
  generalize hx : ({ s.chip.scRun h.sc with switched := (s.chip.scRun h.sc).switched - 1 } : ScRun) = x
  have hsent := Chip.sendCtl_assoc (s.chip.setSc h.sc x) h msgTxSwitched (s.chip.scRun h.sc).epoch (s.chip.ctlSecret h)
  refine goes_act_of_eq (show exec (.txSwitchedRepeat h.sc) s = execTxSwitchedRepeat h.sc s from rfl) hp ?_ (Chip.power_of_assoc hsent :) ⟨?_, (Chip.sas_of_assoc hsent :), rfl⟩
  · refine (Chip.onChan_of_chan hchan _).trans ?_
    rw [if_pos htx, Chip.sendSwitched, if_neg (by simp [hleft, hfw]), hx]
  · rw [Chip.scRun_of_scs (Chip.scs_of_assoc hsent), Chip.scRun_setSc_same, ← hx]

/-- ADVANCE_REQ is repeated while the advance is outstanding. -/
theorem goes_advanceReqRepeat {k : Nat} (hp : s.chip.power = true) (hchan : s.chip.chan h.sc = some h) (htx : h.tx = true)
    (hadv : (s.chip.scRun h.sc).advance = some k) (hfw : s.chip.firmware = true) :
    Goes (.advanceReqRepeat h.sc) s fun c => c = s.chip.sendCtl h msgAdvanceReq k (s.chip.ctlSecret h) := by
  refine goes_act_of_eq (show exec (.advanceReqRepeat h.sc) s = execAdvanceReqRepeat h.sc s from rfl) hp ?_ (Chip.power_of_assoc (Chip.sendCtl_assoc s.chip h msgAdvanceReq k (s.chip.ctlSecret h))) rfl
  refine (Chip.onChan_of_chan hchan _).trans ?_
  rw [hadv]
  dsimp only
  rw [if_pos (by rw [htx, hfw]; rfl)]

end

theorem controlMessagesRule_holds : controlMessagesRule := by
  intro s p m hpow hp hhears
  have hheard : (s.chip.heardFrom p m).assoc = s.chip.assoc := Chip.heardFrom_assoc
  have hrun := Chip.scRun_of_scs (Chip.scs_of_assoc hheard)
  have hsecret (g : Nat) : (s.chip.heardFrom p m).secretAt p g = s.chip.secretAt p g := by
    rw [Chip.secretAt, Chip.link_of_assoc hheard, Chip.secretAt]
  refine ⟨fun hbad => ?_, fun hbad => ?_, fun hbad => ?_, fun hden => ?_, fun h hfind => ?_, fun h hfind => ?_,
    fun hmac hlen htype hver hfrom hfresh htag hidx hmine hsome => ?_, fun h hchan hport => ?_⟩
  · exact goes_ctlDropped (guard := fun c => c.hears p) (f := fun c => c.onControl p msgRxReady m) rfl (decide_eq_true hp) hpow hhears
      (Chip.onControl_of_bad hbad)
  · exact goes_ctlDropped (guard := fun c => c.hears p) (f := fun c => c.onControl p msgTxSwitched m) rfl (decide_eq_true hp) hpow hhears
      (Chip.onControl_of_bad hbad)
  · exact goes_ctlDropped (guard := fun c => c.hears p) (f := fun c => c.onControl p msgAdvanceReq m) rfl (decide_eq_true hp) hpow hhears
      (Chip.onControl_of_bad hbad)
  · refine goes_ctlDropped (guard := fun c => c.hears p) (f := fun c => c.onAdopt p m) rfl (decide_eq_true hp) hpow hhears ?_
    unfold Chip.onAdopt
    dsimp only
    rw [if_pos (by rw [hden]; rfl)]
  · intro x hok hon hnew hawait hkey
    have hport := Chip.port_of_find hfind
    subst hport
    refine goes_guarded_powered (guard := fun c => c.hears h.port) (f := fun c => c.onControl h.port msgRxReady m) rfl (decide_eq_true hp) hpow
      hhears ?_
    rw [Chip.onControl_of_ok (type := msgRxReady) hfind hok, if_pos rfl]
    exact Chip.onReady_shows (by rwa [hrun]) (by rwa [hrun]) (by rwa [hrun]) (by rwa [hrun, hsecret])
  · have hport := Chip.port_of_find hfind
    have hrx : h.tx = false := by simpa using List.find?_some hfind
    subst hport
    refine ⟨fun old hok hret hnew => ?_, fun hok hon hnext hdue hkey => ?_⟩
    · refine goes_guarded_powered (guard := fun c => c.hears h.port) (f := fun c => c.onControl h.port msgTxSwitched m) rfl (decide_eq_true hp)
        hpow hhears ?_
      rw [Chip.onControl_of_ok (type := msgTxSwitched) hfind hok, if_neg (by decide), if_pos rfl, ← hrun]
      exact Chip.proof_shows hrx (by rwa [hrun]) hnew
    · refine goes_guarded_powered (guard := fun c => c.hears h.port) (f := fun c => c.onControl h.port msgAdvanceReq m) rfl (decide_eq_true hp)
        hpow hhears ?_
      rw [Chip.onControl_of_ok (type := msgAdvanceReq) hfind hok, if_neg (by decide), if_neg (by decide), ← hrun]
      exact Chip.onAdvance_shows (by rwa [hrun]) (by rwa [hrun]) (by rwa [hrun]) (by rwa [hrun, hsecret])
  · exact goes_adopt hp hhears hmac hlen htype hver hfrom hfresh htag hidx hmine hsome
  · subst hport
    refine ⟨fun k hrx hawait hdue hfw => ?_, fun htx hleft hfw => ?_, fun k htx hadv hfw => ?_, fun hsame => ?_, fun htx hawait hlate => ?_,
      fun old hrx hproof hret => ?_⟩
    · exact goes_rxReadyRepeat hpow hchan hrx hawait hdue hfw
    · exact goes_txSwitchedRepeat hpow hchan htx hleft hfw
    · exact goes_advanceReqRepeat hpow hchan htx hadv hfw
    · refine goes_act_of_eq (d := s.chip) (show exec (.confirmLate h.sc) s = execConfirmLate h.sc s from rfl) hpow ?_ rfl rfl
      refine (Chip.onChan_of_chan hchan _).trans ?_
      dsimp only
      rw [if_neg (by simp [hsame])]
    · obtain ⟨hx, hcount, hsas, hwords⟩ := s.chip.late_shows h
        { s.chip.scRun h.sc with late := true, lateFor := (s.chip.scRun h.sc).await } (pipeOf h.port)
      refine goes_act_of_eq (show exec (.confirmLate h.sc) s = execConfirmLate h.sc s from rfl) hpow ?_ ?_ ⟨congrArg ScRun.late hx, congrArg ScRun.lateFor hx, hcount, hsas, hwords⟩
      · refine (Chip.onChan_of_chan hchan _).trans ?_
        dsimp only
        rw [if_pos (by simp [htx, hawait, hlate])]
      · rw [Chip.bump_power, Chip.attn_power, Chip.setSc_power]
    · obtain ⟨hpower, hgone, hcount⟩ := s.chip.forced_shows h hp (by rw [hret]; rfl)
      refine goes_act_of_eq (show exec (.forcedRetire h.sc) s = execForcedRetire h.sc s from rfl) hpow ?_ hpower ⟨hgone, hcount⟩
      refine (Chip.onChan_of_chan hchan _).trans ?_
      dsimp only
      rw [if_neg (by simp [hrx, hproof]), hret]

/-- Settles O40, by the rules of the key schedule's steps (R258, R259, R264) and of the messages between the ends of a channel (R265, R271,
R277). Which secret keys a message and who its sender is are the model's reading (log entry 30), and so are the states of a channel between
its steps, with a current SA that is not loaded over (log entry 39), the ADOPT of a Denast port that is discarded (log entry 40), the reports
that count once (log entry 60), and the mode of a switch (log entry 64). -/
theorem keyScheduleSteps : Obligations.KeyScheduleSteps := ⟨keyStepsRule_holds, controlMessagesRule_holds⟩

end Sys2Proof.Machine
end

section
/-! PROOFS of the family of secure channels, O41 and O54, first part: the steps of an agreement on a Denast port (R267 to R272). -/

namespace Sys2Proof.Machine

/-! ## Where an agreement stands -/

section
variable (c : Chip) (p : Nat)

theorem Chip.setLink_link (f : Link → Link) : ((c.setLink p f).port p).link = f (c.port p).link := by
  rw [Chip.setLink, Chip.port_setPort_same]

theorem Chip.setLink_partner (f : Link → Link) : ((c.setLink p f).port p).partner = (c.port p).partner := by
  rw [Chip.setLink, Chip.port_setPort_same]

theorem Chip.kaStep_link (k : KaStep) : ((c.kaStep p k).port p).link = { (c.port p).link with step := k } :=
  (Chip.setLink_link c p (fun l => { l with step := k }) :)

theorem Chip.wr_port (f : Fld) (v : Nat) : (c.wr f v).port p = c.port p := rfl

theorem Chip.emit_port (o : Out) : (c.emit o).port p = c.port p := rfl

theorem Chip.emit_flag (o : Out) (f : Fld) : (c.emit o).flag f = c.flag f := rfl

theorem Chip.setLink_out (f : Link → Link) : (c.setLink p f).out = c.out := rfl

theorem Chip.kaStep_out (k : KaStep) : (c.kaStep p k).out = c.out := rfl

theorem Chip.kaStep_agreeing (k : KaStep) :
    (c.kaStep p k).flag (F.SAS_LINK_STATUS_agreeing p) = (k == .offered || k == .accepted || k == .finished) :=
  Chip.flag_wrb_same _ _ _ rfl rfl

theorem Chip.kaStep_word (k : KaStep) {a : Nat} (ha : a ≠ R.SAS_LINK_STATUS p) : (c.kaStep p k).word a = c.word a := by
  rw [Chip.kaStep, Chip.wrb, Chip.word_wr_other _ _ _ _ ha]
  exact Chip.word_setPort _ _ _ _

theorem Chip.kaStep_lastReject (k : KaStep) :
    (c.kaStep p k).rd (F.SAS_LINK_STATUS_last_reject p) = c.rd (F.SAS_LINK_STATUS_last_reject p) := by
  rw [Chip.kaStep, Chip.wrb, Chip.rd_wr_clears _ _ _ _ rfl rfl]
  exact Chip.rd_of_word (Chip.word_setPort _ _ _ _)

/-! ## An agreement that fails -/

/-- Between `c` and `d` the agreement of a port has stopped, and counts as a failure. -/
def Chip.kaStopped (c d : Chip) : Prop :=
  (d.port p).link.step = (if c.initiates p then .backoff else .idle) ∧ (d.port p).link.fails = (c.port p).link.fails + 1 ∧
    d.word (R.SAS_KA_FAIL p) = c.word (R.SAS_KA_FAIL p) + 1 ∧ d.flag (F.SAS_LINK_STATUS_agreeing p) = false

theorem kaFail_ne_status : R.SAS_KA_FAIL p ≠ R.SAS_LINK_STATUS p := by
  simp only [R.SAS_KA_FAIL, R.SAS_LINK_STATUS]
  omega

/-- What decides how a failed agreement is noted: who initiates, the failures in a row, and their count. -/
def Chip.kaView (c : Chip) : Bool × Nat × W32 := (c.initiates p, (c.port p).link.fails, c.word (R.SAS_KA_FAIL p))

theorem Chip.kaStopped_kaFailed : Chip.kaStopped p c (c.kaFailed p) := by
  have hinit : (((c.bump (R.SAS_KA_FAIL p)).setLink p fun l => { l with fails := l.fails + 1, fresh := [] })).initiates p = c.initiates p := by
    rw [Chip.initiates, Chip.setLink_partner]
    rfl
  unfold Chip.kaFailed
  dsimp only
  rw [hinit]
  refine ⟨?_, ?_, ?_, ?_⟩
  · rw [Chip.kaStep_link]
  · rw [Chip.kaStep_link, Chip.setLink_link]
    rfl
  · rw [Chip.kaStep_word _ _ _ (kaFail_ne_status p), Chip.setLink, Chip.word_setPort, Chip.word_bump_same]
  · rw [Chip.kaStep_agreeing]
    split <;> rfl

theorem Chip.kaFailed_lastReject : (c.kaFailed p).rd (F.SAS_LINK_STATUS_last_reject p) = c.rd (F.SAS_LINK_STATUS_last_reject p) := by
  unfold Chip.kaFailed
  dsimp only
  rw [Chip.kaStep_lastReject, Chip.setLink]
  exact (Chip.rd_of_word (Chip.word_setPort _ _ _ _)).trans (Chip.rd_bump_other _ _ _ (kaFail_ne_status p).symm)

/-- A stop is one of an earlier part too, when nothing between them changed what it is noted by. -/
theorem Chip.kaStopped_since {c d e : Chip} {p : Nat} (h : d.kaView p = c.kaView p) (hstopped : Chip.kaStopped p d e) : Chip.kaStopped p c e := by
  simp only [Chip.kaView, Prod.mk.injEq] at h
  obtain ⟨hinit, hfails, hcount⟩ := h
  rwa [Chip.kaStopped, hinit, hfails, hcount] at hstopped

theorem Chip.kaStopped_of_kaView {c d : Chip} {p : Nat} (h : d.kaView p = c.kaView p) : Chip.kaStopped p c (d.kaFailed p) :=
  Chip.kaStopped_since h (Chip.kaStopped_kaFailed d p)

end

/-! ## Messages on a Denast port (R79) -/

/-- A Denast port of a part that is not in halt. -/
def Chip.speaks (c : Chip) (p : Nat) : Prop := c.isDenast p = true ∧ c.halted = false

section
variable {c : Chip} {p : Nat}

theorem Chip.speaks_of_words {d : Chip} (hcfg : d.word (R.PRT_CFG p) = c.word (R.PRT_CFG p)) (hhalt : d.word R.MGT_HALT = c.word R.MGT_HALT)
    (h : c.speaks p) : d.speaks p := by
  obtain ⟨hden, hrun⟩ := h
  refine ⟨(Chip.isDenast_of_word hcfg).trans hden, ?_⟩
  rw [Chip.halted, Chip.flag_of_word hhalt]
  exact hrun

/-- A register of the configuration of ports and of halt is none of those that agreements write. -/
theorem ne_sas_of_cfg {a : Nat} (ha : a = R.PRT_CFG p ∨ a = R.MGT_HALT) (hp : p < 96) :
    a ≠ R.SAS_LINK_STATUS p ∧ a ≠ R.SAS_KA_FAIL p ∧ a ≠ R.HST_ATTN := by
  obtain rfl | rfl := ha <;> simp only [R.PRT_CFG, R.MGT_HALT, R.SAS_LINK_STATUS, R.SAS_KA_FAIL, R.HST_ATTN] <;> omega

/-- A message is one container. -/
theorem Chip.sendLink_eq (h : c.speaks p) (m : Bytes) :
    c.sendLink p m = c.emit (.container p 2 (denMask (coreHeader 2) ++ controlBytes m)) := by
  obtain ⟨hden, hrun⟩ := h
  rw [Chip.sendLink, if_pos hden, Chip.sendControl, if_neg (by simp [hrun]), Chip.sendContainer]

theorem Chip.sendControl_eq (h : c.speaks p) (m : Bytes) : c.sendControl p m = c.sendLink p m := by
  rw [Chip.sendLink, if_pos h.1]

/-- A KA_REJECT shows its reason, and the agreement has failed. -/
theorem Chip.kaReject_shows (h : c.speaks p) (session : Nat) {reason : Nat} (hr : reason < 256) :
    Chip.kaStopped p c (c.kaReject p session reason) ∧ (c.kaReject p session reason).rd (F.SAS_LINK_STATUS_last_reject p) = reason := by
  unfold Chip.kaReject
  dsimp only
  rw [Chip.sendLink_eq h]
  refine ⟨Chip.kaStopped_of_kaView ?_, ?_⟩
  · rw [Chip.kaView, Chip.word_wr_other _ _ _ _ (kaFail_ne_status p)]
    rfl
  · rw [Chip.kaFailed_lastReject, Chip.rd_wr_same _ _ _ rfl]
    exact Nat.mod_eq_of_lt hr

end

/-! ## Random bytes and jobs (R270, R328) -/

/-- The part once firmware has drawn random bytes and submitted jobs. -/
def Chip.drawn (c : Chip) (k : Pke) : Chip := { c with free := c.free + 1, pke := k }

section
variable (c : Chip) (n p : Nat)

theorem Chip.fwJobs_drawn (port : Option Nat) (l : List PkeJob) : ∃ k, (c.random n).2.fwJobs port l = c.drawn k :=
  ⟨_, Chip.fwJobs_eq _ _ _⟩

@[simp] theorem Chip.random_port : (c.random n).2.port p = c.port p := rfl

@[simp] theorem Chip.random_ephemeral (session : Nat) (r : Bytes) : (c.random n).2.ephemeral p session r = c.ephemeral p session r := rfl

@[simp] theorem Chip.random_agreeHead (type session : Nat) (fresh : Bool) (nonce ecdh kem : Bytes) :
    (c.random n).2.agreeHead p type session fresh nonce ecdh kem = c.agreeHead p type session fresh nonce ecdh kem := rfl

@[simp] theorem Chip.random_agreeSign (msg rnd : Bytes) : (c.random n).2.agreeSign msg rnd = c.agreeSign msg rnd := rfl

theorem Chip.drawn_out (k : Pke) : (c.drawn k).out = c.out := rfl

theorem Chip.drawn_kaView (k : Pke) : (c.drawn k).kaView p = c.kaView p := rfl

end

section
variable {c : Chip} {p : Nat}

theorem Chip.drawn_speaks (h : c.speaks p) (k : Pke) : (c.drawn k).speaks p := h

theorem Chip.setLink_speaks (h : c.speaks p) (f : Link → Link) : (c.setLink p f).speaks p := h

theorem Chip.kaStep_speaks (hp : p < 96) (h : c.speaks p) (k : KaStep) : (c.kaStep p k).speaks p :=
  Chip.speaks_of_words (Chip.kaStep_word _ _ _ (ne_sas_of_cfg (.inl rfl) hp).1) (Chip.kaStep_word _ _ _ (ne_sas_of_cfg (.inr rfl) hp).1) h

/-- An agreement takes a step, and its message is sent. -/
def Chip.stepSent (c : Chip) (p : Nat) (f : Link → Link) (k : KaStep) (body : Bytes) : Chip := ((c.setLink p f).kaStep p k).sendLink p body

theorem Chip.stepSent_shows (hp : p < 96) (h : c.speaks p) (f : Link → Link) (k : KaStep) (body : Bytes) :
    ((c.stepSent p f k body).port p).link = { f (c.port p).link with step := k } ∧
      (c.stepSent p f k body).flag (F.SAS_LINK_STATUS_agreeing p) = (k == .offered || k == .accepted || k == .finished) ∧
      (c.stepSent p f k body).out.length = c.out.length + 1 := by
  unfold Chip.stepSent
  rw [Chip.sendLink_eq (Chip.kaStep_speaks hp (Chip.setLink_speaks h f) k), Chip.emit_port, Chip.emit_flag, Chip.emit_out, Chip.kaStep_link,
    Chip.setLink_link, Chip.kaStep_agreeing, Chip.kaStep_out, Chip.setLink_out]
  exact ⟨rfl, rfl, List.length_append⟩

/-- The responder accepts, and its KA_ACCEPT is sent. -/
def Chip.acceptSent (c : Chip) (p : Nat) (f : Link → Link) (body : Bytes) : Chip :=
  (((c.setLink p f).kaStep p .accepted).wr (F.SAS_LINK_STATUS_initiator p) 0).sendLink p body

theorem Chip.acceptSent_shows (hp : p < 96) (h : c.speaks p) (f : Link → Link) (body : Bytes) :
    ((c.acceptSent p f body).port p).link = { f (c.port p).link with step := .accepted } ∧
      (c.acceptSent p f body).flag (F.SAS_LINK_STATUS_agreeing p) = true ∧
      (c.acceptSent p f body).flag (F.SAS_LINK_STATUS_initiator p) = false ∧ (c.acceptSent p f body).out = (c.sendControl p body).out := by
  have hspeaks : (((c.setLink p f).kaStep p .accepted).wr (F.SAS_LINK_STATUS_initiator p) 0).speaks p :=
    Chip.speaks_of_words (Chip.word_wr_other _ _ _ _ (ne_sas_of_cfg (.inl rfl) hp).1)
      (Chip.word_wr_other _ _ _ _ (ne_sas_of_cfg (.inr rfl) hp).1) (Chip.kaStep_speaks hp (Chip.setLink_speaks h f) _)
  have hresponds (d : Chip) : (d.wr (F.SAS_LINK_STATUS_initiator p) 0).flag (F.SAS_LINK_STATUS_initiator p) = false := by
    rw [Chip.flag, Chip.rd_wr_same _ _ _ rfl]
    rfl
  unfold Chip.acceptSent
  rw [Chip.sendLink_eq hspeaks, Chip.sendControl_eq h, Chip.sendLink_eq h, Chip.emit_port, Chip.emit_flag, Chip.emit_flag, Chip.emit_out,
    Chip.emit_out, Chip.wr_port, Chip.wr_out, Chip.kaStep_link, Chip.setLink_link, Chip.kaStep_out, Chip.setLink_out, hresponds,
    Chip.flag_wr_clears _ _ _ _ rfl rfl, Chip.kaStep_agreeing]
  exact ⟨rfl, rfl, rfl, rfl⟩

end

end Sys2Proof.Machine
end

section
/-! PROOFS of the family of secure channels, O41, second part: offers and accepts of an agreement (R270, R272). -/

namespace Sys2Proof.Machine

/-! ## What an answer to an offer is made of (R270) -/

section
variable (c : Chip) (p : Nat) (m : Bytes)

/-- The responder's random bytes, its ephemeral scalar, and what the jobs of its answer give. -/
def Chip.answerRandom : Bytes := (c.random 1314).1

def Chip.answerScalar : Nat := (c.ephemeral p (be m 20 8) (slice c.answerRandom 32 48)).2

def Chip.answerPoint : Option Bytes := jobOut (fwJob PkeOp.ecPubkey none (toBe (c.answerScalar p m) 48) (slice c.answerRandom 502 390))

def Chip.answerShared : Option Bytes :=
  jobOut (fwJob PkeOp.ecdh none (toBe (c.answerScalar p m) 48 ++ slice m 60 96) (slice c.answerRandom 924 390))

def Chip.answerKem : Bytes := (jobOut (fwJob PkeOp.mlkemEncaps none (slice m 156 1568) (slice c.answerRandom 892 32))).getD []

def Chip.answerHead : Bytes :=
  c.agreeHead p 0x11 (be m 20 8) ((c.port p).link.current == []) (c.answerRandom.take 32) ((c.answerPoint p m).getD []) ((c.answerKem m).take 1568)

def Chip.answerSigns : Option Bytes × List PkeJob :=
  c.agreeSign (ascii "GLEORN-KA-ACCEPT" ++ Config.sha384 (m ++ c.answerHead p m)) (slice c.answerRandom 80 signRnd)

/-- Why an offer fails its checks. -/
def Chip.offerBar : Nat := c.agreeBar p m (ascii "GLEORN-KA-OFFER" ++ Config.sha384 (m.take 3772))

end

section
variable {c : Chip} {p : Nat} {m : Bytes}

/-- A reason of KA_REJECT. -/
theorem Chip.agreeBar_lt (signed : Bytes) : c.agreeBar p m signed < 256 := by
  have hpeer : c.peerBar p (slice m 4 16) ≤ 2 := by
    unfold Chip.peerBar
    split
    · decide
    · split_ifs <;> decide
  unfold Chip.agreeBar
  dsimp only
  split_ifs <;> omega

/-- The version of a message is checked first. -/
theorem Chip.agreeBar_of_version (signed : Bytes) (hver : byteAt m 1 ≠ 1) : c.agreeBar p m signed = 4 := if_pos (by simpa using hver)

/-- A well-formed offer at the responder is rejected when it fails its checks. -/
theorem Chip.onOffer_of_bad (hlen : m.length = 7177) (hresp : c.initiates p = false) {bar : Nat}
    (hbar : (if c.offerBar p m = 0 && !Config.mlkemEkOk (slice m 156 1568) then 5 else c.offerBar p m) = bar) (hbad : bar ≠ 0) :
    c.onOffer p m = (if bar = 6 then c.attn 8 else c).kaReject p (be m 20 8) bar := by
  rw [Chip.offerBar] at hbar
  unfold Chip.onOffer
  dsimp only
  rw [if_neg (by simp [hlen]), if_neg (by simp [hresp]), hbar, if_pos (by simpa using hbad)]

/-- An offer that passes its checks is answered when the jobs give results; else the agreement has failed. -/
theorem Chip.onOffer_of_good (hlen : m.length = 7177) (hresp : c.initiates p = false) (hpke : c.pkeOk = true) (hbar : c.offerBar p m = 0)
    (hek : Config.mlkemEkOk (slice m 156 1568) = true) : ∃ k,
    (∀ b, (c.answerPoint p m).isSome = true → (c.answerShared p m).isSome = true → (c.answerSigns p m).1 = some b →
      ∃ f : Link → Link, (∀ l, (f l).session = be m 20 8) ∧ c.onOffer p m = (c.drawn k).acceptSent p f (c.answerHead p m ++ b)) ∧
    (c.answerPoint p m = none ∨ c.answerShared p m = none ∨ (c.answerSigns p m).1 = none → c.onOffer p m = (c.drawn k).kaFailed p) := by
  rw [Chip.offerBar] at hbar
  unfold Chip.onOffer
  dsimp only
  rw [if_neg (by simp [hlen]), if_neg (by simp [hresp]), hbar, hek, if_neg (by simp), if_neg (by simp [hpke])]
  simp only [Chip.random_ephemeral, Chip.random_agreeHead, Chip.random_agreeSign, Chip.random_port]
  generalize hjobs : (c.random 1314).2.fwJobs (some p) _ = d
  obtain ⟨k, hk⟩ : ∃ k, d = c.drawn k := hjobs ▸ Chip.fwJobs_drawn c 1314 (some p) _
  subst hk
  refine ⟨k, fun b hpoint hshared hsig => ?_, fun hnone => ?_⟩
  · split
    · next _ z sig _ _ hsig' =>
      have hb : sig = b := Option.some.inj (hsig'.symm.trans hsig)
      subst hb
      exact ⟨_, fun _ => rfl, rfl⟩
    · next hfail =>
      obtain ⟨v, hv⟩ := Option.isSome_iff_exists.mp hpoint
      obtain ⟨z, hz⟩ := Option.isSome_iff_exists.mp hshared
      exact absurd hsig (hfail v z b hv hz)
  · split
    · next _ z sig hpoint hshared hsig =>
      obtain hnone | hnone | hnone := hnone
      · exact nomatch hpoint.symm.trans hnone
      · exact nomatch hshared.symm.trans hnone
      · exact nomatch hsig.symm.trans hnone
    · rfl

/-! ## KA_ACCEPT (R272) -/

/-- Why an accept fails its checks. -/
def Chip.acceptBar (c : Chip) (p : Nat) (m : Bytes) : Nat :=
  c.agreeBar p m (ascii "GLEORN-KA-ACCEPT" ++ Config.sha384 ((c.port p).link.offer ++ m.take 3772))

/-- The point that the initiator shares with the responder. -/
def Chip.acceptShared (c : Chip) (p : Nat) (m : Bytes) : Option Bytes :=
  jobOut (fwJob PkeOp.ecdh none (toBe (c.port p).link.ecKey 48 ++ slice m 60 96) (c.random 390).1)

/-- An accept of the session that fails its checks is rejected. -/
theorem Chip.onAccept_of_bad (hlen : m.length = 7177) (hstep : (c.port p).link.step = .offered)
    (hsession : be m 20 8 = (c.port p).link.session) (hbad : c.acceptBar p m ≠ 0) :
    c.onAccept p m = c.kaReject p (c.port p).link.session (c.acceptBar p m) := by
  have hbar : (if c.acceptBar p m = 0 && be m 20 8 != (c.port p).link.session then 3 else c.acceptBar p m) = c.acceptBar p m :=
    if_neg (by simp [hsession])
  unfold Chip.acceptBar at hbar hbad ⊢
  unfold Chip.onAccept
  dsimp only
  rw [if_neg (by simp [hlen, hstep]), hbar, if_pos (by simpa using hbad)]

/-- One that passes them is answered when the jobs give results; else the agreement has failed. -/
theorem Chip.onAccept_of_good (hlen : m.length = 7177) (hstep : (c.port p).link.step = .offered)
    (hsession : be m 20 8 = (c.port p).link.session) (hpke : c.pkeOk = true) (hgood : c.acceptBar p m = 0) : ∃ k,
    ((c.acceptShared p m).isSome = true → ∃ (f : Link → Link) (body : Bytes), (∀ l, (f l).ecKey = 0 ∧ (f l).kemSeed = []) ∧
      c.onAccept p m = (c.drawn k).stepSent p f .finished body) ∧
    (c.acceptShared p m = none → c.onAccept p m = (c.drawn k).kaFailed p) := by
  have hbar : (if c.acceptBar p m = 0 && be m 20 8 != (c.port p).link.session then 3 else c.acceptBar p m) = 0 := by
    rw [if_neg (by simp [hsession]), hgood]
  unfold Chip.acceptBar at hbar
  unfold Chip.onAccept
  dsimp only
  rw [if_neg (by simp [hlen, hstep]), hbar, if_neg (by simp), if_neg (by simp [hpke])]
  generalize hjobs : (c.random 390).2.fwJobs (some p) _ = d
  obtain ⟨k, hk⟩ : ∃ k, d = c.drawn k := hjobs ▸ Chip.fwJobs_drawn c 390 (some p) _
  subst hk
  refine ⟨k, fun hshared => ?_, fun hnone => ?_⟩
  · split
    · next hfail => exact absurd hshared (by rw [Chip.acceptShared, hfail]; decide)
    · exact ⟨_, _, fun _ => ⟨rfl, rfl⟩, rfl⟩
  · split
    · rfl
    · next hshared => exact nomatch hshared.symm.trans hnone

/-! ## Completion (R272, R273) -/

/-- Between `c` and `d` the agreement of a port has completed, and its fresh secret is the current one. -/
def Chip.kaAgreed (p : Nat) (c d : Chip) : Prop :=
  (d.port p).link.step = .idle ∧ (d.port p).link.current = (c.port p).link.fresh ∧ (d.port p).link.fails = 0 ∧
    d.word (R.SAS_KA_OK p) = c.word (R.SAS_KA_OK p) + 1

theorem Chip.rekeyDone_port (c : Chip) (p q : Nat) : (c.rekeyDone p).port q = c.port q := rfl

theorem Chip.rekeyDone_word (c : Chip) (p a : Nat) : (c.rekeyDone p).word a = c.word a := rfl

/-- An agreement whose adoption index is 0 is adopted at once. -/
theorem Chip.kaComplete_shows (hp : p < 96) (hsome : c.epochChans p ≠ []) : Chip.kaAgreed p c (c.kaComplete p 0) := by
  generalize hd : ((c.bump (R.SAS_KA_OK p)).setLink p fun l => { l with fails := 0 }).kaStep p .idle = d
  have hlink : (d.port p).link = { (c.port p).link with fails := 0, step := .idle } := by
    rw [← hd, Chip.kaStep_link, Chip.setLink_link]
    rfl
  have hcount : d.word (R.SAS_KA_OK p) = c.word (R.SAS_KA_OK p) + 1 := by
    rw [← hd, Chip.kaStep_word _ _ _ (by simp only [R.SAS_KA_OK, R.SAS_LINK_STATUS]; omega), Chip.setLink, Chip.word_setPort, Chip.word_bump_same]
  have hchans : d.epochChans p = c.epochChans p := by
    rw [← hd]
    rfl
  obtain ⟨hcur, -, hstep, hfails, hok⟩ := Chip.adoptSecret_now (c := d) hp (by rwa [hchans]) (c.port p).link.fresh
  have heq : c.kaComplete p 0 = (d.adoptSecret p (c.port p).link.fresh 0).rekeyDone p := by rw [← hd, Chip.kaComplete]
  rw [hlink] at hstep hfails
  rw [Chip.kaAgreed, heq, Chip.rekeyDone_port, Chip.rekeyDone_word]
  exact ⟨hstep, hcur, hfails, hok.trans hcount⟩

/-- KA_FINISH of the session at the responder, whose tag is good. -/
theorem Chip.onFinish_of_good (hshape : c.kaShape p 0x12 m = true) (hstep : (c.port p).link.step = .accepted)
    (hsession : be m 20 8 = (c.port p).link.session)
    (htag : finTag (c.port p).link.fresh (c.port p).link.digest (m.take 40) "GLEORN-FIN-I" = m.drop 40) :
    ∃ body, c.onFinish p m = (c.sendLink p body).kaComplete p (be m 28 8) := by
  unfold Chip.onFinish
  dsimp only
  rw [if_neg (by simp [hshape, hstep, hsession]), if_neg (by simp [htag])]
  exact ⟨_, rfl⟩

/-- KA_DONE of the session at the initiator, whose tag is good. -/
theorem Chip.onDone_of_good (hshape : c.kaShape p 0x13 m = true) (hstep : (c.port p).link.step = .finished)
    (hsession : be m 20 8 = (c.port p).link.session)
    (htag : finTag (c.port p).link.fresh (c.port p).link.digest (m.take 40) "GLEORN-FIN-R" = m.drop 40) :
    c.onDone p m = c.kaComplete p (c.port p).link.adopt := by
  unfold Chip.onDone
  dsimp only
  rw [if_neg (by simp [hshape, hstep, hsession]), if_neg (by simp [htag])]

/-- A message leaves what an agreement completes with. -/
theorem Chip.kaAgreed_of_assoc {d e : Chip} (hp : p < 96) (hassoc : d.assoc = c.assoc) (h : Chip.kaAgreed p d e) : Chip.kaAgreed p c e := by
  rwa [Chip.kaAgreed, Chip.link_of_assoc hassoc, Chip.word_of_words (Chip.words_of_assoc hassoc) (counted_kaOk hp)] at h

end

end Sys2Proof.Machine
end

section
/-! PROOFS of the family of secure channels, O41 and O54: a new agreement leaves main power and the registers of the mailboxes alone
(R268, R274, R276). -/

namespace Sys2Proof.Machine

/-! ## Main power and the registers of the mailboxes -/

/-- Main power, and the registers up to the mailboxes' own. -/
def Chip.lowView (c : Chip) : Bool × (Nat → W32) := (c.power, fun a => if a < 0x204 then c.word a else 0)

section
variable {c d : Chip}

theorem Chip.power_of_lowView (h : d.lowView = c.lowView) : d.power = c.power := congrArg Prod.fst h

theorem Chip.word_of_lowView (h : d.lowView = c.lowView) {a : Nat} (ha : a < 0x204) : d.word a = c.word a := by
  have hword := congrFun (congrArg Prod.snd h) a
  simpa only [Chip.lowView, if_pos ha] using hword

theorem Chip.lowView_of_word (hpow : d.power = c.power) (hword : ∀ a < 0x204, d.word a = c.word a) : d.lowView = c.lowView := by
  rw [Chip.lowView, Chip.lowView, hpow]
  congr 1
  funext a
  split
  · next ha => exact hword a ha
  · rfl

theorem Chip.lowView_of_words (hpow : d.power = c.power) (hwords : d.assoc.words = c.assoc.words) : d.lowView = c.lowView :=
  Chip.lowView_of_word hpow fun _ ha => Chip.word_of_words hwords (.inl ha)

theorem Chip.lowView_of_assoc (h : d.assoc = c.assoc) : d.lowView = c.lowView :=
  Chip.lowView_of_words (Chip.power_of_assoc h) (Chip.words_of_assoc h)

end

section
variable (c : Chip) (p : Nat)

theorem Chip.setWord_lowView {a : Nat} (ha : 0x204 ≤ a) (w : W32) : (c.setWord a w).lowView = c.lowView :=
  Chip.lowView_of_word rfl fun _ hb => Chip.word_setWord_other _ _ _ _ (by omega)

theorem Chip.wr_lowView {f : Fld} (hf : 0x204 ≤ f.reg) (v : Nat) : (c.wr f v).lowView = c.lowView := Chip.setWord_lowView c hf _

theorem Chip.bump_lowView {a : Nat} (ha : 0x204 ≤ a) : (c.bump a).lowView = c.lowView := Chip.setWord_lowView c ha _

/-- A register of the block SAS. -/
theorem sas_high {b n : Nat} (hb : 0x204 ≤ b) : 0x204 ≤ b + n := Nat.le_add_right_of_le hb

@[simp] theorem Chip.setLink_lowView (f : Link → Link) : (c.setLink p f).lowView = c.lowView := rfl

@[simp] theorem Chip.setSa_lowView (i : Nat) (x : Sa) : (c.setSa i x).lowView = c.lowView := rfl

@[simp] theorem Chip.random_lowView (n : Nat) : (c.random n).2.lowView = c.lowView := rfl

@[simp] theorem Chip.drawn_lowView (k : Pke) : (c.drawn k).lowView = c.lowView := rfl

@[simp] theorem Chip.sendLink_lowView (m : Bytes) : (c.sendLink p m).lowView = c.lowView := Chip.lowView_of_assoc (Chip.sendLink_assoc _ _ _)

@[simp] theorem Chip.kaStep_lowView (k : KaStep) : (c.kaStep p k).lowView = c.lowView := Chip.wr_lowView _ (sas_high (by decide)) _

@[simp] theorem Chip.kaFailed_lowView : (c.kaFailed p).lowView = c.lowView := by
  have hcount : (c.bump (R.SAS_KA_FAIL p)).lowView = c.lowView := Chip.bump_lowView c (sas_high (by decide))
  unfold Chip.kaFailed
  dsimp only
  rw [Chip.kaStep_lowView, Chip.setLink_lowView, hcount]

@[simp] theorem Chip.kaReject_lowView (session reason : Nat) : (c.kaReject p session reason).lowView = c.lowView := by
  unfold Chip.kaReject
  dsimp only
  rw [Chip.kaFailed_lowView, Chip.wr_lowView (f := F.SAS_LINK_STATUS_last_reject p) _ (sas_high (by decide)), Chip.sendLink_lowView]

@[simp] theorem Chip.fwJobs_lowView (port : Option Nat) (l : List PkeJob) : (c.fwJobs port l).lowView = c.lowView := by
  rw [Chip.fwJobs_eq]
  rfl

@[simp] theorem Chip.kaOffer_lowView : (c.kaOffer p).lowView = c.lowView := by
  unfold Chip.kaOffer
  dsimp only
  split
  · simp
  · split <;> simp

/-! ## New SAKs (R276) -/

@[simp] theorem Chip.setMka_lowView (f : Mka → Mka) : (c.setMka p f).lowView = c.lowView := rfl

theorem Chip.sendMkpdu_assoc : (c.sendMkpdu p).assoc = c.assoc := by
  unfold Chip.sendMkpdu
  split <;> simp

@[simp] theorem Chip.installSak_lowView (k : Sak) : (c.installSak p k).lowView = c.lowView := by
  unfold Chip.installSak
  dsimp only
  split
  · rfl
  · exact (Chip.setMka_lowView _ _ _).trans (foldl_keeps (view := Chip.lowView) (fun _ _ => Chip.setSa_lowView _ _ _) _ c)

@[simp] theorem Chip.takeSak_lowView (k : Sak) (mi : Bytes) (mine : Bool) : (c.takeSak p k mi mine).lowView = c.lowView := by
  unfold Chip.takeSak
  dsimp only
  split
  · rfl
  · simp

@[simp] theorem Chip.newSak_lowView : (c.newSak p).lowView = c.lowView := by
  unfold Chip.newSak
  split
  · rfl
  · dsimp only
    rw [Chip.lowView_of_assoc (Chip.sendMkpdu_assoc _ _), Chip.takeSak_lowView, Chip.random_lowView]

/-! ## New agreements (R268, R274) -/

theorem Chip.kaStart_power : (c.kaStart p).power = c.power := by
  have hshown (on : Bool) : (c.wrb (F.SAS_LINK_STATUS_initiator p) on).lowView = c.lowView := Chip.wr_lowView c (sas_high (by decide)) _
  unfold Chip.kaStart
  split
  · rfl
  · dsimp only
    split_ifs
    · rfl
    · exact Chip.attn_power _ _
    all_goals exact Chip.power_of_lowView (by simp [hshown])

theorem Chip.agreeAnew_power : (c.agreeAnew p).power = c.power := by
  unfold Chip.agreeAnew
  split_ifs
  · rfl
  · exact Chip.kaStart_power c p
  · rfl
  · exact Chip.power_of_lowView (Chip.newSak_lowView c p)
  · rfl

end

end Sys2Proof.Machine
end

section
/-! PROOFS of the family of secure channels, O41, last part: a hold that expires (R279), and the obligation. -/

namespace Sys2Proof.Machine

/-! ## A hold that expires (R279) -/

/-- What each step of a fold brings about for its entry, and no step undoes, holds of every entry after it. -/
theorem foldl_brings {σ α : Type} {g : σ → α → σ} {Q : σ → α → Prop} {l : List α} (hdone : ∀ d, ∀ x ∈ l, Q (g d x) x)
    (hkept : ∀ d x y, Q d y → Q (g d x) y) (s : σ) : ∀ x ∈ l, Q (l.foldl g s) x := by
  have hstays (l : List α) (y : α) (d : σ) (hd : Q d y) : Q (l.foldl g d) y := by
    induction l generalizing d with
    | nil => exact hd
    | cons x l ih => exact ih _ (hkept d x y hd)
  induction l generalizing s with
  | nil => exact fun x hx => nomatch hx
  | cons x l ih =>
    intro y hy
    obtain rfl | hy := List.mem_cons.mp hy
    · exact hstays l y _ (hdone s y List.mem_cons_self)
    · exact ih (fun d z hz => hdone d z (List.mem_cons_of_mem x hz)) _ y hy

/-- A port without secrets, which nothing holds. -/
def Chip.unheld (p : Nat) (c : Chip) : Prop :=
  (c.port p).link.current = [] ∧ (c.port p).link.pending = [] ∧ c.flag (F.SAS_LINK_STATUS_holding p) = false

section
variable {c d : Chip} {p : Nat}

/-- The fields of SAS_LINK_STATUS above `secret` are watched. -/
theorem Chip.status_of_words (hp : p < 96) (h : d.assoc.words = c.assoc.words) {f : Fld} (hreg : f.reg = R.SAS_LINK_STATUS p) (hlo : 2 ≤ f.lo) :
    d.flag f = c.flag f := by
  have hword : watchedWord f.reg (d.word f.reg) = watchedWord f.reg (c.word f.reg) := congrFun h _
  have haddr : f.reg = 0xF000 + 0x20 * p := hreg
  have hlow : ¬ (f.reg < 0x204 ∨ (0xE000 ≤ f.reg ∧ f.reg < 0x10000 ∧ 16 ≤ f.reg % 32)) := by omega
  have hstatus : 0xF000 ≤ f.reg ∧ f.reg < 0x10000 ∧ f.reg % 32 = 0 := by omega
  rw [watchedWord, watchedWord, if_neg hlow, if_neg hlow, if_pos hstatus, if_pos hstatus] at hword
  have hfield (w : W32) : f.get w = bits (w >>> 2).toNat (f.lo - 2) f.w := by
    rw [Fld.get, bits, bits, BitVec.toNat_ushiftRight, Nat.shiftRight_eq_div_pow, Nat.div_div_eq_div_mul, ← pow_add, Nat.add_sub_cancel' hlo]
  rw [Chip.flag, Chip.rd, hfield, hword, Chip.flag, Chip.rd, hfield]

theorem Chip.holding_of_words (hp : p < 96) (h : d.assoc.words = c.assoc.words) :
    d.flag (F.SAS_LINK_STATUS_holding p) = c.flag (F.SAS_LINK_STATUS_holding p) := Chip.status_of_words hp h rfl (by decide : 2 ≤ 4)

theorem Chip.unheld_of_assoc (hp : p < 96) (hassoc : d.assoc = c.assoc) (h : c.unheld p) : d.unheld p := by
  rwa [Chip.unheld, Chip.link_of_assoc hassoc, Chip.holding_of_words hp (Chip.words_of_assoc hassoc)]

/-- Settling the link of such a port leaves it without secrets. -/
theorem Chip.unheld_settleLink (hp : p < 96) (h : c.unheld p) : (c.settleLink p).unheld p := by
  obtain ⟨hcur, hpend, hheld⟩ := h
  obtain ⟨hcur', hpend'⟩ := c.settledLink_of_none hcur hpend
  have hwords : (c.settleLink p).assoc.words = c.assoc.words := (congrArg Assoc.words (c.settleLink_assoc p) :)
  rw [Chip.unheld, Chip.settleLink_link, Chip.holding_of_words hp hwords]
  exact ⟨hcur', hpend', hheld⟩

theorem Chip.unheld_retireWhenDone (hp : p < 96) (i : Nat) (h : c.unheld p) : (c.retireWhenDone p i).unheld p := by
  obtain ⟨-, heq⟩ | ⟨-, -, heq⟩ | ⟨-, -, d, hd, heq⟩ := c.retireWhenDone_cases p i
  · rwa [heq]
  · exact Chip.unheld_of_assoc hp heq h
  · rw [heq]
    exact Chip.unheld_settleLink hp (Chip.unheld_of_assoc hp hd h)

end

/-- The SAs of a channel are retired and its run forgotten, with its epoch keys. -/
def Chip.chanForgotten (p : Nat) (c : Chip) (h : Chan) : Chip :=
  ((h.sas.foldl (fun c i => c.retireWhenDone p i) c).setSc h.sc {}).keepEpochs (fun k => k / 2 ^ 64 != h.sc)

theorem Chip.unheld_chanForgotten {c : Chip} {p : Nat} (hp : p < 96) (h : Chan) (hc : c.unheld p) : (c.chanForgotten p h).unheld p := by
  have hsas (l : List Nat) (d : Chip) (hd : d.unheld p) : (l.foldl (fun c i => c.retireWhenDone p i) d).unheld p := by
    induction l generalizing d with
    | nil => exact hd
    | cons i l ih => exact ih _ (Chip.unheld_retireWhenDone hp i hd)
  exact Chip.unheld_of_assoc hp (Chip.keepEpochs_assoc _ _) (hsas h.sas c hc)

theorem Chip.scRun_chanForgotten (c : Chip) (p : Nat) (h : Chan) (sc : Nat) :
    (c.chanForgotten p h).scRun sc = if sc = h.sc then {} else c.scRun sc := by
  have hstill : (h.sas.foldl (fun c i => c.retireWhenDone p i) c).assoc.still = c.assoc.still :=
    foldl_keeps (view := fun d : Chip => d.assoc.still) (fun _ _ => Chip.retireWhenDone_still _ _ _) _ c
  rw [Chip.chanForgotten, Chip.scRun_of_scs (Chip.scs_of_assoc (Chip.keepEpochs_assoc _ _)), Chip.scRun_setSc, Chip.scRun_of_still hstill]

/-- When the hold has passed, the port has no secrets, and its channels have forgotten their epochs. -/
theorem Chip.expireHold_shows {c : Chip} {p : Nat} (hp : p < 96) :
    (c.expireHold p).unheld p ∧ ∀ h ∈ c.epochChans p, (c.expireHold p).scRun h.sc = {} := by
  generalize hd : (c.wr (F.SAS_LINK_STATUS_holding p) 0).setPort p
    { c.port p with link := { (c.port p).link with current := [], pending := [], fresh := [], adoptAt := 0, peer := [] } } = d
  have heq : c.expireHold p = ((c.epochChans p).foldl (Chip.chanForgotten p) d).settleLink p := by
    rw [← hd]
    rfl
  have hunheld : d.unheld p := by
    have hflag : d.flag (F.SAS_LINK_STATUS_holding p) = false := by
      rw [← hd, Chip.flag_of_word (Chip.word_setPort _ _ _ _), Chip.flag, Chip.rd_wr_same _ _ _ rfl]
      rfl
    have hlink : (d.port p).link = { (c.port p).link with current := [], pending := [], fresh := [], adoptAt := 0, peer := [] } := by
      rw [← hd, Chip.port_setPort_same]
    rw [Chip.unheld, hlink]
    exact ⟨rfl, rfl, hflag⟩
  have hfold (l : List Chan) (d : Chip) (hd : d.unheld p) : (l.foldl (Chip.chanForgotten p) d).unheld p := by
    induction l generalizing d with
    | nil => exact hd
    | cons h l ih => exact ih _ (Chip.unheld_chanForgotten hp h hd)
  rw [heq]
  refine ⟨Chip.unheld_settleLink hp (hfold _ d hunheld), fun h hmem => ?_⟩
  rw [Chip.scRun_of_scs (Chip.settleLink_scs _ p)]
  refine foldl_brings (g := Chip.chanForgotten p) (Q := fun d h => d.scRun h.sc = {}) (fun d x _ => ?_) (fun d x y hy => ?_) d h hmem
  · rw [Chip.scRun_chanForgotten, if_pos rfl]
  · rw [Chip.scRun_chanForgotten, hy, ite_self]

/-! ## The rule of agreements -/

section
variable {s : State} {p : Nat} {m : Bytes}

/-- The part hears a Denast port. -/
def Chip.hearsDenast (p : Nat) (c : Chip) : Bool := c.hears p && c.isDenast p

theorem Chip.speaks_of_hearsDenast {c : Chip} (h : c.hearsDenast p = true) : c.speaks p := by
  simp only [Chip.hearsDenast, Bool.and_eq_true] at h
  obtain ⟨hhears, hden⟩ := h
  exact ⟨hden, Chip.not_halted_of_running (Chip.running_of_hears hhears)⟩

theorem Chip.power_of_hearsDenast {c : Chip} (h : c.hearsDenast p = true) : c.power = true := by
  simp only [Chip.hearsDenast, Bool.and_eq_true] at h
  exact Chip.power_of_running (Chip.running_of_hears h.1)

theorem Chip.sendControl_out_drawn {c : Chip} (h : c.speaks p) (k : Pke) (body : Bytes) :
    ((c.drawn k).sendControl p body).out = (c.sendControl p body).out := by
  rw [Chip.sendControl_eq h, Chip.sendControl_eq (Chip.drawn_speaks h k), Chip.sendLink_eq h, Chip.sendLink_eq (Chip.drawn_speaks h k), Chip.emit_out,
    Chip.emit_out, Chip.drawn_out]

/-- Between `c` and `d` an offer has been answered, with signatures `b`. -/
def Chip.offerAnswered (p : Nat) (m b : Bytes) (c d : Chip) : Prop :=
  (d.port p).link.step = .accepted ∧ (d.port p).link.session = be m 20 8 ∧ d.flag (F.SAS_LINK_STATUS_agreeing p) = true ∧
    d.flag (F.SAS_LINK_STATUS_initiator p) = false ∧ d.out = (c.sendControl p (c.answerHead p m ++ b)).out

/-- Between `c` and `d` an accept has been answered. -/
def Chip.acceptAnswered (p : Nat) (c d : Chip) : Prop :=
  (d.port p).link.step = .finished ∧ (d.port p).link.ecKey = 0 ∧ (d.port p).link.kemSeed = [] ∧
    d.flag (F.SAS_LINK_STATUS_agreeing p) = true ∧ d.out.length = c.out.length + 1

/-! What is shown does not depend on how main power is written. -/

section
variable {c d : Chip}

theorem Chip.unheld_powered (h : d.unheld p) : ({ d with power := true } : Chip).unheld p := h

theorem Chip.scRun_powered {sc : Nat} {x : ScRun} (h : d.scRun sc = x) : ({ d with power := true } : Chip).scRun sc = x := h

theorem Chip.kaStopped_powered (h : Chip.kaStopped p c d) : Chip.kaStopped p c { d with power := true } := h

theorem Chip.kaAgreed_powered (h : Chip.kaAgreed p c d) : Chip.kaAgreed p c { d with power := true } := h

theorem Chip.offerAnswered_powered {b : Bytes} (h : Chip.offerAnswered p m b c d) : Chip.offerAnswered p m b c { d with power := true } := h

theorem Chip.acceptAnswered_powered (h : Chip.acceptAnswered p c d) : Chip.acceptAnswered p c { d with power := true } := h

end

theorem Chip.onOffer_answered {c : Chip} {b : Bytes} {k : Pke} {f : Link → Link} (hp : p < 96) (hspeaks : c.speaks p)
    (hf : ∀ l, (f l).session = be m 20 8) (hsent : c.onOffer p m = (c.drawn k).acceptSent p f (c.answerHead p m ++ b)) :
    Chip.offerAnswered p m b c (c.onOffer p m) := by
  obtain ⟨hlink, hagrees, hresponds, hout⟩ := Chip.acceptSent_shows hp (Chip.drawn_speaks hspeaks k) f (c.answerHead p m ++ b)
  rw [Chip.offerAnswered, hsent, hlink, hagrees, hresponds, hout, Chip.sendControl_out_drawn hspeaks]
  exact ⟨rfl, hf _, rfl, rfl, rfl⟩

theorem Chip.onAccept_answered {c : Chip} {k : Pke} {f : Link → Link} {body : Bytes} (hp : p < 96) (hspeaks : c.speaks p)
    (hf : ∀ l, (f l).ecKey = 0 ∧ (f l).kemSeed = []) (hsent : c.onAccept p m = (c.drawn k).stepSent p f .finished body) :
    Chip.acceptAnswered p c (c.onAccept p m) := by
  obtain ⟨hlink, hagrees, hout⟩ := Chip.stepSent_shows hp (Chip.drawn_speaks hspeaks k) f .finished body
  rw [Chip.acceptAnswered, hsent, hlink, hagrees, hout, Chip.drawn_out]
  exact ⟨rfl, (hf _).1, (hf _).2, rfl, rfl⟩

theorem Chip.attn_kaView (c : Chip) (hp : p < 96) : (c.attn 8).kaView p = c.kaView p := by
  have hne : R.SAS_KA_FAIL p ≠ R.HST_ATTN := by
    simp only [R.SAS_KA_FAIL, R.HST_ATTN]
    omega
  rw [Chip.kaView, Chip.initiates, Chip.port_of_data (Chip.attn_data _ _), Chip.peerId, Chip.attn_keys, Chip.attn_word _ _ _ hne]
  rfl

/-- An offer at the responder. -/
theorem goes_kaOffer {P : Chip → Prop} (hp : p < 96) (hh : s.chip.hearsDenast p = true) (h : P { s.chip.onOffer p m with power := true }) :
    Goes (.kaOffer p m) s P :=
  goes_guarded_powered (guard := Chip.hearsDenast p) (f := fun c => c.onOffer p m) rfl (decide_eq_true hp) (Chip.power_of_hearsDenast hh) hh h

theorem goes_kaAccept {P : Chip → Prop} (hp : p < 96) (hh : s.chip.hearsDenast p = true) (h : P { s.chip.onAccept p m with power := true }) :
    Goes (.kaAccept p m) s P :=
  goes_guarded_powered (guard := Chip.hearsDenast p) (f := fun c => c.onAccept p m) rfl (decide_eq_true hp) (Chip.power_of_hearsDenast hh) hh h

/-- An offer that fails its checks. -/
theorem goes_kaOffer_bad (hp : p < 96) (hh : s.chip.hearsDenast p = true) (hlen : m.length = 7177) (hresp : s.chip.initiates p = false) {bar : Nat}
    (hbar : (if s.chip.offerBar p m = 0 && !Config.mlkemEkOk (slice m 156 1568) then 5 else s.chip.offerBar p m) = bar) (hbad : bar ≠ 0)
    (hlt : bar < 256) : Goes (.kaOffer p m) s fun c => Chip.kaStopped p s.chip c ∧ c.rd (F.SAS_LINK_STATUS_last_reject p) = bar := by
  have hspeaks := Chip.speaks_of_hearsDenast hh
  refine goes_kaOffer hp hh ?_
  rw [Chip.onOffer_of_bad hlen hresp hbar hbad]
  split
  · have hattn : (s.chip.attn 8).speaks p := Chip.speaks_of_words (Chip.attn_word _ _ _ (ne_sas_of_cfg (.inl rfl) hp).2.2)
      (Chip.attn_word _ _ _ (ne_sas_of_cfg (.inr rfl) hp).2.2) hspeaks
    obtain ⟨hstopped, hreason⟩ := Chip.kaReject_shows hattn (be m 20 8) hlt
    exact ⟨Chip.kaStopped_since (Chip.attn_kaView _ hp) hstopped, hreason⟩
  · exact Chip.kaReject_shows hspeaks _ hlt

/-- An accept of the session that fails its checks. -/
theorem goes_kaAccept_bad (hp : p < 96) (hh : s.chip.hearsDenast p = true) (hlen : m.length = 7177)
    (hstep : (s.chip.port p).link.step = .offered) (hsession : be m 20 8 = (s.chip.port p).link.session) (hbad : s.chip.acceptBar p m ≠ 0) :
    Goes (.kaAccept p m) s fun c => Chip.kaStopped p s.chip c ∧ c.rd (F.SAS_LINK_STATUS_last_reject p) = s.chip.acceptBar p m := by
  refine goes_kaAccept hp hh ?_
  rw [Chip.onAccept_of_bad hlen hstep hsession hbad]
  exact Chip.kaReject_shows (Chip.speaks_of_hearsDenast hh) _ (Chip.agreeBar_lt _)

/-- A KA_REJECT of the partner. -/
theorem goes_kaReject (hp : p < 96) (hh : s.chip.hearsDenast p = true) (hshape : s.chip.kaShape p 0x14 m = true) :
    Goes (.kaReject p m) s fun c => Chip.kaStopped p s.chip c ∧ c.rd (F.SAS_LINK_STATUS_last_reject p) = byteAt m 3 := by
  refine goes_guarded_powered (guard := Chip.hearsDenast p) (f := fun c => c.onReject p m) rfl (decide_eq_true hp)
    (Chip.power_of_hearsDenast hh) hh ?_
  have hacts : s.chip.onReject p m = (s.chip.wr (F.SAS_LINK_STATUS_last_reject p) (byteAt m 3)).kaFailed p := by
    rw [Chip.onReject, if_neg (by simp [hshape])]
  have hview : (s.chip.wr (F.SAS_LINK_STATUS_last_reject p) (byteAt m 3)).kaView p = s.chip.kaView p := by
    rw [Chip.kaView, Chip.word_wr_other _ _ _ _ (kaFail_ne_status p)]
    rfl
  have hreason : (s.chip.onReject p m).rd (F.SAS_LINK_STATUS_last_reject p) = byteAt m 3 := by
    rw [hacts, Chip.kaFailed_lastReject, Chip.rd_wr_same _ _ _ rfl]
    exact Nat.mod_eq_of_lt (BitVec.isLt _)
  have hstopped : Chip.kaStopped p s.chip (s.chip.onReject p m) := by
    rw [hacts]
    exact Chip.kaStopped_of_kaView hview
  exact ⟨hstopped, hreason⟩

/-- The third time-out in a row. -/
theorem goes_kaTimeout (hp : p < 96) (hh : s.chip.hears p = true)
    (hwaits : (s.chip.port p).link.step = .offered ∨ (s.chip.port p).link.step = .accepted ∨ (s.chip.port p).link.step = .finished)
    (hfails : 2 ≤ (s.chip.port p).link.fails) : Goes (.kaTimeout p) s (Chip.kaStopped p s.chip) := by
  have hrun := Chip.running_of_hears hh
  have hstopped := Chip.kaStopped_kaFailed s.chip p
  obtain ⟨-, hcount, -⟩ := id hstopped
  have hidle : ((s.chip.port p).link.step == .idle || (s.chip.port p).link.step == .backoff) = false := by
    obtain h | h | h := hwaits <;> rw [h] <;> rfl
  rw [Bool.or_eq_false_iff] at hidle
  refine goes_actOn_of_eq (d := s.chip.kaFailed p) rfl (decide_eq_true hp) (Chip.power_of_running hrun) ?_
    (Chip.power_of_lowView (Chip.kaFailed_lowView _ _)) hstopped
  dsimp only
  rw [if_neg (by simp [hrun, hidle]), if_pos (by omega)]

/-- The end of a back-off. -/
theorem goes_kaBackoffExpiry (hp : p < 96) (hh : s.chip.hears p = true) (hstep : (s.chip.port p).link.step = .backoff) :
    Goes (.kaBackoffExpiry p) s fun c => c = (s.chip.kaStep p .idle).kaStart p := by
  have hrun := Chip.running_of_hears hh
  refine goes_actOn_of_eq rfl (decide_eq_true hp) (Chip.power_of_running hrun) (if_pos (by rw [hrun, hstep]; rfl)) ?_ rfl
  rw [Chip.kaStart_power]
  rfl

/-- The end of the interval of agreements. -/
theorem goes_kaIntervalExpiry (hh : s.chip.hears p = true) {d : Chip}
    (hd : (if s.chip.cfgNat T.keySchedule 16 4 0 = 0 then s.chip else (List.range 96).foldl (fun c p => c.agreeAnew p) s.chip) = d) :
    Goes .kaIntervalExpiry s fun c => c = d := by
  have hrun := Chip.running_of_hears hh
  have hpower : d.power = s.chip.power := by
    rw [← hd]
    split
    · rfl
    · exact foldl_keeps (fun c p => Chip.agreeAnew_power c p) _ _
  refine goes_act_of_eq (show exec .kaIntervalExpiry s = execKaIntervalExpiry s from rfl) (Chip.power_of_running hrun) ?_ hpower rfl
  rw [← hd]
  split <;> simp_all

/-- A hold that expires on a port that is held. -/
theorem goes_peerHoldExpiry (hp : p < 96) (hpow : s.chip.power = true) (hheld : s.chip.flag (F.SAS_LINK_STATUS_holding p) = true) :
    Goes (.peerHoldExpiry p) s fun c => (c.port p).link.current = [] ∧ (c.port p).link.pending = [] ∧
      c.flag (F.SAS_LINK_STATUS_holding p) = false ∧ ∀ h ∈ s.chip.epochChans p, c.scRun h.sc = {} := by
  obtain ⟨hnone, hruns⟩ := Chip.expireHold_shows (c := s.chip) hp
  refine goes_guarded_powered (guard := fun c => c.flag (F.SAS_LINK_STATUS_holding p)) (f := fun c => c.expireHold p) rfl (decide_eq_true hp)
    hpow hheld ?_
  obtain ⟨hcur, hpend, hflag⟩ := Chip.unheld_powered hnone
  exact ⟨hcur, hpend, hflag, fun h hmem => Chip.scRun_powered (hruns h hmem)⟩

end

/-- Settles O41, by the rules of offers and accepts (R271, R272), of new agreements (R274) and of partners that leave (R279). That jobs without
a result and a failed check end the agreement with a back-off, and that a point off the curve has reason 5, is the model's reading (log entry
40), and so are the time-outs that repeat (log entry 60). -/
theorem agreements : Obligations.Agreements := by
  intro s p m hpow hp hhears hden
  have hh : s.chip.hearsDenast p = true := by rw [Chip.hearsDenast, hhears, hden]; rfl
  have hspeaks := Chip.speaks_of_hearsDenast hh
  refine ⟨fun hlen => ⟨?_, ?_⟩, fun hlen hresp hpke => ?_, fun hlen hresp hver => ?_, fun hlen hstep hsession hpke => ?_, fun hbad => ?_,
    fun hshape hstep hsession hidx hsome htag => ?_, fun hbad => ?_, fun hshape hstep hsession hidx hsome htag => ?_, fun hbad => ?_,
    fun hshape => goes_kaReject hp hh hshape, fun hwaits hfails => goes_kaTimeout hp hhears hwaits hfails,
    fun hstep => goes_kaBackoffExpiry hp hhears hstep, fun hcfg => goes_kaIntervalExpiry hhears (if_neg hcfg),
    fun hcfg => goes_kaIntervalExpiry hhears (if_pos hcfg), fun hheld => ?_⟩
  · exact goes_ctlDropped (guard := Chip.hearsDenast p) (f := fun c => c.onOffer p m) rfl (decide_eq_true hp) hpow hh (if_pos (by simpa using hlen))
  · exact goes_ctlDropped (guard := Chip.hearsDenast p) (f := fun c => c.onAccept p m) rfl (decide_eq_true hp) hpow hh (if_pos (by simp [hlen]))
  · intro bar r d point zec enc head sig
    split
    · next hgood =>
      obtain ⟨hbar, hek⟩ := hgood
      obtain ⟨k, hanswers, hfails⟩ := Chip.onOffer_of_good hlen hresp hpke hbar hek
      refine ⟨fun b hpoint hshared hsig => goes_kaOffer hp hh ?_, fun hnone => goes_kaOffer hp hh ?_⟩
      · obtain ⟨f, hf, hsent⟩ := hanswers b hpoint hshared hsig
        exact Chip.offerAnswered_powered (Chip.onOffer_answered hp hspeaks hf hsent)
      · have hstopped : Chip.kaStopped p s.chip (s.chip.onOffer p m) := by
          rw [hfails hnone]
          exact Chip.kaStopped_of_kaView (Chip.drawn_kaView _ _ _)
        exact Chip.kaStopped_powered hstopped
    · next hbad =>
      have hlt : bar < 256 := Chip.agreeBar_lt _
      by_cases hbar : bar = 0
      · rw [if_pos hbar]
        have hek : Config.mlkemEkOk (slice m 156 1568) = false := by simpa [hbar] using hbad
        exact goes_kaOffer_bad hp hh hlen hresp (if_pos (by rw [hek, Bool.not_false, Bool.and_true]; exact decide_eq_true hbar)) (by decide) (by decide)
      · rw [if_neg hbar]
        exact goes_kaOffer_bad hp hh hlen hresp (if_neg (by rw [Bool.and_eq_true]; exact fun h => hbar (of_decide_eq_true h.1))) hbar hlt
  · have hfour : s.chip.offerBar p m = 4 := Chip.agreeBar_of_version _ hver
    exact goes_kaOffer_bad hp hh hlen hresp (by rw [hfour]; rfl) (by decide) (by decide)
  · intro bar zec
    split
    · next hgood =>
      obtain ⟨k, hanswers, hfails⟩ := Chip.onAccept_of_good hlen hstep hsession hpke hgood
      refine ⟨fun hshared => goes_kaAccept hp hh ?_, fun hnone => goes_kaAccept hp hh ?_⟩
      · obtain ⟨f, body, hf, hsent⟩ := hanswers hshared
        exact Chip.acceptAnswered_powered (Chip.onAccept_answered hp hspeaks hf hsent)
      · have hstopped : Chip.kaStopped p s.chip (s.chip.onAccept p m) := by
          rw [hfails hnone]
          exact Chip.kaStopped_of_kaView (Chip.drawn_kaView _ _ _)
        exact Chip.kaStopped_powered hstopped
    · next hbad => exact goes_kaAccept_bad hp hh hlen hstep hsession hbad
  · refine goes_ctlDropped (guard := Chip.hearsDenast p) (f := fun c => c.onFinish p m) rfl (decide_eq_true hp) hpow hh (if_pos ?_)
    obtain h | h := hbad <;> simp [h]
  · refine goes_guarded_powered (guard := Chip.hearsDenast p) (f := fun c => c.onFinish p m) rfl (decide_eq_true hp) hpow hh ?_
    obtain ⟨body, hfinish⟩ := Chip.onFinish_of_good hshape hstep hsession htag
    have hagreed : Chip.kaAgreed p s.chip (s.chip.onFinish p m) := by
      have hsent := Chip.sendLink_assoc s.chip p body
      rw [hfinish, hidx]
      exact Chip.kaAgreed_of_assoc hp hsent (Chip.kaComplete_shows hp (by rwa [Chip.epochChans_of_chans (Chip.chans_of_assoc hsent)]))
    exact Chip.kaAgreed_powered hagreed
  · refine goes_ctlDropped (guard := Chip.hearsDenast p) (f := fun c => c.onDone p m) rfl (decide_eq_true hp) hpow hh (if_pos ?_)
    obtain h | h := hbad <;> simp [h]
  · refine goes_guarded_powered (guard := Chip.hearsDenast p) (f := fun c => c.onDone p m) rfl (decide_eq_true hp) hpow hh ?_
    have hagreed : Chip.kaAgreed p s.chip (s.chip.onDone p m) := by
      rw [Chip.onDone_of_good hshape hstep hsession htag, hidx]
      exact Chip.kaComplete_shows hp hsome
    exact Chip.kaAgreed_powered hagreed
  · exact goes_ctlDropped (guard := Chip.hearsDenast p) (f := fun c => c.onReject p m) rfl (decide_eq_true hp) hpow hh (if_pos (by simp [hbad]))
  · exact goes_peerHoldExpiry hp hpow hheld

end Sys2Proof.Machine
end

section
/-! PROOFS of the family of secure channels, O54: the host's commands on SAs, and its orders to the key schedule and to agreements (R265,
R268, R280). -/

namespace Sys2Proof.Machine

section
variable {s : State} {h : Mb}

/-- An accepted command on associations, which its journal entry keeps. -/
theorem did_associated {i : Instr} {k : CmdClass} {body : Chip → Chip × Answer} {d : Chip} {P : Chip → Prop}
    (hexec : exec i s = s.act fun c => c.mbRun h k body) (hacc : s.chip.mbAccepts h k)
    (hbody : body (s.chip.mbStarted h) = (d, { code := Code.committed, jop := some (.cmd i) })) (hlow : d.lowView = (s.chip.mbStarted h).lowView)
    (hP : P d) : Did i s h none 0 [.cmd i] P :=
  did_journaled hexec hacc hbody (Chip.power_of_lowView hlow :) (fun _ hx => Chip.word_of_lowView hlow hx) hP

/-! ## SAs of HOST channels (R280) -/

section
variable {c : Chip} {sc : Nat} {ch : Chan} (hchan : c.chan sc = some ch) (hmode : ch.mode = modeHost)
include hchan hmode

/-- The rule of SA_INSTALL where nothing refuses it. -/
theorem Chip.saInstall_of_ok {i : Instr} {an n w pn : Nat} (han : an ≤ 3) (hn : n ≤ 1023) (hw : w ≤ 2 ^ 30) (hpn : 0 < pn) (hmax : pn < 2 ^ 64)
    (hfilled : (c.slot n).filled = true) (hfits : slotFits (c.slot n) ch = true) (hfree : (c.sa (ch.sa an)).installed = false) :
    c.saInstall i an sc n w pn = (c.installSa ch an ((c.slot n).value.take (if ch.suite = 2 then 16 else 32))
      (if ch.suite = 4 then slice (c.slot n).value (if ch.suite = 2 then 16 else 32) 4
        else slice (c.slot n).value (if ch.suite = 2 then 16 else 32) 12)
      { accepting := !ch.tx, ssci := ch.ssci, nextPn := pn, w := if ch.tx then 0 else w, slot := n, ceiling := pn + 2 ^ 40,
        ceilNext := pn + 2 ^ 40 }, { code := Code.committed, jop := some (.cmd i) }) := by
  unfold Chip.saInstall
  rw [hchan]
  dsimp only
  rw [if_neg (by simp only [Bool.or_eq_true, decide_eq_true_eq]; omega), if_neg (by simp [hmode]), if_neg (by simp [hfilled]),
    if_neg (by simp [hfits]), if_neg (by simp [hfree])]

/-- The rule of SA_ACTIVATE at once. -/
theorem Chip.saActivate_of_now {i : Instr} {an : Nat} (han : an ≤ 3) (htx : ch.tx = true) (hinst : (c.sa (ch.sa an)).installed = true)
    (hsaan : (c.sa (ch.sa an)).an = an) :
    c.saActivate i an sc 0 = (c.makeCurrent ch (ch.sa an), { code := Code.committed, jop := some (.cmd i) }) := by
  unfold Chip.saActivate
  rw [hchan]
  dsimp only
  rw [if_neg (by omega), if_neg (by simp [hmode, htx]), if_neg (by simp [hinst, hsaan]), if_pos rfl]

/-- The part once a timed SA_ACTIVATE waits in the wheel. -/
def Chip.activateAt (c : Chip) (sc an instant n : Nat) : Chip :=
  (c.wheelPut n (some { due := ceilDiv instant 1000, type := 3, arg := sc, step := 6, epoch := an })).setSc sc
    { c.scRun sc with active := (c.scRun sc).active ++ [(an, instant)] }

omit hchan hmode in
theorem Chip.activateAt_shows (c : Chip) (sc an instant n : Nat) :
    (c.activateAt sc an instant n).wheelAt n = some { due := ceilDiv instant 1000, type := 3, arg := sc, step := 6, epoch := an } ∧
      ((c.activateAt sc an instant n).scRun sc).active = (c.scRun sc).active ++ [(an, instant)] ∧
      (c.activateAt sc an instant n).data.sas = c.data.sas ∧ (c.activateAt sc an instant n).lowView = c.lowView := by
  generalize hw : ({ due := ceilDiv instant 1000, type := 3, arg := sc, step := 6, epoch := an } : WheelEntry) = w
  generalize hx : ({ c.scRun sc with active := (c.scRun sc).active ++ [(an, instant)] } : ScRun) = x
  have hput := c.wheelPut_assoc n (some w)
  have heq : c.activateAt sc an instant n = (c.wheelPut n (some w)).setSc sc x := by rw [Chip.activateAt, hw, hx]
  rw [heq]
  refine ⟨Chip.wheelPut_at_same c n (some w), ?_, (Chip.sas_of_assoc hput :), ?_⟩
  · rw [Chip.scRun_setSc_same, ← hx]
  · exact Chip.lowView_of_words ((Chip.setSc_power _ _ _).trans (Chip.power_of_assoc hput))
      ((Chip.setSc_words _ _ _).trans (Chip.words_of_assoc hput))

/-- The rule of a timed SA_ACTIVATE. -/
theorem Chip.saActivate_of_later {i : Instr} {an instant n : Nat} (han : an ≤ 3) (htx : ch.tx = true)
    (hinst : (c.sa (ch.sa an)).installed = true) (hsaan : (c.sa (ch.sa an)).an = an) (hlater : instant ≠ 0)
    (hnear : ceilDiv instant 1000 ≤ c.us + wheelHorizon) (hfree : c.wheelFree 1536 4096 = some n) :
    c.saActivate i an sc instant = (c.activateAt sc an instant n, { code := Code.committed, jop := some (.cmd i) }) := by
  unfold Chip.saActivate
  rw [hchan]
  dsimp only
  rw [if_neg (by omega), if_neg (by simp [hmode, htx]), if_neg (by simp [hinst, hsaan]), if_neg hlater, if_neg (by omega), hfree]
  rfl

/-- The rule of SA_RETIRE. -/
theorem Chip.saRetire_of_ok {i : Instr} {an : Nat} (han : an ≤ 3) (hinst : (c.sa (ch.sa an)).installed = true)
    (hsaan : (c.sa (ch.sa an)).an = an) (hcur : (c.sa (ch.sa an)).current = false) :
    c.saRetire i an sc = (c.retireWhenDone ch.port (ch.sa an), { code := Code.committed, jop := some (.cmd i) }) := by
  unfold Chip.saRetire
  rw [hchan]
  dsimp only
  rw [if_neg (by omega), if_neg (by simp [hmode]), if_neg (by simp [hinst, hsaan]), if_neg (by simp [hcur])]

end

section
variable {sc : Nat} {ch : Chan} (hchan : s.chip.chan sc = some ch) (hmode : ch.mode = modeHost)
include hchan hmode

theorem did_saInstall {an n w pn : Nat} (han : an ≤ 3) (hn : n ≤ 1023) (hw : w ≤ 2 ^ 30) (hpn : 0 < pn) (hmax : pn < 2 ^ 64)
    (hfilled : (s.chip.slot n).filled = true) (hfits : slotFits (s.chip.slot n) ch = true) (hfree : (s.chip.sa (ch.sa an)).installed = false)
    (htaken : taken h (.saInstall h an sc n w pn) s) : Did (.saInstall h an sc n w pn) s h none 0 [.cmd (.saInstall h an sc n w pn)] fun d =>
      (d.sa (ch.sa an)).installed = true ∧ (d.sa (ch.sa an)).tx = ch.tx ∧ (d.sa (ch.sa an)).accepting = !ch.tx ∧
        (d.sa (ch.sa an)).current = false ∧ (d.sa (ch.sa an)).nextPn = pn ∧ (d.sa (ch.sa an)).an = an ∧ (d.sa (ch.sa an)).sc = ch.sc ∧
        (d.sa (ch.sa an)).w = (if ch.tx then 0 else w) ∧
        (d.sa (ch.sa an)).key = keyOf ch.suite ((s.chip.slot n).value.take (if ch.suite = 2 then 16 else 32)) ∧
        (d.sa (ch.sa an)).subkey = Config.ctr (d.sa (ch.sa an)).key (fill 16 0) 16 ∧ (d.sa (ch.sa an)).ceiling = pn + 2 ^ 40 ∧
        (∀ j, j ≠ ch.sa an → d.sa j = s.chip.sa j) ∧
        { d with data := { d.data with sas := (s.chip.mbStarted h).data.sas } } = s.chip.mbStarted h := by
  obtain ⟨k, hk, hacc⟩ := htaken
  cases hk
  refine did_journaled (i := .saInstall h an sc n w pn) rfl hacc
    (Chip.saInstall_of_ok (c := s.chip.mbStarted h) hchan hmode han hn hw hpn hmax hfilled hfits hfree) rfl (fun _ _ => rfl) ?_
  rw [Chip.installSa, Chip.sa_setSa_same]
  exact ⟨rfl, rfl, rfl, rfl, rfl, rfl, rfl, rfl, rfl, rfl, rfl, fun j hj => (Chip.sa_setSa _ _ _ _).trans (if_neg hj), rfl⟩

theorem did_saActivate_now {an : Nat} (han : an ≤ 3) (htx : ch.tx = true) (hinst : (s.chip.sa (ch.sa an)).installed = true)
    (hsaan : (s.chip.sa (ch.sa an)).an = an) (htaken : taken h (.saActivate h an sc 0) s) :
    Did (.saActivate h an sc 0) s h none 0 [.cmd (.saActivate h an sc 0)] fun d =>
      (d.sa (ch.sa an)).current = true ∧ ∀ j, s.chip.currentSa ch = some j → j ≠ ch.sa an → (d.sa j).current = false := by
  obtain ⟨k, hk, hacc⟩ := htaken
  cases hk
  have hstill := Chip.makeCurrent_still (s.chip.mbStarted h) ch (ch.sa an)
  have hlow : ((s.chip.mbStarted h).makeCurrent ch (ch.sa an)).lowView = (s.chip.mbStarted h).lowView :=
    Chip.lowView_of_words ((Chip.power_of_still hstill).trans (Chip.setSc_power _ _ _))
      ((Chip.words_of_still hstill).trans (Chip.setSc_words _ _ _))
  refine did_associated (i := .saActivate h an sc 0) rfl hacc
    (Chip.saActivate_of_now (c := s.chip.mbStarted h) hchan hmode han htx hinst hsaan) hlow ⟨?_, fun j hcur hne => ?_⟩
  · rw [Chip.sa_makeCurrent_same]
  · exact Chip.makeCurrent_old (s.chip.mbStarted h) ch hcur hne

theorem did_saActivate_later {an instant n : Nat} (han : an ≤ 3) (htx : ch.tx = true) (hinst : (s.chip.sa (ch.sa an)).installed = true)
    (hsaan : (s.chip.sa (ch.sa an)).an = an) (hlater : instant ≠ 0) (hnear : ceilDiv instant 1000 ≤ s.chip.us + wheelHorizon)
    (hfree : s.chip.wheelFree 1536 4096 = some n) (htaken : taken h (.saActivate h an sc instant) s) :
    Did (.saActivate h an sc instant) s h none 0 [.cmd (.saActivate h an sc instant)] fun d =>
      d.wheelAt n = some { due := ceilDiv instant 1000, type := 3, arg := sc, step := 6, epoch := an } ∧
        (d.scRun sc).active = (s.chip.scRun sc).active ++ [(an, instant)] ∧ d.data.sas = s.chip.data.sas := by
  obtain ⟨k, hk, hacc⟩ := htaken
  cases hk
  obtain ⟨hat, hactive, hsas, hlow⟩ := Chip.activateAt_shows (s.chip.mbStarted h) sc an instant n
  exact did_associated (i := .saActivate h an sc instant) rfl hacc
    (Chip.saActivate_of_later (c := s.chip.mbStarted h) hchan hmode han htx hinst hsaan hlater hnear hfree) hlow ⟨hat, hactive, hsas⟩

theorem did_saRetire {an : Nat} (han : an ≤ 3) (hinst : (s.chip.sa (ch.sa an)).installed = true) (hsaan : (s.chip.sa (ch.sa an)).an = an)
    (hcur : (s.chip.sa (ch.sa an)).current = false) (htaken : taken h (.saRetire h an sc) s) :
    Did (.saRetire h an sc) s h none 0 [.cmd (.saRetire h an sc)] fun d =>
      (d.sa (ch.sa an)).installed = s.chip.saUsed ch.port (ch.sa an) ∧ (d.sa (ch.sa an)).accepting = false ∧
        (d.sa (ch.sa an)).retireDue = s.chip.saUsed ch.port (ch.sa an) ∧ ∀ j, j ≠ ch.sa an → d.sa j = s.chip.sa j := by
  obtain ⟨k, hk, hacc⟩ := htaken
  cases hk
  have hstill := Chip.retireWhenDone_still (s.chip.mbStarted h) ch.port (ch.sa an)
  have hlow : ((s.chip.mbStarted h).retireWhenDone ch.port (ch.sa an)).lowView = (s.chip.mbStarted h).lowView :=
    Chip.lowView_of_words (Chip.power_of_still hstill) (Chip.words_of_still hstill)
  have hsa (j : Nat) : (s.chip.mbStarted h).sa j = s.chip.sa j := rfl
  have hused : (s.chip.mbStarted h).saUsed ch.port (ch.sa an) = s.chip.saUsed ch.port (ch.sa an) := rfl
  refine did_associated (i := .saRetire h an sc) rfl hacc
    (Chip.saRetire_of_ok (c := s.chip.mbStarted h) hchan hmode han hinst hsaan hcur) hlow ?_
  rw [Chip.sa_retireWhenDone, hused, hsa, if_pos ⟨rfl, hinst⟩]
  refine ⟨?_, ?_, ?_, fun j hj => by rw [Chip.sa_retireWhenDone, if_neg fun h => hj h.1, hsa]⟩
  · cases s.chip.saUsed ch.port (ch.sa an)
    · rfl
    · exact hinst
  · split <;> rfl
  · cases s.chip.saUsed ch.port (ch.sa an) <;> rfl

end

/-! ## EPOCH_ADVANCE (R265) -/

/-- An order to the key schedule that is begun, and waits. -/
theorem did_begun {i : Instr} {k : CmdClass} {body : Chip → Chip × Answer} {d : Chip} {w : LongWait} {P : Chip → Prop}
    (hexec : exec i s = s.act fun c => c.mbRun h k body) (hacc : s.chip.mbAccepts h k) (hlong : k.long = true)
    (hbody : body (s.chip.mbStarted h) = (d, { wait := w })) (hlow : d.lowView = (s.chip.mbStarted h).lowView) (hP : P d) :
    Did i s h none 0 [] P := by
  obtain ⟨hpower, -⟩ := id hacc
  have hdid := did_of hexec hacc hbody ((Chip.power_of_lowView hlow).trans hpower) (fun x hx => Chip.word_of_lowView hlow hx) hP
  have hshown : ({ wait := w } : Answer).shown k = none := by simp [Answer.shown, hlong]
  have hresult : ({ wait := w } : Answer).shownResult k = 0 := by simp [Answer.shownResult, hshown]
  rwa [hshown, hresult] at hdid

/-- What asking for the next epoch makes of a channel, and leaves alone. -/
theorem Chip.startAdvance_shows {c : Chip} {ch : Chan} (hok : c.advanceOk ch = true) :
    (c.startAdvance ch).scRun ch.sc = { c.scRun ch.sc with advance := some ((c.scRun ch.sc).epoch + 1) } ∧
      (c.startAdvance ch).data.sas = c.data.sas ∧ (c.startAdvance ch).keys = c.keys ∧ (c.startAdvance ch).lowView = c.lowView := by
  generalize hx : ({ c.scRun ch.sc with advance := some ((c.scRun ch.sc).epoch + 1) } : ScRun) = x
  have hassoc : (c.startAdvance ch).assoc = (c.setSc ch.sc x).assoc := by
    unfold Chip.startAdvance
    dsimp only
    rw [if_neg (by simp [hok]), hx]
    split
    · exact Chip.sendCtl_assoc _ _ _ _ _
    · rfl
  exact ⟨(Chip.scRun_of_scs (Chip.scs_of_assoc hassoc) _).trans (Chip.scRun_setSc_same _ _ _), (Chip.sas_of_assoc hassoc :),
    (congrArg Assoc.keys hassoc :),
    Chip.lowView_of_words ((Chip.power_of_assoc hassoc).trans (Chip.setSc_power _ _ _))
      ((Chip.words_of_assoc hassoc).trans (Chip.setSc_words _ _ _))⟩

theorem did_epochAdvance {ch : Chan} (hchan : s.chip.chan ch.sc = some ch) (hok : s.chip.advanceOk ch = true)
    (htaken : taken h (.epochAdvance h ch.sc) s) : Did (.epochAdvance h ch.sc) s h none 0 [] fun d =>
      (d.scRun ch.sc).advance = some ((s.chip.scRun ch.sc).epoch + 1) ∧ (d.scRun ch.sc).epoch = (s.chip.scRun ch.sc).epoch ∧
        d.data.sas = s.chip.data.sas ∧ d.keys = s.chip.keys := by
  obtain ⟨k, hk, hacc⟩ := htaken
  cases hk
  obtain ⟨hrun, hsas, hkeys, hlow⟩ := Chip.startAdvance_shows (c := s.chip.mbStarted h) hok
  have hsends : ch.mode = modeEpoch ∧ ch.tx = true := by
    simp only [Chip.advanceOk, Bool.and_eq_true, beq_iff_eq] at hok
    obtain ⟨⟨⟨⟨hmode, htx⟩, -⟩, -⟩, -⟩ := hok
    exact ⟨hmode, htx⟩
  refine did_begun (d := (s.chip.mbStarted h).startAdvance ch) (show exec (.epochAdvance h ch.sc) s = execEpochAdvance h ch.sc s from rfl) hacc rfl
    (w := .epoch ch.sc ((s.chip.scRun ch.sc).epoch + 1)) ?_ hlow ⟨?_, ?_, hsas, hkeys⟩
  · rw [show (s.chip.mbStarted h).chan ch.sc = some ch from hchan]
    dsimp only
    rw [if_neg (by simp [hsends]), if_neg (by rw [show (s.chip.mbStarted h).advanceOk ch = true from hok]; decide)]
    rfl
  · rw [hrun]
    rfl
  · rw [hrun]
    rfl

/-! ## LINK_REKEY of a Denast port (R268, R270) -/

/-- The random bytes of an offer, its ephemeral keys, and what the jobs that make it give. -/
def Chip.offerRandom (c : Chip) : Bytes := (c.random 892).1

def Chip.offerKeys (c : Chip) (p : Nat) : Bytes × Nat := c.ephemeral p ((c.port p).link.session + 1) (slice c.offerRandom 32 48)

def Chip.offerPoint (c : Chip) (p : Nat) : Option Bytes :=
  jobOut (fwJob PkeOp.ecPubkey none (toBe (c.offerKeys p).2 48) (slice c.offerRandom 502 390))

def Chip.offerHead (c : Chip) (p : Nat) : Bytes :=
  c.agreeHead p 0x10 ((c.port p).link.session + 1) ((c.port p).link.current == []) (c.offerRandom.take 32) ((c.offerPoint p).getD [])
    ((jobOut (fwJob PkeOp.mlkemKeygen none [] (c.offerKeys p).1)).getD [])

def Chip.offerSigns (c : Chip) (p : Nat) : Option Bytes × List PkeJob :=
  c.agreeSign (ascii "GLEORN-KA-OFFER" ++ Config.sha384 (c.offerHead p)) (slice c.offerRandom 80 signRnd)

/-- What the link keeps of an offer that is sent. -/
def Chip.offeredLink (c : Chip) (p : Nat) (body : Bytes) (l : Link) : Link :=
  { l with session := l.session + 1, offer := body, ecKey := (c.offerKeys p).2, kemSeed := (c.offerKeys p).1 }

/-- An offer is sent when the jobs that make it give results; else the agreement has failed. -/
theorem Chip.kaOffer_of_ok {c : Chip} (p : Nat) (hpke : c.pkeOk = true) : ∃ k, c.kaOffer p =
    match c.offerPoint p, (c.offerSigns p).1 with
    | some _, some b => (c.drawn k).stepSent p (c.offeredLink p (c.offerHead p ++ b)) .offered (c.offerHead p ++ b)
    | _, _ => (c.drawn k).kaFailed p := by
  unfold Chip.kaOffer
  dsimp only
  rw [if_neg (by simp [hpke])]
  simp only [Chip.random_ephemeral, Chip.random_agreeHead, Chip.random_agreeSign]
  generalize hjobs : (c.random 892).2.fwJobs (some p) _ = d
  obtain ⟨k, hk⟩ : ∃ k, d = c.drawn k := hjobs ▸ Chip.fwJobs_drawn c 892 (some p) _
  subst hk
  refine ⟨k, ?_⟩
  unfold Chip.stepSent Chip.offeredLink Chip.offerSigns Chip.offerHead Chip.offerPoint Chip.offerKeys Chip.offerRandom
  rfl

/-- A message that is sent leaves where the agreement stands, on any port. -/
theorem Chip.stepSent_kept {c : Chip} {p : Nat} (hp : p < 96) (f : Link → Link) (k : KaStep) (body : Bytes) :
    ((c.stepSent p f k body).port p).link = { f (c.port p).link with step := k } ∧
      (c.stepSent p f k body).flag (F.SAS_LINK_STATUS_agreeing p) = (k == .offered || k == .accepted || k == .finished) := by
  have hsent := Chip.sendLink_assoc ((c.setLink p f).kaStep p k) p body
  rw [Chip.stepSent, Chip.link_of_assoc hsent, Chip.status_of_words hp (Chip.words_of_assoc hsent) rfl (by decide : 2 ≤ 2), Chip.kaStep_link,
    Chip.setLink_link, Chip.kaStep_agreeing]
  exact ⟨rfl, rfl⟩

/-- What a new agreement starts with on a Denast port. -/
theorem Chip.agreeAnew_of_denast {c : Chip} {p : Nat} {q : Partner} (hden : c.isDenast p = true) (hsome : c.epochChans p ≠ [])
    (hpartner : (c.port p).partner = some q) (htwo : q.twoWay = true) (hid : q.id ≠ c.peerId) (hidle : (c.port p).link.step = .idle)
    (hbar : c.peerBar p q.id = 0) : c.agreeAnew p =
      if c.initiates p then (c.wr (F.SAS_LINK_STATUS_initiator p) 1).kaOffer p else c.wr (F.SAS_LINK_STATUS_initiator p) 0 := by
  have hstart : c.agreeAnew p = c.kaStart p := by
    rw [Chip.agreeAnew, if_neg (by simpa using hsome), if_pos hden, if_pos (by rw [hidle]; rfl)]
  have hden' (v : Nat) : (c.wr (F.SAS_LINK_STATUS_initiator p) v).initiates p = c.initiates p := rfl
  have hbar' (v : Nat) : (c.wr (F.SAS_LINK_STATUS_initiator p) v).peerBar p q.id = 0 := hbar
  rw [hstart]
  unfold Chip.kaStart
  rw [hpartner]
  dsimp only
  rw [if_neg (by simp [hden, htwo, hsome]), if_neg (by simpa using hid), Chip.wrb, hden', hbar', if_neg (by decide : ¬ ((0 != 0) = true))]
  cases c.initiates p <;> rfl

end

end Sys2Proof.Machine
end

section
/-! PROOFS of the family of secure channels, O54, last part: LINK_REKEY (R268, R276), and the obligation. -/

namespace Sys2Proof.Machine

/-! ## A new SAK of the key server (R276) -/

/-- The number of a port's newest SAK, whether this part distributed it, and the free values drawn. -/
def Chip.sakView (p : Nat) (c : Chip) : Nat × Bool × Nat := ((c.port p).mka.kn, (c.port p).mka.mine, c.free)

section
variable (c : Chip) (p : Nat)

theorem Chip.setMka_sakView {f : Mka → Mka} (hkn : (f (c.port p).mka).kn = (c.port p).mka.kn)
    (hmine : (f (c.port p).mka).mine = (c.port p).mka.mine) : (c.setMka p f).sakView p = c.sakView p := by
  rw [Chip.sakView, Chip.port_setMka, hkn, hmine]
  rfl

theorem Chip.installSa_sakView (h : Chan) (an : Nat) (kv salt : Bytes) (x : Sa) : (c.installSa h an kv salt x).sakView p = c.sakView p := rfl

theorem Chip.installSak_sakView (k : Sak) : (c.installSak p k).sakView p = c.sakView p := by
  unfold Chip.installSak
  dsimp only
  split
  · exact Chip.setMka_sakView c p rfl rfl
  · rw [Chip.setMka_sakView]
    · exact foldl_keeps (view := Chip.sakView p) (fun _ _ => Chip.installSa_sakView _ _ _ _ _ _ _) _ c
    · rfl
    · rfl

theorem Chip.takeSak_sakView (k : Sak) (mi : Bytes) (mine : Bool) : (c.takeSak p k mi mine).sakView p = (k.kn, mine, c.free) := by
  have htaken (d : Chip) : (d.setMka p fun m =>
      { m with mine := mine, kn := k.kn, an := k.an % 4, key := k.key, rx := true, tx := false }).sakView p = (k.kn, mine, d.free) := by
    rw [Chip.sakView, Chip.port_setMka]
    rfl
  unfold Chip.takeSak
  dsimp only
  split
  · rw [← htaken c, Chip.sakView, Chip.port_setPort_same]
    rfl
  · rw [Chip.installSak_sakView, htaken]

theorem Chip.sendMkpdu_sakView : (c.sendMkpdu p).sakView p = c.sakView p := by
  have hfree : (c.sendMkpdu p).free = c.free := congrArg Assoc.free (Chip.sendMkpdu_assoc c p)
  cases he : c.mkaEntry p with
  | none => rw [Chip.sendMkpdu, he]
  | some e =>
    obtain ⟨f, -, hsend⟩ := Chip.sendMkpdu_eq he
    have hport : (c.sendMkpdu p).port p = (c.mnRaised p).port p := by
      rw [hsend, Chip.port_of_sendView (Chip.sendOwn_sendView _ _ _)]
    rw [Chip.sakView, hfree, hport, Chip.mnRaised, Chip.port_setMka]
    rfl

theorem Chip.newSak_sakView (hrbg : c.rbgOk = true) : (c.newSak p).sakView p = ((c.port p).mka.kn + 1, true, c.free + 1) := by
  unfold Chip.newSak
  rw [if_neg (by simp [hrbg])]
  dsimp only
  rw [Chip.sendMkpdu_sakView, Chip.takeSak_sakView]
  rfl

end

/-! ## LINK_REKEY -/

/-- The rule of LINK_REKEY on a port with EPOCH channels. -/
theorem Chip.linkRekey_of_chans {c : Chip} {p : Nat} (hp : p ≤ 95) (hsome : c.epochChans p ≠ []) :
    c.linkRekey p = (c.agreeAnew p, { wait := .linkRekey p }) := by
  rw [Chip.linkRekey, if_neg (by omega), if_neg (by simpa using hsome)]

/-- Which end initiates is no part of what the public-key engine can do. -/
theorem Chip.pkeOk_wr_initiator {c : Chip} {p : Nat} (hp : p ≤ 95) (v : Nat) : (c.wr (F.SAS_LINK_STATUS_initiator p) v).pkeOk = c.pkeOk := by
  have hother {f : Fld} (hf : f.reg < 0xF000 ∨ 0x10000 ≤ f.reg) : (c.wr (F.SAS_LINK_STATUS_initiator p) v).flag f = c.flag f := by
    have hreg : (F.SAS_LINK_STATUS_initiator p).reg = 0xF000 + 0x20 * p := rfl
    exact Chip.flag_of_word (Chip.word_wr_other _ _ _ _ (by omega))
  rw [Chip.pkeOk, Chip.rbgOk, hother (by decide), hother (by decide)]
  rfl

section
variable {s : State} {h : Mb} {p : Nat} (htaken : taken h (.linkRekey h p) s)
include htaken

theorem fn_le_of_linkRekey : h.fn ≤ 1 := by
  obtain ⟨k, -, hacc⟩ := htaken
  exact Chip.fn_le_of_accepts hacc

/-! The registers of ports, of keys and of the public-key engine are as they were. -/

theorem linkRekey_isDenast : (s.chip.mbStarted h).isDenast p = s.chip.isDenast p :=
  Chip.isDenast_of_word (Chip.mbStarted_word_high _ _ (fn_le_of_linkRekey htaken) (R.PRT_CFG p) (by simp only [R.PRT_CFG]; omega))

theorem linkRekey_rbgOk : (s.chip.mbStarted h).rbgOk = s.chip.rbgOk :=
  Chip.mbStarted_flag_high _ _ (fn_le_of_linkRekey htaken) _ (by decide)

theorem linkRekey_pkeOk : (s.chip.mbStarted h).pkeOk = s.chip.pkeOk := by
  rw [Chip.pkeOk, linkRekey_rbgOk htaken, Chip.mbStarted_flag_high _ _ (fn_le_of_linkRekey htaken) _ (by decide)]
  rfl

theorem linkRekey_kaView : (s.chip.mbStarted h).kaView p = s.chip.kaView p := by
  rw [Chip.kaView, Chip.mbStarted_word_high _ _ (fn_le_of_linkRekey htaken) (R.SAS_KA_FAIL p) (by simp only [R.SAS_KA_FAIL]; omega)]
  rfl

/-- A port without EPOCH channels has no agreement. -/
theorem served_linkRekey_of_none (hp : p ≤ 95) (hnone : s.chip.epochChans p = []) :
    Served (.linkRekey h p) s h (s.chip.mbStarted h) (some Code.denied) 0 [] := by
  obtain ⟨k, hk, hacc⟩ := htaken
  cases hk
  refine served_of_refuse (show exec (.linkRekey h p) s = execLinkRekey h p s from rfl) hacc (by decide) ?_
  rw [Chip.linkRekey, if_neg (by omega), if_pos (by rw [show (s.chip.mbStarted h).epochChans p = [] from hnone]; rfl)]

section
variable (hp : p ≤ 95) (hsome : s.chip.epochChans p ≠ [])
include hp hsome

/-- LINK_REKEY starts a new agreement, and waits for it. -/
theorem did_linkRekey {d : Chip} {P : Chip → Prop} (hnew : (s.chip.mbStarted h).agreeAnew p = d)
    (hlow : d.lowView = (s.chip.mbStarted h).lowView) (hP : P d) : Did (.linkRekey h p) s h none 0 [] P := by
  obtain ⟨k, hk, hacc⟩ := htaken
  cases hk
  refine did_begun (show exec (.linkRekey h p) s = execLinkRekey h p s from rfl) hacc rfl (w := .linkRekey p) ?_ hlow hP
  rw [Chip.linkRekey_of_chans hp (show (s.chip.mbStarted h).epochChans p ≠ [] from hsome), hnew]

/-- The key server of MKA distributes a new SAK. -/
theorem did_linkRekey_of_server (hden : s.chip.isDenast p = false) (hserver : s.chip.keyServer p = true) (hrbg : s.chip.rbgOk = true) :
    Did (.linkRekey h p) s h none 0 [] fun d =>
      (d.port p).mka.kn = (s.chip.port p).mka.kn + 1 ∧ (d.port p).mka.mine = true ∧ d.free = s.chip.free + 1 := by
  have hden' : (s.chip.mbStarted h).isDenast p = false := (linkRekey_isDenast htaken).trans hden
  have hserver' : (s.chip.mbStarted h).keyServer p = true := hserver
  have hsome' : (s.chip.mbStarted h).epochChans p ≠ [] := hsome
  have hview := Chip.newSak_sakView (s.chip.mbStarted h) p ((linkRekey_rbgOk htaken).trans hrbg)
  simp only [Chip.sakView, Prod.mk.injEq] at hview
  refine did_linkRekey htaken hp hsome (d := (s.chip.mbStarted h).newSak p) ?_ (Chip.newSak_lowView _ _) hview
  rw [Chip.agreeAnew, if_neg (by simpa using hsome'), if_neg (by simp [hden']), if_pos hserver']

section
variable {q : Partner} (hden : s.chip.isDenast p = true) (hpartner : (s.chip.port p).partner = some q) (htwo : q.twoWay = true)
  (hid : q.id ≠ s.chip.peerId) (hidle : (s.chip.port p).link.step = .idle) (hbar : s.chip.peerBar p q.id = 0)
include hden hpartner htwo hid hidle hbar

omit hp in
/-- What LINK_REKEY starts on a Denast port. -/
theorem linkRekey_agreeAnew : (s.chip.mbStarted h).agreeAnew p =
    if s.chip.initiates p then ((s.chip.mbStarted h).wr (F.SAS_LINK_STATUS_initiator p) 1).kaOffer p
    else (s.chip.mbStarted h).wr (F.SAS_LINK_STATUS_initiator p) 0 :=
  Chip.agreeAnew_of_denast (c := s.chip.mbStarted h) ((linkRekey_isDenast htaken).trans hden) hsome hpartner htwo hid hidle hbar

/-- The responder waits for the initiator's offer. -/
theorem did_linkRekey_of_responder (hresponds : s.chip.initiates p = false) :
    Did (.linkRekey h p) s h none 0 [] fun d => d = (s.chip.mbStarted h).wr (F.SAS_LINK_STATUS_initiator p) 0 := by
  refine did_linkRekey htaken hp hsome ?_ (Chip.wr_lowView _ (sas_high (by decide)) _) rfl
  rw [linkRekey_agreeAnew htaken hsome hden hpartner htwo hid hidle hbar, if_neg (by simp [hresponds])]

section
variable (hinit : s.chip.initiates p = true) (hpke : s.chip.pkeOk = true)
include hinit hpke

/-- The initiator makes an offer. -/
theorem did_linkRekey_of_offer {P : Chip → Prop}
    (hP : ∀ k, P (match s.chip.offerPoint p, (s.chip.offerSigns p).1 with
      | some _, some b =>
        (((s.chip.mbStarted h).wr (F.SAS_LINK_STATUS_initiator p) 1).drawn k).stepSent p (s.chip.offeredLink p (s.chip.offerHead p ++ b)) .offered
          (s.chip.offerHead p ++ b)
      | _, _ => (((s.chip.mbStarted h).wr (F.SAS_LINK_STATUS_initiator p) 1).drawn k).kaFailed p)) :
    Did (.linkRekey h p) s h none 0 [] P := by
  have hpke' : ((s.chip.mbStarted h).wr (F.SAS_LINK_STATUS_initiator p) 1).pkeOk = true := by
    rw [Chip.pkeOk_wr_initiator hp, linkRekey_pkeOk htaken, hpke]
  obtain ⟨k, hoffer⟩ := Chip.kaOffer_of_ok p hpke'
  have hlow : (((s.chip.mbStarted h).wr (F.SAS_LINK_STATUS_initiator p) 1).kaOffer p).lowView = (s.chip.mbStarted h).lowView :=
    (Chip.kaOffer_lowView _ _).trans (Chip.wr_lowView _ (sas_high (by decide)) _)
  refine did_linkRekey htaken hp hsome ?_ hlow (hoffer ▸ hP k)
  rw [linkRekey_agreeAnew htaken hsome hden hpartner htwo hid hidle hbar, if_pos hinit]

theorem did_linkRekey_of_offered {b : Bytes} (hpoint : (s.chip.offerPoint p).isSome = true) (hsig : (s.chip.offerSigns p).1 = some b) :
    Did (.linkRekey h p) s h none 0 [] fun d =>
      (d.port p).link.step = .offered ∧ (d.port p).link.session = (s.chip.port p).link.session + 1 ∧
        (d.port p).link.offer = s.chip.offerHead p ++ b ∧ (d.port p).link.current = (s.chip.port p).link.current ∧
        d.flag (F.SAS_LINK_STATUS_agreeing p) = true := by
  obtain ⟨v, hv⟩ := Option.isSome_iff_exists.mp hpoint
  refine did_linkRekey_of_offer htaken hp hsome hden hpartner htwo hid hidle hbar hinit hpke fun k => ?_
  rw [hv, hsig]
  dsimp only
  obtain ⟨hlink, hflag⟩ := Chip.stepSent_kept (c := ((s.chip.mbStarted h).wr (F.SAS_LINK_STATUS_initiator p) 1).drawn k) (by omega : p < 96)
    (s.chip.offeredLink p (s.chip.offerHead p ++ b)) .offered (s.chip.offerHead p ++ b)
  rw [hlink, hflag]
  exact ⟨rfl, rfl, rfl, rfl, rfl⟩

theorem did_linkRekey_of_failed (hnone : s.chip.offerPoint p = none ∨ (s.chip.offerSigns p).1 = none) :
    Did (.linkRekey h p) s h none 0 [] fun d =>
      (d.port p).link.step = .backoff ∧ (d.port p).link.fails = (s.chip.port p).link.fails + 1 ∧
        d.word (R.SAS_KA_FAIL p) = s.chip.word (R.SAS_KA_FAIL p) + 1 := by
  refine did_linkRekey_of_offer htaken hp hsome hden hpartner htwo hid hidle hbar hinit hpke fun k => ?_
  split
  · next hpoint hsig =>
    obtain hnone | hnone := hnone
    · exact nomatch hpoint.symm.trans hnone
    · exact nomatch hsig.symm.trans hnone
  · have hview : (((s.chip.mbStarted h).wr (F.SAS_LINK_STATUS_initiator p) 1).drawn k).kaView p = s.chip.kaView p := by
      rw [Chip.drawn_kaView, Chip.kaView, Chip.word_wr_other _ _ _ _ (kaFail_ne_status p)]
      exact linkRekey_kaView htaken
    obtain ⟨hstep, hfails, hcount, -⟩ := Chip.kaStopped_of_kaView hview
    exact ⟨hstep.trans (if_pos hinit), hfails, hcount⟩

end

end

end

end

/-- Settles O54, by the rules of the commands on SAs of HOST channels (R280), of EPOCH_ADVANCE (R265), and of LINK_REKEY, which starts an
agreement as the interval of keys does (R268, R276). That both orders wait for what they start, and what the key server of MKA draws, is
the model's reading (log entries 41 and 42). -/
theorem mailboxAssociations : Obligations.MailboxAssociations := by
  unfold Obligations.MailboxAssociations
  intro s h sc ch hchan
  dsimp only
  refine ⟨fun an n w pn han hn hw hpn hmax hmode hfilled hfits hfree htaken => ?_, fun an instant han hmode htx hinst hsaan htaken => ⟨?_, ?_⟩,
    fun an han hmode hinst hsaan hcur htaken => ?_, fun hok hsc htaken => ?_, fun p hp hnone htaken => ?_,
    fun p q hp hden hsome hpartner htwo hid hidle hbar hpke htaken => ⟨?_, ?_, ?_⟩, fun p hp hden hsome hserver hrbg htaken => ?_⟩
  · exact did_saInstall hchan hmode han hn hw hpn hmax hfilled hfits hfree htaken
  · rintro rfl
    exact did_saActivate_now hchan hmode han htx hinst hsaan htaken
  · exact fun n hlater hnear hfree => did_saActivate_later hchan hmode han htx hinst hsaan hlater hnear hfree htaken
  · exact did_saRetire hchan hmode han hinst hsaan hcur htaken
  · subst hsc
    exact did_epochAdvance hchan hok htaken
  · exact served_linkRekey_of_none htaken hp hnone
  · exact fun b hinit hpoint hsig => did_linkRekey_of_offered htaken hp hsome hden hpartner htwo hid hidle hbar hinit hpke hpoint hsig
  · exact fun hinit hnone => did_linkRekey_of_failed htaken hp hsome hden hpartner htwo hid hidle hbar hinit hpke hnone
  · exact did_linkRekey_of_responder htaken hp hsome hden hpartner htwo hid hidle hbar
  · obtain ⟨d, hserved, hkn, hmine, hfree⟩ := did_linkRekey_of_server htaken hp hsome hden hserver hrbg
    exact ⟨d, hserved, .inl hkn, hmine, hfree⟩

end Sys2Proof.Machine
end
